-- ==== Sys2Proof/Word.lean ====
section
/-!
DEFINITION. Word and number types: bytes and words as bit vectors, and the index types of the device's
numbered instances.
-/

namespace Sys2Proof

/-- One byte (R4). -/
abbrev Byte := BitVec 8
/-- A context number, C0 to C7 (05, "Context"). -/
abbrev CtxId := Fin 8
/-- A mailbox number (R66). -/
abbrev MbId := Fin 8
/-- A sensor port number, P0 to P3 (R86). -/
abbrev PortId := Fin 4
/-- A region number: 0 A0, 1 A1, 2 B0, 3 B1 (R25). -/
abbrev RegionId := Fin 4
/-- A stack number, M0 to M3 (R8). -/
abbrev StackId := Fin 4
/-- A grade number, G0 to G3 (R172). -/
abbrev GradeId := Fin 4
/-- A compare-class, timing-generator, audio-port, position-channel or time-trigger number. -/
abbrev QuadId := Fin 4
/-- A fault source number, 0x00 to 0x5F (R384). -/
abbrev SourceId := Fin 96

end Sys2Proof
end

