-- ==== Sys2Proof/Syntax.lean ====
section
/-!
DEFINITION. Syntax: the commands the block takes, one constructor of `Instr` per row of
spec/opcode_table.json, and the operand types they carry. Nothing here has a meaning.
-/

namespace Sys2Proof

/-- A 64-byte mailbox command entry with its payload (R69, R70). `inl` is the 40-byte inline area;
`data` is what stands at the arena or host location when the device fetches it. -/
structure Entry where
  /-- the mailbox whose ring holds the entry (R66) -/
  mb : MbId
  /-- the tag, echoed in the completion (R69) -/
  tag : BitVec 16
  /-- the flags field: bit 0 HOLD, bits [2:1] payload location, bits [15:3] reserved (R70) -/
  flags : BitVec 16
  /-- the reserved field at offset 6 (R69) -/
  rsv6 : BitVec 16
  /-- the payload length (R69) -/
  len : BitVec 32
  /-- the reserved field at offset 12 (R69) -/
  rsv12 : BitVec 32
  /-- the payload location (R70) -/
  loc : BitVec 64
  /-- the 40 bytes of the inline area (R69) -/
  inl : List Byte
  /-- the bytes at the arena or host location, as the device reads them (R70); after them the bytes that the payload's
  own addresses name (a firmware image, a picture, a LUT), for the commands whose payload names any -/
  data : List Byte
  deriving DecidableEq, Repr

/-- The name of one unit: region, cluster and physical index (R25). -/
structure UnitId where
  region : RegionId
  cluster : Fin 2
  index : Fin 9
  deriving DecidableEq, Repr

/-- A 66-bit block as received: two sync-header bits and the scrambled 64-bit payload (R90, R91). -/
structure Block where
  /-- header bits in transmission order: bit 1 is sent first, so 0b01 is a data block -/
  hdr : BitVec 2
  payload : BitVec 64
  /-- the 58 scrambled payload bits the lane carried before, the newest in bit 57: what the descrambler holds -/
  prev : BitVec 58 := 0
  deriving DecidableEq, Repr

/-- A column: the blocks of one block time, for each port of the bond in order, lanes 0 upward and the
parity lane last when parity is on (R92). -/
abbrev Column := List (List Block)

/-- Why a sensor port goes down (R111). -/
inductive PortDownReason where
  | secondLane | signalLost | bondPartner
  deriving DecidableEq, Repr

/-- What the cluster reads of a unit at a row-block's scheduled end (R396). -/
inductive UnitCheck where
  | good | residueMismatch | sramError | notComplete
  deriving DecidableEq, Repr

/-- A fabric request (R200, R201). `ctx` is the context served, when there is one. -/
structure MemReq where
  requester : Byte
  write : Bool
  addr : BitVec 40
  len : Nat
  data : List Byte
  ctx : Option CtxId
  deriving DecidableEq, Repr

/-- What ECC finds when a request or scrub read reaches DRAM, for the first bad burst (R205). -/
inductive EccOutcome where
  | clean
  | corrected (burst : Nat) (syndrome : BitVec 32)
  | uncorrectable (burst : Nat) (syndrome : BitVec 32)
  deriving DecidableEq, Repr

/-- The engine classes of R218. -/
inductive EngineClass where
  | rawLane | general | decompress
  deriving DecidableEq, Repr

/-- How a compression job ends: the engine, the input and whether it was poisoned (R231). -/
structure JobEnd where
  /-- engine instance that ran the job -/
  engine : Nat
  /-- the source bytes the engine read -/
  source : List Byte
  /-- the job met poisoned input or its output write failed (R234) -/
  poisoned : Bool
  /-- the engine failed during the job (R235) -/
  engineFault : Bool
  deriving DecidableEq, Repr

/-- What a drive's volume reports at a mount or a format (R246). -/
structure VolumeInfo where
  lbaSize : Nat
  capacity : Nat
  /-- measured sequential write rate, MB/s -/
  rate : Nat
  volumeId : BitVec 128
  deriving DecidableEq, Repr

/-- Causes of a controller-fatal condition (R273; STG_READ_ERROR_LOG). -/
inductive FatalCause where
  | queueState | wardTable
  deriving DecidableEq, Repr

/-- An NVMe command as fetched from a submission queue (R258). -/
structure NvmeCmd where
  /-- submission queue, 0 the admin queue -/
  sq : Fin 65
  cid : BitVec 16
  nsid : BitVec 32
  cdw10 : BitVec 32
  cdw11 : BitVec 32
  cdw12 : BitVec 32
  cdw13 : BitVec 32
  cdw14 : BitVec 32
  cdw15 : BitVec 32
  /-- the host pages its PRP entries name, in order; a queue's base is the first -/
  pages : List (BitVec 64)
  /-- the PCIe transfers that move the command's data succeed (R272) -/
  hostOk : Bool
  /-- the data the device fetches from the host: write data or range list -/
  data : List Byte
  deriving DecidableEq, Repr

/-- The coded form of one CTU row of one partition (R289). -/
structure RowCode where
  /-- partition index j -/
  partition : Nat
  /-- CTU row r -/
  row : Nat
  /-- coded size z_r in bytes -/
  size : Nat
  /-- CTUs of the partition after this row, u_r -/
  after : Nat
  /-- the partition's CTUs, N_j -/
  ctus : Nat
  deriving DecidableEq, Repr

/-- A picture a decoder completes (R293, R294). -/
structure DecodedPicture where
  poc : Int
  width : Nat
  height : Nat
  chroma : Nat
  depth : Nat
  /-- index of the access unit that completed the picture -/
  unit : Nat
  /-- a reference that was never received had to be synthesised -/
  missingReference : Bool
  /-- a slice segment failed to parse -/
  sliceError : Bool
  /-- the picture refers to a picture that contains concealed samples -/
  inherits : Bool
  /-- the SPS exceeds the session's declared limits -/
  unsupported : Bool
  /-- the picture is an IRAP picture -/
  irap : Bool
  samples : List (BitVec 16)
  deriving DecidableEq, Repr

/-- A PTP Announce (R327, R330). -/
structure Announce where
  domain : Nat
  identity : BitVec 64
  priority1 : Nat
  clockClass : Nat
  priority2 : Nat
  deriving DecidableEq, Repr

/-- A PTP Sync with its origin time (R328). Times are in 2^-16 ns. -/
structure PtpSync where
  sequence : BitVec 16
  /-- the master's origin time with its correctionField applied -/
  t1 : Nat
  /-- the raw receive stamp, in ps of 0.125 ns resolution -/
  raw : Nat
  deriving DecidableEq, Repr

/-- PTP messages the device sends (R327). -/
inductive PtpKind where
  | delayReq | announce | sync | followUp | igmp
  deriving DecidableEq, Repr

/-- A hinge broadcast (R369). -/
structure Broadcast where
  tick : Nat
  seconds : Nat
  nanoseconds : Nat
  /-- remaining lead, ps -/
  lead : Nat
  holdover : Bool
  deadbolt : Bool
  armId : Nat
  doorbells : List (BitVec 32)
  deriving DecidableEq, Repr

/-- A hasp message: header fields and payload (R367). -/
structure HaspMessage where
  cls : Nat
  source : Nat
  dest : Nat
  tick : Nat
  classData : BitVec 64
  payload : List Byte
  headerOk : Bool
  payloadOk : Bool
  deriving DecidableEq, Repr

/-- A worker's completion of a forwarded command (R372). -/
structure WorkerCompletion where
  status : BitVec 16
  frame : BitVec 48
  ctx : Byte
  detail : BitVec 64
  payload : List Byte
  deriving DecidableEq, Repr

/-- A worker's heartbeat (R374). -/
structure Heartbeat where
  tick : Nat
  state : Nat
  holdover : Bool
  deadbolt : Bool
  armId : Nat
  /-- a commit broadcast was missed and the set stays held (R373) -/
  commitMissed : Bool
  deriving DecidableEq, Repr

/-- The reset sources of R404. -/
inductive ResetSource where
  | aonPowerOn | corePowerOn | pinExternal | pinWatchdog | pinCommand
  deriving DecidableEq, Repr

/-- What the fuse array holds (R415, R421, R426, R320, R65). -/
structure Fuses where
  serial : BitVec 128
  makerKeyHash : BitVec 256
  floor : Nat
  macBase : BitVec 48
  deriving DecidableEq, Repr

/-- The keyway's result for one image slot, a code of R423; 0 not tried. -/
abbrev SlotResult := Nat

/-- What the keyway learns of the image it started (R422, R425). -/
structure FirmwareInfo where
  version : BitVec 24
  cmdset : BitVec 16
  security : Nat
  measurement : BitVec 256
  deriving DecidableEq, Repr

/-- SRAM errors that raise a source of R384. -/
inductive SramError where
  /-- uncorrectable error in management SRAM, source 0x0A -/
  | management
  /-- corrected errors on the IOD reached 1,000 in one second, source 0x0B -/
  | correctedRate
  /-- uncorrectable error in a line store, LUT slot or statistics engine, source 0x28 + region -/
  | region (r : RegionId)
  /-- uncorrectable error in a memory controller's queue or SRAM, source 0x3D -/
  | memController
  /-- uncorrectable error in the compression engine's shared SRAM or job queues, source 0x4B -/
  | compression
  deriving DecidableEq, Repr

/-- The commands of the block: one constructor per row of spec/opcode_table.json. -/
inductive Instr where
  /-- HINGE (R44): At the tick edge the counter advances, armed banks become live, taking contexts advance frame numbers, latched doorbell actions apply, development starts and results of frames landed two intervals earlier become live. -/
  | hinge
  /-- HINGE_GUARD_OPEN (R45): One microsecond before a hinge the guard opens: units go idle, doorbell words are latched, shadow writes close, and overrunning work is aborted. -/
  | hingeGuardOpen (badPass : BitVec 4)
  /-- SOURCE_EDGE (R36): An edge of the tick source arrives and updates the flywheel's predicted period and phase. -/
  | sourceEdge
  /-- SOURCE_STOP (R57): No accepted edge for 1.5 measured periods puts the generator into holdover with cause 1. -/
  | sourceStop
  /-- SLREF_LOSS (R61): SLREF is lost: every sensor port returns to DETECT, partial frames are marked SHORT and HOLDOVER and the tick enters holdover. -/
  | slrefLoss
  /-- SLREF_RETURN (R115): SLREF present for 1 ms without a break restarts port bring-up and tick relocking. -/
  | slrefReturn
  /-- MANAGEMENT_TICK (R76): Every 1 ms Kongaord reads mailbox tails, takes and validates commands, arms them and posts completions and events. -/
  | managementTick (hbmTemps : List Int)
  /-- MB_CMD_TAIL_WRITE (R68): A write to a mailbox command tail is the doorbell that makes new command entries visible. -/
  | mbCmdTailWrite (m : MbId) (value : BitVec 32)
  /-- MB_ENABLE (R68): Setting or clearing MBm_CTRL bit 0 enables or stops the taking of commands and drops an owned hold set when disabling. -/
  | mbEnable (m : MbId) (on : Bool)
  /-- MB_RING_RESET (R68): Setting MBm_CTRL bit 1 discards untaken commands, zeroes the indices and drops an owned hold set. -/
  | mbRingReset (m : MbId)
  /-- TICK_LO_READ (R64): A read of TICK_LO returns the low counter half and latches the high half into TICK_HI. -/
  | tickLoRead
  /-- REGISTER_WRITE (R64): A write to a register without a row of its own stores or clears its field or is ignored. -/
  | registerWrite (function : Fin 2) (offset : Nat) (size : Nat) (value : BitVec 32)
  /-- DOORBELL_TRIGGER (R52): A fast doorbell trigger word is queued to make a frame the trigger frame of the context's capture ring. -/
  | doorbellTrigger (word : BitVec 32)
  /-- DOORBELL_KEY_PICTURE (R52): A fast doorbell key-picture word is queued to make a frame's picture an IDR in selected grades. -/
  | doorbellKeyPicture (word : BitVec 32)
  /-- DOORBELL_RECORD_MARK (R52): A fast doorbell record-mark word is queued to attach a mark code to a frame. -/
  | doorbellRecordMark (word : BitVec 32)
  /-- DOORBELL_AUDIO_START_ARM (R52): A fast doorbell audio-start word is queued to start the masked audio ports at the hinge. -/
  | doorbellAudioStartArm (word : BitVec 32)
  /-- TICK_SET_SOURCE (R34): Selects the tick source and period, switching at a hinge as for a confirmed rate change. -/
  | tickSetSource (e : Entry)
  /-- TICK_RATE_CONFIRM (R60): Confirms a recognised rate change, re-runs admission and relocks at the new period. -/
  | tickRateConfirm (e : Entry)
  /-- TICK_GET_STATE (R53): Returns the generator state, counters and periods. -/
  | tickGetState (e : Entry)
  /-- TICK_BUDGET_QUERY (R54): Returns demand and limit of each admission resource for its worst instance. -/
  | tickBudgetQuery (e : Entry)
  /-- TICK_ARM (R50): Arms the whole hold set for one hinge. -/
  | tickArm (e : Entry)
  /-- TICK_DISCARD (R50): Drops the hold set at once. -/
  | tickDiscard (e : Entry)
  /-- SYS_NOP (R80): Completes with OK carrying the tick counter. -/
  | sysNop (e : Entry)
  /-- SYS_IDENTIFY (R65): Returns the identity structure of the device. -/
  | sysIdentify (e : Entry)
  /-- SYS_EVENT_MASK (R73): Sets the event groups posted to the issuing mailbox. -/
  | sysEventMask (e : Entry)
  /-- SYS_BLOCK_RESET (R28): Quiesces, drains, resets and reprograms one block. -/
  | sysBlockReset (e : Entry)
  /-- BLOCK_DRAIN_DONE (R28): The block's outstanding transfers have drained, so it is reset and returns to service at the next hinge. -/
  | blockDrainDone (drained : Nat) (cameOut : Bool)
  /-- BLOCK_QUIESCE_TIMEOUT (R28): The drain does not end within the quiesce limit, so the block resumes service unreset and the command times out. -/
  | blockQuiesceTimeout (outstanding : Nat)
  /-- HUNG_PORT_RESPONSE (R420): A request routed to a hung fabric port completes after 1 ms with an error and poisoned data. -/
  | hungPortResponse (block : Nat) (request : MemReq)
  /-- SYS_RESET (R404): Writes retention flags and requests a pin reset 1 ms later. -/
  | sysReset (e : Entry)
  /-- COMMAND_RESET_ASSERT (R404): One millisecond after SYS_RESET completes the device asserts a pin reset with cause 0x05. -/
  | commandResetAssert
  /-- SYS_RECOVERY_STATUS (R417): Returns the recovery reason, strap reading and slot results. -/
  | sysRecoveryStatus (e : Entry)
  /-- SYS_FLASH (R418): Reads, writes or erases boot flash in the background. -/
  | sysFlash (e : Entry)
  /-- FLASH_OP_DONE (R418): A background flash operation ends and SYS_BACKGROUND_DONE reports its status. -/
  | flashOpDone (ok : Bool) (programmed : Nat)
  /-- SYS_BOOT_IMAGE (R419): Verifies a host-supplied image and starts Kongaord from it. -/
  | sysBootImage (e : Entry)
  /-- SYS_TWB_CONFIG (R454): Sets the two-wire glitch filter step count. -/
  | sysTwbConfig (e : Entry)
  /-- CTX_SET_SOURCE (R122): Sets a context's source selection and geometry, immediately or frame-bound when running. -/
  | ctxSetSource (e : Entry)
  /-- CTX_SET_PLACEMENT (R20): Places a context on whole regions. -/
  | ctxSetPlacement (e : Entry)
  /-- CTX_LANDING_CONFIG (R121): Sets a port's landing ring size. -/
  | ctxLandingConfig (e : Entry)
  /-- CTX_START (R118): Arms a configured context to enter RUNNING at a hinge. -/
  | ctxStart (e : Entry)
  /-- CTX_STOP (R118): Arms a running context to stop taking frames. -/
  | ctxStop (e : Entry)
  /-- CTX_TEST_PATTERN (R135): Sets the context's test pattern in its bank. -/
  | ctxTestPattern (e : Entry)
  /-- CTX_GET_STATUS (R130): Returns context state, slots, double-frame flag and counts. -/
  | ctxGetStatus (e : Entry)
  /-- SL_PORT_CONFIG (R89): Configures a port or bond's lanes, rate, parity, reference and markers. -/
  | slPortConfig (e : Entry)
  /-- SL_PORT_START (R110): Starts bring-up of a configured port in DETECT. -/
  | slPortStart (e : Entry)
  /-- SL_PORT_STOP (R111): Returns a port to OFF and ends any loopback. -/
  | slPortStop (e : Entry)
  /-- SL_GET_STATUS (R117): Returns port state, capabilities and counters. -/
  | slGetStatus (e : Entry)
  /-- SL_REG_ACCESS (R109): Sends one register read or write to the sensor. -/
  | slRegAccess (e : Entry)
  /-- SL_LOOPBACK (R113): Sets or ends a loopback mode of a port in OFF. -/
  | slLoopback (e : Entry)
  /-- SL_BRINGUP_ADVANCE (R110): A port or bond meets its state's condition and advances toward ACTIVE. -/
  | slBringupAdvance (p : PortId)
  /-- SL_BRINGUP_TIMEOUT (R111): A bring-up state times out, the port returns to DETECT and counts an attempt, going OFF after eight. -/
  | slBringupTimeout (p : PortId)
  /-- SL_BRINGUP_REPEAT (R110): Every 64 back-channel blocks the device repeats its BRINGUP block. -/
  | slBringupRepeat (p : PortId)
  /-- SL_CAPS_RESEND (R110): During CAPS the device resends its capability message every 1 ms. -/
  | slCapsResend (p : PortId)
  /-- SL_CAPS_RX (R112): The sensor's capability structure is received and checked, making the port ACTIVE or failing with reason 6. -/
  | slCapsRx (p : PortId) (caps : List Byte)
  /-- SL_ALIGN_RX (R97): An ALIGN column is received and used for deskew and alignment checks. -/
  | slAlignRx (p : PortId) (column : Column) (skews : List (Nat × Nat × Nat))
  /-- SL_FRAME_START_RX (R98): A FRAME_START column opens a frame of a virtual stream and is tied to a context selection. -/
  | slFrameStartRx (p : PortId) (column : Column)
  /-- SL_FRAME_END_RX (R42): A FRAME_END column closes the frame, which lands in the current interval. -/
  | slFrameEndRx (p : PortId) (column : Column)
  /-- SL_LINE_PACKET_RX (R102): A line packet is received, checked by header and payload CRC and written to its landing slot row. -/
  | slLinePacketRx (p : PortId) (columns : List Column)
  /-- SL_REG_RESP_RX (R109): A REG_RESP column answers an outstanding register tag. -/
  | slRegRespRx (p : PortId) (column : Column)
  /-- SL_REG_TIMEOUT (R109): No REG_RESP within 100 microseconds causes one resend, then a TIMEOUT completion. -/
  | slRegTimeout (p : PortId) (tag : Byte)
  /-- SL_LANE_FAILED (R105): A lane loses block lock or misses two ALIGN columns, becomes erasures and raises the lane-fault source. -/
  | slLaneFailed (p : PortId) (lane : Fin 17)
  /-- SL_LANE_REJOINED (R105): A failed lane that held lock over four ALIGN columns rejoins at the next ALIGN column. -/
  | slLaneRejoined (p : PortId) (lane : Fin 17)
  /-- SL_PORT_DOWN (R111): An ACTIVE port loses signal or a second lane and returns to DETECT, passing partial frames to intake. -/
  | slPortDown (p : PortId) (reason : PortDownReason)
  /-- RAW_SET_CFA (R137): Sets the context's CFA pattern. -/
  | rawSetCfa (e : Entry)
  /-- RAW_LOAD_LINEARISATION (R140): Loads a capture's linearisation table into the table pool. -/
  | rawLoadLinearisation (e : Entry)
  /-- RAW_SET_BLACK (R141): Sets black codes, clamp, row noise, optical-black ranges and pedestal. -/
  | rawSetBlack (e : Entry)
  /-- RAW_LOAD_COLUMN (R144): Loads or disables a capture's column table. -/
  | rawLoadColumn (e : Entry)
  /-- RAW_BIND_PIXEL_TABLE (R155): Binds or unbinds a dark frame or flat field from namespace 2. -/
  | rawBindPixelTable (e : Entry)
  /-- RAW_LOAD_DEFECTS (R146): Loads the static defect list and dynamic thresholds. -/
  | rawLoadDefects (e : Entry)
  /-- RAW_SET_SHADING (R147): Sets the shading mode and grid. -/
  | rawSetShading (e : Entry)
  /-- RAW_SET_MERGE (R148): Sets capture gains, knees and the motion mask. -/
  | rawSetMerge (e : Entry)
  /-- RAW_SET_TAPS (R153): Enables the T1 and T2 raw taps. -/
  | rawSetTaps (e : Entry)
  /-- RAW_GET_STATUS (R158): Returns front-end counts of the last frame developed. -/
  | rawGetStatus (e : Entry)
  /-- GRD_SET_DEVELOP (R160): Sets demosaic, camera matrix, gains and luma coefficients. -/
  | grdSetDevelop (e : Entry)
  /-- GRD_SET_NOISE (R166): Sets spatial and temporal noise reduction. -/
  | grdSetNoise (e : Entry)
  /-- GRD_SET_GRADE (R172): Sets one grade's chain, format and size. -/
  | grdSetGrade (e : Entry)
  /-- GRD_LOAD_GRADE_TABLES (R173): Loads a grade's shaper and output curve tables. -/
  | grdLoadGradeTables (e : Entry)
  /-- GRD_LOAD_SCALER (R178): Loads a grade's polyphase scaler coefficients. -/
  | grdLoadScaler (e : Entry)
  /-- GRD_LOAD_LUT (R182): Starts loading a 3D LUT into a slot of the named regions. -/
  | grdLoadLut (e : Entry)
  /-- LUT_LOAD_DONE (R182): A LUT load ends, the slot becomes READY or FREE and SYS_BACKGROUND_DONE is posted. -/
  | lutLoadDone (slot : Fin 16) (ok : Bool)
  /-- GRD_FREE_LUT (R182): Frees LUT slots that are not selected or loading. -/
  | grdFreeLut (e : Entry)
  /-- GRD_GET_STATUS (R183): Returns grade bypasses, skips and LUT slot states. -/
  | grdGetStatus (e : Entry)
  /-- ROW_BLOCK_CHECK (R396): At each row-block's scheduled end the cluster checks the unit's residue, ECC and completion. -/
  | rowBlockCheck (u : UnitId) (result : UnitCheck)
  /-- SPARE_SELF_TEST_FAIL (R396): An idle spare's self-test pattern mismatches and the cluster loses its spare. -/
  | spareSelfTestFail (r : RegionId) (cluster : Fin 2)
  /-- FENCED_REQUEST (R399): A request from a fenced unit is discarded, counted and raises the fenced-activity source. -/
  | fencedRequest (u : UnitId)
  /-- DEVELOP_PASS_DONE (R192): Development of a frame ends, region partials are merged and the statistics record written before the guard. -/
  | developPassDone (c : CtxId) (takenOver : Bool)
  /-- MOTION_FIELD_DONE (R295): A core's motion engine completes a context's vector field for temporal noise reduction. -/
  | motionFieldDone (c : CtxId)
  /-- STAT_SET_CONFIG (R188): Sets histogram and zone configuration. -/
  | statSetConfig (e : Entry)
  /-- STAT_SET_TARGET (R193): Enables or disables the statistics host copy. -/
  | statSetTarget (e : Entry)
  /-- STAT_READ_RECORD (R192): Copies one live record from the ring. -/
  | statReadRecord (e : Entry)
  /-- STAT_HOST_LATE (R193): A host copy not posted by its step is posted as soon as it can be, counted and reported. -/
  | statHostLate (c : CtxId)
  /-- MEM_SET_MODE (R32): Sets the package mapping mode while every context is FREE. -/
  | memSetMode (e : Entry)
  /-- MEM_GET_STATUS (R205): Returns per-stack memory state and counts. -/
  | memGetStatus (e : Entry)
  /-- MEM_READ_LOG (R207): Copies and optionally empties the error log. -/
  | memReadLog (e : Entry)
  /-- MEM_CALIBRATE (R210): Trains named stacks fully and optionally stores a calibration record. -/
  | memCalibrate (e : Entry)
  /-- MEM_RETRAIN (R213): Schedules retraining passes of pseudo-channels. -/
  | memRetrain (e : Entry)
  /-- MEM_SET_POLICY (R215): Sets self-refresh enables and error thresholds. -/
  | memSetPolicy (e : Entry)
  /-- MEM_REPAIR (R209): Starts hard post-package repair of a candidate row. -/
  | memRepair (e : Entry)
  /-- REPAIR_DONE (R209): A row repair ends and SYS_BACKGROUND_DONE reports its status. -/
  | repairDone (ok : Bool)
  /-- MEM_TRAINED (R211): Stack training from record or full training ends and MEM_TRAINED is posted. -/
  | memTrained (stack : StackId) (recordOk : Bool) (bootOk : Bool) (fullOk : Bool)
  /-- MEM_REQUEST (R202): A fabric request reaches a stack controller, is split at 1 KiB boundaries and queued under the overlap rules. -/
  | memRequest (request : MemReq)
  /-- MEM_REQUEST_ISSUE (R205): An unblocked request is issued to DRAM and its data corrected or poisoned by ECC. -/
  | memRequestIssue (id : Nat) (ecc : EccOutcome)
  /-- SCRUB_READ (R206): The patrol scrub reads the next 1 KiB piece and writes back corrected data. -/
  | scrubRead (stack : StackId) (ecc : EccOutcome)
  /-- SELF_REFRESH_ENTRY (R215): A stack whose queue has been empty for 50 microseconds enters self-refresh. -/
  | selfRefreshEntry (stack : StackId)
  /-- SELF_REFRESH_EXIT (R215): A stack leaves self-refresh on a request or a tolerance change. -/
  | selfRefreshExit (stack : StackId)
  /-- CMP_SUBMIT (R230): Queues host compression, raw-pack or decompress jobs. -/
  | cmpSubmit (e : Entry)
  /-- CMP_SET_HOST_ENGINES (R230): Reserves raw lanes and general engines for host jobs. -/
  | cmpSetHostEngines (e : Entry)
  /-- CMP_CANCEL (R231): Aborts the unstarted jobs of an outstanding CMP_SUBMIT. -/
  | cmpCancel (e : Entry)
  /-- CMP_GET_STATUS (R235): Returns engine retirement, reservation and chunk counts. -/
  | cmpGetStatus (e : Entry)
  /-- CMP_JOB_DONE (R231): A host job ends with its result record. -/
  | cmpJobDone (m : MbId) (tag : BitVec 16) (job : Nat) (outcome : JobEnd)
  /-- CHUNK_JOB_DONE (R229): An admitted raw-pack chunk job ends, successfully or as a chunk gap. -/
  | chunkJobDone (c : CtxId) (chunk : Nat) (outcome : JobEnd)
  /-- CMP_ENGINE_RETIRED (R235): A compression engine fails, is retired and its admitted job reruns elsewhere. -/
  | cmpEngineRetired (cls : EngineClass) (index : Nat)
  /-- REC_MEDIA (R246): Mounts, formats or unmounts a media volume. -/
  | recMedia (e : Entry)
  /-- MEDIA_OP_DONE (R252): A mount with its recovery pass, or a format, ends and SYS_BACKGROUND_DONE is posted. -/
  | mediaOpDone (port : Fin 2) (ok : Bool) (volume : VolumeInfo)
  /-- REC_SET_TARGET (R237): Sets a context's recording target and options. -/
  | recSetTarget (e : Entry)
  /-- REC_START (R238): Opens a clip or arms the capture ring. -/
  | recStart (e : Entry)
  /-- REC_STOP (R249): Arms the end of recording and seals the clip. -/
  | recStop (e : Entry)
  /-- REC_TRIGGER (R243): Triggers the armed capture ring. -/
  | recTrigger (e : Entry)
  /-- REC_RELEASE (R241): Unpins a frozen ring clip's slots. -/
  | recRelease (e : Entry)
  /-- REC_GET_STATUS (R237): Returns a context's recording state and counts. -/
  | recGetStatus (e : Entry)
  /-- TRIG_IN_EDGE (R243): A TRIG_IN edge is time-stamped and chooses the trigger frame of the armed ring. -/
  | trigInEdge
  /-- MEDIA_CMD_COMPLETE (R245): A drive completes a Write, Read or Flush and recording or sealing proceeds. -/
  | mediaCmdComplete (port : Fin 2) (ok : Bool)
  /-- MEDIA_CMD_TIMEOUT (R245): A drive command not completed within 2 s resets the port and ends its clips unsealed. -/
  | mediaCmdTimeout (port : Fin 2)
  /-- MEDIA_LINK_DOWN (R253): A media port link goes down or reports a fatal status. -/
  | mediaLinkDown (port : Fin 2)
  /-- LEAF_RESERVATION_DONE (R432): A leaf block reservation is written to both flash copies and its leaves become usable. -/
  | leafReservationDone (ok : Bool)
  /-- SECURITY_SIGN_DONE (R430): The security engine finishes one signature for a seal or attestation. -/
  | securitySignDone (ok : Bool)
  /-- SEAL_RETRY (R385): One second after a seal failed to sign it is retried with a fresh leaf. -/
  | sealRetry (c : CtxId)
  /-- DIRECTORY_CHANGE (R266): The controller takes a ward write entry and updates clip directory entries and header. -/
  | directoryChange
  /-- STG_SET_SCRATCH (R267): Sets the size and placement of namespace 2. -/
  | stgSetScratch (e : Entry)
  /-- STG_SET_RATES (R279): Sets the storage target's HBM and media rates. -/
  | stgSetRates (e : Entry)
  /-- STG_GET_STATUS (R268): Returns storage target state and counts. -/
  | stgGetStatus (e : Entry)
  /-- STG_READ_ERROR_LOG (R273): Returns the NVMe error information log and fatal cause. -/
  | stgReadErrorLog (e : Entry)
  /-- NVME_CC_ENABLE (R257): Setting CC.EN readies the controller and rebuilds the clip directory. -/
  | nvmeCcEnable
  /-- NVME_CC_DISABLE (R273): Clearing CC.EN resets the controller, deleting every I/O queue. -/
  | nvmeCcDisable
  /-- NVME_SQ_TAIL_DOORBELL (R260): A submission tail doorbell makes commands available for fetching by arbitration. -/
  | nvmeSqTailDoorbell (q : Fin 65) (tail : Nat)
  /-- CREATE_IO_SUBMISSION_QUEUE (R258): Creates an I/O submission queue. -/
  | createIoSubmissionQueue (n : NvmeCmd)
  /-- CREATE_IO_COMPLETION_QUEUE (R258): Creates an I/O completion queue. -/
  | createIoCompletionQueue (n : NvmeCmd)
  /-- DELETE_IO_SUBMISSION_QUEUE (R258): Deletes an I/O submission queue. -/
  | deleteIoSubmissionQueue (n : NvmeCmd)
  /-- DELETE_IO_COMPLETION_QUEUE (R258): Deletes an I/O completion queue. -/
  | deleteIoCompletionQueue (n : NvmeCmd)
  /-- GET_LOG_PAGE (R276): Returns an error, health or clip-view log page. -/
  | getLogPage (n : NvmeCmd)
  /-- IDENTIFY (R259): Returns controller or namespace identify data. -/
  | identify (n : NvmeCmd)
  /-- ABORT (R275): Completes as not aborted; the named command runs on. -/
  | abort (n : NvmeCmd)
  /-- SET_FEATURES (R278): Sets a supported feature, including a power state change. -/
  | setFeatures (n : NvmeCmd)
  /-- GET_FEATURES (R278): Returns a supported feature value. -/
  | getFeatures (n : NvmeCmd)
  /-- ASYNCHRONOUS_EVENT_REQUEST (R276): Queues a request that completes at the next reported asynchronous event. -/
  | asynchronousEventRequest (n : NvmeCmd)
  /-- FORMAT_NVM (R258): Formats namespace 2 under a ward entry over the whole namespace. -/
  | formatNvm (n : NvmeCmd)
  /-- FLUSH (R258): Completes at once since no write cache exists. -/
  | flush (n : NvmeCmd)
  /-- WRITE (R269): Writes LBAs of namespace 2 under a ward write entry. -/
  | write (n : NvmeCmd)
  /-- READ (R264): Reads LBAs of the clip view or namespace 2 under a ward read entry. -/
  | read (n : NvmeCmd)
  /-- WRITE_ZEROES (R258): Zeroes LBAs of namespace 2. -/
  | writeZeroes (n : NvmeCmd)
  /-- DATASET_MANAGEMENT (R258): Deallocates ranges of namespace 2. -/
  | datasetManagement (n : NvmeCmd)
  /-- WARD_ENTRY_GRANTED (R269): A waiting user's conflicting earlier entries are released and it proceeds to touch data. -/
  | wardEntryGranted (user : Nat) (sourceOk : Bool)
  /-- WARD_TIMEOUT (R273): A command holding a ward entry for over 1 s causes a controller-fatal condition. -/
  | wardTimeout (user : Nat)
  /-- CONTROLLER_FATAL (R273): An uncorrectable error in queue state or ward table sets CSTS.CFS and stops the controller. -/
  | controllerFatal (cause : FatalCause)
  /-- POWER_STATE_ENTRY_DONE (R278): The controller reaches a requested lower power state and completes the Set Features. -/
  | powerStateEntryDone
  /-- STG_RATE_RELEASE (R279): Paced storage commands waiting for rate budget proceed in a new tick. -/
  | stgRateRelease
  /-- PERST_N (R409): PERST_N resets the PCIe endpoint only while the rest of the device runs on. -/
  | perstN (asserted : Bool)
  /-- ENDPOINT_LINK_DOWN (R274): The PCIe endpoint link goes down or reports an uncorrectable error. -/
  | endpointLinkDown (uncorrectable : Bool)
  /-- VC_SET_ENCODE (R291): Sets an encode of a context's grade. -/
  | vcSetEncode (e : Entry)
  /-- VC_KEY_PICTURE (R290): Requests an IDR picture. -/
  | vcKeyPicture (e : Entry)
  /-- VC_SET_VECTOR_EXPORT (R297): Sets export of vector fields to a host ring. -/
  | vcSetVectorExport (e : Entry)
  /-- VC_DECODE_OPEN (R292): Opens a decode session. -/
  | vcDecodeOpen (e : Entry)
  /-- VC_DECODE_SUBMIT (R292): Submits access units to a decode session. -/
  | vcDecodeSubmit (e : Entry)
  /-- VC_DECODE_CLOSE (R292): Closes a decode session, discarding undecoded units. -/
  | vcDecodeClose (e : Entry)
  /-- VC_GET_STATUS (R299): Returns core state and coding counts. -/
  | vcGetStatus (e : Entry)
  /-- VC_GET_ENCODE (R288): Returns an encode's debt and signalled level. -/
  | vcGetEncode (e : Entry)
  /-- ENCODE_PICTURE_DONE (R289): An access unit is complete within its cap and its rate-control debt updated. -/
  | encodePictureDone (c : CtxId) (g : GradeId) (rows : List RowCode)
  /-- DECODE_PICTURE_DONE (R294): A decoded picture is written to the next output slot with its result. -/
  | decodePictureDone (session : Fin 16) (picture : DecodedPicture)
  /-- DECODE_TMAX_EXPIRY (R292): A picture that reaches its decode-time bound is abandoned and concealed. -/
  | decodeTmaxExpiry (session : Fin 16) (picture : DecodedPicture)
  /-- DECODE_SLOT_FREE (R294): A waiting decoder finds an output slot returned by the host and writes it. -/
  | decodeSlotFree (session : Fin 16)
  /-- VC_CORE_RETIRED (R299): A coding core fails and is retired, its work moving to other cores. -/
  | vcCoreRetired (core : Fin 8)
  /-- VC_BLOCKED_WRITE (R292): A core write outside its buffers is blocked, discarded and raises the core's source. -/
  | vcBlockedWrite (core : Fin 8)
  /-- OUT_SET_RASTER (R302): Starts or stops a timing generator with a raster. -/
  | outSetRaster (e : Entry)
  /-- OUT_BIND (R307): Binds a context's grade to an output. -/
  | outBind (e : Entry)
  /-- OUT_SET_OVERLAY (R309): Sets an overlay plane of an output. -/
  | outSetOverlay (e : Entry)
  /-- OUT_SET_AUDIO (R315): Sets SDI embedded audio groups and channel map. -/
  | outSetAudio (e : Entry)
  /-- OUT_GET_STATUS (R305): Returns output counts and the frame log. -/
  | outGetStatus (e : Entry)
  /-- SCAN_COPY_DONE (R303): The copy of a grade frame into a scan buffer completes, committing the frame. -/
  | scanCopyDone (o : QuadId)
  /-- OUTPUT_LATCH (R304): 100 microseconds before vertical blanking the generator latches the newest committed frame or repeats. -/
  | outputLatch (o : QuadId)
  /-- SCAN_FIFO_UNDERRUN (R313): A generator's read FIFO runs empty and the rest of the line is border colour. -/
  | scanFifoUnderrun (o : QuadId)
  /-- GENLOCK_REF_EDGE (R310): A REF_V or REF_H edge times a genlocked SDI generator. -/
  | genlockRefEdge (o : QuadId) (vertical : Bool)
  /-- GENLOCK_LOST (R310): Missing reference edges make the generator free-run and raise source 0x51. -/
  | genlockLost (o : QuadId)
  /-- VF_TE_EDGE (R311): A tearing-effect edge starts sending a viewfinder frame. -/
  | vfTeEdge
  /-- VF_TE_MISSING (R311): A period without a VF_TE edge is missing; after three TG3 free-runs. -/
  | vfTeMissing
  /-- HPD_RISE (R312): HPD rises and TG2 starts link training. -/
  | hpdRise
  /-- HPD_DROP (R312): HPD low for more than 2 ms ends the DisplayPort link. -/
  | hpdDrop
  /-- DP_TRAINING_DONE (R312): Link training ends and TG2 sends video or posts that the link cannot carry it. -/
  | dpTrainingDone (lanes : Nat) (rate : Fin 5)
  /-- NET_PORT_CONFIG (R320): Configures an Ethernet port's mode, address and latencies. -/
  | netPortConfig (e : Entry)
  /-- NET_SET_STREAM (R333): Sets an ST 2110 sender. -/
  | netSetStream (e : Entry)
  /-- NET_GET_STATUS (R321): Returns Ethernet port counts. -/
  | netGetStatus (e : Entry)
  /-- TIME_GET_STATE (R329): Returns time, servo state and PTP figures. -/
  | timeGetState (e : Entry)
  /-- TIME_ADJUST (R324): Sets the increment, steps the time or sets the time. -/
  | timeAdjust (e : Entry)
  /-- TIME_SET_PTP (R327): Enables and configures PTP. -/
  | timeSetPtp (e : Entry)
  /-- TIME_SET_TRIGGER (R331): Sets a time trigger's program. -/
  | timeSetTrigger (e : Entry)
  /-- NET_LINK_STATE (R322): An Ethernet port gains or loses link. -/
  | netLinkState (port : Fin 2) (up : Bool)
  /-- ARP_REQUEST_RX (R321): An ARP request for the port's address is answered. -/
  | arpRequestRx (port : Fin 2) (target : BitVec 32) (sender : BitVec 32) (senderMac : BitVec 48)
  /-- ETH_FRAME_DROPPED (R321): A received frame that is not ARP or PTP is dropped and counted. -/
  | ethFrameDropped (port : Fin 2)
  /-- PTP_ANNOUNCE_RX (R327): An Announce is received and used for master selection. -/
  | ptpAnnounceRx (port : Fin 2) (announce : Announce)
  /-- PTP_SYNC_RX (R328): A Sync or Follow_Up is received and time-stamped for the servo. -/
  | ptpSyncRx (port : Fin 2) (sync : PtpSync)
  /-- PTP_DELAY_RESP_RX (R328): A Delay_Resp completes an exchange and the servo computes delay and offset. -/
  | ptpDelayRespRx (port : Fin 2) (sequence : BitVec 16) (t4 : Nat)
  /-- PTP_MESSAGE_TX (R327): At its interval the port sends a Sync, Announce or Delay_Req. -/
  | ptpMessageTx (port : Fin 2) (kind : PtpKind)
  /-- TX_STAMP_CAPTURED (R326): A transmit time-stamp enters the port's queue, or is lost when the queue is full. -/
  | txStampCaptured (port : Fin 2) (sequence : BitVec 16) (raw : Nat)
  /-- PTP_MASTER_LOST (R330): No Announce within the receipt timeout moves PTP to the backup port or into holdover. -/
  | ptpMasterLost
  /-- TIME_TRIGGER_FIRE (R331): The time counter reaches a trigger instant and the pin pulses. -/
  | timeTriggerFire (t : QuadId)
  /-- STREAM_PACKET_TX (R335): A sender emits its next paced RTP packet. -/
  | streamPacketTx (stream : Fin 24)
  /-- AUD_SET_CLOCK (R342): Selects the audio master clock source. -/
  | audSetClock (e : Entry)
  /-- AUD_PORT_CONFIG (R340): Configures an audio port's format and role. -/
  | audPortConfig (e : Entry)
  /-- AUD_SET_MASK (R347): Sets a port's input and output slot masks at a hinge. -/
  | audSetMask (e : Entry)
  /-- AUD_START (R344): Starts audio ports at a hinge or a time. -/
  | audStart (e : Entry)
  /-- AUD_STOP (R344): Stops audio ports after a fade-out. -/
  | audStop (e : Entry)
  /-- AUD_GET_STATUS (R343): Returns an audio port's state and counts. -/
  | audGetStatus (e : Entry)
  /-- AUDIO_START_INSTANT (R344): A timed start instant is reached and the masked ports begin their first frames. -/
  | audioStartInstant (port : QuadId) (firstFrame : Nat)
  /-- AUDIO_FRAME (R343): An LRCK frame moves samples through the port FIFOs into the current block. -/
  | audioFrame (port : QuadId) (samples : List (BitVec 32))
  /-- AUD_CLOCK_LOST (R345): A slave port without LRCK edges for two periods synthesises a fade-out and silence. -/
  | audClockLost (port : QuadId)
  /-- AUD_MCLK_LOST (R345): Loss of external AUD_MCLK stops the PLL and every port loses its clock. -/
  | audMclkLost
  /-- POS_CONFIG (R351): Configures a position channel. -/
  | posConfig (e : Entry)
  /-- POS_CONTROL (R356): Enables, disables or sets the position of a channel. -/
  | posControl (e : Entry)
  /-- POS_SET_COMPARE (R360): Sets a channel's compare table at a hinge. -/
  | posSetCompare (e : Entry)
  /-- POS_GET_STATUS (R359): Returns position, speed, counts and samples. -/
  | posGetStatus (e : Entry)
  /-- POS_TRANSITION (R352): A filtered input transition is accepted, time-stamped and updates the raw and reported position. -/
  | posTransition (q : QuadId) (a : Bool) (b : Bool) (z : Bool)
  /-- SSI_POLL (R355): At each poll period the device clocks out a burst to read the SSI sensor. -/
  | ssiPoll (q : QuadId) (busy : Bool) (reading : BitVec 32)
  /-- POS_STALL (R358): p unchanged for the stall time sets the speed to 0. -/
  | posStall (q : QuadId)
  /-- HASP_PORT_CONFIG (R368): Enables a hasp port and sets its asymmetry. -/
  | haspPortConfig (e : Entry)
  /-- HASP_GET_STATUS (R366): Returns hasp port and link status. -/
  | haspGetStatus (e : Entry)
  /-- HASP_FORWARD (R372): Forwards one command to a worker's mailbox 5. -/
  | haspForward (e : Entry)
  /-- HASP_ARM (R373): Arms hold sets across packages for one hinge. -/
  | haspArm (e : Entry)
  /-- HASP_SET_SPLIT (R375): Declares the bands of a split context. -/
  | haspSetSplit (e : Entry)
  /-- HASP_READ_EVENTS (R374): Copies and empties a worker's relay ring. -/
  | haspReadEvents (e : Entry)
  /-- HASP_LINK_ADVANCE (R366): A hasp port meets its state's condition and advances toward UP. -/
  | haspLinkAdvance (port : Fin 2) (neighbour : Fin 8) (hopDelay : Nat)
  /-- HASP_STATE_TIMEOUT (R366): A hasp port state times out and fails. -/
  | haspStateTimeout (port : Fin 2)
  /-- HASP_RETRY_TIMER (R366): 100 ms after a failure the port returns to TRAIN. -/
  | haspRetryTimer (port : Fin 2)
  /-- HASP_CALIBRATION (R368): Every second the ends exchange calibration messages and update the hop delay. -/
  | haspCalibration (port : Fin 2) (roundTrip : Nat) (turnaround : Nat)
  /-- HINGE_BROADCAST_TX (R369): The manager sends the hinge broadcast 5 microseconds before its predicted hinge. -/
  | hingeBroadcastTx
  /-- HINGE_BROADCAST_RX (R369): A worker receives a broadcast, schedules the hinge from the remaining lead and forwards it. -/
  | hingeBroadcastRx (port : Fin 2) (broadcast : Broadcast)
  /-- HASP_MESSAGE_RX (R367): A hasp message is received, checked and forwarded or consumed by its class. -/
  | haspMessageRx (port : Fin 2) (message : HaspMessage)
  /-- HASP_FORWARD_COMPLETION (R372): A worker's completion of a forwarded command returns to the manager. -/
  | haspForwardCompletion (w : Fin 8) (completion : WorkerCompletion)
  /-- HASP_FORWARD_TIMEOUT (R372): A forwarded command not completed within 2 s completes with TIMEOUT. -/
  | haspForwardTimeout (w : Fin 8)
  /-- HASP_ARM_CONFIRM (R373): A worker confirms its pending-commit arm, letting the manager arm its own set. -/
  | haspArmConfirm (w : Fin 8)
  /-- HASP_HEARTBEAT_RX (R374): A worker heartbeat carries its state and last applied arm id to the manager. -/
  | haspHeartbeatRx (w : Fin 8) (heartbeat : Heartbeat)
  /-- HASP_WORKER_LOST (R380): Two missing heartbeats or a reported deadbolt declare a worker lost. -/
  | haspWorkerLost (w : Fin 8)
  /-- HASP_MANAGER_LOST (R381): A worker that loses the manager stays in holdover and keeps developing its band. -/
  | haspManagerLost
  /-- FLT_SET_SEVERITY (R383): Sets severities of fault sources. -/
  | fltSetSeverity (e : Entry)
  /-- FLT_GET_STATUS (R389): Returns legacy word, latch, deadbolt records and counts. -/
  | fltGetStatus (e : Entry)
  /-- FLT_CLEAR (R387): Clears the latch, legacy bits or counts and history. -/
  | fltClear (e : Entry)
  /-- FLT_SET_PIN (R390): Sets the FAULT_N software level and pulse enable. -/
  | fltSetPin (e : Entry)
  /-- FLT_READ_HISTORY (R386): Copies and optionally empties the fault history. -/
  | fltReadHistory (e : Entry)
  /-- FLT_REINTEGRATE (R400): Schedules a fenced unit's self-test for reintegration. -/
  | fltReintegrate (e : Entry)
  /-- REINTEGRATION_TEST_DONE (R400): A reintegration self-test ends and the unit returns as spare or stays fenced. -/
  | reintegrationTestDone (u : UnitId) (pass : Bool)
  /-- FLT_INJECT (R391): Raises a fault source as if its condition occurred, in factory test mode only. -/
  | fltInject (e : Entry)
  /-- FAULT_N_PULSE_END (R390): After 10.24 microseconds the FAULT_N pulse ends and the pin follows its software level. -/
  | faultNPulseEnd
  /-- HEARTBEAT_STALL (R384): HEARTBEAT not advancing for 10 ms raises source 0x07. -/
  | heartbeatStall
  /-- LOCKSTEP_MISMATCH (R402): The lockstep cores disagree, stop and restart Kongaord from retained state. -/
  | lockstepMismatch
  /-- PLL_LOCK_LOST (R384): A critical PLL loses lock and raises source 0x05. -/
  | pllLockLost
  /-- XTAL_OUT_OF_RANGE (R384): XTAL_IN outside tolerance raises source 0x04. -/
  | xtalOutOfRange
  /-- COLLECTOR_PARITY_ERROR (R391): A parity error in the collector raises source 0x00 straight to deadbolt. -/
  | collectorParityError
  /-- SEC_GET_CERTIFICATE (R428): Returns the device certificate. -/
  | secGetCertificate (e : Entry)
  /-- SEC_ATTEST (R429): Queues a signed attestation of a challenge. -/
  | secAttest (e : Entry)
  /-- SEC_IMAGE_WRITE (R423): Verifies and writes a firmware image to a slot. -/
  | secImageWrite (e : Entry)
  /-- SEC_SET_PREFERRED (R427): Verifies a slot and makes it preferred. -/
  | secSetPreferred (e : Entry)
  /-- SEC_ROLLBACK_ADVANCE (R426): Raises the anti-rollback fuse floor. -/
  | secRollbackAdvance (e : Entry)
  /-- SEC_GET_STATUS (R433): Returns slot, floor and leaf state. -/
  | secGetStatus (e : Entry)
  /-- IMAGE_WRITE_DONE (R423): A slot image write and read-back ends and SYS_BACKGROUND_DONE is posted. -/
  | imageWriteDone (ok : Bool)
  /-- FUSE_BURN_DONE (R426): One floor fuse burn ends and the advance continues or completes. -/
  | fuseBurnDone (ok : Bool)
  /-- PWR_SET_DOMAIN (R437): Switches a power domain at a hinge. -/
  | pwrSetDomain (e : Entry)
  /-- PWR_SET_CLOCK (R22): Sets a compute die's pipeline clock. -/
  | pwrSetClock (e : Entry)
  /-- PWR_SET_CEILING (R439): Sets the package power ceiling. -/
  | pwrSetCeiling (e : Entry)
  /-- PWR_GET_STATUS (R438): Returns domain states and power estimates. -/
  | pwrGetStatus (e : Entry)
  /-- THM_SET_THRESHOLDS (R441): Sets the thermal warning thresholds. -/
  | thmSetThresholds (e : Entry)
  /-- THM_GET_STATUS (R440): Returns sensor readings and crossings. -/
  | thmGetStatus (e : Entry)
  /-- DOMAIN_WAKE_DONE (R436): A woken domain reports ON and PWR_DOMAIN_STATE is posted. -/
  | domainWakeDone (domain : Fin 25)
  /-- THERMAL_SAMPLE (R440): All 14 sensors are read and the maximum compared with the thresholds. -/
  | thermalSample (readings : List Int)
  /-- THERMAL_TRIP (R442): A sensor reaches 120 degrees, setting the thermal latch and switching off most domains. -/
  | thermalTrip
  /-- SUPPLY_OUT_OF_RANGE (R443): A core supply outside its monitored range for over 2 microseconds raises source 0x5F. -/
  | supplyOutOfRange
  /-- RESET_ASSERT (R404): A reset source is asserted and the device enters reset with that source's reach. -/
  | resetAssert (source : ResetSource)
  /-- RESET_RELEASE (R406): The last reset source releases and the stretch starts with RST_N driven low. -/
  | resetRelease (source : ResetSource)
  /-- STRETCH_END (R410): After 2 ms the device releases RST_N. -/
  | stretchEnd
  /-- RST_N_CHECK (R406): At 2.010 ms RST_N is sampled, starting strap conversion or a new stretch. -/
  | rstNCheck (high : Bool) (twa1 : Bool) (twa0 : Bool)
  /-- STRAP_LATCH (R412): The 16 strap conversions end and the strap code is latched or a strap fault found. -/
  | strapLatch (conversions : List Nat)
  /-- FUSE_LOAD_DONE (R415): A fuse and trim load attempt ends with its CRC check. -/
  | fuseLoadDone (crcOk : Bool) (fuses : Fuses)
  /-- MGMT_RELEASE (R410): The MGMT PLL locks and the management domain starts the boot ROM. -/
  | mgmtRelease
  /-- IMAGE_VERIFY_DONE (R424): The keyway finishes verifying an image and starts Kongaord or enters recovery mode. -/
  | imageVerifyDone (a : SlotResult) (b : SlotResult) (firmware : FirmwareInfo)
  /-- START_COMPLETE (R85): Kongaord finishes bring-up, starts the tick generator and posts START_COMPLETE. -/
  | startComplete
  /-- START_WATCHDOG_EXPIRY (R416): No START_COMPLETE within 5 s counts a failed start and asserts a pin reset. -/
  | startWatchdogExpiry
  /-- TWB_READ_SNAPSHOT (R447): At the acknowledge of a read address the device snapshots the whole window. -/
  | twbReadSnapshot
  /-- TWB_SUBMIT (R453): DOORBELL byte 0x01 copies CMD onto mailbox 4's command ring or is refused. -/
  | twbSubmit
  /-- TWB_ACK_COMPLETION (R453): DOORBELL byte 0x02 clears the completion-valid flag. -/
  | twbAckCompletion
  /-- TWB_EVENT_ADVANCE (R451): EVTNEXT byte 0x01 advances mailbox 4's event head. -/
  | twbEventAdvance
  /-- TWB_APBASE_COMMIT (R452): APBASE takes effect when its last byte commits. -/
  | twbApbaseCommit (value : BitVec 32)
  /-- TWB_APERTURE_WRITE (R452): An aperture byte is written to the mailbox 4 arena as it commits. -/
  | twbApertureWrite (index : Fin 64) (value : Byte)
  /-- TWB_START_STOP (R448): A START or STOP before a byte's commit edge abandons that byte. -/
  | twbStartStop (start : Bool)
  /-- TWB_SCL_TIMEOUT (R450): SCL low for more than 25 ms releases SDA and abandons the byte in progress. -/
  | twbSclTimeout
  /-- LOOPBACK_CHECKER_LOCK (R113): In a loopback, a lane's pattern checker locks after 64 error-free bits, then counts bit errors and losses of lock. -/
  | loopbackCheckerLock (p : PortId) (lane : Fin 17) (locked : Bool) (errors : Nat)
  /-- TWB_BYTE_COMMIT (R447): At the ninth-clock SCL rising edge a two-wire byte commits: it acknowledges the address, sets the window pointer, stores a CMD byte or is read, and advances the pointer. -/
  | twbByteCommit (write : Bool) (value : Byte)
  /-- SET_PREFERRED_DONE (R427): The background SEC_SET_PREFERRED verification and header-record write end and SYS_BACKGROUND_DONE reports OK or AUTH_FAIL. -/
  | setPreferredDone (result : Nat)
  /-- ENDPOINT_LINK_UP (R409): After PERST_N release or a link loss the PCIe endpoint trains its link up, and device accesses to host memory can succeed again. -/
  | endpointLinkUp
  /-- SRAM_ECC_ERROR (R384): ECC finds an uncorrectable SRAM error (management SRAM, region line store, LUT or statistics engine, memory-controller queue, compression shared SRAM) or IOD corrected errors reach their rate, raising the matching source. -/
  | sramEccError (error : SramError)
  /-- HINGE_SEQUENCER_SELF_CHECK_FAILED (R384): The hinge sequencer's self-check fails and raises fixed-severity source 0x06, entering deadbolt. -/
  | hingeSequencerSelfCheckFailed
  /-- SECURITY_ENGINE_FAULT (R384): The security engine's self-check fails or it meets an uncorrectable error, raising source 0x0C. -/
  | securityEngineFault
  /-- SECURITY_SELF_CHECK_DONE (R385): The reset and rerun self-check of the security engine end within 50 ms, and waiting seals resume signing. -/
  | securitySelfCheckDone (ok : Bool)
  /-- NVME_POWER_STATE_EXIT (R277): The exit latency from non-operational power state 2 passes, the controller is operational again and the waking I/O command runs. -/
  | nvmePowerStateExit
  /-- COMPARE_PULSE_END (R360): The configured pulse width of POS_CMPn elapses and the pin returns to its inactive level. -/
  | comparePulseEnd (q : QuadId)
  /-- TIME_TRIGGER_PULSE_END (R331): A time trigger's pulse width elapses and its pin returns to its inactive level. -/
  | timeTriggerPulseEnd (t : QuadId)
  deriving DecidableEq, Repr

end Sys2Proof
end

