-- ==== Sys2Proof/Decode.lean ====
section
/-!
DEFINITION. Decode: the command a table word spells. No row of spec/opcode_table.json gives bits, so no word spells one (log 1).
-/

namespace Sys2Proof

/-- The command whose table bits are `w`: none, for no row has bits. -/
def decodeTableWord (_nbits _w : Nat) : Option Instr := none

end Sys2Proof
end

