-- ==== Sys2Proof/Config.lean ====
section
/-!
DEFINITION. Config: the values the spec leaves open. Each is a constant without a body, so nothing can be proved
of its value; a log entry names each.
-/

namespace Sys2Proof.Config

/-- The detail word of a completion whose status the command's chapter gives without a detail, by opcode and status
code (R80: "per command"). Free value (log 18). -/
opaque openDetail : Nat → Nat → Nat

/-- The detail of a raise whose source's chapter defines none, by source (R388). Free value (log 18). -/
opaque faultDetail : Nat → Nat

/-- The byte that undefined contents of HBM hold: the generation in which they became undefined and the address
(R405, R437, MEM_SET_MODE). Free value (log 29). -/
opaque freeHbm : Nat → Nat → BitVec 8

/-- What an erased byte of the boot flash reads. Free value (log 30). -/
opaque erasedByte : BitVec 8

/-- A byte of a calibration record that training determines, by the training and its place (R210). Free value
(log 31). -/
opaque trainedByte : Nat → Nat → BitVec 8

/-- The DEFLATE stream an engine writes, by engine class, effort, table mode and input (R219): the spec fixes its
form and that it is the same for the same input, not its bytes. Free value (log 33). -/
opaque deflate : Nat → Nat → Nat → List (BitVec 8) → List (BitVec 8)

/-- The body of a record whose layout the spec does not give (CLIP_OPEN, META, PICTURE, AUDIO, INDEX, SEAL_MARK), by
record type and contents (R247). Free value (log 36). -/
opaque recordBody : Nat → List Nat → List (BitVec 8)

/-- The SMPTE ST 12-1 time address of a frame, by start timecode, divider, tick period in ps and frames since the
clip's first (R247). Free value (log 36). -/
opaque timeAddress : Nat → Nat → Nat → Nat → Nat

/-- A byte of the XMSS^MT signature of a message with a leaf, by leaf, message and place (R428). Free value (log 37). -/
opaque signature : Nat → List (BitVec 8) → Nat → BitVec 8

/-- A byte of the device certificate that manufacture fixes, by place (R428). Free value (log 37). -/
opaque certificateByte : Nat → BitVec 8

/-- A vendor or maker signature verifies, by key, message and signature (R421). Free value (log 37). -/
opaque verifies : List (BitVec 8) → List (BitVec 8) → List (BitVec 8) → Bool

/-- A byte of an NVMe structure at a place the spec states nothing of, by structure and place (R258, R259). Free value
(log 38). -/
opaque nvmeByte : Nat → Nat → BitVec 8

/-- The fault source raised when a block does not come out of its reset, by block (SYS_BLOCK_RESET). Free value (log 58). -/
opaque blockFault : Nat → Nat

/-- A block had transfers open when a thermal trip switched its domain off, by trip and block (R420, R442). Free value
(log 58). -/
opaque hungAtTrip : Nat → Nat → Bool

/-- The trained speed of the PCIe link, the boot ROM's version and a byte of the build string (SYS_IDENTIFY). Free values
(log 59). -/
opaque linkSpeed : Nat
opaque romVersion : Nat
opaque buildByte : Nat → BitVec 8

/-- Bytes of the boot flash beyond 128 MiB (R418: at least 128 MiB). Free value (log 60). -/
opaque flashExtra : Nat

/-- A value fresh at each use: applied to the counter `State.free` (log 16). -/
opaque freeValue : Nat → Nat

end Sys2Proof.Config
end

