-- ==== Sys2Proof/Machine/Bank.lean ====
section
/-!
DEFINITION. Bank: a context's parameter bank (R43), the changes a command arms for a hinge (R48, R49), and the
frame that carries its bank with it. Each field's docstring gives its width, the rule that names it and its
reset value.
-/

namespace Sys2Proof.Machine

/-- A context's source selection and geometry (CTX_SET_SOURCE). -/
structure Source where
  /-- sensor port, first port of a bond; w 2 bits; 05 R119; reset 0 -/
  port : PortId := 0
  /-- select: false by virtual stream, true by mode id; w 1 bit; 05 R119; reset false -/
  byMode : Bool := false
  /-- mode id; w 8 bits; 05 R119; reset 0 -/
  modeId : Nat := 0
  /-- capture mask, bit v for stream v; w 4 bits; 05 R119; reset 0 -/
  mask : BitVec 4 := 0
  /-- divider k, 1 to 256; w 9 bits; 02 R40; reset 1 -/
  k : Nat := 1
  /-- phase, 0 to k - 1; w 8 bits; 02 R40; reset 0 -/
  phase : Nat := 0
  /-- configured width W in samples; w 16 bits; 05 R123; reset 0 -/
  w : Nat := 0
  /-- configured rows; w 16 bits; 05 R133; reset 0 -/
  h : Nat := 0
  /-- embedded-data lines kept per frame; w 4 bits; 05 R134; reset 0 -/
  emb : Nat := 0
  deriving DecidableEq, Repr

/-- A per-pixel table bound from namespace 2 (R145, R155). -/
structure PixelBind where
  /-- scale s_k; w 16 bits; 06 R145; reset none bound -/
  scale : Nat
  /-- declared width; w 16 bits; 06 R156; reset none bound -/
  w : Nat
  /-- declared height; w 16 bits; 06 R156; reset none bound -/
  h : Nat
  /-- start LBA in namespace 2; w 64 bits; 06 R155; reset none bound -/
  lba : Nat
  deriving DecidableEq, Repr

/-- Front-end parameters of one capture (R138 to R148, R157). -/
structure FrontCap where
  /-- linearisation table version, none the identity table; w 20 bits × 16,384; 06 R140; reset identity -/
  lin : Option Nat := none
  /-- black code per channel; w 14 bits × 8; 06 R141; reset 0 -/
  black : Vector Nat 8 := Vector.replicate 8 0
  /-- clamp shift alpha, 0xFF clamp off; w 8 bits; 06 R143; reset 0xFF (off, R157) -/
  alpha : Nat := 0xFF
  /-- row-noise switch; w 1 bit; 06 R143; reset off -/
  rowNoise : Bool := false
  /-- optical-black range 0: start and count; w 16 + 9 bits; 06 R142; reset (0, 0) -/
  ob0 : Nat × Nat := (0, 0)
  /-- optical-black range 1: start and count; w 16 + 9 bits; 06 R142; reset (0, 0) -/
  ob1 : Nat × Nat := (0, 0)
  /-- T1 pedestal P_k; w 12 bits; 06 R152; reset 0 -/
  pedestal : Nat := 0
  /-- column table version, none off; w 16 bits × W; 06 R144; reset off -/
  column : Option Nat := none
  /-- bound dark frame; w 32 bytes; 06 R145; reset none -/
  dark : Option PixelBind := none
  /-- merge gain G_k, u16.16; w 32 bits; 06 R148; reset 0x1_0000 (1.0) -/
  gain : Nat := 65536
  /-- knee start K0_k; w 14 bits; 06 R148; reset 16,383 -/
  k0 : Nat := 16383
  /-- knee end K1_k; w 15 bits; 06 R148; reset 16,384 -/
  k1 : Nat := 16384
  deriving DecidableEq, Repr

/-- Shading modes (R147). -/
inductive Shading where
  | off | grid | perPixel
  deriving DecidableEq, Repr

/-- Front-end parameters of a context (R137 to R157). -/
structure Front where
  /-- CFA period columns Pw, 1 to 8; w 4 bits; 06 R137; reset 1 -/
  pw : Nat := 1
  /-- CFA period rows Ph, 1 to 8; w 4 bits; 06 R137; reset 1 -/
  ph : Nat := 1
  /-- CFA cells, cell (y, x) at 8y + x; w 3 bits × 64; 06 R137; reset channel W in cell 0 -/
  cells : List Nat := [3]
  /-- per-capture parameters; w 4 captures; 06 R138; reset R157's defaults -/
  caps : Vector FrontCap 4 := Vector.replicate 4 {}
  /-- dynamic defect threshold T_hot; w 21 bits; 06 R146; reset 0 -/
  tHot : Nat := 0
  /-- dynamic defect threshold T_cold; w 21 bits; 06 R146; reset 0 -/
  tCold : Nat := 0
  /-- static defect list version; w 32 bits × N; 06 R146; reset none -/
  defects : Option Nat := none
  /-- shading mode; w 2 bits; 06 R147; reset off -/
  shading : Shading := .off
  /-- shading grid version; w 200,208 bytes; 06 R147; reset none -/
  grid : Option Nat := none
  /-- bound flat field; w 32 bytes; 06 R147; reset none -/
  flat : Option PixelBind := none
  /-- motion mask; w 1 bit; 06 R149; reset off -/
  motion : Bool := false
  /-- motion reference capture; w 2 bits; 06 R149; reset 0 -/
  refCap : Fin 4 := 0
  /-- motion threshold T_m, L20; w 20 bits; 06 R149; reset 0 -/
  tm : Nat := 0
  /-- motion ratio r_m; w 8 bits; 06 R149; reset 0 -/
  rm : Nat := 0
  /-- tap T1 enabled; w 1 bit; 06 R153; reset off -/
  t1 : Bool := false
  /-- tap T2 enabled; w 1 bit; 06 R153; reset off -/
  t2 : Bool := false
  deriving DecidableEq, Repr

/-- Develop parameters (R160 to R171); coefficients are binary32 bit patterns. -/
structure Develop where
  /-- demosaic method: 0 generic, 1 Bayer; w 1 bit; 07 R163; reset 1 -/
  method : Nat := 1
  /-- edge ratio tau / 256; w 9 bits; 07 R164; reset 192 -/
  tau : Nat := 192
  /-- channel map of slots 0 to 3, 0xFF constant 1.0; w 8 bits × 4; 07 R163; reset R, G, B, 0xFF -/
  map : Vector Nat 4 := #v[0, 1, 2, 0xFF]
  /-- camera matrix M[i][j] at 4i + j; w 32 bits × 12; 07 R171; reset identity, zero fourth column -/
  matrix : Vector (BitVec 32) 12 :=
    #v[0x3F800000, 0, 0, 0, 0, 0x3F800000, 0, 0, 0, 0, 0x3F800000, 0]
  /-- white-balance gains R, G, B; w 32 bits × 3; 07 R171; reset 1.0 -/
  wb : Vector (BitVec 32) 3 := #v[0x3F800000, 0x3F800000, 0x3F800000]
  /-- exposure gain; w 32 bits; 07 R171; reset 1.0 -/
  exposure : BitVec 32 := 0x3F800000
  /-- luma coefficients; w 32 bits × 3; 07 R170; reset 0.2126, 0.7152, 0.0722 -/
  luma : Vector (BitVec 32) 3 := #v[0x3E59B3D0, 0x3F371759, 0x3D93DD98]
  /-- working-space code; w 2 bits; 07 R171; reset 0 DESIGN CHOICE (log 9) -/
  space : Nat := 0
  deriving DecidableEq, Repr

/-- Noise-reduction parameters (R166 to R170). -/
structure Noise where
  /-- spatial noise reduction on; w 1 bit; 07 R167; reset off -/
  spatial : Bool := false
  /-- strength s, 0 to 256; w 9 bits; 07 R167; reset 0 DESIGN CHOICE (log 9) -/
  strength : Nat := 0
  /-- temporal noise reduction on; w 1 bit; 07 R168; reset off -/
  temporal : Bool := false
  /-- analysis decimation d; w 3 bits; 07 R170; reset 1 DESIGN CHOICE (log 9) -/
  d : Nat := 1
  /-- noise model n0 per slot, binary32; w 32 bits × 4; 07 R166; reset 0 DESIGN CHOICE (log 9) -/
  n0 : Vector (BitVec 32) 4 := Vector.replicate 4 0
  /-- noise model n1 per slot, binary32; w 32 bits × 4; 07 R166; reset 0 DESIGN CHOICE (log 9) -/
  n1 : Vector (BitVec 32) 4 := Vector.replicate 4 0
  /-- spatial kernel k[0] to k[4]; w 9 bits × 5; 07 R167; reset 0 DESIGN CHOICE (log 9) -/
  kernel : Vector Nat 5 := Vector.replicate 5 0
  /-- range table T_s; w 8 bits × 64; 07 R167; reset 0 DESIGN CHOICE (log 9) -/
  ts : Vector Nat 64 := Vector.replicate 64 0
  /-- temporal table T_t; w 8 bits × 64; 07 R168; reset 0 DESIGN CHOICE (log 9) -/
  tt : Vector Nat 64 := Vector.replicate 64 0
  deriving DecidableEq, Repr

/-- One grade's parameters (R172 to R180). -/
structure Grade where
  /-- grade enabled; w 1 bit; 07 R172; reset disabled -/
  on : Bool := false
  /-- LUT slot, none bypass; w 8 bits; 07 R182; reset bypass DESIGN CHOICE (log 9) -/
  lut : Option (Fin 16) := none
  /-- stage 13 matrix, element (i, j) at 3i + j, binary32; w 32 bits × 9; 07 R172; reset identity DESIGN CHOICE (log 9) -/
  matrix : Vector (BitVec 32) 9 := #v[0x3F800000, 0, 0, 0, 0x3F800000, 0, 0, 0, 0x3F800000]
  /-- shaper mode; w 2 bits; 07 R173; reset 0 DESIGN CHOICE (log 9) -/
  shaperMode : Nat := 0
  /-- encoding code; w 3 bits; 07 R176; reset 0 DESIGN CHOICE (log 9) -/
  encoding : Nat := 0
  /-- bit depth; w 5 bits; 07 R179; reset 10 DESIGN CHOICE (log 9) -/
  depth : Nat := 10
  /-- chroma format; w 2 bits; 07 R179; reset 0 DESIGN CHOICE (log 9) -/
  chroma : Nat := 0
  /-- matrix coefficients: 0 BT.709, 1 BT.2020; w 1 bit; 07 R179; reset 0 DESIGN CHOICE (log 9) -/
  coeff : Nat := 0
  /-- full range; w 1 bit; 07 R179; reset narrow DESIGN CHOICE (log 9) -/
  full : Bool := false
  /-- horizontal pre-decimation; w 4 bits; 07 R178; reset 1 DESIGN CHOICE (log 9) -/
  dh : Nat := 1
  /-- vertical pre-decimation; w 4 bits; 07 R178; reset 1 DESIGN CHOICE (log 9) -/
  dv : Nat := 1
  /-- output width; w 16 bits; 07 R178; reset 0 DESIGN CHOICE (log 9) -/
  wo : Nat := 0
  /-- output height; w 16 bits; 07 R178; reset 0 DESIGN CHOICE (log 9) -/
  ho : Nat := 0
  /-- shaper lo, binary32; w 32 bits; 07 R173; reset 0 DESIGN CHOICE (log 9) -/
  lo : BitVec 32 := 0
  /-- shaper hi, binary32; w 32 bits; 07 R173; reset 1.0 DESIGN CHOICE (log 9) -/
  hi : BitVec 32 := 0x3F800000
  /-- BT.1886 L_w, binary32; w 32 bits; 07 R176; reset 0 DESIGN CHOICE (log 9) -/
  lw : BitVec 32 := 0
  /-- BT.1886 L_b, binary32; w 32 bits; 07 R176; reset 0 DESIGN CHOICE (log 9) -/
  lb : BitVec 32 := 0
  /-- shaper tables, 3 × 4,096 u16, none the identity entries; w 24,576 bytes; 07 R173; reset identity (R183) -/
  shaper : Option (List Nat) := none
  /-- curve tables, 3 × 4,097 binary32, none entries i / 4,096; w 49,164 bytes; 07 R175; reset i / 4,096 (R183) -/
  curve : Option (List (BitVec 32)) := none
  /-- scaler taps, horizontal then vertical, 2 × 64 × 8, none bilinear; w 16 bits × 1,024; 07 R178; reset bilinear (R183) -/
  scaler : Option (List Int) := none
  deriving DecidableEq, Repr

/-- Statistics taps and zones (STAT_SET_CONFIG). -/
structure StatCfg where
  /-- histogram on; w 1 bit; 08 R195; reset off -/
  hist : Bool := false
  /-- zones on; w 1 bit; 08 R195; reset off -/
  zones : Bool := false
  /-- histogram tap; w 3 bits; 08 R185; reset 0 DESIGN CHOICE (log 9) -/
  histTap : Nat := 0
  /-- zone tap; w 3 bits; 08 R185; reset 0 DESIGN CHOICE (log 9) -/
  zoneTap : Nat := 0
  /-- log2 bin mode; w 1 bit; 08 R187; reset linear DESIGN CHOICE (log 9) -/
  log2 : Bool := false
  /-- zone columns Zx; w 7 bits; 08 R188; reset 1 DESIGN CHOICE (log 9) -/
  zx : Nat := 1
  /-- zone rows Zy; w 6 bits; 08 R188; reset 1 DESIGN CHOICE (log 9) -/
  zy : Nat := 1
  /-- focus channel; w 3 bits; 08 R189; reset 0 DESIGN CHOICE (log 9) -/
  focus : Nat := 0
  /-- lower bound, binary32; w 32 bits; 08 R187; reset 0 DESIGN CHOICE (log 9) -/
  lo : BitVec 32 := 0
  /-- upper bound, binary32; w 32 bits; 08 R187; reset 1.0 DESIGN CHOICE (log 9) -/
  hi : BitVec 32 := 0x3F800000
  /-- clip threshold, binary32; w 32 bits; 08 R189; reset 0 DESIGN CHOICE (log 9) -/
  clip : BitVec 32 := 0
  /-- focus gain, binary32; w 32 bits; 08 R189; reset 1.0 DESIGN CHOICE (log 9) -/
  gain : BitVec 32 := 0x3F800000
  /-- coring, binary32; w 32 bits; 08 R189; reset 0 DESIGN CHOICE (log 9) -/
  coring : BitVec 32 := 0
  /-- window column; w 16 bits; 08 R188; reset 0 DESIGN CHOICE (log 9) -/
  x0 : Nat := 0
  /-- window row; w 16 bits; 08 R188; reset 0 DESIGN CHOICE (log 9) -/
  y0 : Nat := 0
  /-- window columns; w 16 bits; 08 R188; reset 0 DESIGN CHOICE (log 9) -/
  w : Nat := 0
  /-- window rows; w 16 bits; 08 R188; reset 0 DESIGN CHOICE (log 9) -/
  h : Nat := 0
  deriving DecidableEq, Repr

/-- Where a context records (R237). -/
inductive RecTarget where
  | none | ring | media (port : Fin 2) | host
  deriving DecidableEq, Repr

/-- A context's recording target and options (REC_SET_TARGET). -/
structure RecCfg where
  /-- target; w 8 bits; 11 R237; reset none -/
  target : RecTarget := .none
  /-- raw source: false T0, true T1; w 1 bit; 11 R237; reset T0 -/
  t1 : Bool := false
  /-- audio mask; w 4 bits; 11 R237; reset 0 -/
  audio : BitVec 4 := 0
  /-- proxy mask; w 4 bits; 11 R237; reset 0 -/
  proxy : BitVec 4 := 0
  /-- trigger sources; w 4 bits; 11 R243; reset 0 -/
  triggers : BitVec 4 := 0
  /-- position channel of the compare trigger; w 2 bits; 11 R243; reset 0 -/
  channel : QuadId := 0
  /-- chunk budget b in 1/1,024 byte per sample; w 32 bits; 11 R239; reset 0 -/
  budget : Nat := 0
  /-- pre-trigger frames P; w 20 bits; 11 R242; reset 0 -/
  pre : Nat := 0
  /-- post-trigger frames Q; w 20 bits; 11 R242; reset 0 -/
  post : Nat := 0
  /-- start timecode; w 32 bits; 11 R247; reset 0 -/
  timecode : BitVec 32 := 0
  /-- ring size; w 64 bits; 11 R241; reset 0 -/
  ringSize : Nat := 0
  /-- host ring address; w 64 bits; 11 R237; reset 0 -/
  hostAddr : BitVec 64 := 0
  deriving DecidableEq, Repr

/-- An encode of one grade (VC_SET_ENCODE). -/
structure Encode where
  /-- enabled; w 1 bit; 13 R291; reset disabled -/
  on : Bool := false
  /-- profile; w 2 bits; 13 R281; reset 0 -/
  profile : Nat := 0
  /-- core count n; w 4 bits; 13 R285; reset 0 -/
  cores : Nat := 0
  /-- partition code; w 2 bits; 13 R285; reset 0 -/
  partition : Nat := 0
  /-- tile columns; w 4 bits; 13 R285; reset 0 -/
  tileCols : Nat := 0
  /-- tile rows; w 4 bits; 13 R285; reset 0 -/
  tileRows : Nat := 0
  /-- picture structure; w 2 bits; 13 R283; reset 0 -/
  shape : Nat := 0
  /-- references; w 3 bits; 13 R283; reset 0 -/
  refs : Nat := 0
  /-- IDR period; w 16 bits; 13 R290; reset 0 -/
  idrPeriod : Nat := 0
  /-- rate mode; w 2 bits; 13 R288; reset 0 -/
  mode : Nat := 0
  /-- QP minimum or intra QP; w 6 bits; 13 R288; reset 0 -/
  qpMin : Nat := 0
  /-- QP maximum or inter QP; w 6 bits; 13 R288; reset 0 -/
  qpMax : Nat := 0
  /-- CTU size; w 7 bits; 13 R282; reset 0 -/
  ctu : Nat := 0
  /-- target bitrate R, kbit/s; w 32 bits; 13 R288; reset 0 -/
  rate : Nat := 0
  /-- peak bitrate, kbit/s; w 32 bits; 13 R288; reset 0 -/
  peak : Nat := 0
  /-- access-unit cap C_max; w 32 bits; 13 R289; reset 0 -/
  cMax : Nat := 0
  /-- host copy; w 1 bit; 13 R284; reset off -/
  hostCopy : Bool := false
  /-- host ring address; w 64 bits; 13 R284; reset 0 -/
  hostAddr : BitVec 64 := 0
  /-- cores chosen; w 8 bits; 13 R285; reset 0 -/
  coreSet : List (Fin 8) := []
  deriving DecidableEq, Repr

/-- An overlay plane of an output (R308). -/
structure Overlay where
  /-- plane enabled; w 1 bit; 14 R308; reset off -/
  on : Bool := false
  /-- column in the active raster; w 16 bits; 14 R308; reset 0 -/
  col : Nat := 0
  /-- row in the active raster; w 16 bits; 14 R308; reset 0 -/
  row : Nat := 0
  /-- image width; w 16 bits; 14 R308; reset 0 -/
  w : Nat := 0
  /-- image height; w 16 bits; 14 R308; reset 0 -/
  h : Nat := 0
  /-- row pitch in bytes; w 32 bits; 14 R308; reset 0 -/
  pitch : Nat := 0
  /-- image address in the fabric; w 40 bits; 14 R308; reset 0 -/
  addr : Nat := 0
  deriving DecidableEq, Repr

/-- A binding of one grade to an output (OUT_BIND). -/
structure Binding where
  /-- grade; w 2 bits; 14 R307; reset none bound -/
  grade : GradeId
  /-- column offset; w 16 bits; 14 R307; reset none bound -/
  col : Nat
  /-- row offset; w 16 bits; 14 R307; reset none bound -/
  row : Nat
  deriving DecidableEq, Repr

/-- An ST 2110 sender (NET_SET_STREAM). -/
structure Stream where
  /-- kind: 0 off, 1 video, 2 audio, 3 ancillary; w 8 bits; 15 R333; reset 0 -/
  kind : Nat := 0
  /-- ports, bit 0 EN0, bit 1 EN1; w 2 bits; 15 R334; reset 0 -/
  ports : BitVec 2 := 0
  /-- source context or audio port; w 3 bits; 15 R333; reset 0 -/
  source : Nat := 0
  /-- grade or rate; w 2 bits; 15 R333; reset 0 -/
  grade : Nat := 0
  /-- packing or packet time; w 1 bit; 15 R333; reset 0 -/
  packing : Nat := 0
  /-- channels; w 5 bits; 15 R333; reset 0 -/
  channels : Nat := 0
  /-- first slot; w 4 bits; 15 R333; reset 0 -/
  firstSlot : Nat := 0
  /-- payload type, DSCP and TTL; w 8 bits × 3; 15 R333; reset 0 -/
  header : Nat × Nat × Nat := (0, 0, 0)
  /-- SSRC; w 32 bits; 15 R333; reset 0 -/
  ssrc : BitVec 32 := 0
  /-- offset TRO, ns; w 32 bits; 15 R335; reset 0 -/
  tro : Nat := 0
  /-- VLAN; w 12 bits; 15 R333; reset 0 -/
  vlan : Nat := 0
  /-- per port: destination MAC, IPv4, UDP port, source UDP port; w 14 bytes × 2; 15 R334; reset none -/
  dest : List (Nat × Nat × Nat × Nat) := []
  deriving DecidableEq, Repr

/-- The bands of a split context: first row and package of each, and the assembled grades (R375, R378). -/
structure Split where
  /-- bands in row order: first row and package; w 4 bytes × 8; 18 R375; reset none -/
  bands : List (Nat × Nat) := []
  /-- assembled grades; w 4 bits; 18 R378; reset 0 -/
  assembled : BitVec 4 := 0
  deriving DecidableEq, Repr

/-- A context's parameter bank (R43): the live bank of the context, and the copy each frame carries. -/
structure Bank where
  /-- source selection and geometry; w CTX_SET_SOURCE; 05 R119; reset FREE context, none -/
  source : Source := {}
  /-- regions the context is placed on; w 4 bits; 01 R20; reset none -/
  regions : BitVec 4 := 0
  /-- units taken out of the striping by re-striping; w 7 bits each; 19 R398; reset none -/
  excluded : List UnitId := []
  /-- test pattern code; w 3 bits; 05 R135; reset 0 (off) -/
  pattern : Nat := 0
  /-- flat pattern's code; w 14 bits; 05 R135; reset 0 -/
  patternCode : Nat := 0
  /-- double-frame flag; w 1 bit; 05 R130; reset 0 -/
  doubleFrame : Bool := false
  /-- front-end parameters; w RAW_ commands; 06 R138; reset R157's defaults -/
  front : Front := {}
  /-- develop parameters; w GRD_SET_DEVELOP; 07 R160; reset R183's defaults -/
  develop : Develop := {}
  /-- noise-reduction parameters; w GRD_SET_NOISE; 07 R166; reset off -/
  noise : Noise := {}
  /-- grades G0 to G3; w GRD_SET_GRADE; 07 R172; reset disabled -/
  grades : Vector Grade 4 := Vector.replicate 4 {}
  /-- statistics configuration; w STAT_SET_CONFIG; 08 R195; reset off -/
  stat : StatCfg := {}
  /-- host copy of records: address when on; w 64 bits; 08 R193; reset off -/
  statHost : Option (BitVec 64) := none
  /-- recording target; w REC_SET_TARGET; 11 R237; reset none -/
  recording : RecCfg := {}
  /-- encodes of G0 to G3; w VC_SET_ENCODE; 13 R283; reset disabled -/
  encodes : Vector Encode 4 := Vector.replicate 4 {}
  /-- core whose motion engine analyses the context; w 3 bits; 13 R295; reset none -/
  analysisCore : Option (Fin 8) := none
  /-- vector export: slot count and host address; w 9 bytes; 13 R297; reset off -/
  vecExport : Option (Nat × BitVec 64) := none
  /-- bindings of the four outputs; w 6 bytes × 4; 14 R307; reset unbound -/
  binds : Vector (Option Binding) 4 := Vector.replicate 4 none
  /-- overlay planes of the outputs bound to the context, plane 0 and 1; w 24 bytes × 8; 14 R309; reset off -/
  overlays : Vector (Overlay × Overlay) 4 := Vector.replicate 4 ({}, {})
  /-- video and ancillary senders of the context by stream number; w 64 bytes × 24; 15 R333; reset none -/
  streams : List (Fin 24 × Stream) := []
  /-- split bands; w HASP_SET_SPLIT; 18 R375; reset not split -/
  split : Option Split := none
  deriving DecidableEq, Repr

/-- A time trigger's program (R331). -/
structure TrigProg where
  /-- enabled; w 1 bit; 15 R331; reset disabled -/
  on : Bool := false
  /-- low pulse; w 1 bit; 15 R331; reset high pulse -/
  low : Bool := false
  /-- pulse width, ns; w 32 bits; 15 R331; reset 0 -/
  width : Nat := 0
  /-- start time, ns since the epoch; w 48-bit s + 32-bit ns; 15 R331; reset 0 -/
  start : Nat := 0
  /-- period P, ns, 0 one-shot; w 64 bits; 15 R331; reset 0 -/
  period : Nat := 0
  deriving DecidableEq, Repr

/-- A compare table of a position channel (R360). -/
structure CompareTable where
  /-- low pulse; w 1 bit; 17 R360; reset high pulse -/
  low : Bool := false
  /-- pulse width, ns; w 32 bits; 17 R360; reset 0 -/
  width : Nat := 0
  /-- entries: position, positive allowed, negative allowed; w 8 bytes × 1,024; 17 R360; reset none -/
  entries : List (Int × Bool × Bool) := []
  deriving DecidableEq, Repr

/-- A raster of a timing generator (OUT_SET_RASTER). -/
structure Raster where
  /-- raster code; w 8 bits; 14 R302; reset stopped -/
  code : Nat := 0
  /-- rate code; w 4 bits; 14 R302; reset stopped -/
  rate : Nat := 0
  /-- sync: 0 free-run, 1 genlock, 2 tearing effect; w 2 bits; 14 R310; reset 0 -/
  sync : Nat := 0
  /-- pixel format; w 2 bits; 14 R307; reset 0 -/
  format : Nat := 0
  /-- freeze N; w 8 bits; 14 R314; reset 0 -/
  freeze : Nat := 0
  /-- reference edges: REF_V falling, REF_H falling; w 2 bits; 14 R310; reset rising -/
  edges : BitVec 2 := 0
  /-- phase lines and samples; w 16 bits × 2; 14 R310; reset 0 -/
  phase : Nat × Nat := (0, 0)
  /-- border colour; w 16 bits × 3; 14 R307; reset 0 -/
  border : Nat × Nat × Nat := (0, 0, 0)
  /-- pixel clock, kHz; w 32 bits; 14 R302; reset 0 -/
  clock : Nat := 0
  /-- timing: h active, h total, h sync start, h sync width, v active, v total, v sync start, v sync width; w 16 bits × 8; 14 R302; reset 0 -/
  timing : List Nat := []
  /-- sync polarity; w 2 bits; 14 R302; reset 0 -/
  polarity : BitVec 2 := 0
  /-- frame period of TG3, ns; w 32 bits; 14 R311; reset 0 -/
  period : Nat := 0
  deriving DecidableEq, Repr

/-- A tick source selection (TICK_SET_SOURCE). -/
structure TickSource where
  /-- source code; w 3 bits; 02 R34; reset 0 (internal) -/
  source : Nat := 0
  /-- instance; w 2 bits; 02 R34; reset 0 -/
  inst : Nat := 0
  /-- falling edge; w 1 bit; 02 R34; reset rising -/
  falling : Bool := false
  /-- configured period, ps; w 64 bits; 02 R35; reset 20 ms (R39) -/
  period : Nat := 20000000000
  /-- phase offset, ps; w 64 bits; 02 R36; reset 0 -/
  phase : Nat := 0
  deriving DecidableEq, Repr

/-- What an accepted command makes live at its hinge (R48, R49): one constructor per kind of bank part. -/
inductive Change where
  | source (c : CtxId) (v : Source)
  | start (c : CtxId)
  | stop (c : CtxId)
  | pattern (c : CtxId) (code : Nat) (flat : Nat)
  | doubleFrame (c : CtxId) (on : Bool)
  | restripe (c : CtxId) (dead : List UnitId)
  | cfa (c : CtxId) (pw ph : Nat) (cells : List Nat)
  | lin (c : CtxId) (k : Fin 4) (version : Nat)
  | black (c : CtxId) (k : Fin 4) (v : FrontCap)
  | column (c : CtxId) (k : Fin 4) (version : Option Nat)
  | dark (c : CtxId) (k : Fin 4) (bind : Option PixelBind)
  | flat (c : CtxId) (bind : Option PixelBind)
  | defects (c : CtxId) (hot cold : Nat) (version : Option (Option Nat))
  | shading (c : CtxId) (mode : Shading) (grid : Option Nat)
  | merge (c : CtxId) (motion : Bool) (ref : Fin 4) (tm rm : Nat) (gains : List (Nat × Nat × Nat))
  | taps (c : CtxId) (t1 t2 : Bool)
  | develop (c : CtxId) (v : Develop)
  | noise (c : CtxId) (v : Noise) (core : Option (Fin 8))
  | grade (c : CtxId) (g : GradeId) (v : Grade)
  | gradeTables (c : CtxId) (g : GradeId) (shaper : Option (List Nat)) (curve : Option (List (BitVec 32)))
  | scaler (c : CtxId) (g : GradeId) (taps : List Int)
  | stat (c : CtxId) (v : StatCfg)
  | statHost (c : CtxId) (addr : Option (BitVec 64))
  | recTarget (c : CtxId) (v : RecCfg)
  | recStart (c : CtxId) (clip : BitVec 64)
  | recStop (c : CtxId) (reason : Nat)
  | recTrigger (c : CtxId)
  | encode (c : CtxId) (g : GradeId) (v : Encode)
  | keyPicture (c : CtxId) (g : Option GradeId)
  | vecExport (c : CtxId) (v : Option (Nat × BitVec 64))
  | bind (o : QuadId) (c : CtxId) (v : Option Binding)
  | overlay (o : QuadId) (second : Bool) (v : Overlay)
  | raster (o : QuadId) (v : Option Raster)
  | outAudio (o : QuadId) (groups : BitVec 4) (channels : List (BitVec 16))
  | stream (i : Fin 24) (v : Stream)
  | trigger (t : QuadId) (v : TrigProg)
  | audioMask (p : QuadId) (input output : BitVec 16)
  | audioStart (mask : BitVec 4)
  | compare (q : QuadId) (v : CompareTable)
  | tickSource (v : TickSource)
  | tickRate (period : Nat)
  | hostEngines (raw general : Nat)
  | rates (hbm : List Nat) (ports : List Nat)
  | domain (d : Fin 25) (state : Nat)
  | split (c : CtxId) (v : Option Split)
  deriving DecidableEq, Repr

/-- An armed change: the hinge it is armed for and its acceptance sequence (R48, R49, R71). -/
structure Armed where
  /-- hinge it is armed for; w 64 bits; 02 R48; reset none armed -/
  hinge : Nat
  /-- acceptance sequence; w 32 bits; 03 R71; reset none armed -/
  seq : Nat
  /-- the change; w -; 02 R43; reset none armed -/
  change : Change
  deriving DecidableEq, Repr

/-- One received line of one capture in a landing slot (R123, R132). -/
structure Row where
  /-- capture; w 2 bits; 05 R123; reset none landed -/
  cap : Fin 4
  /-- line number; w 16 bits; 05 R123; reset none landed -/
  line : Nat
  /-- received codes, the valid range at the left; w 14 bits each; 05 R123; reset none landed -/
  samples : List Nat
  deriving DecidableEq, Repr

/-- How far a frame has come (R1, R42, R46, R131). -/
inductive FramePhase where
  /-- taken at its hinge, nothing of it has landed -/
  | taken
  /-- its lines are arriving -/
  | opened
  /-- landed in the interval given; it awaits the hinge that opens its development interval -/
  | landed
  /-- units run its passes -/
  | developing
  /-- its passes have ended; its results go live at the next hinge -/
  | developed
  /-- aborted or dropped: a drop record takes its place -/
  | dropped
  deriving DecidableEq, Repr

/-- A frame in flight, with the bank that governs it for its whole life (R43). -/
structure Frame where
  /-- frame number; w 48 bits; 02 R41; reset none in flight -/
  number : Nat
  /-- taking hinge; w 64 bits; 02 R40; reset none in flight -/
  tick : Nat
  /-- phase of its life; w -; 02 R42; reset none in flight -/
  phase : FramePhase := .taken
  /-- frame marks; w 16 bits; 00 R6; reset none in flight -/
  marks : BitVec 16 := 0
  /-- the governing bank; w -; 02 R43; reset none in flight -/
  bank : Bank
  /-- interval in which it landed; w 64 bits; 02 R42; reset none in flight -/
  landedIn : Nat := 0
  /-- captures whose FRAME_START has arrived; w 4 bits; 05 R134; reset none in flight -/
  begun : BitVec 4 := 0
  /-- captures whose frame has closed; w 4 bits; 05 R134; reset none in flight -/
  closed : BitVec 4 := 0
  /-- frame count of its FRAME_START; w 16 bits; 04 R98; reset none in flight -/
  count : BitVec 16 := 0
  /-- hinge whose interval held its first FRAME_START; w 64 bits; 05 R127; reset none in flight -/
  startedIn : Nat := 0
  /-- overflow dropped the rest; w 1 bit; 05 R124; reset none in flight -/
  overflow : Bool := false
  /-- it has a landing slot; w 1 bit; 05 R124; reset none in flight -/
  slot : Bool := false
  /-- landed rows in the slot; w 1.75 bytes per sample; 05 R123; reset none in flight -/
  rows : List Row := []
  /-- embedded-data lines kept, with their capture; w -; 05 R134; reset none in flight -/
  embedded : List (Nat × List Nat) := []
  /-- record-mark codes attached; w 8 bits each; 02 R52; reset none in flight -/
  recordMarks : List Byte := []
  /-- grades whose picture of this frame is to be an IDR; w 4 bits; 13 R290; reset none in flight -/
  keys : BitVec 4 := 0
  /-- raw-pack chunks not yet ended, by chunk index; w -; 10 R229; reset none in flight -/
  chunksLeft : List Nat := []
  /-- its late chunks have been counted; w 1 bit; 10 R229; reset none in flight -/
  lateCounted : Bool := false
  /-- chunks of the frame; w 16 bits; 11 R247; reset none in flight -/
  chunksExpected : Nat := 0
  /-- chunks recorded; w 16 bits; 11 R247; reset none in flight -/
  chunksDone : Nat := 0
  /-- bytes of its staging area or ring slot in use; w 32 bits; 11 R240; reset none in flight -/
  staged : Nat := 0
  /-- records of the frame; w 32 bits; 11 R247; reset none in flight -/
  records : Nat := 0
  /-- clip that records the frame; w 64 bits; 11 R238; reset none in flight -/
  clip : Option Nat := none
  /-- stripe width at its placement; w 14 bits; 01 R11; reset none in flight -/
  stripe : Nat := 0
  /-- it holds a T1 buffer; w 1 bit; 06 R153; reset none in flight -/
  tap : Bool := false
  /-- the T1 tap's rows; w 1.75 bytes per sample; 06 R152; reset none in flight -/
  tapRows : List Row := []
  /-- grades its bank cannot produce; w 4 bits; 07 R182; reset none in flight -/
  gradesOff : BitVec 4 := 0
  /-- gap reason; w 8 bits; 11 R240; reset none in flight -/
  gap : Nat := 0
  /-- optical-black row means of other bands: capture, channel, row and mean in sixteenths; w 32 bits each; 18 R377; reset none in flight -/
  means : List (Nat × Nat × Nat × Int) := []
  /-- time of the taking hinge, ns; w 48-bit s + 32-bit ns; 11 R247; reset none in flight -/
  time : Nat := 0
  deriving DecidableEq, Repr

end Sys2Proof.Machine
end

