-- ==== Sys2Proof/Machine/PartsCore.lean ====
section
/-!
DEFINITION. PartsCore: the state of the tick generator (02), the mailboxes (03), the fault collector and the
units (19), and reset and boot (20). Each field's docstring gives its width, the rule that names it and its
reset value, which is the field's default.
-/

namespace Sys2Proof.Machine

/-- Generator states, in the code order of TICK_GET_STATE. -/
inductive GenState where
  | locked | holdover | relocking | ratePending
  deriving DecidableEq, Repr

/-- The code of TICK_GET_STATE offset 8. -/
def GenState.code : GenState → Nat
  | .locked => 0 | .holdover => 1 | .relocking => 2 | .ratePending => 3

/-- A queued fast doorbell word (R53). -/
structure Doorbell where
  /-- action, 1 to 4; w 4 bits; 02 R51; reset queue empty -/
  action : Nat
  /-- context; w 3 bits; 02 R51; reset queue empty -/
  ctx : CtxId
  /-- argument; w 8 bits; 02 R51; reset queue empty -/
  arg : Nat
  /-- sequence of the first word; w 16 bits; 02 R53; reset queue empty -/
  seq : BitVec 16
  /-- words merged into it; w 8 bits; 02 R53; reset queue empty -/
  merged : Nat := 0
  deriving DecidableEq, Repr

/-- An accepted source switch or rate confirmation on its way (R60). -/
structure Switch where
  /-- hinge number from which the new source governs; w 64 bits; 02 R60; reset none -/
  hinge : Nat
  /-- the source and period to take over; w TICK_SET_SOURCE; 02 R60; reset none -/
  next : TickSource
  deriving DecidableEq, Repr

/-- The tick generator and the hinge sequencer (02). Times are picoseconds of the TIME clock. -/
structure TickGen where
  /-- Kongaord has started the generator; w 1 bit; 02 R39; reset stopped -/
  running : Bool := false
  /-- tick counter; w 64 bits; 02 R39; reset 0 -/
  counter : BitVec 64 := 0
  /-- hinges since the generator started; w -; 02 R39; reset 0 -/
  hinges : Nat := 0
  /-- the guard of the next hinge has opened; w 1 bit; 02 R45; reset closed -/
  guardOpen : Bool := false
  /-- live source, period and phase offset; w TICK_SET_SOURCE; 02 R34; reset internal, 20 ms (R39) -/
  live : TickSource := {}
  /-- generator state; w 2 bits; 02 R53; reset locked (the internal generator, R59) -/
  state : GenState := .locked
  /-- holdover cause; w 3 bits; 02 R57; reset 0 -/
  cause : Nat := 0
  /-- period at which hinges are predicted, ps; w 64 bits; 02 R36; reset 20 ms (R39) -/
  period : Nat := 20000000000
  /-- predicted instant of the next hinge, ps; w 64 bits; 02 R36; reset 0 DESIGN CHOICE (log 9) -/
  next : Int := 0
  /-- instant of the last hinge, ps; w 64 bits; 02 R36; reset 0 DESIGN CHOICE (log 9) -/
  lastAt : Int := 0
  /-- time base at the last hinge, ns; w 80 bits; 02 R53; reset 0 DESIGN CHOICE (log 9) -/
  lastTime : Nat := 0
  /-- instants of up to nine accepted source edges, newest first; w 64 bits × 9; 02 R36; reset none -/
  edges : List Int := []
  /-- last source edge that was not a glitch; w 64 bits; 02 R57; reset none -/
  lastEdge : Option Int := none
  /-- glitches ignored; w 32 bits; 02 R57; reset 0 -/
  glitches : BitVec 32 := 0
  /-- source periods in a row within 0.1% of the holdover period; w 4 bits; 02 R59; reset 0 -/
  agreeing : Nat := 0
  /-- hinges from the first holdover hinge on; w 32 bits; 02 R59; reset 0 -/
  heldHinges : BitVec 32 := 0
  /-- hinges of stage 2 of relocking; w 32 bits; 02 R59; reset 0 -/
  stage2 : BitVec 32 := 0
  /-- measured period of a pending rate change, ps; w 64 bits; 02 R60; reset none -/
  rate : Option Nat := none
  /-- source switch or rate confirmation accepted; w -; 02 R60; reset none -/
  switch : Option Switch := none
  /-- holdover began in the interval now running; w 1 bit; 02 R58; reset false -/
  heldNow : Bool := false
  /-- distance from the coming hinge to its source edge plus the phase offset while relocking, ps; w 64 bits; 02 R59; reset 0 -/
  err : Int := 0
  /-- SLREF is present; w 1 bit; 02 R57; reset present DESIGN CHOICE (log 9) -/
  slref : Bool := true
  /-- develop passes aborted at a guard; w 32 bits; 02 R53; reset 0 -/
  overruns : BitVec 32 := 0
  /-- fast doorbell queue; w 16 words; 02 R53; reset empty -/
  queue : List Doorbell := []
  /-- doorbell words latched at the guard; w 16 words; 02 R44; reset empty -/
  latched : List Doorbell := []
  /-- doorbell lost count; w 32 bits; 02 R53; reset 0 -/
  lost : BitVec 32 := 0
  /-- doorbell malformed count; w 32 bits; 02 R53; reset 0 -/
  malformed : BitVec 32 := 0
  /-- words refused by the full queue in this interval; w 32 bits; 02 R53; reset 0 -/
  lostNow : BitVec 32 := 0
  /-- malformed words in this interval; w 32 bits; 02 R53; reset 0 -/
  malformedNow : BitVec 32 := 0
  deriving DecidableEq, Repr

/-- A completion entry (R71). -/
structure Completion where
  /-- tag; w 16 bits; 03 R71; reset 0 DESIGN CHOICE (log 9) -/
  tag : BitVec 16 := 0
  /-- status; w 16 bits; 03 R80; reset 0 DESIGN CHOICE (log 9) -/
  status : BitVec 16 := 0
  /-- opcode; w 16 bits; 03 R71; reset 0 DESIGN CHOICE (log 9) -/
  opcode : BitVec 16 := 0
  /-- effective frame; w 48 bits; 03 R71; reset 0 DESIGN CHOICE (log 9) -/
  frame : BitVec 48 := 0
  /-- context; w 8 bits; 03 R71; reset 0 DESIGN CHOICE (log 9) -/
  ctx : Byte := 0
  /-- command slot; w 8 bits; 03 R71; reset 0 DESIGN CHOICE (log 9) -/
  slot : Byte := 0
  /-- detail; w 64 bits; 03 R71; reset 0 DESIGN CHOICE (log 9) -/
  detail : BitVec 64 := 0
  /-- acceptance sequence; w 32 bits; 03 R71; reset 0 DESIGN CHOICE (log 9) -/
  seq : BitVec 32 := 0
  deriving DecidableEq, Repr

/-- An event entry (R72). -/
structure EventEntry where
  /-- event code; w 16 bits; 03 R72; reset 0 DESIGN CHOICE (log 9) -/
  code : BitVec 16 := 0
  /-- context; w 8 bits; 03 R72; reset 0 DESIGN CHOICE (log 9) -/
  ctx : Byte := 0
  /-- package-wide event count; w 32 bits; 03 R72; reset 0 DESIGN CHOICE (log 9) -/
  seq : BitVec 32 := 0
  /-- tick counter when raised; w 64 bits; 03 R72; reset 0 DESIGN CHOICE (log 9) -/
  tick : BitVec 64 := 0
  /-- frame number; w 48 bits; 03 R72; reset 0 DESIGN CHOICE (log 9) -/
  frame : BitVec 48 := 0
  /-- detail; w 64 bits; 03 R72; reset 0 DESIGN CHOICE (log 9) -/
  detail : BitVec 64 := 0
  deriving DecidableEq, Repr

/-- A command that holds its mailbox until a later row ends it (R82). -/
structure InExecution where
  /-- tag; w 16 bits; 03 R69; reset none in execution -/
  tag : BitVec 16
  /-- opcode; w 16 bits; 03 R69; reset none in execution -/
  opcode : BitVec 16
  /-- slot of its entry; w 8 bits; 03 R71; reset none in execution -/
  slot : Byte
  /-- context of its completion; w 8 bits; 03 R71; reset none in execution -/
  ctx : Byte
  /-- acceptance sequence; w 32 bits; 03 R71; reset none in execution -/
  seq : BitVec 32
  /-- a ring reset came meanwhile, so that no completion is posted; w 1 bit; 03 R68; reset none in execution -/
  silent : Bool := false
  deriving DecidableEq, Repr

/-- A background command that is outstanding (R82). -/
structure Background where
  /-- tag; w 16 bits; 03 R82; reset none outstanding -/
  tag : BitVec 16
  /-- opcode; w 16 bits; 03 R82; reset none outstanding -/
  opcode : BitVec 16
  /-- context; w 8 bits; 03 R82; reset none outstanding -/
  ctx : Byte
  /-- false once a ring reset has discarded its SYS_BACKGROUND_DONE; w 1 bit; 03 R73; reset none outstanding -/
  report : Bool := true
  deriving DecidableEq, Repr

/-- One mailbox (R64, R66 to R73). -/
structure Mailbox where
  /-- MBm_CTRL bit 0, enable; w 1 bit; 03 R64; reset 0 -/
  enabled : Bool := false
  /-- MBm_CTRL bit 1, ring reset, until it clears; w 1 bit; 03 R68; reset 0 -/
  resetting : Bool := false
  /-- MBm_CMD_TAIL; w 6 bits; 03 R64; reset 0 -/
  cmdTail : BitVec 6 := 0
  /-- MBm_CMD_HEAD; w 6 bits; 03 R64; reset 0 -/
  cmdHead : BitVec 6 := 0
  /-- MBm_CPL_HEAD; w 6 bits; 03 R64; reset 0 -/
  cplHead : BitVec 6 := 0
  /-- MBm_CPL_TAIL; w 6 bits; 03 R64; reset 0 -/
  cplTail : BitVec 6 := 0
  /-- MBm_EVT_HEAD; w 7 bits; 03 R64; reset 0 -/
  evtHead : BitVec 7 := 0
  /-- MBm_EVT_TAIL; w 7 bits; 03 R64; reset 0 -/
  evtTail : BitVec 7 := 0
  /-- MBm_EVT_LOST; w 32 bits; 03 R64; reset 0 -/
  evtLost : BitVec 32 := 0
  /-- events discarded since the last SYS_EVENTS_LOST; w 64 bits; 03 R73; reset 0 -/
  lostSince : Nat := 0
  /-- event mask; w 32 bits; 03 R73; reset 0, mailbox 0 0x000F_FFFE -/
  mask : BitVec 32 := 0
  /-- completion ring; w 64 × 32 bytes; 03 R67; reset zero DESIGN CHOICE (log 9) -/
  cpl : Vector Completion 64 := Vector.replicate 64 {}
  /-- event ring; w 128 × 32 bytes; 03 R67; reset zero DESIGN CHOICE (log 9) -/
  evt : Vector EventEntry 128 := Vector.replicate 128 {}
  /-- payload arena as the device has written it; w 1 MiB; 03 R67; reset zero DESIGN CHOICE (log 10) -/
  arena : List Host.Cell := []
  /-- tail as Kongaord last read it; w 6 bits; 03 R76; reset 0 -/
  tailSeen : BitVec 6 := 0
  /-- commands it may still take in this management tick; w 4 bits; 03 R78; reset 0 -/
  quota : Nat := 0
  /-- entries that the device itself placed in the ring of mailbox 4 or 5, oldest first, with their opcodes; w 64; 18 R372; reset none -/
  expected : List (Nat × Entry) := []
  /-- payload bytes of the command delivered last; w 21 bits; 18 R372; reset 0 -/
  delivered : Nat := 0
  /-- command in execution; w -; 03 R82; reset none -/
  executing : Option InExecution := none
  /-- background commands outstanding; w 64; 03 R82; reset none -/
  background : List Background := []
  /-- SYS_BACKGROUND_DONE entries held back; w 64; 03 R73; reset none -/
  heldEvents : List EventEntry := []
  /-- a completion or event was written since its vector was last raised: completion, event; w 2 bits; 03 R75; reset clear -/
  written : Bool × Bool := (false, false)
  deriving DecidableEq, Repr

/-- One MSI-X table entry (R63). -/
structure MsixEntry where
  /-- message address; w 64 bits; 03 R63; reset 0 PRESUMED (log 11) -/
  addr : BitVec 64 := 0
  /-- message data; w 32 bits; 03 R63; reset 0 PRESUMED (log 11) -/
  data : BitVec 32 := 0
  /-- vector control, bit 0 masks; w 32 bits; 03 R63; reset 1 PRESUMED (log 11) -/
  control : BitVec 32 := 1
  deriving DecidableEq, Repr

/-- A record of R388: latch, history entry or deadbolt record. -/
structure FaultRecord where
  /-- source; w 8 bits; 19 R388; reset no record -/
  source : SourceId
  /-- severity as applied; w 2 bits; 19 R388; reset no record -/
  severity : Nat
  /-- fixed severity; w 1 bit; 19 R388; reset no record -/
  fixed : Bool
  /-- raises merged; w 32 bits; 19 R388; reset no record -/
  count : BitVec 32 := 1
  /-- tick at the first raise; w 64 bits; 19 R388; reset no record -/
  tick : BitVec 64
  /-- frame number; w 48 bits; 19 R388; reset no record -/
  frame : BitVec 48 := 0
  /-- context; w 8 bits; 19 R388; reset no record -/
  ctx : Byte := 0xFF
  /-- detail; w 64 bits; 19 R388; reset no record -/
  detail : BitVec 64 := 0
  /-- hinges at the first raise, for the merge of R386; w -; 19 R386; reset no record -/
  hinge : Nat := 0
  deriving DecidableEq, Repr

/-- The default severities of R384, source by source. -/
def defaultSeverities : List Nat :=
  [3, 0, 1, 1, 3, 3, 3, 3, 1, 3, 3, 0, 1, 1, 1, 1] ++
  [1, 1, 1, 1, 1, 1, 1, 1, 0, 0, 0, 0, 1, 0, 0, 0] ++
  [1, 1, 1, 1, 2, 2, 2, 2, 1, 1, 1, 1, 0, 0, 0, 0] ++
  [1, 1, 1, 1, 0, 0, 0, 0, 1, 1, 1, 1, 1, 3, 0, 0] ++
  [1, 1, 1, 1, 1, 1, 1, 1, 1, 1, 1, 1, 1, 1, 1, 2] ++
  [0, 1, 1, 1, 1, 1, 0, 0, 1, 0, 1, 0, 1, 1, 3, 3]

/-- The fault collector (R383 to R395). -/
structure Collector where
  /-- severity of each source; w 2 bits × 96; 19 R384; reset the defaults of R384 -/
  severity : Vector Nat 96 := ⟨defaultSeverities.toArray, rfl⟩
  /-- count of each source, saturating; w 32 bits × 96; 19 R386; reset 0 -/
  counts : Vector (BitVec 32) 96 := Vector.replicate 96 0
  /-- history ring, oldest first; w 64 × 32 bytes; 19 R386; reset empty -/
  history : List FaultRecord := []
  /-- history entries overwritten; w 32 bits; 19 R386; reset 0 -/
  historyLost : BitVec 32 := 0
  /-- first-source latch; w 32 bytes; 19 R387; reset empty -/
  latch : Option FaultRecord := none
  /-- latch overflow; w 1 bit; 19 R387; reset clear -/
  overflow : Bool := false
  /-- latch untrusted; w 1 bit; 19 R391; reset clear -/
  untrusted : Bool := false
  /-- legacy fault word, bits 0 to 28; w 29 bits; 19 R389; reset 0 -/
  legacy : BitVec 32 := 0
  /-- deadbolt record; w 32 bytes; 19 R393; reset none -/
  deadbolt : Option FaultRecord := none
  /-- FLT_DEADBOLT is still to be posted; w 1 bit; 19 R393; reset clear -/
  deadboltDue : Bool := false
  /-- FAULT_N software level, true asserted; w 1 bit; 19 R390; reset released -/
  pinLevel : Bool := false
  /-- FAULT_N pulsing enabled; w 1 bit; 19 R390; reset enabled -/
  pulseEnable : Bool := true
  /-- a FAULT_N pulse is in progress; w 1 bit; 19 R390; reset none -/
  pulse : Bool := false
  /-- raises of each source since its previous FLT_RAISED; w 32 bits × 96; 19 R403; reset 0 -/
  since : Vector (BitVec 32) 96 := Vector.replicate 96 0
  /-- sources raised in this interval; w 96 bits; 19 R403; reset none -/
  seen : List SourceId := []
  /-- sources whose FLT_RAISED the next management tick posts, with the context; w 96; 19 R403; reset none -/
  due : List (SourceId × Byte) := []
  /-- ACT actions running, by source; w 6; 19 R385; reset none -/
  acting : List SourceId := []
  /-- re-stripings armed, with the hinge at which each action ends; w 4; 19 R398; reset none -/
  striping : List (SourceId × Nat) := []
  /-- previous deadbolt record, as the retention held it at the last management release; w 32 bytes; 19 R395; reset none -/
  previous : Option FaultRecord := none
  /-- takeovers; w 32 bits; 19 FLT_GET_STATUS; reset 0 -/
  takeovers : BitVec 32 := 0
  /-- requests of fenced units discarded; w 32 bits; 19 FLT_GET_STATUS; reset 0 -/
  fenced : BitVec 32 := 0
  /-- instant of the last lockstep mismatch, ps; w 64 bits; 19 R384; reset none -/
  lockstepAt : Option Int := none
  deriving DecidableEq, Repr

/-- One cluster (R15, R16, R396 to R400). -/
structure Cluster where
  /-- units that hold stripe assignments, in stripe order; w 4 bits × 8; 01 R16; reset units 0 to 7 -/
  slots : List (Fin 9) := [0, 1, 2, 3, 4, 5, 6, 7]
  /-- the spare; w 4 bits; 01 R16; reset unit 8 -/
  spare : Option (Fin 9) := some 8
  /-- fenced units; w 9 bits; 19 R396; reset none -/
  fenced : List (Fin 9) := []
  /-- dead units whose stripe no spare took; w 9 bits; 19 R397; reset none -/
  uncovered : List (Fin 9) := []
  /-- unit under reintegration test, with its mailbox and tag; w -; 19 R400; reset none -/
  testing : Option (Fin 9 × MbId × BitVec 16) := none
  /-- unit that passed and becomes the spare at the next hinge; w 4 bits; 19 R400; reset none -/
  returning : Option (Fin 9) := none
  /-- units made to fail their next check by FLT_INJECT, with the detail; w 9; 19 R403; reset none -/
  injected : List (Fin 9 × BitVec 64) := []
  deriving DecidableEq, Repr

/-- One region (R18 to R20, R399). -/
structure Region where
  /-- clusters 0 and 1; w 2; 01 R18; reset with their spares -/
  clusters : Vector Cluster 2 := Vector.replicate 2 {}
  /-- requests of fenced units discarded since the last hinge; w 32 bits; 19 R399; reset 0 -/
  fencedNow : BitVec 32 := 0
  deriving DecidableEq, Repr

/-- Where the release order of R410 stands. -/
inductive BootStep where
  /-- a source is asserted -/
  | held
  /-- the 2 ms stretch runs (steps 1, 2) -/
  | stretch
  /-- RST_N released, to be checked at 2.010 ms (step 3) -/
  | released
  /-- strap conversions run (step 4) -/
  | strap
  /-- fuse and trim load attempt n runs (steps 5, 6) -/
  | fuses (attempt : Nat)
  /-- the load has ended; the MGMT PLL locks (step 7) -/
  | locking
  /-- the boot ROM runs the keyway (step 8) -/
  | keyway
  /-- Kongaord starts (step 9) -/
  | starting
  /-- a worker is brought up and waits for its manager's first broadcast (R370) -/
  | joining
  /-- START_COMPLETE posted, or deadbolt service reached -/
  | complete
  /-- recovery mode (R417) -/
  | recovery
  deriving DecidableEq, Repr

/-- The always-on retention (R407). -/
structure Retention where
  /-- failed-start count; w 2 bits; 20 R407; reset 0 -/
  failedStarts : Nat := 0
  /-- last reset cause; w 8 bits; 20 R408; reset 0 -/
  cause : Byte := 0
  /-- fuse-retry flag; w 1 bit; 20 R415; reset clear -/
  fuseRetry : Bool := false
  /-- forced-recovery flag; w 1 bit; 20 R407; reset clear -/
  forced : Bool := false
  /-- previous deadbolt record; w 32 bytes; 19 R395; reset none -/
  prevDeadbolt : Option FaultRecord := none
  deriving DecidableEq, Repr

/-- Reset, strap, fuses and the boot flow (20). -/
structure Boot where
  /-- sources asserted now; w 5 bits; 20 R404; reset AON power-on -/
  asserted : List ResetSource := [.aonPowerOn]
  /-- sources asserted since the last completed release order; w 5 bits; 20 R406; reset AON power-on -/
  since : List ResetSource := [.aonPowerOn]
  /-- step of the release order; w -; 20 R410; reset held -/
  step : BootStep := .held
  /-- the device drives RST_N low; w 1 bit; 20 R406; reset false (no stretch runs) -/
  drivesRstN : Bool := false
  /-- always-on retention; w -; 20 R407; reset zero -/
  retention : Retention := {}
  /-- the retention was reinitialised; w 1 bit; 20 R417; reset clear -/
  reinitialised : Bool := false
  /-- thermal latch; w 1 bit; 20 R411; reset clear -/
  thermalLatch : Bool := false
  /-- strap reading; w 8 bits; 20 R412; reset 0 DESIGN CHOICE (log 9) -/
  reading : Nat := 0
  /-- strap spread; w 8 bits; 20 R413; reset 0 DESIGN CHOICE (log 9) -/
  spread : Nat := 0
  /-- strap code; w 4 bits; 20 R412; reset 0 DESIGN CHOICE (log 9) -/
  strap : Nat := 0
  /-- strap fault; w 1 bit; 20 R413; reset clear -/
  strapFault : Bool := false
  /-- two-wire address; w 7 bits; 20 R414; reset 0x58 DESIGN CHOICE (log 9) -/
  twoWire : Nat := 0x58
  /-- fuse shadow registers; w serial, key hash, floor, MAC; 20 R415; reset invalid -/
  fuses : Option Fuses := none
  /-- fuse load attempts in this release order; w 2 bits; 20 R417; reset 0 -/
  attempts : Nat := 0
  /-- recovery reason; w 3 bits; 20 R417; reset 0 -/
  recovery : Nat := 0
  /-- slot A result; w 16 bits; 20 R417; reset 0 -/
  slotA : Nat := 0
  /-- slot B result; w 16 bits; 20 R417; reset 0 -/
  slotB : Nat := 0
  /-- failed-start count as at step 3; w 2 bits; 20 R416; reset 0 -/
  failedAtStep3 : Nat := 0
  /-- start watchdog runs; w 1 bit; 20 R416; reset stopped -/
  watchdog : Bool := false
  /-- a SYS_RESET waits for its pin reset; w 1 bit; 20 R404; reset clear -/
  commandReset : Bool := false
  /-- firmware started by the keyway; w version, measurement; 21 R425; reset none -/
  firmware : Option FirmwareInfo := none
  deriving DecidableEq, Repr

end Sys2Proof.Machine
end

