-- ==== Sys2Proof/Machine/PartsLink.lean ====
section
/-!
DEFINITION. PartsLink: the state of the sensor ports (04) and of the contexts (05).
-/

namespace Sys2Proof.Machine

/-- Port states, in the code order of R117. -/
inductive PortState where
  | off | detect | train | bitLock | blockLock | caps | active | loopback
  deriving DecidableEq, Repr

/-- The code of R117. -/
def PortState.code : PortState → Nat
  | .off => 0 | .detect => 1 | .train => 2 | .bitLock => 3 | .blockLock => 4 | .caps => 5 | .active => 6
  | .loopback => 7

/-- A port's configuration (SL_PORT_CONFIG). -/
structure PortCfg where
  /-- bond: 0 none, 1 two ports, 2 four ports; w 2 bits; 04 R89; reset unconfigured -/
  bond : Nat
  /-- data lanes; w 5 bits; 04 R86; reset unconfigured -/
  lanes : Nat
  /-- line-rate code; w 3 bits; 04 R87; reset unconfigured -/
  rate : Nat
  /-- parity lane on; w 1 bit; 04 R103; reset unconfigured -/
  parity : Bool
  /-- own reference mode; w 1 bit; 04 R88; reset unconfigured -/
  ownRef : Bool
  /-- tick markers on; w 1 bit; 04 R107; reset unconfigured -/
  markers : Bool
  /-- check-error threshold; w 16 bits; 04 R114; reset unconfigured -/
  threshold : Nat
  deriving DecidableEq, Repr

/-- One receive lane's counters (SL_GET_STATUS, R105, R113). -/
structure LaneStat where
  /-- invalid headers; w 32 bits; 04 R105; reset 0 -/
  invalid : BitVec 32 := 0
  /-- block-lock losses; w 16 bits; 04 R105; reset 0 -/
  lockLosses : BitVec 16 := 0
  /-- measured skew, UI; w 16 bits; 04 R97; reset 0 -/
  skew : BitVec 16 := 0
  /-- block lock held; w 1 bit; 04 R105; reset none -/
  locked : Bool := false
  /-- alignment errors; w 32 bits; 04 R97; reset 0 -/
  alignErrors : BitVec 32 := 0
  /-- bit errors of the loopback checker; w 32 bits; 04 R113; reset 0 -/
  bitErrors : BitVec 32 := 0
  /-- lock losses of the loopback checker; w 16 bits; 04 R113; reset 0 -/
  checkerLosses : BitVec 16 := 0
  deriving DecidableEq, Repr

/-- A loopback (R113). -/
structure Loopback where
  /-- mode 1 to 3; w 2 bits; 04 R113; reset no loopback -/
  mode : Nat
  /-- lane; w 5 bits; 04 R113; reset no loopback -/
  lane : Nat
  /-- pattern; w 2 bits; 04 R113; reset no loopback -/
  pattern : Nat
  /-- line-rate code; w 3 bits; 04 R113; reset no loopback -/
  rate : Nat
  deriving DecidableEq, Repr

/-- An outstanding register message (R109). -/
structure RegTag where
  /-- tag; w 8 bits; 04 R109; reset none -/
  tag : Byte
  /-- mailbox of the SL_REG_ACCESS; w 3 bits; 04 R109; reset none -/
  mb : MbId
  /-- the message as sent; w 64 bits; 04 R109; reset none -/
  message : BitVec 64
  /-- it has been resent; w 1 bit; 04 R109; reset none -/
  resent : Bool := false
  deriving DecidableEq, Repr

/-- An open frame of a virtual stream at the port (R98, R127). -/
structure OpenFrame where
  /-- frame count; w 16 bits; 04 R98; reset none open -/
  count : BitVec 16
  /-- mode id; w 8 bits; 04 R98; reset none open -/
  mode : Nat
  /-- contexts whose selection the frame matches; w 8 bits; 05 R119; reset none open -/
  claims : List CtxId
  /-- a block of it was rebuilt; w 1 bit; 04 R104; reset none open -/
  rebuilt : Bool := false
  deriving DecidableEq, Repr

/-- A sensor port (04). The state of a bond is kept on its first port. -/
structure Port where
  /-- configuration; w SL_PORT_CONFIG; 04 R117; reset unconfigured -/
  cfg : Option PortCfg := none
  /-- first port of its bond; w 2 bits; 04 R89; reset none -/
  first : Option PortId := none
  /-- state; w 3 bits; 04 R117; reset OFF -/
  state : PortState := .off
  /-- failed attempts; w 4 bits; 04 R111; reset 0 -/
  attempts : Nat := 0
  /-- last failure reason; w 4 bits; 04 R111; reset 0 -/
  reason : Nat := 0
  /-- failed lanes; w 17 bits; 04 R105; reset none -/
  failed : List (Fin 17) := []
  /-- lane counters; w 8 bytes × 17; 04 R105; reset 0 -/
  lanes : Vector LaneStat 17 := Vector.replicate 17 {}
  /-- sensor capabilities as received, none before CAPS; w 32 bytes; 04 R112; reset none -/
  caps : Option (List Byte) := none
  /-- lines received; w 64 bits; 04 R102; reset 0 -/
  lines : BitVec 64 := 0
  /-- frames received; w 64 bits; 04 R98; reset 0 -/
  frames : BitVec 64 := 0
  /-- header errors; w 32 bits; 04 R102; reset 0 -/
  headerErrors : BitVec 32 := 0
  /-- payload errors; w 32 bits; 04 R102; reset 0 -/
  payloadErrors : BitVec 32 := 0
  /-- control errors; w 32 bits; 04 R102; reset 0 -/
  controlErrors : BitVec 32 := 0
  /-- frames with LANE_RECOVERED; w 32 bits; 04 R104; reset 0 -/
  recovered : BitVec 32 := 0
  /-- blocks rebuilt; w 32 bits; 04 R104; reset 0 -/
  rebuilt : BitVec 32 := 0
  /-- register timeouts; w 32 bits; 04 R109; reset 0 -/
  regTimeouts : BitVec 32 := 0
  /-- check-error lines in this tick; w 32 bits; 04 R114; reset 0 -/
  checksNow : Nat := 0
  /-- outstanding register tags; w 16; 04 R109; reset none -/
  tags : List RegTag := []
  /-- next register tag; w 8 bits; 04 R109; reset 0 DESIGN CHOICE (log 12) -/
  nextTag : Byte := 0
  /-- loopback; w -; 04 R113; reset none -/
  loop : Option Loopback := none
  /-- open frames by virtual stream; w 4; 04 R98; reset none -/
  opened : Vector (Option OpenFrame) 4 := Vector.replicate 4 none
  /-- virtual stream whose frame opened last; w 2 bits; 04 R102; reset 0 DESIGN CHOICE (log 12) -/
  lastOpened : Fin 4 := 0
  /-- landing ring size, bytes; w 64 bits; 05 R121; reset 0 DESIGN CHOICE (log 12) -/
  ring : Nat := 0
  /-- frames unclaimed since the last hinge; w 32 bits; 05 R120; reset 0 -/
  unclaimed : BitVec 32 := 0
  deriving DecidableEq, Repr

/-- Context states (R118). -/
inductive CtxState where
  | free | configured | running | stopping | sourced
  deriving DecidableEq, Repr

/-- The code of R118. -/
def CtxState.code : CtxState → Nat
  | .free => 0 | .configured => 1 | .running => 2 | .stopping => 3 | .sourced => 4

/-- Counts of CTX_GET_STATUS, each saturating (R131, R133). -/
structure CtxCounts where
  /-- frames landed; w 32 bits; 05 R136; reset 0 -/
  landed : BitVec 32 := 0
  /-- dropped; w 32 bits; 05 R131; reset 0 -/
  dropped : BitVec 32 := 0
  /-- late, developed; w 32 bits; 05 R128; reset 0 -/
  lateDeveloped : BitVec 32 := 0
  /-- late or stale, discarded; w 32 bits; 05 R125; reset 0 -/
  discarded : BitVec 32 := 0
  /-- untaken, discarded; w 32 bits; 05 R126; reset 0 -/
  untaken : BitVec 32 := 0
  /-- truncated; w 32 bits; 05 R133; reset 0 -/
  truncated : BitVec 32 := 0
  /-- short; w 32 bits; 05 R133; reset 0 -/
  short : BitVec 32 := 0
  /-- long; w 32 bits; 05 R133; reset 0 -/
  long : BitVec 32 := 0
  /-- width errors; w 32 bits; 05 R133; reset 0 -/
  width : BitVec 32 := 0
  /-- check errors, lines; w 32 bits; 05 R133; reset 0 -/
  checks : BitVec 32 := 0
  deriving DecidableEq, Repr

end Sys2Proof.Machine
end

