-- ==== Sys2Proof/Machine/PartsPix.lean ====
section
/-!
DEFINITION. PartsPix: what a context keeps as it runs (05 to 08): frames in flight, front-end and develop
status, grade buffers, statistics records; and the LUT slots and the front-end table pool.
-/

namespace Sys2Proof.Machine

/-- Front-end counts of the last frame developed (RAW_GET_STATUS). -/
structure FrontStatus where
  /-- frame number described; w 48 bits; 06 R158; reset 0 -/
  frame : BitVec 48 := 0
  /-- front-end saturations; w 32 bits; 06 R138; reset 0 -/
  saturations : Nat := 0
  /-- static defects replaced; w 32 bits; 06 R146; reset 0 -/
  static : Nat := 0
  /-- unrepaired defects; w 32 bits; 06 R146; reset 0 -/
  unrepaired : Nat := 0
  /-- dynamic defects replaced; w 32 bits; 06 R146; reset 0 -/
  dynamic : Nat := 0
  /-- samples inside a knee; w 32 bits; 06 R148; reset 0 -/
  knee : Nat := 0
  /-- motion samples; w 32 bits; 06 R149; reset 0 -/
  motion : Nat := 0
  /-- L20 saturations; w 32 bits; 06 R151; reset 0 -/
  l20 : Nat := 0
  /-- demosaic gaps; w 32 bits; 07 R165; reset 0 -/
  gaps : Nat := 0
  /-- bypass mask: column, dark frame, flat field; w 3 bits; 06 R156; reset 0 -/
  bypass : BitVec 3 := 0
  deriving DecidableEq, Repr

/-- A zone entry of a statistics record (R189, R190). -/
structure Zone where
  /-- R, G, B sums; w 48 bits × 3; 08 R189; reset no record -/
  sums : Int × Int × Int
  /-- R, G, B valid counts; w 32 bits × 3; 08 R189; reset no record -/
  valid : Nat × Nat × Nat
  /-- clipped count; w 32 bits; 08 R189; reset no record -/
  clipped : Nat
  /-- focus figure; w 32 bits; 08 R189; reset no record -/
  focus : Nat
  deriving DecidableEq, Repr

/-- A statistics record or drop record (R190). -/
structure StatRecord where
  /-- context; w 8 bits; 08 R190; reset no record -/
  ctx : CtxId
  /-- frame marks; w 16 bits; 00 R6; reset no record -/
  marks : BitVec 16
  /-- flags; w 16 bits; 08 R190; reset no record -/
  flags : BitVec 16
  /-- frame number; w 48 bits; 08 R190; reset no record -/
  frame : BitVec 48
  /-- taking tick; w 64 bits; 08 R190; reset no record -/
  tick : BitVec 64
  /-- the configuration it was measured under; w STAT_SET_CONFIG; 08 R190; reset no record -/
  cfg : StatCfg
  /-- region mask; w 4 bits; 08 R190; reset no record -/
  regions : BitVec 4
  /-- worker mask; w 8 bits; 08 R190; reset no record -/
  workers : BitVec 8
  /-- valid samples; w 32 bits; 08 R190; reset no record -/
  valid : Nat
  /-- invalid samples; w 32 bits; 08 R190; reset no record -/
  invalid : Nat
  /-- histogram bins, four channels of 1,024, or none; w 32 bits × 4,096; 08 R187; reset no record -/
  bins : List Nat
  /-- zones, or none; w 40 bytes × up to 3,072; 08 R189; reset no record -/
  zones : List Zone
  /-- host ring address when the host copy is on; w 64 bits; 08 R193; reset no record -/
  host : Option (BitVec 64) := none
  /-- where the free bytes of an absent histogram start (the model's own field); w -; 08 R190; reset no record DESIGN CHOICE (log 16) -/
  free : Nat := 0
  deriving DecidableEq, Repr

/-- What reads a grade buffer (R180). -/
inductive Reader where
  /-- the copy to an output's scan buffer -/
  | output (o : QuadId)
  /-- the grade's encode -/
  | encoder
  /-- a video sender -/
  | sender (i : Fin 24)
  /-- the link of a split system -/
  | link
  deriving DecidableEq, Repr

/-- One coded component plane set of a grade buffer (R180): the packed bytes. -/
structure GradeImage where
  /-- grade; w 2 bits; 07 R180; reset no buffer -/
  grade : GradeId
  /-- frame number; w 48 bits; 07 R180; reset no buffer -/
  frame : BitVec 48
  /-- frame marks; w 16 bits; 00 R6; reset no buffer -/
  marks : BitVec 16
  /-- live at its hinge; w 1 bit; 07 R180; reset no buffer -/
  live : Bool
  /-- the packed picture; w rows of B bits per component; 07 R180; reset no buffer -/
  bytes : List Byte
  /-- readers that still hold the buffer; w -; 07 R180; reset no buffer -/
  readers : List Reader := []
  deriving DecidableEq, Repr

/-- The stage-10 output kept as the next frame's reference (R168, R169). -/
structure Reference where
  /-- frame number; w 48 bits; 07 R169; reset none -/
  frame : BitVec 48
  /-- L20 values of the active slots, slot by slot in row order; w 20 bits; 07 R168; reset none -/
  planes : List (List Nat)
  deriving DecidableEq, Repr

/-- An analysis-luma plane (R170). -/
structure Luma where
  /-- frame number; w 48 bits; 07 R170; reset none -/
  frame : BitVec 48
  /-- samples per row; w 16 bits; 07 R170; reset none -/
  width : Nat
  /-- 12-bit codes in row order; w 16 bits; 07 R170; reset none -/
  codes : List Nat
  /-- interval in which the frame developed; w 64 bits; 13 R295; reset none -/
  tick : Nat
  /-- decimation d; w 3 bits; 13 R297; reset none -/
  d : Nat
  deriving DecidableEq, Repr

/-- A vector field computed from two luma planes (R169, R296). -/
structure VectorField where
  /-- frame whose luma is the newer of the two; w 48 bits; 07 R169; reset none -/
  frame : BitVec 48
  /-- blocks per row; w 16 bits; 13 R296; reset none -/
  width : Nat
  /-- hinge that opened the analysis interval; w 64 bits; 13 R297; reset none -/
  tick : Nat
  /-- decimation d; w 3 bits; 13 R297; reset none -/
  d : Nat
  /-- quarter-pel vectors in block row order, with their costs; w 8 bytes each; 13 R296; reset none -/
  vectors : List (Int × Int × Nat)
  deriving DecidableEq, Repr

/-- A pass result waiting for its hinge (R1, R44 step 5). -/
structure PassResult where
  /-- hinge at which it becomes live; w 64 bits; 02 R42; reset none -/
  hinge : Nat
  /-- the record; w 147,456 bytes; 08 R190; reset none -/
  record : StatRecord
  /-- grades produced; w -; 07 R172; reset none -/
  grades : List GradeImage
  /-- the frame; w -; 11 R247; reset none -/
  frame : Frame
  deriving DecidableEq, Repr

/-- A picture that an encode is coding (R283, R284). -/
structure Coding where
  /-- frame number; w 48 bits; 13 R283; reset none -/
  frame : Nat
  /-- the frame's marks; w 16 bits; 00 R6; reset none -/
  marks : BitVec 16
  /-- it is an IDR picture; w 1 bit; 13 R290; reset none -/
  idr : Bool
  /-- it is a repeat picture; w 1 bit; 13 R283; reset none -/
  isRepeat : Bool
  /-- the encode its bank names; w VC_SET_ENCODE; 13 R291; reset none -/
  cfg : Encode
  /-- picture width and height; w 16 bits × 2; 13 R285; reset none -/
  size : Nat × Nat
  /-- divider of its context; w 9 bits; 13 R288; reset none -/
  k : Nat
  /-- clip that takes its PICTURE record; w 64 bits; 11 R237; reset none -/
  clip : Option Nat
  deriving DecidableEq, Repr

/-- An encode as it runs (R283 to R291). -/
structure EncodeRun where
  /-- debt D, bytes; w 32 bits; 13 R288; reset 0 -/
  debt : Int := 0
  /-- rate mode of the picture before; w 2 bits; 13 R288; reset 0 -/
  mode : Nat := 0
  /-- a picture of the stream has been coded; w 1 bit; 13 R290; reset false -/
  started : Bool := false
  /-- what fixes the coded video sequence: profile, CTU size, partition, cores, picture format; w -; 13 R291; reset none -/
  sequence : List Nat := []
  /-- pictures since the last IDR picture; w 16 bits; 13 R290; reset 0 -/
  sinceIdr : Nat := 0
  /-- the next coded picture is an IDR picture; w 1 bit; 13 R290; reset false -/
  idrDue : Bool := false
  /-- reason of the suspension posted, 0 none; w 2 bits; 13 R300; reset 0 -/
  suspended : Nat := 0
  /-- pictures being coded, oldest first; w 4; 13 R284; reset none -/
  coding : List Coding := []
  /-- access-unit slots a media port still reads: port and address of the PICTURE record; w 4; 13 R284; reset none -/
  held : List (Fin 2 × Nat) := []
  /-- next slot of the host copy; w 4 bits; 13 R284; reset 0 DESIGN CHOICE (log 41) -/
  hostSlot : Nat := 0
  deriving DecidableEq, Repr

/-- One context (05 to 08). -/
structure Context where
  /-- state; w 3 bits; 05 R118; reset FREE -/
  state : CtxState := .free
  /-- live bank; w -; 02 R43; reset the defaults of R157, R183 and R195 -/
  live : Bank := {}
  /-- landing slots held; w 2 bits; 05 R121; reset 0 -/
  slots : Nat := 0
  /-- slots of an old geometry still to return; w 2 bits; 05 R122; reset 0 -/
  oldSlots : Nat := 0
  /-- number of the next frame taken; w 48 bits; 02 R41; reset 0 -/
  nextFrame : BitVec 48 := 0
  /-- last frame taken; w 48 bits; 05 R136; reset 0 -/
  lastFrame : BitVec 48 := 0
  /-- last two takings, newest first: tick and frame number; w -; 05 R125; reset none -/
  takings : List (Nat × BitVec 48) := []
  /-- frames in flight, oldest first; w -; 02 R43; reset none -/
  frames : List Frame := []
  /-- frames arriving that no taking is tied to yet, by virtual stream (R126); w 4; 05 R126; reset none -/
  floating : Vector (Option Frame) 4 := Vector.replicate 4 none
  /-- counts; w 10 × 32 bits; 05 R133; reset 0 -/
  counts : CtxCounts := {}
  /-- clamp state a per capture and channel, 8 fractional bits, none at a reset point; w 30 bits × 32; 06 R143; reset none -/
  clamp : Vector (Vector (Option Int) 8) 4 := Vector.replicate 4 (Vector.replicate 8 none)
  /-- black codes and alpha the clamp state was built under; w -; 06 R143; reset none -/
  clampBank : Option (Vector FrontCap 4) := none
  /-- status of the last frame developed; w -; 06 R158; reset 0 -/
  front : FrontStatus := {}
  /-- tap skips; w 32 bits; 06 R153; reset 0 -/
  tapSkips : BitVec 32 := 0
  /-- tables bypassed by the live bank: stage and capture; w 9 bits; 06 R156; reset none -/
  bypassed : List (Nat × Nat) := []
  /-- grades bypassed by the live bank; w 4 bits; 07 R182; reset 0 -/
  gradesBypassed : BitVec 4 := 0
  /-- the live bank fell back to demosaic method 0; w 1 bit; 07 R163; reset false -/
  fallback : Bool := false
  /-- grade skips; w 32 bits × 4; 07 R180; reset 0 -/
  gradeSkips : Vector (BitVec 32) 4 := Vector.replicate 4 0
  /-- frames without reference; w 32 bits; 07 R169; reset 0 -/
  noReference : BitVec 32 := 0
  /-- frames with zero vectors; w 32 bits; 07 R169; reset 0 -/
  zeroVectors : BitVec 32 := 0
  /-- temporal reference; w -; 07 R168; reset none -/
  reference : Option Reference := none
  /-- analysis luma planes, newest first, at most three; w -; 07 R170; reset none -/
  lumas : List Luma := []
  /-- newest complete vector field; w -; 07 R169; reset none -/
  field : Option VectorField := none
  /-- grade buffers, at most two per grade; w -; 07 R180; reset empty -/
  buffers : List GradeImage := []
  /-- results awaiting their hinge; w -; 02 R44; reset none -/
  results : List PassResult := []
  /-- live statistics records, oldest first, at most 16; w 16 × 147,456 bytes; 08 R192; reset none -/
  records : List StatRecord := []
  /-- slots being rewritten: version 0; w 16 bits; 08 R192; reset none -/
  rewriting : List Nat := []
  /-- last-live frame number; w 48 bits; 08 R192; reset none -/
  lastLive : Option (BitVec 48) := none
  /-- host copies not posted in time, oldest first; w -; 08 R193; reset none -/
  hostDue : List StatRecord := []
  /-- host-late count; w 16 bits; 08 R196; reset 0 -/
  hostLate : Nat := 0
  /-- a trigger of the source given (2 command, 3 doorbell) waits for the next frame taken; w 2 bits; 02 R52; reset none -/
  triggerNext : Option Nat := none
  /-- grades whose IDR request waits for the next frame taken; w 4 bits; 02 R52; reset 0 -/
  keysNext : BitVec 4 := 0
  /-- record-mark codes that wait for the next frame taken; w 8 bits each; 02 R52; reset none -/
  marksNext : List Byte := []
  /-- encodes of G0 to G3 as they run; w 4; 13 R284; reset not started -/
  encodes : Vector EncodeRun 4 := Vector.replicate 4 {}
  /-- next slot of the vector export; w 6 bits; 13 R297; reset 0 -/
  exportSlot : Nat := 0
  /-- analysis found no core with room; w 1 bit; 13 R299; reset false -/
  analysisLost : Bool := false
  /-- frames whose results are live and whose raw-pack chunks still run; w -; 10 R229; reset none -/
  slotReaders : List Frame := []
  deriving DecidableEq, Repr

/-- LUT slot states of one region (R182); SELECTED is read off the banks. -/
inductive LutState where
  | free | loading | ready
  deriving DecidableEq, Repr

/-- A LUT slot of one region (R18, R182). -/
structure LutSlot where
  /-- state; w 2 bits; 07 R182; reset FREE -/
  state : LutState := .free
  /-- load number; w 32 bits; 07 R182; reset 0 -/
  load : Nat := 0
  /-- entries, red first; w 16 bits × 823,875; 07 R174; reset none DESIGN CHOICE (log 9) -/
  entries : List Nat := []
  deriving DecidableEq, Repr

/-- A LUT load in progress (R182). -/
structure LutLoad where
  /-- issuing mailbox; w 3 bits; 07 R182; reset none in progress -/
  mb : MbId
  /-- its tag; w 16 bits; 07 R182; reset none in progress -/
  tag : BitVec 16
  /-- region mask; w 4 bits; 07 R182; reset none in progress -/
  regions : BitVec 4
  /-- slot; w 4 bits; 07 R182; reset none in progress -/
  slot : Fin 16
  /-- load number; w 32 bits; 07 R182; reset none in progress -/
  load : Nat
  /-- entries read; w 16 bits × 823,875; 07 R174; reset none in progress -/
  entries : List Nat
  deriving DecidableEq, Repr

/-- A version in the front-end table pool (R154). -/
structure TableVersion where
  /-- version number that banks refer to; w -; 06 R154; reset pool empty -/
  id : Nat
  /-- pool: 0 to 3 by stack, 4 the interleaved pool; w 3 bits; 06 R154; reset pool empty -/
  pool : Nat
  /-- bytes taken; w 32 bits; 06 R154; reset pool empty -/
  size : Nat
  /-- entries; w -; 06 R154; reset pool empty -/
  entries : List Int
  deriving DecidableEq, Repr

end Sys2Proof.Machine
end

