-- ==== Sys2Proof/Machine/PartsSys.lean ====
section
/-!
DEFINITION. PartsSys: power domains, clocks and thermal measurement (22).
-/

namespace Sys2Proof.Machine

/-- States of a power domain, with the codes of PWR_GET_STATUS. -/
inductive DomainState where
  | off | on | retain | waking
  deriving DecidableEq, Repr

/-- The code of PWR_GET_STATUS. -/
def DomainState.code : DomainState → Nat
  | .off => 0 | .on => 1 | .retain => 2 | .waking => 3

/-- Power domains, clocks and the ceiling (R30, R436 to R439). -/
structure Power where
  /-- state of domain d, entry 0 unused; w 3 bits × 24; 22 R436; reset OFF, AON ON (R410) -/
  domains : Vector DomainState 25 := (Vector.replicate 25 .off).set 1 .on
  /-- pipeline clock of CD-A and CD-B, MHz; w 16 bits × 2; 01 R22; reset 800 (R436, at START_COMPLETE) -/
  clocks : Vector Nat 2 := Vector.replicate 2 800
  /-- power ceiling, mW; w 32 bits; 22 R439; reset 160,000 -/
  ceiling : Nat := 160000
  deriving DecidableEq, Repr

/-- Thermal measurement (R440 to R442). -/
structure Thermal where
  /-- last reading of each sensor in 0.125 °C, none invalid; w 16 bits × 14; 22 R440; reset 0 DESIGN CHOICE (log 9) -/
  readings : Vector (Option Int) 14 := Vector.replicate 14 (some 0)
  /-- first warning threshold, °C; w 8 bits; 22 R441; reset 95 -/
  w1 : Nat := 95
  /-- second warning threshold, °C; w 8 bits; 22 R441; reset 100 -/
  w2 : Nat := 100
  /-- W1, W2 and 105 °C crossed now; w 3 bits; 22 R441; reset clear -/
  crossed : Vector Bool 3 := Vector.replicate 3 false
  /-- crossings counted; w 32 bits × 3; 22 R441; reset 0 -/
  crossings : Vector (BitVec 32) 3 := Vector.replicate 3 0
  /-- peak maximum, 0.125 °C; w 16 bits; 22 R440; reset none DESIGN CHOICE (log 9) -/
  peak : Option Int := none
  /-- fast sampling; w 1 bit; 22 R440; reset clear -/
  fast : Bool := false
  /-- sensors whose invalid warning has been posted; w 14 bits; 22 R440; reset none -/
  invalid : List Nat := []
  deriving DecidableEq, Repr

/-- The time counter (R323). -/
structure TimeBase where
  /-- seconds, nanoseconds and fraction as one count of 2^-32 ns; w 48 + 32 + 32 bits; 15 R323; reset 0 -/
  now : Nat := 0
  /-- increment I, 2^-32 ns; w 34 bits; 15 R323; reset 0x2_0000_0000 -/
  inc : Nat := 0x200000000
  deriving DecidableEq, Repr

end Sys2Proof.Machine
end

