-- ==== Sys2Proof/Machine/PartsMem.lean ====
section
/-!
DEFINITION. PartsMem: the HBM memory subsystem (09).
-/

namespace Sys2Proof.Machine

/-- States of a stack, with the codes of MEM_GET_STATUS. -/
inductive StackState where
  | off | training | running | selfRefresh
  deriving DecidableEq, Repr

/-- The code of MEM_GET_STATUS. -/
def StackState.code : StackState → Nat
  | .off => 0 | .training => 1 | .running => 2 | .selfRefresh => 3

/-- A queued piece of a fabric request (R201, R204). -/
structure MemPiece where
  /-- the model's number of the piece, by which a later row issues it; w -; 09 R204; reset queue empty -/
  id : Nat
  /-- requester code; w 8 bits; 09 R200; reset queue empty -/
  requester : Byte
  /-- write; w 1 bit; 09 R202; reset queue empty -/
  write : Bool
  /-- fabric address; w 40 bits; 09 R198; reset queue empty -/
  addr : Nat
  /-- bytes; w 11 bits; 09 R201; reset queue empty -/
  len : Nat
  /-- bytes to write; w 1 KiB; 09 R201; reset queue empty -/
  data : List Byte
  /-- context served; w 3 bits; 09 R217; reset queue empty -/
  ctx : Option CtxId
  deriving DecidableEq, Repr

/-- An entry of the error log (R207). -/
structure MemLogEntry where
  /-- kind; w 8 bits; 09 R207; reset log empty -/
  kind : Nat
  /-- requester; w 8 bits; 09 R207; reset log empty -/
  requester : Byte
  /-- global pseudo-channel, 0xFF for kind 5; w 8 bits; 09 R207; reset log empty -/
  pc : Nat
  /-- fabric address of the burst; w 40 bits; 09 R207; reset log empty -/
  addr : Nat
  /-- syndrome; w 32 bits; 09 R207; reset log empty -/
  syndrome : BitVec 32
  /-- tick; w 64 bits; 09 R207; reset log empty -/
  tick : BitVec 64
  /-- row; w 16 bits; 09 R207; reset log empty -/
  row : Nat
  /-- bank index; w 8 bits; 09 R207; reset log empty -/
  bank : Nat
  /-- burst; w 8 bits; 09 R207; reset log empty -/
  burst : Nat
  /-- occurrences; w 32 bits; 09 R207; reset log empty -/
  count : BitVec 32
  deriving DecidableEq, Repr

/-- One HBM stack and its controller (R197 to R215). -/
structure Stack where
  /-- state; w 2 bits; 09 R211; reset off -/
  state : StackState := .off
  /-- full training failed; w 1 bit; 09 R212; reset false -/
  failed : Bool := false
  /-- training path, 1 full; w 1 bit; 09 R211; reset 0 -/
  path : Nat := 0
  /-- temperature, °C; w 8 bits; 09 R213; reset 0 DESIGN CHOICE (log 9) -/
  temp : Int := 0
  /-- temperature at the last pass or calibration; w 8 bits; 09 R213; reset 0 DESIGN CHOICE (log 9) -/
  passTemp : Int := 0
  /-- corrected errors; w 32 bits; 09 R205; reset 0 -/
  corrected : BitVec 32 := 0
  /-- uncorrectable errors; w 32 bits; 09 R205; reset 0 -/
  uncorrectable : BitVec 32 := 0
  /-- next 1 KiB piece of the patrol scrub; w 26 bits; 09 R206; reset 0 -/
  scrub : Nat := 0
  /-- peak queued requests; w 16 bits; 09 R204; reset 0 -/
  peak : Nat := 0
  /-- self-refresh entries; w 32 bits; 09 R215; reset 0 -/
  entries : BitVec 32 := 0
  /-- retraining passes; w 32 bits; 09 R213; reset 0 -/
  passes : BitVec 32 := 0
  /-- retraining failures; w 32 bits; 09 R213; reset 0 -/
  failures : BitVec 32 := 0
  /-- repairs used, by pseudo-channel and bank group of a stack ID; w 384; 09 R209; reset none -/
  repairs : List (Nat × Nat) := []
  /-- pseudo-channels with a retraining pass due, ascending; w 32 bits; 09 R213; reset none -/
  retrain : List Nat := []
  /-- the first segment of the pass under way is done; w 1 bit; 09 R213; reset false -/
  segment : Bool := false
  /-- corrected errors of the running second, by pseudo-channel; w 32 × 32 bits; 09 R208; reset 0 -/
  second : List (Nat × Nat) := []
  /-- number of that second; w -; 09 R208; reset 0 -/
  secondNo : Nat := 0
  deriving DecidableEq, Repr

/-- A MEM_CALIBRATE under way. -/
structure Calibration where
  /-- issuing mailbox; w 3 bits; 09 R210; reset none under way -/
  mb : MbId
  /-- its tag; w 16 bits; 09 R210; reset none under way -/
  tag : BitVec 16
  /-- stacks named; w 4 bits; 09 R210; reset none under way -/
  named : List StackId
  /-- stacks still training; w 4 bits; 09 R210; reset none under way -/
  left : List StackId
  /-- the record is to be written; w 1 bit; 09 R210; reset none under way -/
  write : Bool
  /-- a stack failed to train; w 1 bit; 09 R210; reset none under way -/
  bad : Bool
  deriving DecidableEq, Repr

/-- A MEM_REPAIR under way. -/
structure Repairing where
  /-- issuing mailbox; w 3 bits; 09 R209; reset none under way -/
  mb : MbId
  /-- its tag; w 16 bits; 09 R209; reset none under way -/
  tag : BitVec 16
  /-- stack; w 2 bits; 09 R209; reset none under way -/
  stack : StackId
  /-- pseudo-channel; w 5 bits; 09 R209; reset none under way -/
  pc : Nat
  /-- bank index; w 6 bits; 09 R209; reset none under way -/
  bank : Nat
  /-- row; w 15 bits; 09 R209; reset none under way -/
  row : Nat
  deriving DecidableEq, Repr

/-- A row of a bank of a pseudo-channel: global pseudo-channel, bank index and row. -/
abbrev RowName := Nat × Nat × Nat

/-- The memory subsystem (09). -/
structure Mem where
  /-- stacks M0 to M3; w 4; 09 R197; reset off -/
  stks : Vector Stack 4 := Vector.replicate 4 {}
  /-- interleaved mapping mode; w 1 bit; 01 R32; reset region affinity -/
  interleaved : Bool := false
  /-- queued pieces of all stacks, oldest first; w 4 × 4,096; 09 R204; reset empty -/
  queue : List MemPiece := []
  /-- pieces waiting at their requesters' ports; w -; 09 R204; reset none -/
  waiting : List MemPiece := []
  /-- number of the next piece (the model's own field); w -; 09 R204; reset 0 DESIGN CHOICE (log 17) -/
  nextId : Nat := 0
  /-- error log, oldest first; w 256 × 32 bytes; 09 R207; reset empty -/
  log : List MemLogEntry := []
  /-- log entries overwritten; w 32 bits; 09 R207; reset 0 -/
  lost : BitVec 32 := 0
  /-- pseudo-channels whose corrected error was logged in the second given; w 128; 09 R207; reset none -/
  logged : List (Nat × Nat) := []
  /-- repair candidates; w 4 × 255; 09 R209; reset none -/
  candidates : List RowName := []
  /-- corrected errors by row; w 16 bits; 09 R209; reset none -/
  rowCounts : List (RowName × Nat) := []
  /-- poisoned bursts, by stack × 36 GiB + offset; w -; 09 R205; reset none -/
  poison : List Nat := []
  /-- HBM contents, byte by byte, by stack × 36 GiB + offset, each as its difference from what the byte reads unwritten; w 144 GiB; 09 R197; reset none written DESIGN CHOICE (log 10) -/
  hbm : List Host.Cell := []
  /-- generation in which a stack's unwritten contents became undefined; w -; 20 R405; reset none DESIGN CHOICE (log 29) -/
  undef : Vector (Option Nat) 4 := Vector.replicate 4 none
  /-- the same for the stack's reserved area; w -; 09 R199; reset none DESIGN CHOICE (log 29) -/
  undefReserved : Vector (Option Nat) 4 := Vector.replicate 4 none
  /-- self-refresh mask; w 4 bits; 09 R215; reset 0 -/
  selfRefresh : BitVec 4 := 0
  /-- corrected-error threshold; w 20 bits; 09 R208; reset 1,000 -/
  threshold : Nat := 1000
  /-- candidate threshold; w 16 bits; 09 R209; reset 16 -/
  candidate : Nat := 16
  /-- calibrations under way; w -; 09 R210; reset none -/
  calibration : List Calibration := []
  /-- repairs under way; w -; 09 R209; reset none -/
  repairing : List Repairing := []
  deriving DecidableEq, Repr

end Sys2Proof.Machine
end

