-- ==== Sys2Proof/Machine/PartsRec.lean ====
section
/-!
DEFINITION. PartsRec: compression jobs (10), recording, media and clips (11), the storage target (12) and the security
engine (21).
-/

namespace Sys2Proof.Machine

/-! ## Compression (10) -/

/-- A host compression job (CMP_SUBMIT). -/
structure CmpJob where
  /-- its descriptor; w 64 bytes; 10 R230; reset none -/
  desc : List Byte
  /-- engine it runs on, once started; w 6 bits; 10 R230; reset none -/
  engine : Option Nat := none
  /-- its result record, once it ended; w 16 bytes; 10 R231; reset none -/
  result : Option (List Byte) := none
  /-- ward user it holds entries as, if it does; w -; 12 R268; reset none -/
  ward : Option Nat := none
  deriving DecidableEq, Repr

/-- An outstanding CMP_SUBMIT. -/
structure CmpSubmit where
  /-- issuing mailbox; w 3 bits; 10 R230; reset none -/
  mb : MbId
  /-- its tag; w 16 bits; 10 R230; reset none -/
  tag : BitVec 16
  /-- payload location kind; w 2 bits; 03 R70; reset none -/
  kind : Nat
  /-- payload location; w 64 bits; 03 R70; reset none -/
  loc : Nat
  /-- its jobs in descriptor order; w 64 × 64 bytes; 10 R230; reset none -/
  jobs : List CmpJob
  deriving DecidableEq, Repr

/-- A CMP_SET_HOST_ENGINES that waits for jobs on the engines it gives back. -/
structure HostEngines where
  /-- issuing mailbox; w 3 bits; 10 R230; reset none -/
  mb : MbId
  /-- with the HOLD flag; w 1 bit; 03 R70; reset none -/
  hold : Bool
  /-- raw lanes; w 6 bits; 10 R230; reset none -/
  raw : Nat
  /-- general engines; w 3 bits; 10 R230; reset none -/
  general : Nat
  deriving DecidableEq, Repr

/-- The compression engine (10). -/
structure Compression where
  /-- CMP_SUBMIT commands outstanding; w 4; 10 R230; reset none -/
  submits : List CmpSubmit := []
  /-- retired raw lanes; w 32 bits; 10 R235; reset none -/
  retiredRaw : List Nat := []
  /-- retired general engines; w 4 bits; 10 R235; reset none -/
  retiredGeneral : List Nat := []
  /-- retired decompress engines; w 4 bits; 10 R235; reset none -/
  retiredDecompress : List Nat := []
  /-- raw lanes reserved for host jobs, live; w 6 bits; 10 R230; reset 0 -/
  hostRaw : Nat := 0
  /-- general engines reserved for host jobs, live; w 3 bits; 10 R230; reset 0 -/
  hostGeneral : Nat := 0
  /-- CMP_SET_HOST_ENGINES in execution; w -; 10 R230; reset none -/
  changing : Option HostEngines := none
  /-- late chunks by context; w 8 × 32 bits; 10 R229; reset 0 -/
  late : Vector (BitVec 32) 8 := Vector.replicate 8 0
  /-- internal chunks failed with OUT_SPACE; w 32 bits; 10 R240; reset 0 -/
  outSpace : BitVec 32 := 0
  /-- internal chunks marked MEM_ERR; w 32 bits; 10 R234; reset 0 -/
  memErr : BitVec 32 := 0
  /-- host jobs completed; w 32 bits; 10 R231; reset 0 -/
  completed : BitVec 32 := 0
  /-- first lane of each context's next frame; w 8 × 5 bits; 10 R228; reset 0 DESIGN CHOICE (log 9) -/
  firstLane : Vector Nat 8 := Vector.replicate 8 0
  deriving DecidableEq, Repr

/-! ## Recording (11) -/

/-- A record as stored: header, body and padding (R247). -/
structure Rec where
  /-- type; w 8 bits; 11 R247; reset none -/
  kind : Nat
  /-- clip id; w 64 bits; 11 R238; reset none -/
  clip : Nat
  /-- frame it belongs to, for CHUNK and FRAME; w 48 bits; 11 R247; reset none -/
  frame : Nat
  /-- sequence; w 32 bits; 11 R247; reset none -/
  seq : Nat
  /-- byte address, on media, in the ring or in the host ring; w 64 bits; 11 R247; reset none -/
  addr : Nat
  /-- the record's bytes; w its length; 11 R247; reset none -/
  bytes : List Byte
  deriving DecidableEq, Repr

/-- The stages of a seal (R249). -/
inductive SealStage where
  /-- step 2: the last frames' records complete -/
  | draining
  /-- step 4: the tail records and Flush -/
  | flushing
  /-- steps 5 and 6: leaf and signature -/
  | signing
  /-- step 7: MANIFEST -/
  | manifest
  /-- step 8: INDEX and Flush -/
  | index
  /-- step 9: SEAL_MARK and volume header -/
  | mark
  /-- failed: it waits for a retry or for recovery -/
  | failed
  deriving DecidableEq, Repr

/-- An open clip, or one being sealed (R237 to R250). -/
structure Clip where
  /-- clip id; w 64 bits; 11 R238; reset none -/
  id : Nat
  /-- context; w 3 bits; 11 R238; reset none -/
  ctx : CtxId
  /-- its bank part; w REC_SET_TARGET; 11 R237; reset none -/
  cfg : RecCfg
  /-- hinge from which it records; w 64 bits; 11 R238; reset none -/
  fromHinge : Nat
  /-- hinge from which it no longer records; w 64 bits; 11 R249; reset none -/
  stopHinge : Option Nat := none
  /-- CLIP_OPEN has been written; w 1 bit; 11 R247; reset none -/
  opened : Bool := false
  /-- first frame recorded; w 48 bits; 11 R250; reset none -/
  first : Nat := 0
  /-- last frame recorded; w 48 bits; 11 R250; reset none -/
  last : Nat := 0
  /-- time of the first taking hinge, ns; w 80 bits; 11 R250; reset none -/
  openTime : Nat := 0
  /-- chain value; w 32 bytes; 11 R248; reset 32 zero bytes -/
  chain : List Byte := List.replicate 32 0
  /-- records chained; w 32 bits; 11 R250; reset 0 -/
  chained : Nat := 0
  /-- frames recorded with the address of their FRAME record; w -; 11 R247; reset none -/
  frames : List (Nat × Nat) := []
  /-- the ring's trigger: frame and source; w -; 11 R243; reset none -/
  trigger : Option (Nat × Nat) := none
  /-- end reason; w 8 bits; 11 R250; reset 0 -/
  reason : Nat := 0
  /-- stage of its seal, none while it records; w -; 11 R249; reset none -/
  stage : Option SealStage := none
  /-- the seal has been retried; w 1 bit; 19 R385; reset false -/
  retried : Bool := false
  /-- leaf of its manifest; w 40 bits; 21 R431; reset none -/
  leaf : Nat := 0
  /-- seal time, ns; w 80 bits; 11 R250; reset none -/
  sealTime : Nat := 0
  /-- addresses of its MANIFEST and INDEX records; w 64 bits × 2; 11 R247; reset none -/
  marks : Nat × Nat := (0, 0)
  /-- REC_STOP that waits for the seal: mailbox and tag; w -; 11 R249; reset none -/
  stop : Option (MbId × BitVec 16) := none
  deriving DecidableEq, Repr

/-- A clip that has been sealed, as the clip view shows it (R262, R265). -/
structure SealedClip where
  /-- clip id; w 64 bits; 12 R265; reset none -/
  id : Nat
  /-- source: 0 capture ring, 1 MP0, 2 MP1; w 8 bits; 12 R265; reset none -/
  source : Nat
  /-- context; w 3 bits; 12 R265; reset none -/
  ctx : CtxId
  /-- seal kind; w 8 bits; 11 R250; reset none -/
  kind : Nat
  /-- first frame; w 48 bits; 12 R265; reset none -/
  first : Nat
  /-- last frame; w 48 bits; 12 R265; reset none -/
  last : Nat
  /-- end reason; w 8 bits; 12 R265; reset none -/
  reason : Nat
  /-- seal time, ns; w 80 bits; 12 R265; reset none -/
  sealTime : Nat
  /-- records of its image in ascending sequence; w -; 12 R263; reset none -/
  records : List Rec
  deriving DecidableEq, Repr

/-- One slot of a capture ring (R241). -/
structure RingSlot where
  /-- frame whose records it holds, none free; w 48 bits; 11 R241; reset free -/
  frame : Option Nat := none
  /-- clip that pins it; w 64 bits; 11 R241; reset unpinned -/
  pinned : Option Nat := none
  /-- its records; w slot size; 11 R241; reset none -/
  records : List Rec := []
  deriving DecidableEq, Repr

/-- A context's recording state (R237 to R243; REC_GET_STATUS). -/
structure Recording where
  /-- clip open, armed or sealing; w -; 11 R237; reset none -/
  clips : List Clip := []
  /-- current or last clip id; w 64 bits; 11 R238; reset 0 -/
  lastClip : Nat := 0
  /-- frames recorded; w 32 bits; 11 R237; reset 0 -/
  frames : BitVec 32 := 0
  /-- chunk gaps; w 32 bits; 11 R240; reset 0 -/
  gaps : BitVec 32 := 0
  /-- chunk gaps since the last hinge, with their frame; w 16 + 48 bits; 11 R240; reset none -/
  gapsNow : Nat × Nat := (0, 0)
  /-- triggers ignored; w 32 bits; 11 R243; reset 0 -/
  ignored : BitVec 32 := 0
  /-- capture-ring slots; w N; 11 R241; reset no ring -/
  ring : List RingSlot := []
  /-- where the next frame's slot is looked for; w 32 bits; 11 R241; reset 0 -/
  pointer : Nat := 0
  /-- next record sequence of the ring; w 32 bits; 11 R247; reset 0 DESIGN CHOICE (log 9) -/
  seq : Nat := 0
  deriving DecidableEq, Repr

/-- A host ring, which several contexts may share (R237). -/
structure HostRing where
  /-- host address; w 64 bits; 11 R237; reset none -/
  addr : BitVec 64
  /-- bytes appended; w 64 bits; 11 R237; reset 0 -/
  tail : Nat := 0
  /-- next record sequence; w 32 bits; 11 R247; reset 0 DESIGN CHOICE (log 9) -/
  seq : Nat := 0
  deriving DecidableEq, Repr

/-- What a drive command is for (R245, R249). -/
inductive MediaUse where
  /-- a record of a clip's log -/
  | log (r : Rec)
  /-- the Flush of step 4 -/
  | tailFlush (clip : Nat)
  /-- the MANIFEST record of step 7 -/
  | manifest (clip : Nat) (r : Rec)
  /-- the INDEX record of step 8 -/
  | index (clip : Nat) (r : Rec)
  /-- the Flush of step 8 -/
  | indexFlush (clip : Nat)
  /-- the SEAL_MARK record of step 9 -/
  | mark (clip : Nat) (r : Rec)
  /-- the volume header of step 9, or of a header update -/
  | header (clip : Option Nat)
  /-- a Read for the storage target's ward user -/
  | read (user : Nat)
  deriving DecidableEq, Repr

/-- A drive and its volume: kept through every reset (R246, 20 R405). -/
structure Volume where
  /-- LBA size; w 16 bits; 11 R246; reset no volume -/
  lbaSize : Nat
  /-- capacity, bytes; w 64 bits; 11 R246; reset no volume -/
  capacity : Nat
  /-- measured write rate, MB/s; w 32 bits; 11 R246; reset no volume -/
  rate : Nat
  /-- volume id; w 128 bits; 11 R246; reset no volume -/
  id : BitVec 128
  /-- generation; w 64 bits; 11 R246; reset no volume -/
  generation : Nat
  /-- append address; w 64 bits; 11 R246; reset no volume -/
  append : Nat
  /-- next sequence; w 32 bits; 11 R246; reset no volume -/
  seq : Nat
  /-- last sealed clip id; w 64 bits; 11 R246; reset no volume -/
  lastSealed : Nat
  /-- the log's records on the drive, in order; w its length; 11 R246; reset no volume -/
  log : List Rec
  /-- clips whose port was lost while they recorded; w -; 11 R252; reset none -/
  portLost : List Nat := []
  deriving DecidableEq, Repr

/-- A media port (R245). -/
structure MediaPort where
  /-- the attached drive's volume as the device last knew it; w -; 11 R246; reset none known -/
  volume : Option Volume := none
  /-- mounted; w 1 bit; 11 R246; reset false -/
  mounted : Bool := false
  /-- drive commands outstanding, oldest first; w 4 × 256; 11 R245; reset none -/
  outstanding : List MediaUse := []
  /-- REC_MEDIA under way: operation, mailbox and tag; w -; 11 R246; reset none -/
  op : Option (Nat × MbId × BitVec 16) := none
  deriving DecidableEq, Repr

/-! ## Storage target (12) -/

/-- An I/O submission queue, queue 0 the admin queue (R258, R260). -/
structure SubQueue where
  /-- identifier; w 7 bits; 12 R258; reset none -/
  id : Nat
  /-- entries; w 11 bits; 12 R258; reset none -/
  size : Nat
  /-- host base address; w 64 bits; 12 R258; reset none -/
  base : Nat
  /-- its completion queue; w 7 bits; 12 R260; reset none -/
  cq : Nat
  /-- class: 0 urgent, 1 high, 2 medium, 3 low; w 2 bits; 12 R261; reset none -/
  cls : Nat
  /-- head; w 10 bits; 12 R260; reset 0 -/
  head : Nat := 0
  /-- tail; w 10 bits; 12 R260; reset 0 -/
  tail : Nat := 0
  deriving DecidableEq, Repr

/-- A completion queue (R258, R260). -/
structure CplQueue where
  /-- identifier; w 7 bits; 12 R258; reset none -/
  id : Nat
  /-- entries; w 11 bits; 12 R258; reset none -/
  size : Nat
  /-- host base address; w 64 bits; 12 R258; reset none -/
  base : Nat
  /-- interrupt vector, none without interrupts; w 7 bits; 12 R258; reset none -/
  vector : Option Nat
  /-- head; w 10 bits; 12 R256; reset 0 -/
  head : Nat := 0
  /-- tail; w 10 bits; 12 R256; reset 0 -/
  tail : Nat := 0
  /-- phase tag of the next entry; w 1 bit; 12 R256; reset 1 -/
  phase : Bool := true
  deriving DecidableEq, Repr

/-- What an I/O command does to its LBAs (R258). -/
inductive IoKind where
  | read | write | zeroes | deallocate | format
  deriving DecidableEq, Repr

/-- Users of the ward table (R268). -/
inductive WardUser where
  /-- a host command, as fetched -/
  | host (k : IoKind) (n : NvmeCmd)
  /-- a change of the clip directory -/
  | directory
  /-- a compression job -/
  | job (m : MbId) (tag : BitVec 16) (i : Nat)
  deriving DecidableEq, Repr

/-- One range a user holds or waits for. -/
structure WardRange where
  /-- namespace; w 2 bits; 12 R268; reset table empty -/
  ns : Nat
  /-- start LBA; w 64 bits; 12 R268; reset table empty -/
  lba : Nat
  /-- LBA count; w 64 bits; 12 R268; reset table empty -/
  count : Nat
  /-- kind write; w 1 bit; 12 R268; reset table empty -/
  write : Bool
  deriving DecidableEq, Repr

/-- A user with its entries in the ward table (R268, R269). -/
structure Ward where
  /-- order number, by which later rows name the user; w -; 12 R268; reset table empty -/
  id : Nat
  /-- user; w -; 12 R268; reset table empty -/
  user : WardUser
  /-- its entries; w up to 16; 12 R268; reset table empty -/
  ranges : List WardRange
  /-- the entries have been taken, false while the user waits for free ones; w 1 bit; 12 R268; reset table empty -/
  taken : Bool
  /-- what the command still waits for: 0 an earlier entry, 1 a drive, 2 rate budget, 3 the power state; w 2 bits; 12 R269; reset table empty -/
  waits : Nat := 0
  /-- bytes it has still to move within the declared rates; w 32 bits; 12 R279; reset table empty -/
  left : Nat := 0
  deriving DecidableEq, Repr

/-- A clip directory entry (R265); state 1 present, 2 removed. -/
structure DirEntry where
  /-- the clip; w 64 bytes; 12 R265; reset directory empty -/
  clip : SealedClip
  /-- start LBA; w 64 bits; 12 R263; reset directory empty -/
  lba : Nat
  /-- present, else removed; w 1 bit; 12 R265; reset directory empty -/
  present : Bool
  deriving DecidableEq, Repr

/-- An error information log entry (R272). -/
structure NvmeError where
  /-- error count; w 64 bits; 12 R272; reset log empty -/
  count : Nat
  /-- submission queue; w 16 bits; 12 R272; reset log empty -/
  sq : Nat
  /-- command identifier; w 16 bits; 12 R272; reset log empty -/
  cid : BitVec 16
  /-- status field; w 16 bits; 12 R272; reset log empty -/
  status : Nat
  /-- first failing LBA; w 64 bits; 12 R264; reset log empty -/
  lba : Nat
  /-- namespace; w 32 bits; 12 R272; reset log empty -/
  nsid : BitVec 32
  deriving DecidableEq, Repr

/-- The storage target (12). -/
structure Storage where
  /-- CC; w 32 bits; 12 R256; reset 0 -/
  cc : BitVec 32 := 0
  /-- CSTS.RDY; w 1 bit; 12 R256; reset 0 -/
  rdy : Bool := false
  /-- CSTS.CFS; w 1 bit; 12 R256; reset 0 -/
  cfs : Bool := false
  /-- CSTS.SHST; w 2 bits; 12 R256; reset 0 -/
  shst : Nat := 0
  /-- out of service until a management reset: a deadbolt of sources 0x58 to 0x5A; w 1 bit; 12 R257; reset false -/
  suspect : Bool := false
  /-- INTMS and INTMC's mask; w 32 bits; 12 R256; reset 0 -/
  intMask : BitVec 32 := 0
  /-- AQA; w 32 bits; 12 R256; reset 0 -/
  aqa : BitVec 32 := 0
  /-- ASQ; w 64 bits; 12 R256; reset 0 -/
  asq : BitVec 64 := 0
  /-- ACQ; w 64 bits; 12 R256; reset 0 -/
  acq : BitVec 64 := 0
  /-- MSI-X table of function 1; w 65 × 128 bits; 12 R255; reset masked PRESUMED (log 11) -/
  msix : Vector MsixEntry 65 := Vector.replicate 65 {}
  /-- its pending bits; w 65 bits; 12 R256; reset 0 -/
  pba : BitVec 65 := 0
  /-- submission queues; w 65; 12 R260; reset none -/
  sqs : List SubQueue := []
  /-- completion queues; w 65; 12 R260; reset none -/
  cqs : List CplQueue := []
  /-- completions that wait for a free completion queue slot: queue and entry; w -; 12 R260; reset none -/
  heldCpl : List (Nat × List Byte) := []
  /-- arbitration feature; w 32 bits; 12 R258; reset 0 PRESUMED (log 34) -/
  arbitration : BitVec 32 := 0
  /-- interrupt coalescing feature; w 32 bits; 12 R258; reset 0 PRESUMED (log 34) -/
  coalescing : BitVec 32 := 0
  /-- vectors whose coalescing is disabled; w 65 bits; 12 R258; reset none PRESUMED (log 34) -/
  vectorCd : List Nat := []
  /-- asynchronous event configuration; w 32 bits; 12 R276; reset 0 PRESUMED (log 34) -/
  asyncCfg : BitVec 32 := 0
  /-- power state; w 2 bits; 12 R277; reset 0 -/
  power : Nat := 0
  /-- last operational power state; w 2 bits; 12 R277; reset 0 -/
  lastPower : Nat := 0
  /-- power state being entered, with the Set Features that asked; w -; 12 R278; reset none -/
  entering : Option (Nat × NvmeCmd) := none
  /-- commands fetched in power state 2 that wait for its exit; w -; 12 R277; reset none -/
  waking : List (IoKind × NvmeCmd) := []
  /-- Asynchronous Event Requests outstanding, oldest first; w 4; 12 R276; reset none -/
  aers : List NvmeCmd := []
  /-- events that wait for a request: type, information, log page; w -; 12 R276; reset none -/
  asyncDue : List (Nat × Nat × Nat) := []
  /-- management ticks' clock when 0xC0 was last reported, ns; w 64 bits; 12 R276; reset none -/
  directoryAt : Option Nat := none
  /-- event types reported and not yet cleared by reading their log; w -; 12 R276; reset none -/
  asyncMasked : List Nat := []
  /-- error information log, newest first; w 64 × 64 bytes; 12 R272; reset empty -/
  errors : List NvmeError := []
  /-- error count; w 64 bits; 12 R272; reset 0 -/
  errorCount : Nat := 0
  /-- fatal cause; w 2 bits; 12 R273; reset 0 -/
  fatal : Nat := 0
  /-- controller-fatal conditions; w 32 bits; 12 R273; reset 0 -/
  fatals : BitVec 32 := 0
  /-- ward table and its waiting users, in order; w 512 entries; 12 R268; reset empty -/
  ward : List Ward := []
  /-- order number of the next user (the model's own field); w -; 12 R268; reset 0 DESIGN CHOICE (log 17) -/
  wardNext : Nat := 0
  /-- ward waits; w 32 bits; 12 R269; reset 0 -/
  wardWaits : BitVec 32 := 0
  /-- writes refused on bound ranges; w 32 bits; 12 R271; reset 0 -/
  refused : BitVec 32 := 0
  /-- read errors; w 32 bits; 12 R264; reset 0 -/
  readErrors : BitVec 32 := 0
  /-- clips in the view, in the order they entered; w -; 12 R262; reset none -/
  view : List SealedClip := []
  /-- clip directory; w 262,143 entries; 12 R265; reset empty -/
  directory : List DirEntry := []
  /-- directory generation; w 64 bits; 12 R265; reset 0 -/
  generation : Nat := 0
  /-- next free LBA; w 64 bits; 12 R265; reset 4,096 -/
  nextLba : Nat := 4096
  /-- clips left out; w 32 bits; 12 R265; reset 0 -/
  leftOut : Nat := 0
  /-- namespace 2's stack; w 2 bits; 12 R267; reset 0 DESIGN CHOICE (log 9) -/
  scratchStack : StackId := 0
  /-- namespace 2's size, bytes; w 64 bits; 12 R267; reset 0 -/
  scratch : Nat := 0
  /-- HBM rate of each stack, MB/s; w 16 bits × 4; 12 R279; reset 16,000 -/
  hbmRates : Vector Nat 4 := Vector.replicate 4 16000
  /-- media read rate of each port, MB/s; w 16 bits × 2; 12 R279; reset 2,000 -/
  portRates : Vector Nat 2 := Vector.replicate 2 2000
  /-- bytes the target moved in this tick by stack; w 32 bits × 4; 12 R279; reset 0 -/
  hbmUsed : Vector Nat 4 := Vector.replicate 4 0
  /-- bytes the target moved in this tick by port; w 32 bits × 2; 12 R279; reset 0 -/
  portUsed : Vector Nat 2 := Vector.replicate 2 0
  deriving DecidableEq, Repr

/-! ## Security engine (21) -/

/-- A signature asked of the engine (R430, R431). -/
inductive Signature where
  /-- of a clip's manifest -/
  | manifest (c : CtxId) (clip : Nat) (leaf : Nat)
  /-- of an attestation: mailbox, tag, location kind and address, challenge -/
  | attestation (m : MbId) (tag : BitVec 16) (kind loc : Nat) (challenge : List Byte) (leaf : Nat)
  deriving DecidableEq, Repr

/-- A SEC_IMAGE_WRITE under way (R423). -/
structure ImageWrite where
  /-- issuing mailbox; w 3 bits; 21 R423; reset none -/
  mb : MbId
  /-- its tag; w 16 bits; 21 R423; reset none -/
  tag : BitVec 16
  /-- slot; w 1 bit; 21 R423; reset none -/
  slot : Nat
  /-- make it preferred; w 1 bit; 21 R427; reset none -/
  prefer : Bool
  /-- the image; w up to 16 MiB; 21 R422; reset none -/
  image : List Byte
  deriving DecidableEq, Repr

/-- The keyway's flash records and the security engine (21). Flash contents and fuses are kept through resets. -/
structure Security where
  /-- running slot: 0 A, 1 B, 2 SYS_BOOT_IMAGE, 3 hasp; w 8 bits; 21 R429; reset 0 DESIGN CHOICE (log 9) -/
  running : Nat := 0
  /-- preferred slot; w 1 bit; 21 R427; reset 0, no valid record -/
  preferred : Nat := 0
  /-- pending floor; w 7 bits; 21 R426; reset 0, no valid record -/
  pending : Nat := 0
  /-- sequence of the newest header record; w 64 bits; 21 R427; reset 0, no valid record -/
  headerSeq : Nat := 0
  /-- header records in the block; w 11 bits; 21 R427; reset 0 -/
  headerCount : Nat := 0
  /-- sequence of the newest reservation record; w 64 bits; 21 R432; reset 0, none written DESIGN CHOICE (log 35) -/
  leafSeq : Nat := 0
  /-- records in copies 0 and 1; w 11 bits × 2; 21 R432; reset 0 -/
  leafCounts : Nat × Nat := (0, 0)
  /-- first leaf of the block in use that is not reserved; w 41 bits; 21 R431; reset 0 -/
  limit : Nat := 0
  /-- next leaf; w 41 bits; 21 R431; reset 0 -/
  nextLeaf : Nat := 0
  /-- a block reservation is being written; w 1 bit; 21 R432; reset false -/
  reserving : Bool := false
  /-- signing disabled; w 1 bit; 21 R433; reset false -/
  disabled : Bool := false
  /-- signature under way; w -; 21 R430; reset none -/
  signing : Option Signature := none
  /-- signatures waiting, in order; w -; 21 R430; reset none -/
  queue : List Signature := []
  /-- signatures made; w 32 bits; 21 R433; reset 0 -/
  made : BitVec 32 := 0
  /-- the engine is being reset and rechecked; w 1 bit; 19 R385; reset false -/
  down : Bool := false
  /-- image writes under way; w -; 21 R423; reset none -/
  writes : List ImageWrite := []
  /-- SEC_SET_PREFERRED under way: mailbox, tag and slot; w -; 21 R427; reset none -/
  choosing : List (MbId × BitVec 16 × Nat) := []
  /-- rollback advance under way: mailbox, tag, target and floor before it; w -; 21 R426; reset none -/
  advancing : Option (MbId × BitVec 16 × Nat × Nat) := none
  deriving DecidableEq, Repr

end Sys2Proof.Machine
end

