-- ==== Sys2Proof/Machine/PartsVid.lean ====
section
/-!
DEFINITION. PartsVid: decode sessions and the coding cores (13).
-/

namespace Sys2Proof.Machine

/-- An access unit submitted and not yet consumed (VC_DECODE_SUBMIT). -/
structure AccessUnit where
  /-- index in submission order; w 64 bits; 13 R294; reset none -/
  index : Nat
  /-- mailbox of its VC_DECODE_SUBMIT; w 3 bits; 13 R292; reset none -/
  mb : MbId
  /-- tag of its VC_DECODE_SUBMIT; w 16 bits; 13 R292; reset none -/
  tag : BitVec 16
  /-- host address; w 64 bits; 13 R292; reset none -/
  addr : Nat
  /-- length; w 32 bits; 13 R292; reset none -/
  len : Nat
  /-- data before it was lost; w 1 bit; 13 R293; reset none -/
  lost : Bool
  deriving DecidableEq, Repr

/-- A decode session (R292 to R294). -/
structure Session where
  /-- declared maximum chroma format; w 2 bits; 13 R294; reset closed -/
  chroma : Nat
  /-- declared maximum bit depth; w 4 bits; 13 R294; reset closed -/
  depth : Nat
  /-- output slots; w 7 bits; 13 R294; reset closed -/
  slots : Nat
  /-- declared maximum width; w 14 bits; 13 R294; reset closed -/
  w : Nat
  /-- declared maximum height; w 13 bits; 13 R294; reset closed -/
  h : Nat
  /-- picture rate, per 1,000 s; w 32 bits; 13 R294; reset closed -/
  rate : Nat
  /-- host ring address; w 64 bits; 13 R294; reset closed -/
  ring : Nat
  /-- its core, none while suspended; w 3 bits; 13 R299; reset closed -/
  core : Option (Fin 8)
  /-- access units not consumed, oldest first; w -; 13 R292; reset none -/
  units : List AccessUnit := []
  /-- access units submitted; w 64 bits; 13 R294; reset 0 -/
  submitted : Nat := 0
  /-- pictures output; w 64 bits; 13 R294; reset 0 -/
  outputs : Nat := 0
  /-- output slots written: the next is this modulo the slots; w 64 bits; 13 R294; reset 0 -/
  written : Nat := 0
  /-- slot images waiting for a free slot, oldest first; w -; 13 R294; reset none -/
  waiting : List (List Byte) := []
  /-- a picture it was decoding when its core failed is concealed; w 1 bit; 13 R299; reset false -/
  concealNext : Bool := false
  deriving DecidableEq, Repr

/-- The coding cores (13). -/
structure Coders where
  /-- retired cores; w 8 bits; 13 R299; reset none -/
  retired : List (Fin 8) := []
  /-- decode sessions 0 to 15; w 16; 13 R292; reset closed -/
  sessions : Vector (Option Session) 16 := Vector.replicate 16 none
  /-- pictures with BUDGET_EXHAUSTED; w 32 bits; 13 R289; reset 0 -/
  exhausted : BitVec 32 := 0
  /-- repeat and skipped pictures; w 32 bits; 13 R283; reset 0 -/
  skipped : BitVec 32 := 0
  /-- concealed output pictures; w 32 bits; 13 R293; reset 0 -/
  concealed : BitVec 32 := 0
  /-- pictures abandoned at t_max; w 32 bits; 13 R292; reset 0 -/
  abandoned : BitVec 32 := 0
  deriving DecidableEq, Repr

end Sys2Proof.Machine
end

