-- ==== Sys2Proof/Machine/PartsOut.lean ====
section
/-!
DEFINITION. PartsOut: the four outputs (14) and the four audio ports (16).
-/

namespace Sys2Proof.Machine

/-! ## Outputs (14) -/

/-- A frame in a scan buffer, with the bank parts that travel with it (R303, R304). -/
structure ScanBuf where
  /-- context; w 3 bits; 14 R303; reset none -/
  ctx : CtxId
  /-- source frame number; w 48 bits; 14 R305; reset none -/
  frame : Nat
  /-- source frame marks; w 16 bits; 14 R305; reset none -/
  marks : BitVec 16
  /-- picture size; w 16 bits × 2; 14 R307; reset none -/
  size : Nat × Nat
  /-- bit depth, chroma format, coefficients; w 5 + 2 + 1 bits; 14 R307; reset none -/
  format : Nat × Nat × Nat
  /-- full range; w 1 bit; 14 R308; reset none -/
  full : Bool
  /-- placement: column and row; w 16 bits × 2; 14 R307; reset none -/
  place : Nat × Nat
  /-- overlay planes 0 and 1; w 24 bytes × 2; 14 R309; reset none -/
  planes : Overlay × Overlay
  /-- packed picture; w one grade buffer; 14 R303; reset none -/
  bytes : List Byte
  /-- its due latch point has passed; w 1 bit; 14 R306; reset none -/
  late : Bool := false
  deriving DecidableEq, Repr

/-- An entry of the output log (OUT_GET_STATUS). -/
structure OutLog where
  /-- output frame count; w 32 bits; 14 R305; reset none -/
  count : BitVec 32
  /-- source frame number; w 48 bits; 14 R305; reset none -/
  frame : Nat
  /-- source frame marks; w 16 bits; 14 R305; reset none -/
  marks : BitVec 16
  /-- flags of R305; w 16 bits; 14 R305; reset none -/
  flags : BitVec 16
  deriving DecidableEq, Repr

/-- Counts of OUT_GET_STATUS. -/
structure OutCounts where
  /-- output frames; w 32 bits; 14 R305; reset 0 -/
  frames : BitVec 32 := 0
  /-- repeats; w 32 bits; 14 R305; reset 0 -/
  repeats : BitVec 32 := 0
  /-- drops; w 32 bits; 14 R305; reset 0 -/
  drops : BitVec 32 := 0
  /-- late commits; w 32 bits; 14 R306; reset 0 -/
  late : BitVec 32 := 0
  /-- underruns; w 32 bits; 14 R313; reset 0 -/
  underruns : BitVec 32 := 0
  /-- freeze reports; w 32 bits; 14 R314; reset 0 -/
  freezes : BitVec 32 := 0
  /-- genlock or tearing-effect losses; w 32 bits; 14 R310; reset 0 -/
  losses : BitVec 32 := 0
  deriving DecidableEq, Repr

/-- Genlock states, with the codes of OUT_GENLOCK. -/
inductive GenlockState where
  | locked | lost | relocking
  deriving DecidableEq, Repr

/-- The code of OUT_GENLOCK. -/
def GenlockState.code : GenlockState → Nat
  | .locked => 0 | .lost => 1 | .relocking => 2

/-- Freeze detection of an output (R314). -/
structure Freeze where
  /-- source frame number latched last; w 48 bits; 14 R314; reset none -/
  last : Option Nat := none
  /-- CRC of the previous counted frame; w 32 bits; 14 R314; reset none -/
  crc : Option (BitVec 32) := none
  /-- run count; w 8 bits; 14 R314; reset 0 -/
  run : Nat := 0
  deriving DecidableEq, Repr

/-- One output: its generator, scan buffers and link (R301 to R315). -/
structure Output where
  /-- raster, none while stopped; w OUT_SET_RASTER; 14 R302; reset stopped -/
  raster : Option Raster := none
  /-- overlay planes while unbound; w 24 bytes × 2; 14 R309; reset off -/
  planes : Overlay × Overlay := ({}, {})
  /-- copies running, oldest first; w 3 scan buffers; 14 R303; reset none -/
  copying : List ScanBuf := []
  /-- committed frame not yet latched; w 1 scan buffer; 14 R304; reset none -/
  ready : Option ScanBuf := none
  /-- frame latched last; w 1 scan buffer; 14 R304; reset none -/
  shown : Option ScanBuf := none
  /-- source frames replaced since the last latch; w 32 bits; 14 R305; reset 0 -/
  replaced : Nat := 0
  /-- counts; w 7 × 32 bits; 14 R305; reset 0 -/
  counts : OutCounts := {}
  /-- output log, newest first; w 16 × 16 bytes; 14 R305; reset empty -/
  log : List OutLog := []
  /-- OUT_COMMIT_LATE has been posted since the last hinge; w 1 bit; 14 R306; reset false -/
  lateNow : Bool := false
  /-- freeze detection; w -; 14 R314; reset none -/
  freeze : Freeze := {}
  /-- genlock state; w 2 bits; 14 R310; reset lost DESIGN CHOICE (log 9) -/
  genlock : GenlockState := .lost
  /-- agreeing REF_V periods in a row; w 4 bits; 14 R310; reset 0 -/
  goodV : Nat := 0
  /-- REF_H edges since the last REF_V edge; w 13 bits; 14 R310; reset 0 -/
  refH : Nat := 0
  /-- instant of the last REF_V edge, ps; w 64 bits; 14 R310; reset none -/
  lastV : Option Int := none
  /-- TG3 free-runs for want of VF_TE; w 1 bit; 14 R311; reset false -/
  teFree : Bool := false
  /-- VF_TE periods missing in a row; w 2 bits; 14 R311; reset 0 -/
  teMissing : Nat := 0
  /-- agreeing VF_TE edges in a row while free-running; w 2 bits; 14 R311; reset 0 -/
  teGood : Nat := 0
  /-- instant of the last VF_TE edge, ps; w 64 bits; 14 R311; reset none -/
  lastTe : Option Int := none
  /-- HPD is high; w 1 bit; 14 R312; reset low -/
  hpd : Bool := false
  /-- DisplayPort lanes trained; w 4 bits; 14 R312; reset 0 -/
  lanes : Nat := 0
  /-- DisplayPort rate code; w 4 bits; 14 R312; reset 0 -/
  rate : Nat := 0
  /-- audio groups enabled; w 4 bits; 14 R315; reset 0 -/
  groups : BitVec 4 := 0
  /-- channel map; w 16 × 16 bits; 14 R315; reset 0 DESIGN CHOICE (log 9) -/
  channels : List (BitVec 16) := List.replicate 16 0
  deriving DecidableEq, Repr

/-! ## Audio ports (16) -/

/-- An audio port's configuration (AUD_PORT_CONFIG). -/
structure AudioCfg where
  /-- slave; w 1 bit; 16 R342; reset unconfigured -/
  slave : Bool
  /-- format: 0 I2S, 1 left-justified, 2 TDM; w 2 bits; 16 R340; reset unconfigured -/
  format : Nat
  /-- rate: 0 48, 1 96, 2 192 kHz; w 2 bits; 16 R341; reset unconfigured -/
  rate : Nat
  /-- slots; w 5 bits; 16 R341; reset unconfigured -/
  slots : Nat
  /-- slot width, bits; w 6 bits; 16 R340; reset unconfigured -/
  slotWidth : Nat
  /-- sample width, bits; w 6 bits; 16 R340; reset unconfigured -/
  sampleWidth : Nat
  /-- port that DOUT monitors; w 2 bits; 16 R348; reset unconfigured -/
  monitor : Option QuadId
  deriving DecidableEq, Repr

/-- A frame of a port's stream: slot and sample. -/
abbrev AudioFrame := List (Nat × BitVec 32)

/-- The gain of one slot (R347). -/
structure SlotGain where
  /-- place on the ramp, 0 silent to 64 full; w 7 bits; 16 R347; reset 0 -/
  pos : Nat := 0
  /-- last good value; w 32 bits; 16 R347; reset 0 -/
  hold : BitVec 32 := 0
  deriving DecidableEq, Repr

/-- How a stream stands after a loss or a run of its FIFO (R345, R346). -/
inductive FadeState where
  /-- true values -/
  | good
  /-- sample `i` of the fade-out comes next, from the values held -/
  | fading (i : Nat) (hold : AudioFrame)
  /-- silence -/
  | silent
  /-- sample `i` of the ramp-in comes next -/
  | ramping (i : Nat)
  deriving DecidableEq, Repr

/-- One audio port (R340 to R348). -/
structure AudioPort where
  /-- configuration; w AUD_PORT_CONFIG; 16 R340; reset unconfigured -/
  cfg : Option AudioCfg := none
  /-- running; w 1 bit; 16 R344; reset stopped -/
  running : Bool := false
  /-- instant of a timed start, ns; w 80 bits; 16 R344; reset none -/
  startAt : Option Nat := none
  /-- the start instant has passed and the first frame has not begun: its time, ns; w 80 bits; 16 R344; reset none -/
  awaiting : Option Nat := none
  /-- time of the first frame, ns; w 80 bits; 16 R344; reset 0 -/
  started : Nat := 0
  /-- clock lost; w 1 bit; 16 R345; reset false -/
  lost : Bool := false
  /-- good frames in a row while the clock is lost; w 7 bits; 16 R345; reset 0 -/
  goodFrames : Nat := 0
  /-- instant of the last frame, ps; w 64 bits; 16 R345; reset none -/
  lastFrame : Option Int := none
  /-- instant of the next synthesised frame, ps; w 64 bits; 16 R345; reset 0 -/
  synthAt : Int := 0
  /-- input mask; w 16 bits; 16 R347; reset 0 DESIGN CHOICE (log 9) -/
  inMask : BitVec 16 := 0
  /-- output mask; w 16 bits; 16 R347; reset 0 DESIGN CHOICE (log 9) -/
  outMask : BitVec 16 := 0
  /-- input slot gains; w 16; 16 R347; reset silent -/
  inGains : Vector SlotGain 16 := Vector.replicate 16 {}
  /-- output slot gains; w 16; 16 R347; reset silent -/
  outGains : Vector SlotGain 16 := Vector.replicate 16 {}
  /-- state of the input stream; w -; 16 R346; reset good -/
  inFade : FadeState := .good
  /-- state of the output stream; w -; 16 R346; reset good -/
  outFade : FadeState := .good
  /-- input FIFO, oldest first; a synthesised frame takes no place; w 256 frames; 16 R343; reset empty -/
  inFifo : List (Bool × AudioFrame) := []
  /-- output FIFO, oldest first; w 256 frames; 16 R343; reset empty -/
  outFifo : List AudioFrame := []
  /-- values sent last; w 16 × 32 bits; 16 R346; reset none -/
  outLast : AudioFrame := []
  /-- values received last; w 16 × 32 bits; 16 R346; reset none -/
  inLast : AudioFrame := []
  /-- input overrun lasts; w 1 bit; 16 R346; reset false -/
  overrun : Bool := false
  /-- output underrun lasts; w 1 bit; 16 R346; reset false -/
  underrun : Bool := false
  /-- the current block; w frames of one tick; 16 R343; reset empty -/
  block : List AudioFrame := []
  /-- the last complete block; w frames of one tick; 16 R343; reset empty -/
  lastBlock : List AudioFrame := []
  /-- instant of AUD_STOP in this interval, ps; w 64 bits; 16 AUD_STOP; reset none -/
  stoppedAt : Option Int := none
  /-- output frames still to send after a stop; w 7 bits; 16 AUD_STOP; reset 0 -/
  tail : Nat := 0
  /-- AUD_FADE due at the next hinge: 1 overrun, 2 underrun; w 2 bits; 16 R346; reset 0 -/
  fadeNow : Nat := 0
  /-- frames discarded since the last hinge; w 32 bits; 16 R346; reset 0 -/
  discardedNow : Nat := 0
  /-- overruns; w 32 bits; 16 AUD_GET_STATUS; reset 0 -/
  overruns : BitVec 32 := 0
  /-- underruns; w 32 bits; 16 AUD_GET_STATUS; reset 0 -/
  underruns : BitVec 32 := 0
  /-- clock losses; w 32 bits; 16 AUD_GET_STATUS; reset 0 -/
  losses : BitVec 32 := 0
  /-- frames discarded; w 32 bits; 16 AUD_GET_STATUS; reset 0 -/
  discarded : BitVec 32 := 0
  /-- measured rate, Hz; w 32 bits; 16 AUD_GET_STATUS; reset 0 -/
  measured : Nat := 0
  /-- frames of the second being measured and its start, ps; w -; 16 AUD_GET_STATUS; reset 0 -/
  measuring : Nat × Int := (0, 0)
  deriving DecidableEq, Repr

/-- The audio ports (16). -/
structure Audio where
  /-- external AUD_MCLK; w 1 bit; 16 R342; reset internal DESIGN CHOICE (log 9) -/
  external : Bool := false
  /-- ports A0 to A3; w 4; 16 R340; reset unconfigured -/
  ports : Vector AudioPort 4 := Vector.replicate 4 {}
  deriving DecidableEq, Repr

end Sys2Proof.Machine
end

