-- ==== Sys2Proof/Machine/PartsNet.lean ====
section
/-!
DEFINITION. PartsNet: Ethernet ports, senders, the PTP servo and the time triggers (15).
-/

namespace Sys2Proof.Machine

/-- An Ethernet port (R320 to R326). -/
structure EthPort where
  /-- mode; w 3 bits; 15 R320; reset 0 (off) DESIGN CHOICE (log 9) -/
  mode : Nat := 0
  /-- FEC; w 2 bits; 15 R320; reset 0 DESIGN CHOICE (log 9) -/
  fec : Nat := 0
  /-- auto-negotiation; w 1 bit; 15 R320; reset 0 DESIGN CHOICE (log 9) -/
  autoneg : Nat := 0
  /-- IPv4 address; w 32 bits; 15 R321; reset 0 DESIGN CHOICE (log 9) -/
  addr : Nat := 0
  /-- prefix length; w 8 bits; 15 NET_PORT_CONFIG; reset 0 DESIGN CHOICE (log 9) -/
  prefixLen : Nat := 0
  /-- ingress latency, ps; w 32 bits; 15 R325; reset 0 DESIGN CHOICE (log 9) -/
  ingress : Int := 0
  /-- egress latency, ps; w 32 bits; 15 R325; reset 0 DESIGN CHOICE (log 9) -/
  egress : Int := 0
  /-- link asymmetry A, ps; w 32 bits; 15 R325; reset 0 DESIGN CHOICE (log 9) -/
  asymmetry : Int := 0
  /-- link up; w 1 bit; 15 R322; reset down -/
  up : Bool := false
  /-- FEC codewords corrected; w 32 bits; 15 NET_GET_STATUS; reset 0 -/
  corrected : BitVec 32 := 0
  /-- FEC codewords uncorrectable; w 32 bits; 15 NET_GET_STATUS; reset 0 -/
  uncorrectable : BitVec 32 := 0
  /-- packets sent; w 64 bits; 15 NET_GET_STATUS; reset 0 -/
  sent : BitVec 64 := 0
  /-- PTP messages received; w 32 bits; 15 NET_GET_STATUS; reset 0 -/
  ptpReceived : BitVec 32 := 0
  /-- frames dropped on receive; w 32 bits; 15 R321; reset 0 -/
  dropped : BitVec 32 := 0
  /-- transmit stamps lost; w 32 bits; 15 R326; reset 0 -/
  stampsLost : BitVec 32 := 0
  /-- queue overflows; w 32 bits; 15 R326; reset 0 -/
  overflows : BitVec 32 := 0
  /-- stream frames not sent; w 32 bits; 15 R335; reset 0 -/
  notSent : BitVec 32 := 0
  /-- transmit time-stamp queue: sequenceId and stamp in 2^-16 ns, oldest first; w 16 entries; 15 R326; reset empty -/
  stamps : List (BitVec 16 × Nat) := []
  /-- overflow flag; w 1 bit; 15 R326; reset clear -/
  overflow : Bool := false
  deriving DecidableEq, Repr

/-- A frame that a sender is sending (R335). -/
structure SendJob where
  /-- the stream, as the frame's bank has it; w NET_SET_STREAM; 15 R333; reset none -/
  stream : Stream
  /-- context; w 3 bits; 15 R333; reset none -/
  ctx : CtxId
  /-- frame number; w 48 bits; 15 R333; reset none -/
  frame : Nat
  /-- frame marks; w 16 bits; 15 R333; reset none -/
  marks : BitVec 16
  /-- time of the taking hinge, ns; w 80 bits; 15 R333; reset none -/
  time : Nat
  /-- picture size; w 16 bits × 2; 15 R333; reset none -/
  size : Nat × Nat
  /-- bit depth and chroma format; w 5 + 2 bits; 15 R333; reset none -/
  format : Nat × Nat
  /-- full range; w 1 bit; 15 R333; reset none -/
  full : Bool
  /-- packed picture; w one grade buffer; 15 R333; reset none -/
  bytes : List Byte
  /-- packets sent of it; w 32 bits; 15 R335; reset none -/
  next : Nat := 0
  deriving DecidableEq, Repr

/-- A sender (R333). -/
structure Sender where
  /-- the live audio stream; w NET_SET_STREAM; 15 R333; reset off -/
  audio : Stream := {}
  /-- frames being sent, oldest first; w 3; 15 R335; reset none -/
  jobs : List SendJob := []
  /-- audio samples waiting: sample count and the 24-bit codes of the channels, oldest first; w -; 15 R333; reset none -/
  samples : List (Nat × List Nat) := []
  /-- extended RTP sequence number of the next packet; w 32 bits; 15 R334; reset 0 DESIGN CHOICE (log 9) -/
  seq : BitVec 32 := 0
  deriving DecidableEq, Repr

/-- The Ethernet ports and the senders (15). -/
structure Net where
  /-- EN0 and EN1; w 2; 15 R320; reset off -/
  ports : Vector EthPort 2 := Vector.replicate 2 {}
  /-- senders 0 to 23; w 24; 15 R333; reset off -/
  senders : Vector Sender 24 := Vector.replicate 24 {}
  deriving DecidableEq, Repr

/-- Servo states (R329). -/
inductive ServoState where
  | freeRun | acquiring | locked | holdover
  deriving DecidableEq, Repr

/-- The code of R329. -/
def ServoState.code : ServoState → Nat
  | .freeRun => 0 | .acquiring => 1 | .locked => 2 | .holdover => 3

/-- PTP configuration (R327). -/
structure PtpCfg where
  /-- enabled; w 1 bit; 15 TIME_SET_PTP; reset disabled DESIGN CHOICE (log 9) -/
  on : Bool := false
  /-- master-capable; w 1 bit; 15 R327; reset slave-only -/
  capable : Bool := false
  /-- domainNumber; w 7 bits; 15 R327; reset 127 -/
  domain : Nat := 127
  /-- primary port; w 1 bit; 15 TIME_SET_PTP; reset 0 DESIGN CHOICE (log 9) -/
  primary : Fin 2 := 0
  /-- backup port; w 8 bits; 15 R330; reset none DESIGN CHOICE (log 9) -/
  backup : Option (Fin 2) := none
  /-- priority1; w 8 bits; 15 R327; reset 128 -/
  priority1 : Nat := 128
  /-- priority2; w 8 bits; 15 R327; reset 128 -/
  priority2 : Nat := 128
  /-- logSyncInterval; w 8 bits; 15 R327; reset -3 -/
  logSync : Int := -3
  /-- logAnnounceInterval; w 8 bits; 15 R327; reset -2 -/
  logAnnounce : Int := -2
  /-- announceReceiptTimeout; w 4 bits; 15 R327; reset 3 -/
  timeout : Nat := 3
  /-- logMinDelayReqInterval; w 8 bits; 15 R327; reset -3 -/
  logDelay : Int := -3
  /-- step threshold, ns; w 32 bits; 15 TIME_SET_PTP; reset 1,000,000 -/
  step : Nat := 1000000
  /-- lock threshold, ns; w 32 bits; 15 TIME_SET_PTP; reset 100 -/
  lock : Nat := 100
  deriving DecidableEq, Repr

/-- The PTP clock and its servo (R327 to R330). -/
structure Ptp where
  /-- configuration; w TIME_SET_PTP; 15 R327; reset the defaults of R327 -/
  cfg : PtpCfg := {}
  /-- servo state; w 2 bits; 15 R329; reset FREE_RUN -/
  servo : ServoState := .freeRun
  /-- port in use; w 1 bit; 15 R330; reset 0 -/
  active : Fin 2 := 0
  /-- selected master; w its Announce; 15 R329; reset none -/
  master : Option Announce := none
  /-- last Announce of each port and its instant in ps; w 2; 15 R330; reset none -/
  heard : Vector (Option (Announce × Int)) 2 := Vector.replicate 2 none
  /-- last Sync: sequenceId, t1 and t2 in 2^-16 ns; w -; 15 R328; reset none -/
  sync : Option (BitVec 16 × Nat × Nat) := none
  /-- transmit stamps read from the queue; w -; 15 R326; reset none -/
  stamps : List (BitVec 16 × Nat) := []
  /-- Delay_Resp whose transmit stamp is still in the queue: sequenceId and t4; w -; 15 R328; reset none -/
  responses : List (BitVec 16 × Nat) := []
  /-- exchanges in a row within the lock threshold; w 5 bits; 15 R329; reset 0 -/
  good : Nat := 0
  /-- exchanges in a row beyond the step threshold while LOCKED; w 3 bits; 15 R329; reset 0 -/
  bad : Nat := 0
  /-- I at each Sync in LOCKED, newest first; w 34 bits × 64; 15 R329; reset none -/
  incs : List Nat := []
  /-- last offset o, ps; w 64 bits; 15 R328; reset 0 -/
  offset : Int := 0
  /-- mean path delay D, ns; w 32 bits; 15 R328; reset 0 -/
  delay : Int := 0
  /-- steps; w 32 bits; 15 R324; reset 0 -/
  steps : BitVec 32 := 0
  /-- instant the present HOLDOVER began, ps; w 64 bits; 15 TIME_GET_STATE; reset none -/
  heldAt : Option Int := none
  /-- length of the last HOLDOVER, ms; w 32 bits; 15 TIME_GET_STATE; reset 0 -/
  heldMs : Nat := 0
  /-- sequenceId of the next Delay_Req, Announce and Sync; w 16 bits × 3; 15 R327; reset 0 DESIGN CHOICE (log 9) -/
  sequences : BitVec 16 × BitVec 16 × BitVec 16 := (0, 0, 0)
  deriving DecidableEq, Repr

/-- A time trigger (R331). -/
structure TimeTrigger where
  /-- live program; w TIME_SET_TRIGGER; 15 R331; reset disabled -/
  prog : TrigProg := {}
  /-- next instant, ns, none when idle; w 80 bits; 15 R331; reset none -/
  next : Option Nat := none
  /-- the pulse is on; w 1 bit; 15 R331; reset off -/
  pulse : Bool := false
  /-- polarity of the last firing, low pulse; w 1 bit; 15 R331; reset high pulse DESIGN CHOICE (log 9) -/
  low : Bool := false
  deriving DecidableEq, Repr

/-- The time triggers TT0 to TT3. -/
structure Triggers where
  /-- TT0 to TT3; w 4; 15 R331; reset disabled -/
  tt : Vector TimeTrigger 4 := Vector.replicate 4 {}
  /-- firings of all triggers; w 32 bits; 15 TIME_GET_STATE; reset 0 -/
  firings : BitVec 32 := 0
  deriving DecidableEq, Repr

/-- The level of the trigger pin. -/
def TimeTrigger.level (t : TimeTrigger) : Bool := t.pulse != t.low

end Sys2Proof.Machine
end

