-- ==== Sys2Proof/Machine/PartsPos.lean ====
section
/-!
DEFINITION. PartsPos: the four position channels (17).
-/

namespace Sys2Proof.Machine

/-- A channel's configuration (POS_CONFIG). -/
structure PosCfg where
  /-- mode: 0 off, 1 quadrature, 2 Hall, 3 SSI; w 2 bits; 17 R351; reset 0 DESIGN CHOICE (log 9) -/
  mode : Nat := 0
  /-- filter f; w 5 bits; 17 R352; reset 0 DESIGN CHOICE (log 9) -/
  filter : Nat := 0
  /-- invert direction; w 1 bit; 17 R353; reset 0 DESIGN CHOICE (log 9) -/
  invert : Bool := false
  /-- SSI Gray code; w 1 bit; 17 R355; reset 0 DESIGN CHOICE (log 9) -/
  gray : Bool := false
  /-- index mode; w 2 bits; 17 R357; reset 0 DESIGN CHOICE (log 9) -/
  index : Nat := 0
  /-- gate code, bit 0 A, bit 1 B; w 2 bits; 17 R357; reset 0 DESIGN CHOICE (log 9) -/
  gate : Nat := 0
  /-- SSI bits b; w 6 bits; 17 R355; reset 0 DESIGN CHOICE (log 9) -/
  bits : Nat := 0
  /-- modulus M in use, 0 linear; w 33 bits; 17 R357; reset 0 DESIGN CHOICE (log 9) -/
  modulus : Nat := 0
  /-- index value; w 32 bits; 17 R357; reset 0 DESIGN CHOICE (log 9) -/
  indexValue : Int := 0
  /-- low and high limit; w 32 bits × 2; 17 R357; reset 0 DESIGN CHOICE (log 9) -/
  limits : Int × Int := (0, 0)
  /-- SSI clock, kHz; w 16 bits; 17 R355; reset 0 DESIGN CHOICE (log 9) -/
  clock : Nat := 0
  /-- SSI poll period, µs; w 16 bits; 17 R355; reset 0 DESIGN CHOICE (log 9) -/
  poll : Nat := 0
  /-- stall time, ms; w 16 bits; 17 R358; reset 0 DESIGN CHOICE (log 9) -/
  stall : Nat := 0
  deriving DecidableEq, Repr

/-- A sample (R359). -/
structure PosSample where
  /-- kind: 0 hinge, 1 compare, 2 index, 3 error; w 8 bits; 17 R359; reset none -/
  kind : Nat
  /-- compare entry index or error kind; w 10 bits; 17 R359; reset none -/
  detail : Nat
  /-- p; w 32 bits; 17 R359; reset none -/
  p : Int
  /-- time, ns; w 80 bits; 17 R359; reset none -/
  time : Nat
  /-- speed, binary32; w 32 bits; 17 R359; reset none -/
  speed : BitVec 32
  /-- tick counter; w 64 bits; 17 R359; reset none -/
  tick : BitVec 64
  deriving DecidableEq, Repr

/-- A position channel (R351 to R361). -/
structure PosChannel where
  /-- configuration; w POS_CONFIG; 17 R351; reset off -/
  cfg : PosCfg := {}
  /-- enabled; w 1 bit; 17 POS_CONTROL; reset disabled DESIGN CHOICE (log 9) -/
  on : Bool := false
  /-- accepted levels of A, B and Z; w 3 bits; 17 R352; reset low DESIGN CHOICE (log 9) -/
  pins : Bool × Bool × Bool := (false, false, false)
  /-- last valid Hall code; w 3 bits; 17 R354; reset none -/
  hall : Option Nat := none
  /-- raw position r; w 33 bits; 17 R351; reset 0 DESIGN CHOICE (log 9) -/
  r : Int := 0
  /-- position p; w 33 bits; 17 R356; reset 0 DESIGN CHOICE (log 9) -/
  p : Int := 0
  /-- an SSI reading has come since the enable; w 1 bit; 17 R356; reset false -/
  read : Bool := false
  /-- time of the last change of p, ns; w 80 bits; 17 R359; reset 0 DESIGN CHOICE (log 9) -/
  stamp : Nat := 0
  /-- speed, binary32; w 32 bits; 17 R358; reset 0 DESIGN CHOICE (log 9) -/
  speed : BitVec 32 := 0
  /-- changes of p since the last enable or reversal, newest first: travel and stamp; w 17; 17 R358; reset none -/
  changes : List (Int × Nat) := []
  /-- the last change moved positive; w 1 bit; 17 R357; reset none -/
  positive : Option Bool := none
  /-- compare table; w 1,024 entries; 17 R360; reset empty -/
  table : CompareTable := {}
  /-- POS_CMPn pulses; w 1 bit; 17 R360; reset inactive -/
  pulse : Bool := false
  /-- samples, newest first; w 256 × 32 bytes; 17 R359; reset empty -/
  samples : List PosSample := []
  /-- samples lost; w 32 bits; 17 R359; reset 0 -/
  lost : BitVec 32 := 0
  /-- errors of kinds 1 to 5; w 32 bits × 5; 17 R361; reset 0 -/
  errors : Vector (BitVec 32) 5 := Vector.replicate 5 0
  /-- compare events; w 32 bits; 17 POS_GET_STATUS; reset 0 -/
  compares : BitVec 32 := 0
  /-- error kinds posted since the last hinge; w 5 bits; 17 R361; reset none -/
  posted : List Nat := []
  deriving DecidableEq, Repr

end Sys2Proof.Machine
end

