-- ==== Sys2Proof/Machine/PartsHasp.lean ====
section
/-!
DEFINITION. PartsHasp: the hasp links, the workers as the manager sees them, and a worker's own side (18).
-/

namespace Sys2Proof.Machine

/-- States of a hasp port (R366). -/
inductive HaspState where
  | off | train | align | calibrate | up
  deriving DecidableEq, Repr

/-- The code of R366. -/
def HaspState.code : HaspState → Nat
  | .off => 0 | .train => 1 | .align => 2 | .calibrate => 3 | .up => 4

/-- A hasp port (R364 to R368). -/
structure HaspPort where
  /-- enabled; w 1 bit; 18 HASP_PORT_CONFIG; reset enabled DESIGN CHOICE (log 9) -/
  enabled : Bool := true
  /-- asymmetry A, ps; w 32 bits; 18 R368; reset 0 DESIGN CHOICE (log 9) -/
  asymmetry : Int := 0
  /-- state; w 3 bits; 18 R366; reset OFF -/
  state : HaspState := .off
  /-- failed, waiting for the retry; w 1 bit; 18 R366; reset false -/
  failed : Bool := false
  /-- neighbour's index; w 8 bits; 18 R366; reset none -/
  neighbour : Option Nat := none
  /-- hop delay, ps; w 32 bits; 18 R368; reset 0 -/
  hop : Int := 0
  deriving DecidableEq, Repr

/-- A forwarded command that a worker has not completed (R372). -/
structure Forward where
  /-- the HASP_FORWARD entry; w 64 bytes; 18 R372; reset none -/
  entry : Entry
  /-- HASP_FORWARD has completed with TIMEOUT; w 1 bit; 18 HASP_FORWARD; reset none -/
  timedOut : Bool := false
  deriving DecidableEq, Repr

/-- A worker as the manager sees it (R372 to R374, R380). -/
structure Worker where
  /-- joined; w 1 bit; 18 R365; reset not joined -/
  joined : Bool := false
  /-- its last heartbeat; w -; 18 R374; reset none -/
  beat : Option Heartbeat := none
  /-- forwarded command outstanding; w -; 18 R372; reset none -/
  forward : Option Forward := none
  /-- held commands it has accepted from this manager; w 7 bits; 18 R373; reset 0 -/
  held : Nat := 0
  /-- relay ring, oldest first; w 128 × 32 bytes; 18 R374; reset empty -/
  relay : List EventEntry := []
  /-- relay entries overwritten; w 32 bits; 18 R374; reset 0 -/
  lost : BitVec 32 := 0
  /-- entries added since the last hinge; w 32 bits; 18 R374; reset 0 -/
  added : Nat := 0
  /-- its bands take no effect until a new HASP_ARM names it; w 1 bit; 18 R380; reset false -/
  barred : Bool := false
  deriving DecidableEq, Repr

/-- A HASP_ARM in execution (R373). -/
structure ArmRun where
  /-- mailbox; w 3 bits; 18 R373; reset none -/
  mb : MbId
  /-- package mask; w 8 bits; 18 HASP_ARM; reset none -/
  mask : Nat
  /-- target hinge; w 64 bits; 18 R373; reset none -/
  target : Nat
  /-- arm id; w 32 bits; 18 R373; reset none -/
  id : Nat
  /-- workers still to confirm; w 8 bits; 18 R373; reset none -/
  waiting : List (Fin 8)
  deriving DecidableEq, Repr

/-- Rows, means and partials that other packages sent for a split frame, before they are used (R376 to R378, R194). -/
structure SplitPart where
  /-- context; w 3 bits; 18 R376; reset none -/
  ctx : CtxId
  /-- taking tick of the frame; w 64 bits; 18 R367; reset none -/
  tick : Nat
  /-- sending package; w 3 bits; 18 R367; reset none -/
  source : Nat
  /-- message class: 4 grade rows, 5 statistics partial; w 8 bits; 18 R367; reset none -/
  cls : Nat
  /-- class data: grade, row and part; w 64 bits; 18 R367; reset none -/
  place : Nat × Nat × Nat
  /-- payload; w 4,096 bytes; 18 R367; reset none -/
  bytes : List Byte
  deriving DecidableEq, Repr

/-- The hasp links and what runs over them (18). -/
structure Hasp where
  /-- ports 0 and 1; w 2; 18 R364; reset off -/
  ports : Vector HaspPort 2 := Vector.replicate 2 {}
  /-- workers 1 to 7, entry 0 unused; w 8; 18 R374; reset none joined -/
  workers : Vector Worker 8 := Vector.replicate 8 {}
  /-- CRC failures; w 32 bits; 18 R367; reset 0 -/
  crcFailures : BitVec 32 := 0
  /-- resends; w 32 bits; 18 R367; reset 0 -/
  resends : BitVec 32 := 0
  /-- broadcasts missed; w 32 bits; 18 R371; reset 0 -/
  missed : BitVec 32 := 0
  /-- remaining lead at the last hinge, ps; w 32 bits; 18 R369; reset 0 -/
  lead : Nat := 0
  /-- last arm id; w 32 bits; 18 R373; reset 0 DESIGN CHOICE (log 9) -/
  armId : Nat := 0
  /-- HASP_ARM in execution; w -; 18 R373; reset none -/
  arm : Option ArmRun := none
  /-- commit that a broadcast is to carry: hinge and arm id; w -; 18 R373; reset none -/
  commit : Option (Nat × Nat) := none
  /-- this worker has joined; w 1 bit; 18 R370; reset false -/
  joined : Bool := false
  /-- broadcast of the coming hinge; w -; 18 R369; reset none -/
  broadcast : Option Broadcast := none
  /-- the manager's holdover flag; w 1 bit; 18 R370; reset false -/
  managerHeld : Bool := false
  /-- state of the manager last posted: 0 present, 1 lost, 2 deadbolt; w 2 bits; 18 R381; reset 0 DESIGN CHOICE (log 9) -/
  manager : Nat := 0
  /-- arm id of a commit this worker holds pending, and its hinge; w -; 18 R373; reset none -/
  pendingArm : Option (Nat × Nat) := none
  /-- last arm id applied; w 32 bits; 18 R374; reset 0 DESIGN CHOICE (log 9) -/
  applied : Nat := 0
  /-- a commit broadcast was missed; w 1 bit; 18 R373; reset false -/
  commitMissed : Bool := false
  /-- parts received of split frames; w -; 18 R378; reset none -/
  parts : List SplitPart := []
  deriving DecidableEq, Repr

end Sys2Proof.Machine
end

