-- ==== Sys2Proof/Machine/PartsTwb.lean ====
section
/-!
DEFINITION. PartsTwb: the two-wire target (23), the blocks being reset and the fabric ports that hang (03, 20), and the
boot flash operations (20).
-/

namespace Sys2Proof.Machine

/-- Where the two-wire target stands in a transaction (R447, R448). -/
inductive TwbPhase where
  /-- no transaction, or one that does not address the device -/
  | idle
  /-- after a START: the address byte comes next -/
  | address
  /-- addressed to write: the pointer byte comes next -/
  | pointer
  /-- written bytes come -/
  | write
  /-- read bytes leave -/
  | read
  deriving DecidableEq, Repr

/-- The two-wire target (R445 to R454). -/
structure Twb where
  /-- state of the transaction; w 3 bits; 23 R447; reset idle -/
  phase : TwbPhase := .idle
  /-- window pointer; w 8 bits; 23 R447; reset 0x00 -/
  pointer : Byte := 0
  /-- copy of the window that the read transaction reads; w 256 bytes; 23 R447; reset none -/
  snapshot : List Byte := []
  /-- CMD; w 64 bytes; 23 R451; reset 0 -/
  cmd : List Byte := List.replicate 64 0
  /-- CPL; w 32 bytes; 23 R451; reset 0 -/
  cpl : List Byte := List.replicate 32 0
  /-- MB4STATE bit 0, command pending; w 1 bit; 23 R451; reset 0 -/
  busy : Bool := false
  /-- MB4STATE bit 1, completion valid; w 1 bit; 23 R451; reset 0 -/
  valid : Bool := false
  /-- MB4STATE bit 2, last doorbell refused; w 1 bit; 23 R451; reset 0 -/
  refused : Bool := false
  /-- APBASE in effect; w 32 bits; 23 R452; reset 0 -/
  apbase : Nat := 0
  /-- APBASE bytes written since it last took effect, by place; w 4 bytes; 23 R452; reset none -/
  staged : List (Nat × Byte) := []
  /-- glitch filter n in use; w 5 bits; 23 R446; reset 3 -/
  filter : Nat := 3
  /-- glitch filter n from the next START; w 5 bits; 23 R454; reset 3 -/
  filterNext : Nat := 3
  deriving DecidableEq, Repr

/-- A SYS_BLOCK_RESET whose block drains (R28, SYS_BLOCK_RESET). -/
structure BlockReset where
  /-- issuing mailbox; w 3 bits; 03 SYS_BLOCK_RESET; reset none -/
  mb : MbId
  /-- block; w 8 bits; 03 SYS_BLOCK_RESET; reset none -/
  block : Nat
  deriving DecidableEq, Repr

/-- A SYS_FLASH under way (R418). -/
structure FlashOp where
  /-- issuing mailbox; w 3 bits; 20 SYS_FLASH; reset none -/
  mb : MbId
  /-- its tag; w 16 bits; 20 SYS_FLASH; reset none -/
  tag : BitVec 16
  /-- operation: 0 read, 1 write, 2 erase; w 2 bits; 20 SYS_FLASH; reset none -/
  op : Nat
  /-- flash address; w 32 bits; 20 SYS_FLASH; reset none -/
  addr : Nat
  /-- length; w 25 bits; 20 SYS_FLASH; reset none -/
  len : Nat
  /-- bytes to program; w up to 16 MiB; 20 SYS_FLASH; reset none -/
  data : List Byte
  /-- payload location kind; w 2 bits; 03 R70; reset none -/
  kind : Nat
  /-- payload location; w 64 bits; 03 R70; reset none -/
  loc : Nat
  deriving DecidableEq, Repr

/-- Blocks out of service and boot flash operations. -/
structure Control where
  /-- SYS_BLOCK_RESETs that drain, oldest first; w 7; 03 SYS_BLOCK_RESET; reset none -/
  draining : List BlockReset := []
  /-- blocks reset that return to service at the next hinge; w 8 bits each; 03 SYS_BLOCK_RESET; reset none -/
  returning : List Nat := []
  /-- blocks that did not come out of reset: fenced; w 8 bits each; 03 SYS_BLOCK_RESET; reset none -/
  dead : List Nat := []
  /-- blocks behind a hung fabric port; w 8 bits each; 20 R420; reset none -/
  hung : List Nat := []
  /-- SYS_FLASH operations under way, oldest first; w -; 20 R418; reset none -/
  flash : List FlashOp := []
  deriving DecidableEq, Repr

end Sys2Proof.Machine
end

