-- ==== Sys2Proof/Machine/Emission.lean ====
section
/-!
DEFINITION. Emission: what the device puts on its pins and links, in order. `State.out` logs it, so that an
effect that leaves the device is part of the next state.
-/

namespace Sys2Proof.Machine

/-- One thing the device sends. -/
inductive Emission where
  /-- an MSI-X message (R74) -/
  | msix (vector : Nat) (addr : BitVec 64) (data : BitVec 32)
  /-- a back-channel block of a sensor port, control or data, before scrambling (R106) -/
  | backChannel (p : PortId) (control : Bool) (word : BitVec 64)
  /-- an MSI-X message of function 1 (R255) -/
  | nvmeMsix (vector : Nat) (addr : BitVec 64) (data : BitVec 32)
  /-- a command to the drive on a media port (R245) -/
  | media (port : Fin 2) (use : MediaUse)
  /-- a stack controller's response: requester, address, error, and the data of a read, poisoned bursts as zeros
  (R205) -/
  | memory (requester : Byte) (addr : Nat) (error : Bool) (data : List Byte)
  /-- an output frame: its active raster, row by row, each row its component codes in order (R307, R308) -/
  | picture (o : QuadId) (rows : List (List Nat))
  /-- the rest of the line now being sent is border colour (R313) -/
  | borderLine (o : QuadId)
  /-- the audio of an SDI output frame: each channel's port and slot, none for silence (R315) -/
  | embedded (o : QuadId) (groups : BitVec 4) (synchronous : Bool) (channels : List (Option (QuadId × Nat)))
  /-- a frame on DOUT of an audio port: the samples of its slots (R340, R348) -/
  | dout (p : QuadId) (samples : List (BitVec 32))
  /-- an RTP packet of a video or audio sender: marker, extended sequence number, timestamp and the payload after the RTP
  header (R333, R334) -/
  | packet (port : Fin 2) (stream : Fin 24) (marker : Bool) (seq : BitVec 32) (timestamp : Nat) (payload : List Byte)
  /-- an ancillary packet: the time code and the words of the frame packet (R333) -/
  | ancillary (port : Fin 2) (stream : Fin 24) (seq : BitVec 32) (timestamp : Nat) (timeCode : Nat) (words : List Nat)
  /-- an ARP reply to a sender (R321) -/
  | arp (port : Fin 2) (target : BitVec 32) (mac : BitVec 48)
  /-- a PTP or IGMP message: its sequenceId, and the time a Follow_Up carries, in 2^-16 ns (R321, R327) -/
  | ptp (port : Fin 2) (kind : PtpKind) (seq : BitVec 16) (time : Nat)
  /-- a hasp message (R367) -/
  | hasp (port : Fin 2) (m : HaspMessage)
  /-- a hinge broadcast (R369) -/
  | broadcast (port : Fin 2) (b : Broadcast)
  /-- a worker's heartbeat (R374) -/
  | heartbeat (h : Heartbeat)
  /-- a worker's event, relayed to the manager (R374) -/
  | relay (x : EventEntry)
  /-- a worker's completion of a forwarded command, with the payload it wrote to the arena (R372) -/
  | forwarded (x : Completion) (payload : List Byte)
  /-- an acknowledge of the two-wire target: driven low, or not (R447) -/
  | twbAck (low : Bool)
  /-- a byte the two-wire target sends (R447) -/
  | twbByte (value : Byte)
  /-- the two-wire target lets go of SDA (R450) -/
  | twbRelease
  /-- a hung fabric port's answer after 1 ms: an error with poisoned data (R420) -/
  | hungAnswer (requester : Byte) (addr : Nat)
  deriving DecidableEq, Repr

end Sys2Proof.Machine
end

