-- ==== Sys2Proof/Machine/State.lean ====
section
/-!
DEFINITION. State: everything the spec gives the block, as plain data. Every field's default is its reset value.
-/

namespace Sys2Proof.Machine

/-- The reasons a command stops with a fault. -/
inductive Fault where
  /-- Nothing raises it: every command has an effect from every state. It keeps the type inhabited. Safe. -/
  | illFormed
  deriving DecidableEq, Repr

/-- The reasons a command is refused. -/
inductive Refusal where
  /-- Raised by an arm of `exec` whose command has no meaning yet. Safe. -/
  | notModelled (mnemonic : String)
  deriving DecidableEq, Repr

/-- One held command (R50). -/
structure Held where
  /-- its changes; w -; 02 R50; reset no hold set -/
  changes : List Change
  /-- its context, if one; w 3 bits; 02 R50; reset no hold set -/
  ctx : Option CtxId
  /-- its acceptance sequence; w 32 bits; 03 R71; reset no hold set -/
  seq : Nat
  deriving DecidableEq, Repr

/-- The hold set (R50). -/
structure HoldSet where
  /-- owning mailbox; w 3 bits; 02 R50; reset no hold set -/
  owner : MbId
  /-- held commands, oldest first; w 64 commands; 02 R50; reset no hold set -/
  items : List Held
  deriving DecidableEq, Repr

/-- The command model's own state (02, 03). -/
structure Front0 where
  /-- armed changes, oldest acceptance first; w -; 02 R48; reset none -/
  armed : List Armed := []
  /-- hold set; w -; 02 R50; reset none -/
  hold : Option HoldSet := none
  /-- commands accepted; w 32 bits; 03 R71; reset 0 -/
  accepted : BitVec 32 := 0
  /-- events raised; w 32 bits; 03 R72; reset 0 -/
  eventSeq : BitVec 32 := 0
  /-- mailbox served first in this management tick; w 3 bits; 03 R78; reset 0 DESIGN CHOICE (log 13) -/
  rotation : MbId := 0
  deriving DecidableEq, Repr

/-- BAR0 and the interrupt registers (R64, R75). -/
structure Bar0 where
  /-- TICK_HI as latched; w 32 bits; 03 R64; reset 0 -/
  tickHi : BitVec 32 := 0
  /-- HEARTBEAT; w 32 bits; 03 R64; reset 0 -/
  heartbeat : BitVec 32 := 0
  /-- INT_CAUSE; w 32 bits; 03 R64; reset 0 -/
  intCause : BitVec 32 := 0
  /-- MSI-X table; w 32 × 128 bits; 03 R63; reset masked PRESUMED (log 11) -/
  msix : Vector MsixEntry 32 := Vector.replicate 32 {}
  /-- MSI-X pending bits; w 32 bits; 03 R64; reset 0 -/
  pba : BitVec 32 := 0
  /-- what the last BAR0 read answered (the model's own field); w 32 bits; 03 R64; reset 0 DESIGN CHOICE (log 14) -/
  lastRead : BitVec 32 := 0
  deriving DecidableEq, Repr

/-- The state of the block. -/
structure State where
  /-- commands waiting, first in, first out (the model's own field); w -; 03 R68; reset empty -/
  pending : List Instr := []
  /-- TIME clocks of 2 ns since reset (the model's own field); w -; 01 R29; reset 0 DESIGN CHOICE (log 2) -/
  clk : Nat := 0
  /-- what the device has sent, newest first (the model's own field); w -; 01 R8; reset none DESIGN CHOICE (log 15) -/
  out : List Emission := []
  /-- counter the free values are applied to (the model's own field); w -; 00 R2; reset 0 DESIGN CHOICE (log 16) -/
  free : Nat := 0
  /-- DEV_STATE[3:0]; w 4 bits; 03 R65; reset 0 -/
  devState : Nat := 0
  /-- the management processor runs Kongaord; w 1 bit; 20 R410; reset false -/
  kongaord : Bool := false
  /-- reset, strap and boot; w -; 20 R404; reset see Boot -/
  boot : Boot := {}
  /-- tick generator and hinge sequencer; w -; 02 R36; reset see TickGen -/
  tick : TickGen := {}
  /-- acceptance and arming; w -; 02 R48; reset see Front0 -/
  cmd : Front0 := {}
  /-- the eight mailboxes; w -; 03 R66; reset disabled, masks as R73 -/
  mailboxes : Vector Mailbox 8 := (Vector.replicate 8 {}).set 0 { mask := 0x000FFFFE#32 }
  /-- BAR0 registers; w -; 03 R64; reset see Bar0 -/
  bar0 : Bar0 := {}
  /-- host memory as the device has written it; w 64-bit addresses; 03 R70; reset none written DESIGN CHOICE (log 10) -/
  hostMem : List Host.Cell := []
  /-- the PCIe link is up and Bus Master Enable set; w 1 bit; 20 R409; reset down -/
  hostUp : Bool := false
  /-- fault collector; w -; 19 R386; reset see Collector -/
  collector : Collector := {}
  /-- regions A0, A1, B0, B1; w -; 01 R18; reset see Region -/
  regions : Vector Region 4 := Vector.replicate 4 {}
  /-- sensor ports P0 to P3; w -; 04 R86; reset OFF, unconfigured -/
  ports : Vector Port 4 := Vector.replicate 4 {}
  /-- contexts C0 to C7; w -; 05 R118; reset FREE -/
  contexts : Vector Context 8 := Vector.replicate 8 {}
  /-- LUT slots by region; w 4 × 16; 07 R182; reset FREE -/
  luts : Vector (Vector LutSlot 16) 4 := Vector.replicate 4 (Vector.replicate 16 {})
  /-- LUT loads in progress; w -; 07 R182; reset none -/
  lutLoads : List LutLoad := []
  /-- last load number; w 32 bits; 07 R182; reset 0 -/
  lutCount : Nat := 0
  /-- front-end table pool; w 128 MiB per stack; 06 R154; reset empty -/
  tables : List TableVersion := []
  /-- last table version number (the model's own field); w -; 06 R154; reset 0 DESIGN CHOICE (log 17) -/
  tableCount : Nat := 0
  /-- power domains and clocks; w -; 22 R436; reset see Power -/
  power : Power := {}
  /-- thermal measurement; w -; 22 R440; reset see Thermal -/
  thermal : Thermal := {}
  /-- time base; w -; 15 R323; reset see TimeBase -/
  time : TimeBase := {}
  /-- compression engine; w -; 10 R218; reset see Compression -/
  cmp : Compression := {}
  /-- recording of each context; w 8; 11 R237; reset idle -/
  recs : Vector Recording 8 := Vector.replicate 8 {}
  /-- host rings; w -; 11 R237; reset none -/
  hostRings : List HostRing := []
  /-- clips opened since reset; w 29 bits; 11 R238; reset 0 -/
  clipCount : Nat := 0
  /-- media ports MP0 and MP1; w 2; 11 R245; reset unmounted -/
  media : Vector MediaPort 2 := Vector.replicate 2 {}
  /-- storage target; w -; 12 R256; reset see Storage -/
  stg : Storage := {}
  /-- security engine and keyway records; w -; 21 R430; reset see Security -/
  sec : Security := {}
  /-- coding cores; w -; 13 R292; reset see Coders -/
  vc : Coders := {}
  /-- outputs TG0 to TG3; w 4; 14 R301; reset stopped -/
  outputs : Vector Output 4 := Vector.replicate 4 {}
  /-- audio ports; w -; 16 R340; reset see Audio -/
  audio : Audio := {}
  /-- Ethernet ports and senders; w -; 15 R320; reset see Net -/
  net : Net := {}
  /-- PTP clock; w -; 15 R327; reset see Ptp -/
  ptp : Ptp := {}
  /-- time triggers; w -; 15 R331; reset see Triggers -/
  triggers : Triggers := {}
  /-- position channels Q0 to Q3; w 4; 17 R351; reset off -/
  pos : Vector PosChannel 4 := Vector.replicate 4 {}
  /-- hasp links; w -; 18 R364; reset see Hasp -/
  hasp : Hasp := {}
  /-- two-wire target; w -; 23 R445; reset see Twb -/
  twb : Twb := {}
  /-- blocks out of service and flash operations; w -; 03 SYS_BLOCK_RESET; reset none -/
  control : Control := {}
  /-- namespace 2, byte by byte; w its size; 12 R267; reset empty -/
  ns2 : List Host.Cell := []
  /-- memory subsystem; w -; 09 R197; reset see Mem -/
  mem : Mem := {}
  /-- boot flash, byte by byte, each as its difference from an erased byte; w to the end of the part; 20 R420; reset erased DESIGN CHOICE (log 10) -/
  flash : List Host.Cell := []
  deriving DecidableEq, Repr

/-- The machine right after reset: AON power-on asserted, everything at its reset value (R404, R405). -/
def State.reset : State := {}

end Sys2Proof.Machine
end

