-- ==== Sys2Proof/Machine/Operands.lean ====
section
/-!
DEFINITION. Operands: bytes and byte order (R4), the payload of an entry and its field checks (R5, R79), the
three CRCs, saturating counters, and sparse byte memory.
-/

namespace Sys2Proof.Machine

/-! ## Bytes -/

/-- The number that bytes hold, least significant first (R4). -/
def leNat : List Byte → Nat
  | [] => 0
  | b :: bs => b.toNat + 256 * leNat bs

/-- `size` bytes of a number, least significant first (R4). -/
def leBytes : Nat → Nat → List Byte
  | 0, _ => []
  | size + 1, v => BitVec.ofNat 8 v :: leBytes size (v / 256)

/-- `size` bytes of a number in two's complement, least significant first. -/
def leInt (size : Nat) (v : Int) : List Byte := leBytes size (v % (2 ^ (8 * size) : Nat)).toNat

/-- The bytes of `l` from `off`, `size` of them, zeros beyond the end. -/
def slice (l : List Byte) (off size : Nat) : List Byte :=
  let t := (l.drop off).take size
  t ++ List.replicate (size - t.length) 0

/-- The field of `size` bytes at `off` (R4). -/
def fieldAt (l : List Byte) (off size : Nat) : Nat := leNat (slice l off size)

/-- A number of `bits` bits read as two's complement. -/
def signed (bits v : Nat) : Int :=
  if v % 2 ^ bits < 2 ^ (bits - 1) then (v % 2 ^ bits : Nat) else (v % 2 ^ bits : Nat) - (2 ^ bits : Nat)

/-- Bytes `at off` replace those of `l`. -/
def overlay (l : List Byte) (off : Nat) (b : List Byte) : List Byte :=
  l.take off ++ b ++ l.drop (off + b.length)

/-- A structure of `size` bytes, zero but for the pieces given by offset (R5). -/
def image (size : Nat) (pieces : List (Nat × List Byte)) : List Byte :=
  pieces.foldl (fun l p => overlay l p.1 p.2) (List.replicate size 0)

/-- A field of a structure to be written: offset, size and value. -/
def put (off size v : Nat) : Nat × List Byte := (off, leBytes size v)

/-- A flag as a number. -/
def bit (b : Bool) : Nat := if b then 1 else 0

/-- The bits of a mask set by a predicate over `n` positions. -/
def maskOf (n : Nat) (p : Nat → Bool) : Nat :=
  (List.range n).foldl (fun m i => m + bit (p i) * 2 ^ i) 0

/-- Bit `i` of a number. -/
def hasBit (v i : Nat) : Bool := v.testBit i

/-! ## Saturating counters -/

/-- One more, saturating. -/
def bump {w : Nat} (c : BitVec w) : BitVec w := if c = BitVec.allOnes w then c else c + 1

/-- `n` more, saturating. -/
def bumpBy {w : Nat} (c : BitVec w) (n : Nat) : BitVec w :=
  if c.toNat + n < 2 ^ w then BitVec.ofNat w (c.toNat + n) else BitVec.allOnes w

/-- Four samples of 14 bits in 7 bytes (R100, R123). -/
def packGroup (l : List Nat) : List Byte := leBytes 7 ((l.take 4).zipIdx.map fun x => x.1 % 2 ^ 14 * 2 ^ (14 * x.2)).sum

/-- Samples packed four per 7 bytes, zeros at the end (R123). -/
def packSamples (l : List Nat) : List Byte := (List.range (l.length / 4 + (if l.length % 4 = 0 then 0 else 1))).flatMap
  fun i => packGroup (l.drop (4 * i))

/-! ## Integer rounding -/

/-- `n / d` rounded to the nearest integer, ties away from zero (R138). -/
def roundAway (n : Int) (d : Nat) : Int :=
  if n < 0 then -((2 * (-n) + d) / (2 * d) : Int) else (2 * n + d) / (2 * d)

/-- `a / b` rounded up. -/
def ceilDiv (a b : Nat) : Nat := (a + b - 1) / b

/-- Bytes an allocation of `n` bytes takes: 4 KiB multiples (R216). -/
def alloc (n : Nat) : Nat := 4096 * ceilDiv n 4096

/-- `v` clamped to `[lo, hi]`. -/
def clampInt (lo hi v : Int) : Int := max lo (min hi v)

/-! ## CRCs (R95) -/

/-- CRC-8, polynomial 0x07, one byte. -/
def crc8Byte (crc b : Byte) : Byte :=
  (List.range 8).foldl (fun c _ => if c.msb then (c <<< 1) ^^^ 0x07 else c <<< 1) (crc ^^^ b)

/-- CRC-8 of R95: initial value 0, not reflected. -/
def crc8 (l : List Byte) : Byte := l.foldl crc8Byte 0

/-- One byte of a reflected 32-bit CRC with reversed polynomial `poly`. -/
def crc32Byte (poly : BitVec 32) (crc : BitVec 32) (b : Byte) : BitVec 32 :=
  (List.range 8).foldl (fun c _ => if c.getLsbD 0 then (c >>> 1) ^^^ poly else c >>> 1)
    (crc ^^^ b.setWidth 32)

/-- CRC-32C of R95: polynomial 0x1EDC_6F41 reflected, initial value and final XOR all ones. -/
def crc32c (l : List Byte) : BitVec 32 := ~~~ (l.foldl (crc32Byte 0x82F63B78) 0xFFFFFFFF)

/-- CRC-32 of gzip (RFC 1952): polynomial 0x04C1_1DB7 reflected. -/
def crc32 (l : List Byte) : BitVec 32 := ~~~ (l.foldl (crc32Byte 0xEDB88320) 0xFFFFFFFF)

/-! ## Sparse byte memory -/

/-- The byte at `a`; an address not listed reads 0 (log 10). -/
def readCell (m : List Host.Cell) (a : Nat) : Byte :=
  match m with
  | [] => 0
  | (b, v) :: rest => if b = a then v else readCell rest a

/-- `v` at `a`, keeping the canonical form: addresses rising, no byte listed that is 0. -/
def writeCell (m : List Host.Cell) (a : Nat) (v : Byte) : List Host.Cell :=
  match m with
  | [] => if v = 0 then [] else [(a, v)]
  | (b, w) :: rest =>
    if a < b then (if v = 0 then (b, w) :: rest else (a, v) :: (b, w) :: rest)
    else if a = b then (if v = 0 then rest else (a, v) :: rest)
    else (b, w) :: writeCell rest a v

/-- Bytes from `a` on. -/
def writeCells (m : List Host.Cell) (a : Nat) : List Byte → List Host.Cell
  | [] => m
  | v :: vs => writeCells (writeCell m a v) (a + 1) vs

/-- `n` bytes from `a` on. -/
def readCells (m : List Host.Cell) (a n : Nat) : List Byte :=
  (List.range n).map fun i => readCell m (a + i)

/-- Every address of `m` lies above `lo` and rises, and no listed byte is 0. -/
def cellsAbove : Option Nat → List Host.Cell → Bool
  | _, [] => true
  | lo, (a, v) :: rest => (match lo with | none => true | some l => decide (l < a)) && decide (v ≠ 0) &&
      cellsAbove (some a) rest

/-- The canonical form of a sparse memory. -/
abbrev Memory.wf (m : List Host.Cell) : Bool := cellsAbove none m

/-! ## Entries and their fields -/

/-- Payload locations (R70). -/
def entryLoc (e : Entry) : Nat := (e.flags >>> 1).toNat % 4

/-- The payload as the device reads it (R70). -/
def payload (e : Entry) : List Byte :=
  if entryLoc e = 0 then slice e.inl 0 e.len.toNat else slice e.data 0 e.len.toNat

/-- A field of the payload. -/
def arg (e : Entry) (off size : Nat) : Nat := fieldAt (payload e) off size

/-- The HOLD flag (R70). -/
def holds (e : Entry) : Bool := e.flags.getLsbD 0

/-- A payload field and its valid values (R79 step 5). -/
structure Field where
  off : Nat
  size : Nat
  ok : Nat → Bool

/-- A reserved field (R5). -/
def rsv (off size : Nat) : Field := ⟨off, size, fun v => v == 0⟩

/-- A field from `lo` to `hi`. -/
def range (off size lo hi : Nat) : Field := ⟨off, size, fun v => lo ≤ v && v ≤ hi⟩

/-- A field with the listed values. -/
def oneOf (off size : Nat) (vs : List Nat) : Field := ⟨off, size, fun v => vs.contains v⟩

/-- A field that any value suits. -/
def anyVal (off size : Nat) : Field := ⟨off, size, fun _ => true⟩

/-- The offset of the first invalid field, in offset order (R79 step 5). -/
def firstBad (fields : List Field) (p : List Byte) : Option Nat :=
  (fields.find? fun f => !f.ok (fieldAt p f.off f.size)).map Field.off

/-! ## binary32 patterns -/

/-- The biased exponent field of a binary32 pattern. -/
def f32exp (v : Nat) : Nat := v / 2 ^ 23 % 256

/-- The pattern is finite. -/
def f32finite (v : Nat) : Bool := f32exp v != 255

/-- A finite binary32 pattern as an integer multiple of 2^-149. -/
def f32int (v : Nat) : Int :=
  let m := v % 2 ^ 23
  let mag : Nat := if f32exp v = 0 then m else (m + 2 ^ 23) * 2 ^ (f32exp v - 1)
  if v.testBit 31 then -(mag : Int) else mag

/-- The pattern is finite and its value lies in `[lo, hi]`, the bounds given as patterns. -/
def f32between (lo hi v : Nat) : Bool :=
  f32finite v && decide (f32int lo ≤ f32int v) && decide (f32int v ≤ f32int hi)

/-- The pattern is finite and of magnitude at most 256. -/
def f32mag256 (v : Nat) : Bool := f32between 0xC3800000 0x43800000 v

end Sys2Proof.Machine
end

