-- ==== Sys2Proof/Machine/Flags.lean ====
section
/-!
DEFINITION. Flags: frame marks (R6), the regime (R191), status codes (R80), fault sources' legacy bits and
severities (R384), unit names (R25), DEV_STATE (R65), and the device identity the registers read.
-/

namespace Sys2Proof.Machine

/-! ## Frame marks -/

/-- The marks of R6, by bit number. -/
inductive Mark where
  | checkErr | truncated | short | long | widthErr | holdover | laneRecovered | unitTakeover | memErr
  | testPattern | dropped | concealed | budgetExhausted | workerGap
  deriving DecidableEq, Repr

/-- The bit of R6. -/
def Mark.bit : Mark → Nat
  | .checkErr => 0 | .truncated => 1 | .short => 2 | .long => 3 | .widthErr => 4 | .holdover => 5
  | .laneRecovered => 6 | .unitTakeover => 7 | .memErr => 8 | .testPattern => 9 | .dropped => 10
  | .concealed => 11 | .budgetExhausted => 12 | .workerGap => 13

/-- The marks with one more set; marks are only ever set (R6). -/
def setMark (m : BitVec 16) (k : Mark) : BitVec 16 := m ||| BitVec.twoPow 16 k.bit

/-- A mark is set. -/
def hasMark (m : BitVec 16) (k : Mark) : Bool := m.getLsbD k.bit

/-- A frame with one more mark. -/
def Frame.mark (f : Frame) (k : Mark) : Frame := { f with marks := setMark f.marks k }

/-- A frame with a mark when `c` holds. -/
def Frame.markIf (f : Frame) (c : Bool) (k : Mark) : Frame := if c then f.mark k else f

/-- The regime of a record (R191). -/
def regime (marks : BitVec 16) (frame : BitVec 48) : Nat :=
  if hasMark marks .testPattern then 2
  else if hasMark marks .holdover || hasMark marks .laneRecovered || hasMark marks .unitTakeover then 3
  else if frame.toNat ≤ 3 then 1
  else 0

/-! ## Status codes -/

/-- The statuses of R80. -/
inductive Status where
  | ok | accepted | okLate | unknownOpcode | badLength | outOfRange | wrongState | busyRetry | noResource
  | overBudget | notPermitted | conflict | hwFault | authFail | timeout
  deriving DecidableEq, Repr

/-- The code of R80. -/
def Status.code : Status → BitVec 16
  | .ok => 0x0000 | .accepted => 0x0001 | .okLate => 0x0002 | .unknownOpcode => 0x8001 | .badLength => 0x8002
  | .outOfRange => 0x8003 | .wrongState => 0x8004 | .busyRetry => 0x8005 | .noResource => 0x8006
  | .overBudget => 0x8007 | .notPermitted => 0x8008 | .conflict => 0x8009 | .hwFault => 0x800A
  | .authFail => 0x800B | .timeout => 0x800C

/-- The command was accepted: its status is below 0x8000 (R71). -/
def Status.good : Status → Bool
  | .ok | .accepted | .okLate => true
  | _ => false

/-- A failed validation step: the status and the detail word (R79). -/
structure Fail where
  status : Status
  detail : Nat
  deriving DecidableEq, Repr

/-- The first of the listed conditions that holds, in order (R79). -/
def firstFail (l : List (Bool × Fail)) : Option Fail := (l.find? Prod.fst).map Prod.snd

/-- WRONG_STATE with a detail. -/
def wrong (d : Nat) : Fail := ⟨.wrongState, d⟩

/-! ## Fault sources -/

/-- The severity of a source is fixed (R384). -/
def fixedSeverity (s : SourceId) : Bool := [0x00, 0x04, 0x05, 0x06, 0x07, 0x09, 0x0A, 0x5E, 0x5F].contains s.val

/-- A reserved source is never raised (R384). -/
def reservedSource (s : SourceId) : Bool := [0x1D, 0x1E, 0x1F, 0x3E, 0x3F].contains s.val

/-- The legacy bit of a source (R384). -/
def legacyBit (s : SourceId) : Nat :=
  let n := s.val
  if n ≤ 0x07 then 0
  else if n ≤ 0x0B then 1
  else if n ≤ 0x0F then 2
  else if n ≤ 0x1B then 3 + (n % 4)
  else if n ≤ 0x1F then 7
  else if n ≤ 0x2F then 8 + (n % 4)
  else if n ≤ 0x3B then 12 + (n % 4)
  else if n ≤ 0x3F then 16
  else if n ≤ 0x47 then 17
  else if n ≤ 0x4B then 18
  else if n = 0x4C then 19
  else if n = 0x4D then 20
  else if n ≤ 0x4F then 21
  else if n ≤ 0x51 then 22
  else if n ≤ 0x54 then 23
  else if n ≤ 0x56 then 24
  else if n = 0x57 then 25
  else if n ≤ 0x5B then 26
  else if n ≤ 0x5D then 27
  else 28

/-- A source number modulo the 96 sources. -/
def src (n : Nat) : SourceId := ⟨n % 96, Nat.mod_lt _ (by decide)⟩

/-! ## Unit names (R25) -/

/-- The binary name of a unit (R25). -/
def unitName (u : UnitId) : Nat := u.index.val + 16 * u.cluster.val + 32 * u.region.val

/-- The name of a whole region (R25). -/
def regionName (r : RegionId) : Nat := 128 + 32 * r.val

/-- A name that means one unit (R25). -/
def unitOfName (n : Nat) : Option UnitId :=
  if h : n % 16 < 9 then
    if n < 128 then
      some { region := ⟨n / 32 % 4, Nat.mod_lt _ (by decide)⟩, cluster := ⟨n / 16 % 2, Nat.mod_lt _ (by decide)⟩,
             index := ⟨n % 16, h⟩ }
    else none
  else none

/-! ## Ring entries as bytes -/

/-- The bytes of an event entry (R72). -/
def EventEntry.bytes (x : EventEntry) : List Byte :=
  image 32 [put 0 2 x.code.toNat, put 2 1 x.ctx.toNat, put 4 4 x.seq.toNat, put 8 8 x.tick.toNat, put 16 6 x.frame.toNat,
    put 24 8 x.detail.toNat]

/-- A completion entry as it stands in its ring (R71). -/
def Completion.bytes (x : Completion) : List Byte :=
  image 32 [put 0 2 x.tag.toNat, put 2 2 x.status.toNat, put 4 2 x.opcode.toNat, put 8 6 x.frame.toNat,
    put 14 1 x.ctx.toNat, put 15 1 x.slot.toNat, put 16 8 x.detail.toNat, put 24 4 x.seq.toNat]

/-! ## Register values -/

/-- DEVICE_ID (R64). -/
def deviceIdReg : BitVec 32 := 0x00B19480

/-- DEV_STATE (R65). -/
def devStateReg (s : State) : BitVec 32 :=
  BitVec.ofNat 32 (s.devState % 16 + 256 * (s.boot.strap % 16) + 65536 * (s.boot.failedAtStep3 % 4)
    + 16777216 * s.boot.retention.cause.toNat)

/-- CMDSET_VERSION: 0x0402 once Kongaord runs (R64). -/
def cmdsetReg (s : State) : BitVec 32 := if s.kongaord then 0x0402 else 0

/-- FW_VERSION: 0x0004_0200 for Kongaord 4.2.0, 0 before it runs (R64). -/
def fwVersionReg (s : State) : BitVec 32 :=
  if s.kongaord then (match s.boot.firmware with | some f => f.version.setWidth 32 | none => 0x00040200) else 0

/-- The device runs as a worker: strap codes 3 to 9 (R412). -/
def isWorker (s : State) : Bool := 3 ≤ s.boot.strap && s.boot.strap ≤ 9

/-- The device runs as a manager: strap codes 2 and 11 (R412). -/
def isManager (s : State) : Bool := s.boot.strap == 2 || s.boot.strap == 11

/-- The highest valid reading with its sensor, the lowest-numbered on a tie (R440). -/
def hottest (l : List (Option Int × Nat)) : Option (Int × Nat) :=
  l.foldl (fun a x => match x.1, a with
    | some v, none => some (v, x.2)
    | some v, some m => if m.1 < v then some (v, x.2) else some m
    | none, a => a) none

/-- The reported maximum in 0.125 °C; 0x8000 with no valid sensor (R440). -/
def maxTemp (s : State) : Int := ((hottest s.thermal.readings.toList.zipIdx).map Prod.fst).getD (-32768)

/-- A block is out of service: it waits for its hinge after a reset, or did not come out of it (SYS_BLOCK_RESET). -/
def blockOut (s : State) (b : Nat) : Bool := s.control.returning.contains b || s.control.dead.contains b

/-- In deadbolt (R392). -/
def inDeadbolt (s : State) : Bool := s.devState == 4

/-- Package-wide time in picoseconds: one TIME clock is 2 ns (R29). -/
def nowPs (s : State) : Int := 2000 * s.clk

end Sys2Proof.Machine
end

