-- ==== Sys2Proof/Machine/Ops.lean ====
section
/-!
DEFINITION. Ops: the named operations every meaning is built from: access to one mailbox, port, context or
region; what leaves the device; vectors (R74), events (R72, R73), background ends (R82), fault raises (R386 to
R390) and deadbolt entry (R392, R393); hinge arithmetic (R40, R48); memory of arenas and host; and what a change
writes in the banks (R49).
-/

namespace Sys2Proof.Machine

/-! ## One instance of many -/

/-- Mailbox `m` changed by `f`. -/
def modMb (m : MbId) (f : Mailbox → Mailbox) (s : State) : State :=
  { s with mailboxes := s.mailboxes.set m (f s.mailboxes[m]) }

/-- Port `p` changed by `f`. -/
def modPort (p : PortId) (f : Port → Port) (s : State) : State :=
  { s with ports := s.ports.set p (f s.ports[p]) }

/-- Context `c` changed by `f`. -/
def modCtx (c : CtxId) (f : Context → Context) (s : State) : State :=
  { s with contexts := s.contexts.set c (f s.contexts[c]) }

/-- Region `r` changed by `f`. -/
def modRegion (r : RegionId) (f : Region → Region) (s : State) : State :=
  { s with regions := s.regions.set r (f s.regions[r]) }

/-- Cluster `k` of region `r` changed by `f`. -/
def modCluster (r : RegionId) (k : Fin 2) (f : Cluster → Cluster) (s : State) : State :=
  modRegion r (fun g => { g with clusters := g.clusters.set k (f g.clusters[k]) }) s

/-- The live bank of context `c` changed by `f`. -/
def modBank (c : CtxId) (f : Bank → Bank) (s : State) : State :=
  modCtx c (fun x => { x with live := f x.live }) s

/-- The contexts in order, C0 first. -/
def allCtx : List CtxId := [0, 1, 2, 3, 4, 5, 6, 7]

/-- The ports in order. -/
def allPorts : List PortId := [0, 1, 2, 3]

/-- The regions in order. -/
def allRegions : List RegionId := [0, 1, 2, 3]

/-- `f` on the state for each element in turn. -/
def forEach {α : Type} (l : List α) (f : α → State → State) (s : State) : State :=
  l.foldl (fun t x => f x t) s

/-- `f` when the condition holds. -/
def when (c : Bool) (f : State → State) (s : State) : State := if c then f s else s

/-- The device sends something. -/
def emit (x : Emission) (s : State) : State := { s with out := x :: s.out }

/-! ## Vectors (R74, R75) -/

/-- A cause occurs: INT_CAUSE is set, and the message is sent or, masked, left pending (R75). -/
def raiseVector (v : Fin 32) (s : State) : State :=
  let t := { s with bar0 := { s.bar0 with intCause := s.bar0.intCause ||| BitVec.twoPow 32 v } }
  let x := t.bar0.msix[v]
  if x.control.getLsbD 0 then { t with bar0 := { t.bar0 with pba := t.bar0.pba ||| BitVec.twoPow 32 v } }
  else if t.hostUp then emit (.msix v x.addr x.data) t
  else t

/-! ## Events (R72, R73) -/

/-- The event ring has no free slot (R68). -/
def evtFull (b : Mailbox) : Bool := b.evtTail + 1 == b.evtHead

/-- The completion ring has no free slot (R68). -/
def cplFull (b : Mailbox) : Bool := b.cplTail + 1 == b.cplHead

/-- An entry written at the tail, and the tail moved past it (R68). -/
def pushEvt (x : EventEntry) (b : Mailbox) : Mailbox :=
  { b with evt := b.evt.set b.evtTail.toNat x (by have := b.evtTail.isLt; omega), evtTail := b.evtTail + 1,
           written := (b.written.1, true) }

/-- Held SYS_BACKGROUND_DONE entries written while there is space, oldest first (R73). -/
def pushHeld : List EventEntry → Mailbox → Mailbox
  | [], b => { b with heldEvents := [] }
  | x :: xs, b => if evtFull b then { b with heldEvents := x :: xs } else pushHeld xs (pushEvt x b)

/-- Once space has returned: SYS_EVENTS_LOST first, then what was held (R73). -/
def flushRing (tick : BitVec 64) (seq : BitVec 32) (b : Mailbox) : Mailbox :=
  if evtFull b || !b.enabled then b
  else if b.lostSince = 0 then pushHeld b.heldEvents b
  else
    let b' := pushEvt { code := 0x0181, ctx := 0xFF, seq := seq, tick := tick,
                        detail := BitVec.ofNat 64 b.lostSince } { b with lostSince := 0 }
    pushHeld b'.heldEvents b'

/-- An event for one ring: written, or discarded and counted when the ring is full (R73). -/
def deliver (x : EventEntry) (b : Mailbox) : Mailbox :=
  let b := flushRing x.tick x.seq b
  if evtFull b then { b with evtLost := bump b.evtLost, lostSince := b.lostSince + 1 } else pushEvt x b

/-- The group bit of an event code in a mask (R84). -/
def inMask (mask : BitVec 32) (code : Nat) : Bool := mask.getLsbD (code / 256)

/-- A mailbox takes an event: enabled and the group's mask bit set; SYS_START_COMPLETE goes to 0 and 7 (R73, R85). -/
def wants (m : MbId) (code : Nat) (b : Mailbox) : Bool :=
  b.enabled && (inMask b.mask code || (code == 0x0180 && (m == 0 || m == 7)))

/-- The context byte of an event or a completion (R72). -/
def ctxByte : Option CtxId → Byte
  | none => 0xFF
  | some c => BitVec.ofNat 8 c.val

/-- The entry of an event raised now. -/
def eventNow (code : Nat) (c : Option CtxId) (frame : BitVec 48) (detail : Nat) (s : State) : EventEntry :=
  { code := BitVec.ofNat 16 code, ctx := ctxByte c, seq := s.cmd.eventSeq + 1, tick := s.tick.counter,
    frame := frame, detail := BitVec.ofNat 64 detail }

/-- An event is posted to every ring that wants it (R73); a worker's goes to its manager too (R374). -/
def post (code : Nat) (c : Option CtxId) (frame : BitVec 48) (detail : Nat) (s : State) : State :=
  let x := eventNow code c frame detail s
  forEach [0, 1, 2, 3, 4, 5, 6, 7]
    (fun m t => when (wants m code t.mailboxes[m]) (modMb m (deliver x)) t)
    (when (isWorker s) (emit (.relay x)) { s with cmd := { s.cmd with eventSeq := s.cmd.eventSeq + 1 } })

/-- A background command ends: SYS_BACKGROUND_DONE goes to its mailbox alone, held while the mailbox is disabled
or its ring full (R73, R82, R85). -/
def endBackground (m : MbId) (opcode : Nat) (tag : BitVec 16) (st : Status) (detail : Nat) (s : State) : State :=
  match s.mailboxes[m].background.find? fun g => g.tag == tag && g.opcode.toNat == opcode with
  | none => s
  | some g =>
    let d := tag.toNat + 2 ^ 16 * st.code.toNat + 2 ^ 32 * opcode + 2 ^ 48 * (detail % 2 ^ 16)
    let x := { eventNow 0x0182 none 0 d s with ctx := g.ctx }
    let t := { s with cmd := { s.cmd with eventSeq := s.cmd.eventSeq + 1 } }
    modMb m (fun b =>
      let b := { b with background := b.background.erase g }
      if !g.report then b
      else
        let b := flushRing x.tick x.seq b
        if !b.enabled || evtFull b then { b with heldEvents := b.heldEvents ++ [x] } else pushEvt x b) t

/-! ## Device memory windows and host memory -/

/-- The device writes bytes at an arena offset of a mailbox (R70). -/
def writeArena (m : MbId) (off : Nat) (bytes : List Byte) (s : State) : State :=
  modMb m (fun b => { b with arena := writeCells b.arena off bytes }) s

/-- The device writes bytes to host memory over PCIe (R70). -/
def writeHost (addr : Nat) (bytes : List Byte) (s : State) : State :=
  { s with hostMem := writeCells s.hostMem addr bytes }

/-- Payload bytes returned to the command's own location (R70). -/
def writeBack (e : Entry) (off : Nat) (bytes : List Byte) (s : State) : State :=
  if entryLoc e = 1 then writeArena e.mb (e.loc.toNat + off) bytes s
  else if entryLoc e = 2 then writeHost (e.loc.toNat + off) bytes s
  else s

/-! ## Hinges (R39, R40, R48) -/

/-- The number of the hinge that comes next (R39). -/
def nextHinge (s : State) : Nat := if s.tick.hinges = 0 then s.tick.counter.toNat else s.tick.counter.toNat + 1

/-- The first hinge whose guard has not opened (R48). -/
def reachable (s : State) : Nat := if s.tick.guardOpen then nextHinge s + 1 else nextHinge s

/-- A context with divider `k` and phase `phi` takes at hinge `h` (R40). -/
def takesAt (k phi h : Nat) : Bool := ((h : Int) - phi) % k == 0

/-- Takings at hinges below `x`. -/
def takingsBelow (k phi x : Nat) : Nat := (x + k - 1 - phi) / k

/-- Takings at hinges from `a` up to but not including `b`. -/
def takingsIn (k phi a b : Nat) : Nat := takingsBelow k phi b - takingsBelow k phi a

/-- The hinge a start of context `c` is armed for, if one is. -/
def startArmed (s : State) (c : CtxId) : Option Nat :=
  (s.cmd.armed.find? fun a => a.change == .start c).map Armed.hinge

/-- The number of the first frame context `c` takes at or after hinge `h` (R48). -/
def firstFrameAt (s : State) (c : CtxId) (h : Nat) : Nat :=
  let x := s.contexts[c]
  let count := takingsIn x.live.source.k x.live.source.phase
  if x.state = .running then (x.nextFrame.toNat + count (nextHinge s) h) % 2 ^ 48
  else match startArmed s c with
    | some h0 => count h0 h
    | none => 0

/-! ## Fault sources (R383, R386 to R390, R403) -/

/-- The severity applied to a raise (R383, R384). -/
def severityOf (k : Collector) (src : SourceId) : Nat := if fixedSeverity src then 3 else k.severity[src]

/-- A record entered into the history: merged with one of the same source since the last hinge, or a new entry
that overwrites the oldest when the ring is full (R386). -/
def enterHistory (x : FaultRecord) (k : Collector) : Collector :=
  if k.history.any fun y => y.source == x.source && y.hinge == x.hinge then
    { k with history := k.history.map fun y =>
        if y.source == x.source && y.hinge == x.hinge then { y with count := bump y.count } else y }
  else if k.history.length < 64 then { k with history := k.history ++ [x] }
  else { k with history := k.history.drop 1 ++ [x], historyLost := bump k.historyLost }

/-- What a raise at severity 1 to 3 does in the collector: latch or overflow, legacy bit, pulse, and the count
that FLT_RAISED will carry (R387, R389, R390, R403). -/
def notify (x : FaultRecord) (k : Collector) : Collector :=
  let k := { k with legacy := k.legacy ||| BitVec.twoPow 32 (legacyBit x.source), pulse := k.pulse || k.pulseEnable,
                    since := k.since.set x.source (bump k.since[x.source]) }
  let k := if k.latch.isSome then { k with overflow := true } else { k with latch := some x }
  if k.seen.contains x.source then k
  else { k with seen := x.source :: k.seen, due := k.due ++ [(x.source, x.ctx)] }

/-- An ACT action starts, unless it is running already (R385). -/
def startAction (src : SourceId) (k : Collector) : Collector :=
  if [0x0C, 0x24, 0x25, 0x26, 0x27, 0x4F].contains src.val && !k.acting.contains src then
    { k with acting := k.acting ++ [src] }
  else k

/-- The management processor itself is at fault: it restarts through the keyway (R393). -/
def processorFault (src : SourceId) : Bool := [0x07, 0x09, 0x0A].contains src.val

/-- Storage target changed by `f`. -/
def modStg (f : Storage → Storage) (s : State) : State := { s with stg := f s.stg }

/-- Shared entries taken. -/
def wardShared (s : State) : Nat := ((s.stg.ward.filter Ward.taken).map fun w => w.ranges.length).sum

/-- Waiting users take their entries in order, each its whole set or none (R268). -/
def takeEntries : Nat → List Ward → List Ward
  | _, [] => []
  | free, w :: ws =>
    if w.taken then w :: takeEntries free ws
    else if w.ranges.length ≤ free then { w with taken := true } :: takeEntries (free - w.ranges.length) ws
    else w :: ws

/-- Entries are handed out while there are free ones. -/
def refillWard (s : State) : State := modStg (fun x => { x with ward := takeEntries (472 - wardShared s) x.ward }) s

/-- Host-held ward entries are released and host commands dropped (R273). -/
def dropHostWork (s : State) : State :=
  refillWard (modStg (fun x => { x with
    heldCpl := [], waking := []
    ward := x.ward.filter fun w => match w.user with | .host .. => false | _ => true }) s)

/-- A deadbolt of the storage target's own sources takes the target out of service (R257). -/
def suspectTarget (src : SourceId) (s : State) : State :=
  if src.val = 0x58 ∨ src.val = 0x59 ∨ src.val = 0x5A then
    dropHostWork (modStg (fun x => { x with cfs := true, suspect := true }) s)
  else s

/-- A context in deadbolt: its frames in flight and their results are dropped (R392, R393). -/
def dropFlight (x : Context) : Context :=
  { x with frames := [], results := [], slotReaders := [], floating := Vector.replicate 4 none
           buffers := x.buffers.filter GradeImage.live }

/-- The clips of a context end without a seal; a REC_STOP that waits for one is answered (R392). -/
def endClips (c : CtxId) (source : SourceId) (s : State) : State :=
  forEach s.recs[c].clips (fun k t => match k.stop with
    | some (m, tag) => endBackground m 0x0904 tag .hwFault source.val t
    | none => t) { s with recs := s.recs.set c { s.recs[c] with clips := [] } }

/-- Deadbolt entry (R392, R393): the record, DEV_STATE 0x4 and vector 0; armed and held changes, queued doorbell
words, frames in flight and open clips are dropped. -/
def enterDeadbolt (x : FaultRecord) (s : State) : State :=
  if s.devState = 4 then s
  else
    let t := { s with
      devState := 4
      kongaord := s.kongaord && !processorFault x.source
      collector := { s.collector with deadbolt := some x, deadboltDue := true }
      boot := { s.boot with retention := { s.boot.retention with prevDeadbolt := some x }
                            step := if processorFault x.source then .keyway else s.boot.step }
      cmd := { s.cmd with armed := [], hold := none }
      tick := { s.tick with queue := [], latched := [], switch := none } }
    let t := forEach allCtx (fun c t => endClips c x.source (modCtx c dropFlight t)) t
    raiseVector 0 (suspectTarget x.source t)

/-- The record of a raise (R388). -/
def faultRecord (src : SourceId) (c : Option CtxId) (frame : BitVec 48) (detail : Nat) (s : State) : FaultRecord :=
  { source := src, severity := severityOf s.collector src, fixed := fixedSeverity src, tick := s.tick.counter,
    frame := frame, ctx := ctxByte c, detail := BitVec.ofNat 64 detail, hinge := s.tick.hinges }

/-- A fault source is raised (R383, R386); the collector lies in the management domain (R405). -/
def raise (src : SourceId) (c : Option CtxId) (frame : BitVec 48) (detail : Nat) (s : State) : State :=
  if reservedSource src || s.power.domains[(2 : Fin 25)] != .on then s
  else
    let x := faultRecord src c frame detail s
    let k := enterHistory x { s.collector with counts := s.collector.counts.set src (bump s.collector.counts[src]) }
    if x.severity = 0 then { s with collector := k }
    else
      let latches := k.latch.isNone
      let k := notify x k
      let k := if x.severity = 2 then startAction src k else k
      let t := when latches (raiseVector 19) { s with collector := k }
      if x.severity = 3 then enterDeadbolt x t else t

/-- A raise with no context whose detail no chapter defines (R388, log 18). -/
def raise0 (n : Nat) (s : State) : State := raise (src n) none 0 (Config.faultDetail n) s

/-- A device access to host memory fails: source 0x5B (R409). -/
def hostFailed (s : State) : State := raise0 0x5B s

/-- FAULT_N is asserted now: a pulse, the software level, or the deadbolt (R390). -/
def faultNAsserted (s : State) : Bool :=
  s.collector.pulse || s.collector.pinLevel || s.devState == 4 || s.boot.thermalLatch

/-- The legacy fault word as read (R389). -/
def legacyWord (s : State) : BitVec 32 :=
  (s.collector.legacy &&& 0x1FFFFFFF)
    ||| (if s.devState = 4 then BitVec.twoPow 32 29 else 0)
    ||| (if s.collector.overflow then BitVec.twoPow 32 30 else 0)
    ||| (if s.collector.latch.isSome then BitVec.twoPow 32 31 else 0)

/-! ## DEV_STATE -/

/-- The state field of DEV_STATE changes: vector 0 (R74). -/
def setDevState (n : Nat) (s : State) : State :=
  if s.devState = n then s else raiseVector 0 { s with devState := n }

/-! ## Time (R323) -/

/-- The time base in nanoseconds. -/
def timeNow (s : State) : Nat := s.time.now / 2 ^ 32

/-- A time in 10 bytes: 48-bit seconds, then 32-bit nanoseconds. -/
def timeBytes (ns : Nat) : List Byte := leBytes 6 (ns / 1000000000) ++ leBytes 4 (ns % 1000000000)

/-- Domain `d` is on (R436). -/
def domainOn (s : State) (d : Fin 25) : Bool := s.power.domains[d] == .on

/-- The power domain of a block of SYS_BLOCK_RESET (R30). -/
def blockDomain (b : Nat) : Fin 25 :=
  if b ≤ 0x11 then 12 else if b ≤ 0x13 then 13 else if b ≤ 0x21 then 15 else if b ≤ 0x23 then 16 else if b ≤ 0x31 then 17
  else if b = 0x32 then 18 else if b = 0x33 then 19 else if b ≤ 0x47 then 20 else if b = 0x48 then 21 else if b ≤ 0x57 then 22
  else if b ≤ 0x61 then 24 else 23

/-- A block does nothing: its domain is not ON, or it is out of service (R437, SYS_BLOCK_RESET). -/
def blockDown (s : State) (b : Nat) : Bool := blockOut s b || !domainOn s (blockDomain b)

/-! ## Contexts -/

/-- A state change of a context with its CTX_STATE event (R118, R136). -/
def setCtxState (c : CtxId) (st : CtxState) (s : State) : State :=
  let t := modCtx c (fun x => { x with state := st }) s
  post 0x02A0 (some c) t.contexts[c].lastFrame st.code t

/-- A context is admitted: RUNNING or STOPPING (R472). -/
def admitted (s : State) (c : CtxId) : Bool :=
  s.contexts[c].state == .running || s.contexts[c].state == .stopping

/-- The contexts on a port: those not FREE whose source is that port (R119). -/
def ctxsOnPort (s : State) (p : PortId) : List CtxId :=
  allCtx.filter fun c => s.contexts[c].state != .free && s.contexts[c].live.source.port == p

/-- A mask of contexts, bit c for Cc. -/
def ctxMask (l : List CtxId) : Nat := maskOf 8 fun i => l.any fun c => c.val == i

/-- The number of captures of a context: the streams of its mask (R148). -/
def captures (b : Bank) : Nat := ((List.range 4).filter fun i => b.source.mask.getLsbD i).length

/-- The capture number of a stream within a context's mask, in stream order (R148). -/
def captureOf (b : Bank) (v : Nat) : Nat := ((List.range v).filter fun i => b.source.mask.getLsbD i).length

/-- The regions a context is placed on. -/
def regionsOf (b : Bank) : List RegionId := allRegions.filter fun r => b.regions.getLsbD r.val

/-- The lowest-numbered region a context is placed on, which fixes its stack (R21, R121). -/
def homeRegion (b : Bank) : Option RegionId := (regionsOf b).head?

/-! ## Bands of a split context (R375) -/

/-- The package's number: 0 for the manager, w for worker w (R365). -/
def ownPackage (s : State) : Nat := if isWorker s then s.boot.strap - 2 else 0

/-- The bands of a split context, each with its package, first row and end (R375). -/
def bandList (h : Nat) : List (Nat × Nat) → List (Nat × Nat × Nat)
  | [] => []
  | [a] => [(a.2, a.1, h)]
  | a :: b :: rest => (a.2, a.1, b.1) :: bandList h (b :: rest)

/-- The rows of the frame that this package develops: its band, or all of them (R375). -/
def ownRows (s : State) (b : Bank) : Nat × Nat :=
  match b.split with
  | none => (0, b.source.h)
  | some k => match (bandList b.source.h k.bands).find? fun x => x.1 == ownPackage s with
    | some x => x.2
    | none => (0, 0)

/-- A row lies in the package's own rows. -/
def ownRow (s : State) (b : Bank) (y : Nat) : Bool := let r := ownRows s b; r.1 ≤ y && y < r.2

/-! ## Hasp messages (R367) -/

/-- The better of two ports on the way to package `w`, by their neighbours' numbers: the nearer one to `w` (log 56). -/
def nearer (s : State) (w : Nat) (p q : Fin 2) : Fin 2 :=
  let gap := fun i : Fin 2 => match s.hasp.ports[i].neighbour with
    | some n => if w ≤ n then n - w else w - n
    | none => 16
  if gap q < gap p then q else p

/-- A port lies on the way to package `w`: its neighbour is `w` or stands between in the chain (R364, log 56). -/
def onTheWay (s : State) (w : Nat) (p : Fin 2) : Bool :=
  s.hasp.ports[p].state == .up && match s.hasp.ports[p].neighbour with
    | some n => if w < ownPackage s then w ≤ n && n < ownPackage s else ownPackage s < n && n ≤ w
    | none => false

/-- The port that leads to package `w`: the nearest on the way, else the first UP port (log 56). -/
def portToward (s : State) (w : Nat) : Option (Fin 2) :=
  let up := fun p : Fin 2 => s.hasp.ports[p].state == .up
  match ([0, 1] : List (Fin 2)).filter (onTheWay s w) with
  | [p, q] => some (nearer s w p q)
  | p :: _ => some p
  | [] => ([0, 1] : List (Fin 2)).find? up

/-- A message of this package leaves toward another (R367). -/
def sendHasp (cls dest tick data : Nat) (payload : List Byte) (s : State) : State :=
  match portToward s dest with
  | some p => emit (.hasp p ⟨cls, ownPackage s, dest, tick, BitVec.ofNat 64 data, payload, true, true⟩) s
  | none => s

/-- A package of a split context that shares a boundary within 16 rows of row `y` (R376). -/
def haloNeighbours (s : State) (b : Bank) (y : Nat) : List Nat :=
  match b.split with
  | none => []
  | some k =>
    let own := ownRows s b
    (bandList b.source.h k.bands).filterMap fun x =>
      if x.2.2 = own.1 ∧ own.1 ≤ y ∧ y < own.1 + 16 ∨ x.2.1 = own.2 ∧ y < own.2 ∧ own.2 ≤ y + 16 then some x.1 else none

/-- A landed row goes to the neighbours whose halo it is (R376). -/
def sendHalo (c : CtxId) (cap y : Nat) (samples : List Nat) (s : State) : State :=
  forEach (haloNeighbours s s.contexts[c].live y)
    (fun w => sendHasp 3 w s.tick.counter.toNat (c.val + 2 ^ 8 * cap + 2 ^ 16 * y) (packSamples samples)) s

/-! ## Units (R15, R16) -/

/-- The cluster of a unit. -/
def clusterOf (s : State) (r : RegionId) (k : Fin 2) : Cluster := s.regions[r].clusters[k]

/-- The active units of a cluster that a new striping may use (R11, R398). -/
def activeUnits (s : State) (r : RegionId) (k : Fin 2) : List (Fin 9) :=
  (clusterOf s r k).slots.filter fun i => !(clusterOf s r k).uncovered.contains i

/-- The units that develop a context, in stripe order: region by region, cluster by cluster (R11, R20). -/
def unitsOf (s : State) (b : Bank) : List UnitId :=
  (regionsOf b).flatMap fun r => [0, 1].flatMap fun k =>
    ((clusterOf s r k).slots.map fun i => (⟨r, k, i⟩ : UnitId)).filter fun u => !b.excluded.contains u

/-- The stripe width of R11 for width `w` over `n` units. -/
def stripeWidth (w n : Nat) : Nat := if n = 0 then 0 else 64 * ceilDiv (ceilDiv w n) 64

/-- The stripe width of a context (R11). -/
def stripeOf (s : State) (b : Bank) : Nat := stripeWidth b.source.w (unitsOf s b).length

/-- Healthy units of a region: not fenced (SYS_IDENTIFY). -/
def healthyUnits (s : State) (r : RegionId) : Nat :=
  18 - (clusterOf s r 0).fenced.length - (clusterOf s r 1).fenced.length

end Sys2Proof.Machine
end

