-- ==== Sys2Proof/Machine/Banks.lean ====
section
/-!
DEFINITION. Banks: what each change writes when it becomes live (R43, R48, R49), and the configuration that
admission and validation see: the live banks with every armed and held change on top (R54, R77).
-/

namespace Sys2Proof.Machine

/-- Front-end parameters of context `c` changed by `f`. -/
def modFront (c : CtxId) (f : Front → Front) (s : State) : State :=
  modBank c (fun b => { b with front := f b.front }) s

/-- Front-end parameters of capture `k` of context `c` changed by `f`. -/
def modCap (c : CtxId) (k : Fin 4) (f : FrontCap → FrontCap) (s : State) : State :=
  modFront c (fun x => { x with caps := x.caps.set k (f x.caps[k]) }) s

/-- Grade `g` of context `c` changed by `f`. -/
def modGrade (c : CtxId) (g : GradeId) (f : Grade → Grade) (s : State) : State :=
  modBank c (fun b => { b with grades := b.grades.set g (f b.grades[g]) }) s

/-- Merge gains and knees written capture by capture (RAW_SET_MERGE). -/
def setGains (gains : List (Nat × Nat × Nat)) (caps : Vector FrontCap 4) : Vector FrontCap 4 :=
  allPorts.foldl (fun v (k : Fin 4) =>
    match gains[k.val]? with
    | some (g, a, b) => v.set k { v[k] with gain := g, k0 := a, k1 := b }
    | none => v) caps

/-- Output `o` changed by `f`. -/
def modOut (o : QuadId) (f : Output → Output) (s : State) : State :=
  { s with outputs := s.outputs.set o (f s.outputs[o]) }

/-- Audio port `p` changed by `f`. -/
def modAud (p : QuadId) (f : AudioPort → AudioPort) (s : State) : State :=
  { s with audio := { s.audio with ports := s.audio.ports.set p (f s.audio.ports[p]) } }

/-- The context bound to output `o`, with its binding. -/
def boundTo (s : State) (o : QuadId) : Option (CtxId × Binding) :=
  allCtx.findSome? fun c => (s.contexts[c].live.binds[o]).map fun b => (c, b)

/-- The overlay state of output `o`: in the bound context's bank, else its own (R309). -/
def overlaysOf (s : State) (o : QuadId) : Overlay × Overlay :=
  match boundTo s o with
  | some (c, _) => s.contexts[c].live.overlays[o]
  | none => s.outputs[o].planes

/-- Output `o` bound to context `c`, or unbound from it; its overlay state goes with it (R309, OUT_BIND). -/
def bindOutput (o : QuadId) (c : CtxId) (v : Option Binding) (s : State) : State :=
  let planes := overlaysOf s o
  match v with
  | some b => modBank c (fun k => { k with binds := k.binds.set o (some b), overlays := k.overlays.set o planes }) s
  | none =>
    if (s.contexts[c].live.binds[o]).isNone then s
    else modBank c (fun k => { k with binds := k.binds.set o none }) (modOut o (fun y => { y with planes := planes }) s)

/-- One plane of a pair replaced. -/
def setPlane (second : Bool) (v : Overlay) (p : Overlay × Overlay) : Overlay × Overlay :=
  if second then (p.1, v) else (v, p.2)

/-- An overlay plane of output `o` changed, where its state lies (R309). -/
def setOverlay (o : QuadId) (second : Bool) (v : Overlay) (s : State) : State :=
  match boundTo s o with
  | some (c, _) => modBank c (fun b => { b with overlays := b.overlays.set o (setPlane second v b.overlays[o]) }) s
  | none => modOut o (fun y => { y with planes := setPlane second v y.planes }) s

/-- A generator stops, or starts anew (OUT_SET_RASTER): what it showed is gone; counts, log, link and audio stay. -/
def setRaster (o : QuadId) (v : Option Raster) (s : State) : State :=
  modOut o (fun y => { raster := v, planes := y.planes, counts := y.counts, log := y.log, hpd := y.hpd, lanes := y.lanes,
                       rate := y.rate, groups := y.groups, channels := y.channels }) s

/-- Slot gains of a port that starts: full in the mask, silent outside (R347). -/
def startGains (mask : BitVec 16) : Vector SlotGain 16 :=
  Vector.ofFn fun i : Fin 16 => { pos := if mask.getLsbD i.val then 64 else 0 }

/-- A configured port that is stopped starts: its first frame comes at or after the instant (R344). -/
def startPort (now : Nat) (p : QuadId) (s : State) : State :=
  modAud p (fun y => if y.cfg.isSome && !y.running then
    { y with running := true, startAt := none, awaiting := some now, lost := false, goodFrames := 0, inFade := .good
             outFade := .good, inFifo := [], outFifo := [], overrun := false, underrun := false, stoppedAt := none
             inGains := startGains y.inMask, outGains := startGains y.outMask, tail := 0, lastFrame := none, measured := 0, measuring := (0, nowPs s) }
    else y) s

/-- Every port of a mask starts (R344). -/
def startPorts (mask : BitVec 4) (s : State) : State :=
  forEach [0, 1, 2, 3] (fun p => when (mask.getLsbD p.val) (startPort (timeNow s) p)) s

/-- An IDR request for the next frame the context takes, in one grade or in all (R290). -/
def askKey (c : CtxId) (g : Option GradeId) (s : State) : State :=
  modCtx c (fun x => { x with keysNext := x.keysNext ||| (match g with | some g => BitVec.twoPow 4 g | none => 15) }) s

/-- Sender `i` changed by `f`. -/
def modSender (i : Fin 24) (f : Sender → Sender) (s : State) : State :=
  { s with net := { s.net with senders := s.net.senders.set i (f s.net.senders[i]) } }

/-- Stream `i` set: in the bank of its source context, or, for audio, in its sender; it leaves where it was (R333). -/
def setStream (i : Fin 24) (v : Stream) (s : State) : State :=
  let t := forEach allCtx (fun c => modBank c fun b => { b with streams := b.streams.filter fun x => x.1 != i }) s
  if v.kind = 2 then modSender i (fun x => { x with audio := v, samples := [] }) t
  else
    let t := modSender i (fun x => { x with audio := {}, samples := [] }) t
    if v.kind = 0 then t
    else modBank ⟨v.source % 8, Nat.mod_lt _ (by decide)⟩ (fun b => { b with streams := b.streams ++ [(i, v)] }) t

/-- Time trigger `k` changed by `f`. -/
def modTrig (k : QuadId) (f : TimeTrigger → TimeTrigger) (s : State) : State :=
  { s with triggers := { s.triggers with tt := s.triggers.tt.set k (f s.triggers.tt[k]) } }

/-- Position channel `q` changed by `f`. -/
def modPos (q : QuadId) (f : PosChannel → PosChannel) (s : State) : State := { s with pos := s.pos.set q (f s.pos[q]) }

/-- The state a domain goes to when it is switched: OFF, ON (waking until it reports), RETAIN (R437). -/
def switchedTo (was : DomainState) (v : Nat) : DomainState :=
  if v = 0 then .off else if v = 2 then .retain else if was = .on then .on else .waking

/-- What a change writes in the state it names. -/
def applyBank (x : Change) (s : State) : State :=
  match x with
  | .source c v => modBank c (fun b => { b with source := v }) s
  | .start c => modCtx c (fun y => { y with state := .running }) s
  | .stop c => modCtx c (fun y => { y with state := .stopping }) s
  | .pattern c code flat => modBank c (fun b => { b with pattern := code, patternCode := flat }) s
  | .doubleFrame c on => modBank c (fun b => { b with doubleFrame := on }) s
  | .restripe c dead => modBank c (fun b => { b with excluded := dead }) s
  | .cfa c pw ph cells => modFront c (fun f => { f with pw := pw, ph := ph, cells := cells }) s
  | .lin c k version => modCap c k (fun f => { f with lin := some version }) s
  | .black c k v => modCap c k (fun f => { f with black := v.black, alpha := v.alpha, rowNoise := v.rowNoise,
                                                  ob0 := v.ob0, ob1 := v.ob1, pedestal := v.pedestal }) s
  | .column c k version => modCap c k (fun f => { f with column := version }) s
  | .dark c k b => modCap c k (fun f => { f with dark := b }) s
  | .flat c b => modFront c (fun f => { f with flat := b }) s
  | .defects c hot cold version => modFront c (fun f =>
      { f with tHot := hot, tCold := cold, defects := version.getD f.defects }) s
  | .shading c mode grid => modFront c (fun f => { f with shading := mode, grid := grid.or f.grid }) s
  | .merge c motion ref tm rm gains => modFront c (fun f =>
      { f with motion := motion, refCap := ref, tm := tm, rm := rm, caps := setGains gains f.caps }) s
  | .taps c t1 t2 => modFront c (fun f => { f with t1 := t1, t2 := t2 }) s
  | .develop c v => modBank c (fun b => { b with develop := v }) s
  | .noise c v core => modBank c (fun b => { b with noise := v, analysisCore := core }) s
  | .grade c g v => modGrade c g (fun y => { v with shaper := y.shaper, curve := y.curve, scaler := y.scaler }) s
  | .gradeTables c g shaper curve => modGrade c g (fun y =>
      { y with shaper := shaper.or y.shaper, curve := curve.or y.curve }) s
  | .scaler c g taps => modGrade c g (fun y => { y with scaler := some taps }) s
  | .stat c v => modBank c (fun b => { b with stat := v }) s
  | .statHost c addr => modBank c (fun b => { b with statHost := addr }) s
  | .recTarget c v => modBank c (fun b => { b with recording := v }) s
  | .encode c g v => modBank c (fun b => { b with encodes := b.encodes.set g v }) s
  | .vecExport c v => modBank c (fun b => { b with vecExport := v }) s
  | .bind o c v => bindOutput o c v s
  | .overlay o second v => setOverlay o second v s
  | .raster o v => setRaster o v s
  | .outAudio o groups channels => modOut o (fun y => { y with groups := groups, channels := channels }) s
  | .audioMask p input output => modAud p (fun y => { y with inMask := input, outMask := output }) s
  | .audioStart mask => startPorts mask s
  | .keyPicture c g => askKey c g s
  | .recTrigger c => modCtx c (fun x => { x with triggerNext := some 2 }) s
  | .tickSource v => { s with tick := { s.tick with period := v.period } }
  | .tickRate period => { s with tick := { s.tick with period := period } }
  | .hostEngines raw general => { s with cmp := { s.cmp with hostRaw := raw, hostGeneral := general } }
  | .rates hbm ports => { s with stg := { s.stg with
      hbmRates := #v[hbm.getD 0 0, hbm.getD 1 0, hbm.getD 2 0, hbm.getD 3 0], portRates := #v[ports.getD 0 0, ports.getD 1 0] } }
  | .split c v => modBank c (fun b => { b with split := v }) s
  | .stream i v => setStream i v s
  | .trigger k v => modTrig k (fun x => { x with prog := v }) s
  | .compare q v => modPos q (fun x => { x with table := v }) s
  | .domain d v => { s with power := { s.power with domains := s.power.domains.set d (switchedTo s.power.domains[d] v) } }
  | .recStart .. | .recStop .. => s

/-- The changes of the hold set, oldest first. -/
def heldChanges (s : State) : List Change :=
  match s.cmd.hold with
  | none => []
  | some h => h.items.flatMap Held.changes

/-- The live banks with every armed change on top: the live configuration of R54. -/
def withArmed (s : State) : State := s.cmd.armed.foldl (fun t a => applyBank a.change t) s

/-- The live configuration with the hold set on top (R54, R77). -/
def projected (s : State) : State := (heldChanges s).foldl (fun t x => applyBank x t) (withArmed s)

/-- The bank of context `c` as accepted so far: the shadow bank. -/
def shadow (s : State) (c : CtxId) : Bank := (projected s).contexts[c].live

/-- The state of context `c` as accepted so far. -/
def shadowState (s : State) (c : CtxId) : CtxState := (projected s).contexts[c].state

/-- Changes armed for a hinge, in acceptance order (R48, R49). -/
def armAt (h seq : Nat) (cs : List Change) (s : State) : State :=
  { s with cmd := { s.cmd with armed := s.cmd.armed ++ cs.map fun x => ⟨h, seq, x⟩ } }

/-- The hold set with one more command, opened by `m` if there is none (R50). -/
def holdMore (m : MbId) (x : Held) (s : State) : State :=
  { s with cmd := { s.cmd with hold := some (match s.cmd.hold with
      | none => ⟨m, [x]⟩
      | some h => { h with items := h.items ++ [x] }) } }

/-- The hold set is dropped (R50). -/
def dropHold (s : State) : State := { s with cmd := { s.cmd with hold := none } }

/-- The hold set is dropped when mailbox `m` owns it (R50, R68). -/
def dropHoldOf (m : MbId) (s : State) : State :=
  match s.cmd.hold with
  | some h => if h.owner = m then dropHold s else s
  | none => s

/-- Context `c` has a held change (R50). -/
def heldCtx (s : State) (c : CtxId) : Bool :=
  match s.cmd.hold with
  | some h => h.items.any fun x => x.ctx == some c
  | none => false

/-- The owner of the hold set when it is another mailbox than `m`. -/
def otherOwner (s : State) (m : MbId) : Option MbId :=
  match s.cmd.hold with
  | some h => if h.owner = m then none else some h.owner
  | none => none

/-- The context a change belongs to. -/
def Change.ctx : Change → Option CtxId
  | .source c _ | .start c | .stop c | .pattern c _ _ | .doubleFrame c _ | .restripe c _ | .cfa c _ _ _
  | .lin c _ _ | .black c _ _ | .column c _ _ | .dark c _ _ | .flat c _ | .defects c _ _ _ | .shading c _ _
  | .merge c _ _ _ _ _ | .taps c _ _ | .develop c _ | .noise c _ _ | .grade c _ _ | .gradeTables c _ _ _
  | .scaler c _ _ | .stat c _ | .statHost c _ | .recTarget c _ | .recStart c _ | .recStop c _ | .recTrigger c
  | .encode c _ _ | .keyPicture c _ | .vecExport c _ | .bind _ c _ | .split c _ => some c
  | _ => none

end Sys2Proof.Machine
end

