-- ==== Sys2Proof/Machine/Cores.lean ====
section
/-!
DEFINITION. Cores: the admission period (R54), the coding partitions (R285), the cycle demand of the coding cores
(R286, R294, R295) and how Kongaord chooses cores (R285, R294, R295, R299).
-/

namespace Sys2Proof.Machine

/-- The admission period T_adm = 0.999 T, in femtoseconds (R54). -/
def tAdm (s : State) : Nat := 999 * s.tick.period

/-- A context counts in the check: not FREE, and placed (R54). -/
def counted (s : State) (c : CtxId) : Bool := s.contexts[c].state != .free && s.contexts[c].live.regions != 0

/-! ## Profiles and partitions (R281, R285) -/

/-- A grade's format is one the profile accepts (R281). -/
def profileOk (p : Nat) (g : Grade) : Bool :=
  g.encoding != 4 && (if p ≤ 1 then g.chroma == 3 && g.depth == 10
    else if p = 2 then g.chroma == 2 && g.depth == 10 else g.chroma == 3 && g.depth == 12)

/-- Boundary `i` of `n` uniform tiles over `total` CTUs (R285). -/
def tileEdge (total n i : Nat) : Nat := i * total / n

/-- Samples from CTU `a` to CTU `b`, clipped to the picture. -/
def ctuSpan (size ctu a b : Nat) : Nat := Min.min size (b * ctu) - Min.min size (a * ctu)

/-- First CTU row of slice `k` of `n` (R285). -/
def sliceStart (rows n k : Nat) : Nat := k * (rows / n) + Min.min k (rows % n)

/-- Luma samples of the picture on the `k`-th core of the set (R285). -/
def coreSamples (v : Encode) (w h k : Nat) : Nat :=
  let cols := ceilDiv w v.ctu
  let rows := ceilDiv h v.ctu
  if v.partition = 1 then
    ((List.range (v.tileCols * v.tileRows)).map fun t =>
      if t % v.cores = k then
        ctuSpan w v.ctu (tileEdge cols v.tileCols (t % v.tileCols)) (tileEdge cols v.tileCols (t % v.tileCols + 1))
          * ctuSpan h v.ctu (tileEdge rows v.tileRows (t / v.tileCols)) (tileEdge rows v.tileRows (t / v.tileCols + 1))
      else 0).sum
  else if v.partition = 2 then w * ctuSpan h v.ctu (sliceStart rows v.cores k) (sliceStart rows v.cores (k + 1))
  else if v.partition = 3 then
    ((List.range rows).map fun r => if r % v.cores = k then w * ctuSpan h v.ctu r (r + 1) else 0).sum
  else if k = 0 then w * h else 0

/-- Entry points of a picture: a tile or a CTU row after the first (R289). -/
def entryPoints (v : Encode) (h : Nat) : Nat :=
  if v.partition = 1 then v.tileCols * v.tileRows - 1
  else if v.partition = 3 then ceilDiv h v.ctu - 1
  else 0

/-- CTUs of a picture. -/
def ctuCount (v : Encode) (w h : Nat) : Nat := ceilDiv w v.ctu * ceilDiv h v.ctu

/-- The header reserve H_r (R289). -/
def headerReserve (v : Encode) (h : Nat) : Nat := 512 + 16 * entryPoints v h

/-- The smallest cap C_min (R289). -/
def minCap (v : Encode) (w h : Nat) : Nat := headerReserve v h + 8 * ctuCount v w h

/-- The tiles are at least 256 by 64 luma samples, and from n to 64 of them (R285). -/
def tilesOk (v : Encode) (w h : Nat) : Bool :=
  v.partition != 1 ||
    (v.cores ≤ v.tileCols * v.tileRows && v.tileCols * v.tileRows ≤ 64 &&
      ((List.range v.tileCols).all fun i => 256 ≤ ctuSpan w v.ctu (tileEdge (ceilDiv w v.ctu) v.tileCols i)
        (tileEdge (ceilDiv w v.ctu) v.tileCols (i + 1))) &&
      ((List.range v.tileRows).all fun i => 64 ≤ ctuSpan h v.ctu (tileEdge (ceilDiv h v.ctu) v.tileRows i)
        (tileEdge (ceilDiv h v.ctu) v.tileRows (i + 1))))

/-! ## Demand (R286), in 10^-18 of a 64th of a cycle -/

/-- Units of a cycle. -/
def cycleUnit : Nat := 64 * 10 ^ 18

/-- Eight times c_f of an encode or of a decode (R286). -/
def factor8 (chroma422 : Bool) (depth : Nat) : Nat := if chroma422 || depth == 12 then 5 else 4

/-- Demand of an encode on the `k`-th core of its set (R286). -/
def encodeShare (v : Encode) (w h k : Nat) : Nat :=
  coreSamples v w h k * factor8 (v.profile == 2) (if v.profile = 3 then 12 else 10)
    * (if v.partition = 3 then 9 else 8) * 10 ^ 18

/-- Demand of a decode session (R294). -/
def sessionShare (s : State) (x : Session) : Nat :=
  x.w * x.h * factor8 (x.chroma == 2) x.depth * 8 * x.rate * tAdm s

/-- Demand A of a context's analysis (R295). -/
def analysisShare (b : Bank) : Nat :=
  ceilDiv b.source.w b.noise.d * ceilDiv b.source.h b.noise.d * 32 * 10 ^ 18

/-- The demand of context `c`'s encodes on a core. -/
def encodeLoad (s : State) (c : CtxId) (g : GradeId) (core : Fin 8) : Nat :=
  let b := s.contexts[c].live
  let v := b.encodes[g]
  if v.on then match v.coreSet.idxOf? core with
    | some k => encodeShare v b.grades[g].wo b.grades[g].ho k
    | none => 0
  else 0

/-- The demand of context `c`'s analysis on a core. -/
def analysisLoad (s : State) (c : CtxId) (core : Fin 8) : Nat :=
  let b := s.contexts[c].live
  if b.noise.temporal && b.analysisCore == some core then analysisShare b else 0

/-- The demand of a decode session on a core. -/
def sessionLoad (s : State) (i : Fin 16) (core : Fin 8) : Nat :=
  match s.vc.sessions[i] with
  | some x => if x.core = some core then sessionShare s x else 0
  | none => 0

/-- The demand of a core (R286). -/
def coreLoad (s : State) (core : Fin 8) : Nat :=
  ((allCtx.filter (counted s)).map fun c =>
      analysisLoad s c core + ((List.finRange 4).map fun g => encodeLoad s c g core).sum).sum
    + ((List.finRange 16).map fun i => sessionLoad s i core).sum

/-- The limit of a core: 0.95 × 700 MHz × T_adm; a retired core has none (R286, R299). -/
def coreLimit (s : State) (core : Fin 8) : Nat :=
  if s.vc.retired.contains core then 0 else 64 * 665 * tAdm s * 10 ^ 9

/-- A core has room for a demand. -/
def coreFits (s : State) (core : Fin 8) (d : Nat) : Bool :=
  !s.vc.retired.contains core && coreLoad s core + d ≤ coreLimit s core

/-- The core that analyses another context than `c`. -/
def analyses (s : State) (c : CtxId) (core : Fin 8) : Bool :=
  allCtx.any fun d => d != c && counted s d && s.contexts[d].live.noise.temporal
    && s.contexts[d].live.analysisCore == some core

/-- The lowest-numbered cores with room for the shares in order, if there are enough (R285). -/
def pickCores (s : State) : List (Fin 8) → List Nat → Option (List (Fin 8))
  | _, [] => some []
  | [], _ :: _ => none
  | c :: cs, d :: ds =>
    if coreFits s c d then (pickCores s cs ds).map (c :: ·) else pickCores s cs (d :: ds)

/-- Cores for encode `v` of context `c`'s grade `g`, the rest of the work being as in `s` (R285). -/
def encodeCores (s : State) (c : CtxId) (g : GradeId) (v : Encode) : Option (List (Fin 8)) :=
  let t := modBank c (fun b => { b with encodes := b.encodes.set g {} }) s
  let x := s.contexts[c].live.grades[g]
  pickCores t (List.finRange 8) ((List.range v.cores).map (encodeShare v x.wo x.ho))

/-- The core for context `c`'s analysis (R295). -/
def analysisPick (s : State) (c : CtxId) : Option (Fin 8) :=
  let t := modBank c (fun b => { b with analysisCore := none }) s
  (List.finRange 8).find? fun k => !analyses t c k && coreFits t k (analysisShare s.contexts[c].live)

/-- The core for a decode session (R294). -/
def sessionCore (s : State) (x : Session) : Option (Fin 8) :=
  (List.finRange 8).find? fun k => coreFits s k (sessionShare s x)

/-- Resource 5 fails: a core is over its limit, or serves two analyses (R55, R295). -/
def coresFail (s : State) : Bool :=
  (List.finRange 8).any fun k => decide (coreLimit s k < coreLoad s k) ||
    decide (1 < (allCtx.filter fun c => counted s c && s.contexts[c].live.noise.temporal
      && s.contexts[c].live.analysisCore == some k).length)

end Sys2Proof.Machine
end

