-- ==== Sys2Proof/Machine/Wire.lean ====
section
/-!
DEFINITION. Wire: how the senders cut frames into packets, and the bits they put on a port (15 R333 to R336).
-/

namespace Sys2Proof.Machine

/-- A grade's format is one a video sender supports (R333). -/
def streamable (g : Grade) : Bool :=
  g.chroma ≠ 3 && (g.depth == 10 || g.depth == 12) && [1, 2, 3, 5].contains g.encoding

/-- Pixels and octets of a pgroup, of ST 2110-20 (R333, log 51). -/
def pgroup (chroma depth : Nat) : Nat × Nat :=
  if chroma = 2 then (if depth = 10 then (2, 5) else (2, 6)) else if depth = 10 then (4, 15) else (2, 9)

/-- Whole pgroups that fit a packet: 1,200 octets of samples, or the 1,260 of block packing (R333, log 51). -/
def perPacket (packing chroma depth : Nat) : Nat := (if packing = 0 then 1200 else 1260) / (pgroup chroma depth).2

/-- Pgroups of a line of `w` pixels. -/
def lineGroups (w chroma depth : Nat) : Nat := ceilDiv w (pgroup chroma depth).1

/-- Packets of a line (R333). -/
def linePackets (packing w chroma depth : Nat) : Nat := ceilDiv (lineGroups w chroma depth) (perPacket packing chroma depth)

/-- Octets around the payload of an RTP packet: UDP, IPv4, Ethernet, a VLAN tag, preamble and gap (R335, R336). -/
def wireExtra (v : Stream) : Nat := 8 + 20 + 18 + 20 + (if v.vlan = 0 then 0 else 4)

/-- Frames of an audio packet: 1 ms or 125 µs at 48 or 96 kHz (R333). -/
def audioPacket (v : Stream) : Nat := (if v.grade = 0 then 48 else 96) / (if v.packing = 0 then 1 else 8)

/-- Audio packets in a second. -/
def audioPackets (v : Stream) : Nat := if v.packing = 0 then 1000 else 8000

/-- Octets of an ancillary packet: RTP and RFC 8331 headers, time code and frame packet (R333, log 51). -/
def ancillaryOctets : Nat := 12 + 8 + 32 + 24

/-- Packets of a frame of a video or ancillary stream with its grade `g` (R335). -/
def framePackets (v : Stream) (g : Grade) : Nat :=
  if v.kind = 1 then g.ho * linePackets v.packing g.wo g.chroma g.depth else 1

/-- Wire bits of a frame on one port (R335). -/
def frameWireBits (v : Stream) (g : Grade) : Nat :=
  if v.kind = 1 then
    8 * (g.ho * lineGroups g.wo g.chroma g.depth * (pgroup g.chroma g.depth).2 + framePackets v g * (20 + wireExtra v))
  else 8 * (ancillaryOctets + wireExtra v)

/-- Wire bits of an audio stream in a second. -/
def audioWireBits (v : Stream) : Nat := 8 * audioPackets v * (12 + 3 * v.channels * audioPacket v + wireExtra v)

/-- The grade a context's video stream sends. -/
def streamGrade (b : Bank) (v : Stream) : Grade := b.grades[(⟨v.grade % 4, Nat.mod_lt _ (by decide)⟩ : GradeId)]

/-- Wire bits the streams put on port `p` in a tick of `fs` femtoseconds, every context taking a frame (R54, R336). -/
def portWireBits (s : State) (p : Fin 2) (fs : Nat) : Nat :=
  (allCtx.map fun c =>
    let b := s.contexts[c].live
    if s.contexts[c].state == .free then 0
    else ((b.streams.filter fun x => x.2.ports.getLsbD p.val).map fun x => frameWireBits x.2 (streamGrade b x.2)).sum).sum
  + ((List.finRange 24).map fun i =>
      let v := s.net.senders[i].audio
      if v.kind = 2 ∧ v.ports.getLsbD p.val then ceilDiv (audioWireBits v * fs) (10 ^ 15) else 0).sum

/-- A port carries a stream. -/
def streamOn (s : State) (p : Fin 2) : Bool :=
  (allCtx.any fun c => s.contexts[c].live.streams.any fun x => x.2.ports.getLsbD p.val)
  || ((List.finRange 24).any fun i => s.net.senders[i].audio.kind = 2 && s.net.senders[i].audio.ports.getLsbD p.val)

end Sys2Proof.Machine
end

