-- ==== Sys2Proof/Machine/Sizes.lean ====
section
/-!
DEFINITION. Sizes: the sizes of buffers (06, 07, 10, 11, 13), the rasters of the outputs (R302), and the domains of regions,
stacks and outputs (R436): what admission and the data plane both count by.
-/

namespace Sys2Proof.Machine

/-- Slots that name a channel (R168). -/
def activeSlots (d : Develop) : List Nat :=
  (List.range 4).filter fun j => d.map[j % 4]'(Nat.mod_lt _ (by decide)) != 0xFF

/-- Bytes of one buffer of a grade (R180). -/
def gradeSize (g : Grade) : Nat :=
  let row := fun n => ceilDiv (n * g.depth) 8
  if g.chroma ≤ 1 then g.ho * row (3 * g.wo)
  else if g.chroma = 2 then g.ho * row (2 * g.wo)
  else g.ho * row g.wo + g.ho / 2 * row g.wo

/-- Bytes of a context's temporal buffers: two references of 2.5 bytes per active slot per pixel, and three analysis
lumas (R170). -/
def temporalBytes (b : Bank) (n : Noise) : Nat :=
  if !n.temporal then 0
  else
    2 * alloc (ceilDiv (5 * (activeSlots b.develop).length * b.source.w * b.source.h) 2)
      + 3 * alloc (2 * ceilDiv b.source.w n.d * ceilDiv b.source.h n.d)

/-- Bytes of the tap buffers of a bank: two T1 buffers per capture, two T2 buffers (R152, R153). -/
def tapBytes (b : Bank) (t1 t2 : Bool) : Nat :=
  let n := b.source.w * b.source.h
  (if t1 then 2 * captures b * alloc (ceilDiv (7 * n) 4) else 0) + (if t2 then 2 * alloc (ceilDiv (5 * n) 2) else 0)

/-- Samples of a frame of a bank. -/
def samplesOf (b : Bank) : Nat := captures b * b.source.w * b.source.h

/-- The slot size of a capture ring (R241). -/
def ringSlotSize (b : Bank) (k : RecCfg) : Nat := alloc (samplesOf b * k.budget / 1024 + 65536)

/-- The slots of a capture ring (R241). -/
def ringSlots (b : Bank) (k : RecCfg) : Nat := k.ringSize / ringSlotSize b k

/-- Samples of a picture, all planes. -/
def planeSamples (chroma w h : Nat) : Nat :=
  w * h + 2 * (ceilDiv w 2 * (if chroma = 1 then ceilDiv h 2 else h))

/-- Bytes of an output slot of a session (R294). -/
def Session.slotSize (x : Session) : Nat := alloc (64 + 2 * planeSamples x.chroma x.w x.h)

/-- The outputs in order. -/
def allOutputs : List QuadId := [0, 1, 2, 3]

/-- The power domain of a generator (R301, R436). -/
def outDomain (o : QuadId) : Fin 25 := if o.val < 2 then 17 else if o = 2 then 18 else 19

/-- Frames per second of an SDI rate code, as a fraction (R302). -/
def rateFps (n : Nat) : Nat × Nat :=
  [(24000, 1001), (24, 1), (25, 1), (30000, 1001), (30, 1), (48000, 1001), (48, 1), (50, 1), (60000, 1001), (60, 1)].getD n (1, 1)

/-- A raster and rate pair of R302. -/
def sdiPair (code rate : Nat) : Bool :=
  rate ≤ 9 && (code == 1 || code == 3 || code == 5 || ((code == 2 || code == 4) && rate ≤ 4))

/-- Total lines of an SDI raster (R302). -/
def sdiLines (code : Nat) : Nat := if code = 1 then 1125 else 2250

/-- Total samples per line of an SDI raster, of SMPTE ST 274 and ST 2036-1 (log 48). -/
def sdiSamples (code rate : Nat) : Nat :=
  let n := [2750, 2750, 2640, 2200, 2200, 2750, 2750, 2640, 2200, 2200].getD rate 2750
  if code = 1 then n else 2 * n

/-- Active width and height of output `o`'s raster (R302). -/
def activeSize (o : QuadId) (r : Raster) : Nat × Nat :=
  if o.val < 2 then
    (if r.code = 1 then (1920, 1080) else if r.code ≤ 3 then (3840, 2160) else (4096, 2160))
  else (r.timing.getD 0 0, r.timing.getD 4 0)

/-- The frame period of an output in ps, as a fraction. -/
def framePeriod (o : QuadId) (r : Raster) : Nat × Nat :=
  if o.val < 2 then let (n, d) := rateFps r.rate; (d * 10 ^ 12, n)
  else if o = 2 then (r.timing.getD 1 0 * r.timing.getD 5 0 * 10 ^ 9, r.clock)
  else (1000 * r.period, 1)

/-- DisplayPort payload of a lane in kbit/s by rate code (R317 gives HBR3 ×4; the rest DisplayPort 1.4a, log 48). -/
def dpLane (rate : Nat) : Nat := [0, 1296000, 2160000, 4320000, 6480000].getD rate 0

/-- The trained link carries the raster (R312, R317). -/
def linkCarries (y : Output) (r : Raster) : Bool :=
  y.lanes != 0 && r.clock * (3 * (if r.format = 0 then 8 else 10) - (if r.format = 2 then 10 else 0)) ≤ dpLane y.rate * y.lanes

/-- The audio ports in order. -/
def allAudio : List QuadId := [0, 1, 2, 3]

/-- The frame rate of a code, Hz (R341). -/
def audioHz (n : Nat) : Nat := if n = 0 then 48000 else if n = 1 then 96000 else 192000

/-- The frame rate of a port, Hz. -/
def AudioPort.hz (y : AudioPort) : Nat := match y.cfg with | some k => audioHz k.rate | none => 48000

/-- The domain of a region (R436). -/
def regionDomain (r : RegionId) : Fin 25 := ⟨4 + r.val, by have := r.isLt; omega⟩

/-- The domain of a stack's controller (R436). -/
def stackDomain (m : StackId) : Fin 25 := ⟨8 + m.val, by have := m.isLt; omega⟩

/-- The grades in order. -/
def allGrades : List GradeId := [0, 1, 2, 3]

end Sys2Proof.Machine
end

