-- ==== Sys2Proof/Machine/Budget.lean ====
section
/-!
DEFINITION. Budget: the demands and limits of the twelve resources of R55, as R54 counts them. Each demand is kept in a unit
fine enough to be exact; `Load.scale` of them make one unit of TICK_BUDGET_QUERY.
-/

namespace Sys2Proof.Machine

/-- The demand on one instance of a resource and its limit. -/
structure Load where
  /-- number of the instance (TICK_BUDGET_QUERY) -/
  inst : Nat
  demand : Nat
  limit : Nat
  deriving DecidableEq, Repr

/-- How often a context's demand is counted: twice for the context whose double-frame flag is tested (R130). -/
abbrev Weight := CtxId → Nat

/-- Every context counts once. -/
def once : Weight := fun _ => 1

/-- Context `c` counts twice. -/
def twice (c : CtxId) : Weight := fun d => if d = c then 2 else 1

/-! ## Bands (R375, R379) -/

/-- Interior boundaries of the package's band. -/
def boundaries (s : State) (b : Bank) : Nat :=
  if b.split.isNone then 0
  else let r := ownRows s b; bit (decide (0 < r.1)) + bit (decide (r.2 < b.source.h))

/-- Rows a package counts for a context: its own, and 16 at each interior boundary (R379). -/
def countedRows (s : State) (b : Bank) : Nat :=
  let r := ownRows s b
  if r.1 = r.2 then 0 else r.2 - r.1 + 16 * boundaries s b

/-! ## Resources 1 and 11 (R56, R471) -/

/-- Passes of a context's development: two when G2 or G3 is enabled (R56). -/
def passesOf (b : Bank) : Nat := if b.grades[(2 : GradeId)].on || b.grades[(3 : GradeId)].on then 2 else 1

/-- The row-block time in clocks (R13). -/
def rowBlock (s : State) (b : Bank) : Nat := 16 * (stripeOf s b + 32)

/-- Contexts that place work on a cluster of region `r`. -/
def placedOn (s : State) (r : RegionId) : List CtxId :=
  allCtx.filter fun c => counted s c && s.contexts[c].live.regions.getLsbD r.val

/-- Clocks of a context's frame on a unit, without context switches (R56). -/
def frameClocks (s : State) (b : Bank) : Nat := passesOf b * ceilDiv (countedRows s b) 64 * rowBlock s b

/-- W_u in clocks of a unit of region `r` (R56). -/
def unitClocks (s : State) (w : Weight) (r : RegionId) : Nat :=
  let cs := placedOn s r
  (cs.map fun c => w c * frameClocks s s.contexts[c].live).sum + (if 1 < cs.length then 128 * cs.length else 0)

/-- The clock of a region's die in MHz (R22). -/
def dieClock (s : State) (r : RegionId) : Nat := if r.val < 2 then s.power.clocks[(0 : Fin 2)] else s.power.clocks[(1 : Fin 2)]

/-- A time of `n` pipeline clocks of region `r`, in twelfths of a femtosecond. -/
def clockTime (s : State) (r : RegionId) (n : Nat) : Nat := ceilDiv (n * 12000000000) (dieClock s r)

/-- The longest row-block time of a region, in clocks (R56). -/
def longestBlock (s : State) (r : RegionId) : Nat :=
  (placedOn s r).foldl (fun m c => Max.max m (rowBlock s s.contexts[c].live)) 0

/-- Every unit that may have work, by unit name (R25). -/
def allUnits (s : State) : List UnitId :=
  allRegions.flatMap fun r => ([0, 1] : List (Fin 2)).flatMap fun k =>
    ((List.finRange 9).filter fun i => (activeUnits s r k).contains i).map fun i => ⟨r, k, i⟩

/-- Region lane-cycles of every unit; `margin` takes the recovery margin off the limit (R55 resources 1 and 11). -/
def laneLoads (s : State) (w : Weight) (margin : Bool) : List Load :=
  (allUnits s).map fun u =>
    ⟨unitName u, clockTime s u.region (unitClocks s w u.region),
     12 * (tAdm s - 1000000000) - (if margin then 24000000000 + clockTime s u.region (longestBlock s u.region) else 0)⟩

/-- A stripe is wider than 8,192 pixels, or no unit is left to develop a placed context (R11). -/
def stripeFail (s : State) : Bool :=
  allCtx.any fun c => counted s c && 0 < s.contexts[c].live.source.w
    && (8192 < stripeOf s s.contexts[c].live || (unitsOf s s.contexts[c].live).isEmpty)

/-- A cluster of region `r` has its spare. -/
def hasSpare (s : State) (r : RegionId) (k : Fin 2) : Bool := (clusterOf s r k).spare.isSome

/-! ## Resource 2 (R121, R122) -/

/-- Bytes of one landing slot of a bank: every capture at 1.75 bytes per sample (R121). -/
def slotBytes (b : Bank) : Nat := ceilDiv (7 * samplesOf b) 4

/-- A context whose geometry changes while it runs (R122). -/
def reshaped (now q : State) (c : CtxId) : Bool :=
  let a := now.contexts[c].live.source
  let b := q.contexts[c].live.source
  now.contexts[c].state == .running && q.contexts[c].state == .running && (a.w != b.w || a.h != b.h || a.emb != b.emb)

/-- Landing buffers of the ports (R55 resource 2); `now` is the state whose live banks hold the old geometry. -/
def landingLoads (now q : State) : List Load :=
  allPorts.map fun p =>
    ⟨p.val, ((ctxsOnPort q p).map fun c =>
        2 * slotBytes q.contexts[c].live + (if reshaped now q c then 2 * slotBytes now.contexts[c].live else 0)).sum,
     q.ports[p].ring⟩

/-! ## Resources 3 and 4 -/

/-- A stack runs, and no accepted switch turns it off (R211, R215, R437). -/
def stackUp (s : State) (m : StackId) : Bool :=
  s.power.domains[stackDomain m] == .on && (s.mem.stks[m].state == .running || s.mem.stks[m].state == .selfRefresh)

/-- The stacks in order. -/
def allStacks : List StackId := [0, 1, 2, 3]

/-- The stack that serves a region: its own, or the fallback stack of a failed one (R21, R212). -/
def regionStack (s : State) (r : RegionId) : StackId :=
  if !s.mem.stks[r].failed then r
  else (([r + 1, r + 2, r + 3] : List StackId).find? fun m => stackUp s m).getD r

/-- The stack of a context's landing slots (R121). -/
def homeStack (s : State) (b : Bank) : StackId := regionStack s ((homeRegion b).getD 0)

/-- Outputs that show a grade of context `c` and run. -/
def runningBinds (s : State) (b : Bank) : List (QuadId × GradeId) :=
  allOutputs.filterMap fun o => if s.outputs[o].raster.isSome then (b.binds[o]).map fun k => (o, k.grade) else none

/-- Readers of a grade's buffer per frame: bound outputs, its encode, video senders, the link of a split (R317, R336). -/
def gradeReads (s : State) (b : Bank) (g : GradeId) : Nat :=
  ((runningBinds s b).filter fun x => x.2 == g).length + bit b.encodes[g].on
    + (b.streams.filter fun x => x.2.kind == 1 && x.2.grade % 4 == g.val).length
    + (match b.split with | some k => bit (isWorker s && k.assembled.getLsbD g.val) | none => 0)

/-- Bytes of the context's statistics record (R190). -/
def recordLength (k : StatCfg) : Nat := if k.zones then 16448 + 40 * k.zx * k.zy else if k.hist then 16448 else 64

/-- One byte, in the unit of resource 3. -/
def nano : Nat := 1000000000

/-- Bytes of a context's frame that its own stack carries, in 10^-9 byte (R55 resource 3). -/
def homeTraffic (s : State) (b : Bank) : Nat :=
  let n := captures b * b.source.w * countedRows s b
  let stripe := stripeOf s b
  let land := 7 * n * 250000000
  let read := passesOf b * (if stripe = 0 then 0 else ceilDiv (land * (stripe + 32)) stripe)
  let chunk := if b.recording.target = .none then 0 else ceilDiv (b.recording.budget * n * nano) 1024
  let pack := if b.recording.target = .none then 0
    else land + chunk + (match b.recording.target with | .media _ => chunk | _ => 0)
  let frame := b.source.w * countedRows s b
  let taps := (if b.front.t1 then land else 0) + (if b.front.t2 then 5 * frame * 500000000 else 0)
  let ref := 5 * (activeSlots b.develop).length * frame
  let temporal := if b.noise.temporal then
      ref * 500000000 + ref * 625000000 + 2 * ceilDiv b.source.w b.noise.d * ceilDiv (countedRows s b) b.noise.d * nano
    else 0
  let stat := recordLength b.stat * (if b.statHost.isSome then 2 else 1) * nano
  let grades := (allGrades.map fun g => if b.grades[g].on then gradeSize b.grades[g] * (1 + gradeReads s b g) * nano else 0).sum
  land + read + pack + taps + temporal + stat + grades

/-- Bytes of the pixel tables a context reads per frame (R155). -/
def tableTraffic (b : Bank) : Nat :=
  let bind := fun x : Option PixelBind => match x with | some k => 2 * k.w * k.h | none => 0
  (((List.finRange 4).filter fun k => k.val < captures b).map fun k => bind (b.front.caps[k]).dark).sum + bind b.front.flat

/-- Pictures of a DPB for a declared maximum size: level 6.2 of H.265 (R292, log 44). -/
def dpbPictures (w h : Nat) : Nat :=
  let n := w * h
  let most := 35651584
  if 4 * n ≤ most then 16 else if 2 * n ≤ most then 12 else if 4 * n ≤ 3 * most then 8 else 6

/-- Work that Kongaord places in the stack with the most unadmitted bandwidth (R287, R303). -/
structure Placed where
  /-- the context it belongs to -/
  ctx : Option CtxId
  /-- 10^-9 bytes per tick -/
  traffic : Nat
  /-- bytes it takes -/
  size : Nat
  deriving DecidableEq, Repr

/-- Picture bytes of an encode at 2 bytes per sample (R287). -/
def pictureBytes (g : Grade) : Nat := 2 * planeSamples (if g.chroma = 3 then 1 else 2) g.wo g.ho

/-- An encode's reference pictures and access-unit ring (R287). -/
def encodePlaced (c : CtxId) (v : Encode) (g : Grade) : Placed :=
  ⟨some c, (pictureBytes g + ceilDiv (3 * Min.min v.refs 2 * pictureBytes g) 2 + 2 * v.cMax) * nano,
   alloc (4 * v.cMax) + (v.refs + 1) * alloc (pictureBytes g)⟩

/-- Output frames that begin in a tick, rounded up (R317). -/
def framesPerTick (s : State) (o : QuadId) (r : Raster) : Nat :=
  let (n, d) := framePeriod o r
  ceilDiv (tAdm s * d) (n * 1000)

/-- The scan buffers of a running output (R303, R317). -/
def scanPlaced (s : State) (o : QuadId) (r : Raster) : Placed :=
  let (a, b) := overlaysOf s o
  let plane := fun v : Overlay => if v.on then 4 * v.w * v.h else 0
  let reads := framesPerTick s o r
  match boundTo s o with
  | some (c, k) =>
    let g := gradeSize s.contexts[c].live.grades[k.grade]
    ⟨some c, (g + (g + plane a + plane b) * reads) * nano, 3 * alloc g⟩
  | none => ⟨none, (plane a + plane b) * reads * nano, 0⟩

/-- All such work, in the order in which it is placed: encodes, then outputs (R287, R303). -/
def placedWork (s : State) : List Placed :=
  ((allCtx.filter (counted s)).flatMap fun c => (allGrades.filter fun g => s.contexts[c].live.encodes[g].on).map fun g =>
      encodePlaced c s.contexts[c].live.encodes[g] s.contexts[c].live.grades[g])
  ++ allOutputs.filterMap fun o => (s.outputs[o].raster).map fun r => scanPlaced s o r

/-- Traffic of stack `m` that has its place: contexts, pixel tables and the storage target's rate (R55, R155, R279). -/
def fixedTraffic (s : State) (w : Weight) (m : StackId) : Nat :=
  ((allCtx.filter (counted s)).map fun c =>
      let b := s.contexts[c].live
      w c * ((if homeStack s b = m then homeTraffic s b else 0)
        + (if s.stg.scratchStack = m then tableTraffic b * nano else 0))).sum
    + s.stg.hbmRates[m] * tAdm s

/-- The running stack with the least in `load`, the lowest on a tie. -/
def freest (s : State) (load : StackId → Nat) : StackId :=
  ((allStacks.filter fun m => stackUp s m).foldl (fun best m => match best with
    | none => some m
    | some k => if load m < load k then some m else some k) none).getD 0

/-- Each piece of work in turn to the stack with the most unadmitted bandwidth: the stacks chosen, in order. -/
def placing (s : State) : List Placed → (StackId → Nat) → List StackId
  | [], _ => []
  | p :: ps, load =>
    let m := freest s load
    m :: placing s ps fun k => if k = m then load k + p.traffic else load k

/-- The work with the stack of each piece. -/
def stacked (s : State) : List (Placed × StackId) :=
  let work := placedWork s
  work.zip (placing s work fun m => fixedTraffic s once m)

/-- How often a placed piece counts. -/
def Placed.weight (p : Placed) (w : Weight) : Nat := match p.ctx with | some c => w c | none => 1

/-- Traffic of a stack, in region-affinity mode. -/
def stackTraffic (s : State) (w : Weight) (m : StackId) : Nat :=
  fixedTraffic s w m + (((stacked s).filter fun x => x.2 == m).map fun x => x.1.weight w * x.1.traffic).sum

/-- Traffic of all stacks. -/
def allTraffic (s : State) (w : Weight) : Nat := (allStacks.map (stackTraffic s w)).sum

/-- HBM bandwidth of every stack, a quarter of all traffic each when interleaved (R55 resource 3, R32). -/
def hbmLoads (s : State) (w : Weight) : List Load :=
  allStacks.map fun m =>
    ⟨m.val, if s.mem.interleaved then ceilDiv (allTraffic s w) 4 else stackTraffic s w m, 1081344 * tAdm s⟩

/-- Bytes a counted context takes in its own stack; `slots` landing slots (R55 resource 4). -/
def homeBytes (b : Bank) (slots : Nat) : Nat :=
  slots * alloc (slotBytes b)
    + (allGrades.map fun g => if b.grades[g].on then 2 * alloc (gradeSize b.grades[g]) else 0).sum
    + (match b.recording.target with
       | .media _ => 2 * alloc (ceilDiv (samplesOf b * b.recording.budget) 1024)
       | .ring => alloc b.recording.ringSize
       | _ => 0)
    + temporalBytes b b.noise + tapBytes b b.front.t1 b.front.t2
    + (if b.noise.temporal then
        2 * alloc (32 + 8 * ceilDiv (ceilDiv b.source.w b.noise.d) 16 * ceilDiv (ceilDiv b.source.h b.noise.d) 16)
      else 0)

/-- Bytes of a decode session's DPB (R292, log 44). -/
def dpbBytes (x : Session) : Nat := dpbPictures x.w x.h * alloc (2 * planeSamples x.chroma x.w x.h)

/-- Bytes taken in stack `m`, decode sessions in the stack with the lowest number that runs (R55 resource 4). -/
def stackTaken (s : State) (m : StackId) : Nat :=
  ((allCtx.filter (counted s)).map fun c =>
      let x := s.contexts[c]
      if homeStack s x.live = m then homeBytes x.live (Max.max 2 x.slots) else 0).sum
    + (((stacked s).filter fun x => x.2 == m).map fun x => x.1.size).sum
    + (if freest s (fun _ => 0) = m then (s.vc.sessions.toList.filterMap id |>.map dpbBytes).sum else 0)
    + (if s.stg.scratchStack = m then s.stg.scratch else 0)

/-- What a stack can hold: nothing while it is off or failed (R55 resource 4, R212, R437). -/
def stackRoom (s : State) (m : StackId) : Nat := if stackUp s m then 36 * 2 ^ 30 - 2 ^ 28 else 0

/-- HBM capacity by stack, or of the package when interleaved (R55 resource 4). -/
def capacityLoads (s : State) : List Load :=
  if s.mem.interleaved then [⟨0, (allStacks.map (stackTaken s)).sum, 143 * 2 ^ 30⟩]
  else allStacks.map fun m => ⟨m.val, stackTaken s m, stackRoom s m⟩

/-! ## Resource 5 (R286, R298) -/

/-- Cycles of the coding cores; decode sessions and encodes without a context count once. -/
def coreLoads (s : State) : List Load := (List.finRange 8).map fun k => ⟨k.val, coreLoad s k, coreLimit s k⟩

/-- Time at which the first pass of context `c` ends on its last unit of region `r`, in twelfths of a femtosecond (R298). -/
def firstPassEnd (s : State) (c : CtxId) (r : RegionId) : Nat :=
  let cs := placedOn s r
  let before := cs.filter fun d => d.val < c.val
  let b := s.contexts[c].live
  clockTime s r ((before.map fun d => frameClocks s s.contexts[d].live).sum + ceilDiv (countedRows s b) 64 * rowBlock s b
    + (if 1 < cs.length then 128 * (before.length + 1) else 0))

/-- The timing condition of a context's analysis fails (R298): r is 665 cycles per µs. -/
def timingFail (s : State) (c : CtxId) : Bool :=
  let b := s.contexts[c].live
  let td := (regionsOf b).foldl (fun m r => Max.max m (firstPassEnd s c r)) 0
  let wd := ceilDiv b.source.w b.noise.d
  let a := wd * ceilDiv b.source.h b.noise.d
  b.noise.temporal && decide
    (12 * 665 * (tAdm s - 1000000000) < Max.max (665 * td) (6 * a * 1000000000) + 12 * 8 * wd * 1000000000)

/-! ## Resource 6 (R228) -/

/-- Raw lanes the chunks are dealt over: not reserved for host jobs, not retired (R228, R235). -/
def rawLanes (s : State) : List Nat :=
  (List.range 32).filter fun i => decide (i < 32 - s.cmp.hostRaw) && !s.cmp.retiredRaw.contains i

/-- Input bits a context places on each of `n` lanes (R228). -/
def laneBits (s : State) (b : Bank) (n : Nat) : Nat :=
  if b.recording.target = .none then 0
  else
    let stripe := stripeOf s b
    let rows := let r := ownRows s b; r.2 - r.1
    let chunks := captures b * (if stripe = 0 then 0 else ceilDiv b.source.w stripe) * ceilDiv rows 256
    ceilDiv chunks n * (Min.min stripe b.source.w * Min.min 256 rows * 14)

/-- Raw lanes 0 to 31, then general engines 32 to 35, in 10^-6 bit (R55 resource 6). -/
def cmpLoads (s : State) (w : Weight) : List Load :=
  let lanes := rawLanes s
  let d := ((allCtx.filter (counted s)).map fun c => w c * laneBits s s.contexts[c].live lanes.length).sum * 1000000
  (lanes.map fun i => ⟨i, d, 32 * tAdm s⟩)
    ++ (((List.range 4).filter fun i => !s.cmp.retiredGeneral.contains i).map fun i => ⟨32 + i, 0, 8 * tAdm s⟩)

/-- A context raw-packs and no lane is left for it. -/
def lanesFail (s : State) : Bool :=
  (rawLanes s).isEmpty && allCtx.any fun c => counted s c && s.contexts[c].live.recording.target != .none

/-! ## Resource 7 (R317, R336, R379) -/

/-- The link rate of an SDI raster in bit/s; 11.88 Gbit/s while it runs none (TICK_BUDGET_QUERY). -/
def sdiRate (r : Option Raster) : Nat :=
  match r with
  | none => 11880000000
  | some r => if r.code = 1 then 2970000000 else if r.code = 2 ∨ r.code = 4 then 5940000000 else 11880000000

/-- Bits per pixel of TG2 and TG3 (R302). -/
def pixelBits (r : Raster) : Nat := if r.format = 0 then 24 else if r.format = 2 then 20 else 30

/-- Bits per second of an output's raster as a fraction (R317). -/
def rasterBits (o : QuadId) (r : Raster) : Nat × Nat :=
  if o.val < 2 then let (n, d) := rateFps r.rate; (sdiSamples r.code r.rate * sdiLines r.code * 20 * n, d)
  else if o = 2 then (r.clock * 1000 * pixelBits r, 1)
  else (r.timing.getD 0 0 * r.timing.getD 4 0 * pixelBits r * 1000000000, r.period)

/-- The capacity of an output's interface in bit/s (TICK_BUDGET_QUERY). -/
def outputRate (s : State) (o : QuadId) : Nat :=
  let y := s.outputs[o]
  if o.val < 2 then sdiRate y.raster
  else if o = 2 then (if y.lanes = 0 then 25920000000 else dpLane y.rate * y.lanes * 1000)
  else 10000000000

/-- An output's load in 10^-15 bit. -/
def outputLoad (s : State) (o : QuadId) : Load :=
  let d := match s.outputs[o].raster with
    | none => 0
    | some r => let (n, k) := rasterBits o r; ceilDiv (n * tAdm s) k
  ⟨o.val, d, outputRate s o * tAdm s⟩

/-- The capacity of an Ethernet port in Gbit/s (R320). -/
def ethRate (mode : Nat) : Nat := if mode = 0 then 0 else if mode ≤ 2 then 100 else 25

/-- A package's band: number, first row and end (R375). -/
abbrev Band := Nat × Nat × Nat

/-- Bytes that package `a` sends package `d` for a split context in a tick (R376 to R378, R194). -/
def splitBytes (b : Bank) (k : Split) (a d : Band) : Nat :=
  let rows := a.2.2 - a.2.1
  let halo := if a.2.2 = d.2.1 ∨ d.2.2 = a.2.1 then ceilDiv (16 * 7 * captures b * b.source.w) 4 else 0
  let means := 32 * captures b * rows
  let grades := if d.1 ≠ 0 ∨ b.source.h = 0 then 0 else (allGrades.map fun g =>
    if k.assembled.getLsbD g.val && b.grades[g].on && b.grades[g].ho != 0 then
      ceilDiv (b.grades[g].ho * rows) b.source.h * ceilDiv (gradeSize b.grades[g]) b.grades[g].ho else 0).sum
  halo + means + grades + (if d.1 = 0 then recordLength b.stat else 0)

/-- Bytes over hasp port `p` in a tick, out or in, of every split context (R379). -/
def haspBytes (s : State) (p : Fin 2) (outward : Bool) : Nat :=
  let far := fun w : Nat => w != ownPackage s && portToward s w == some p
  ((allCtx.filter (counted s)).map fun c =>
    let b := s.contexts[c].live
    match b.split with
    | none => 0
    | some k =>
      let l := bandList b.source.h k.bands
      (l.flatMap fun a => l.map fun d =>
        if a.1 ≠ d.1 && far d.1 == outward && far a.1 == !outward then splitBytes b k a d else 0).sum).sum

/-- Load of a hasp port in its busier direction, in 10^-15 bit (R379). -/
def haspLoad (s : State) (p : Fin 2) : Load :=
  let n := Max.max (haspBytes s p true) (haspBytes s p false)
  ⟨6 + p.val, n * 8 * 129 * 7812500000000, 100000000000 * tAdm s⟩

/-- The interfaces in the numbering of TICK_BUDGET_QUERY, in 10^-15 bit (R55 resource 7). -/
def linkLoads (s : State) : List Load :=
  (allOutputs.map (outputLoad s))
    ++ (([0, 1] : List (Fin 2)).map fun p =>
      ⟨4 + p.val, portWireBits s p (tAdm s) * 1000000000000000, ethRate s.net.ports[p].mode * 1000000000 * tAdm s⟩)
    ++ (([0, 1] : List (Fin 2)).map (haspLoad s))

/-- A running output's copy of one grade frame at 32 GB/s does not end within T_adm − 1 µs, or an SDI raster is no row of
R302 (R317). -/
def outputsFail (s : State) : Bool :=
  allOutputs.any fun o => match s.outputs[o].raster with
    | none => false
    | some r => (o.val < 2 && !sdiPair r.code r.rate) || (match boundTo s o with
      | some (c, k) => decide (tAdm s - 1000000000 < gradeSize s.contexts[c].live.grades[k.grade] * 31250)
      | none => false)

/-! ## Resource 8 (R436 to R439) -/

/-- Idle power of a domain in mW while it is ON (R436); AON first. -/
def idleTable : List Nat :=
  [0, 300, 2300, 6000, 3000, 3000, 3000, 3000, 4500, 4500, 4500, 4500, 2000, 2000, 2500, 3000, 3500, 3000, 1200, 400, 4000,
   1500, 200, 400, 2500]

/-- The scale of PIPE idle and develop energies in hundredths (R436, R438). -/
def clockScale (mhz : Nat) : Nat := if mhz = 600 then 85 else if mhz = 1000 then 120 else 100

/-- Idle power of domain `d` in its state, in mW (R436). -/
def idlePower (s : State) (d : Fin 25) : Nat :=
  let n := idleTable.getD d.val 0
  match s.power.domains[d] with
  | .off => 0
  | .retain => 300
  | _ =>
    if h : 4 ≤ d.val ∧ d.val ≤ 7 then n * clockScale (dieClock s ⟨d.val - 4, by omega⟩) / 100
    else if h : 8 ≤ d.val ∧ d.val ≤ 11 then
      (if s.mem.stks[(⟨d.val - 8, by omega⟩ : StackId)].state == .selfRefresh then 1000 else n)
    else n

/-- Energy of one pixel in one pass, the grades from `g` on, in pJ (R438). -/
def passEnergy (b : Bank) (g h : GradeId) : Nat :=
  90 + 50 + 10 + (if b.noise.spatial then 90 else 0) + (if b.noise.temporal then 45 else 0)
    + 35 * bit b.grades[g].on + 35 * bit b.grades[h].on

/-- Stripes of a context that region `r` develops, and all its stripes (R11, R438). -/
def stripeShare (s : State) (b : Bank) (r : RegionId) : Nat × Nat :=
  let w := stripeOf s b
  let n := if w = 0 then 0 else ceilDiv b.source.w w
  let us := (unitsOf s b).take n
  ((us.filter fun u => u.region == r).length, us.length)

/-- Develop energy of a context per tick, in 10^-4 pJ (R438). -/
def developEnergy (s : State) (b : Bank) : Nat :=
  let pixels := b.source.w * (let r := ownRows s b; r.2 - r.1)
  let e := passEnergy b 0 1 + (if passesOf b = 2 then passEnergy b 2 3 else 0)
  ((regionsOf b).map fun r =>
    let (k, n) := stripeShare s b r
    if n = 0 then 0 else ceilDiv (pixels * e * 100 * clockScale (dieClock s r) * k) n).sum

/-- Energy of a context's received and packed samples per tick, in 10^-4 pJ (R438). -/
def sampleEnergy (s : State) (b : Bank) : Nat :=
  let n := captures b * b.source.w * (let r := ownRows s b; r.2 - r.1)
  n * 14 * 7500 + (if b.recording.target = .none then 0 else n * 62500)

/-- Bytes of the storage target in 10^-9 byte per tick that the model counts: HBM, then media; half in power state 1, none in
power state 2 (R277, R438). -/
def storageBytes (s : State) : Nat × Nat :=
  let part := fun n : Nat => if s.stg.power = 0 then n else if s.stg.power = 1 then n / 2 else 0
  (part (s.stg.hbmRates.toList.sum * tAdm s), part (s.stg.portRates.toList.sum * tAdm s))

/-- The energy of admitted work per tick, in 10^-4 pJ (R438). -/
def workEnergy (s : State) : Nat :=
  let cs := (allCtx.filter (counted s)).map fun c => s.contexts[c].live
  let (hbm, media) := storageBytes s
  let memory := allTraffic s once - s.stg.hbmRates.toList.sum * tAdm s + hbm
  (cs.map fun b => developEnergy s b + sampleEnergy s b).sum
    + ceilDiv (memory * 300000 + (hbm + media) * 250000) nano
    + ceilDiv (((List.finRange 8).map (coreLoad s)).sum * 30000000) cycleUnit

/-- The model estimate and the ceiling, in mW × 10 × T in ps (R438, R439). -/
def powerLoad (s : State) : Load :=
  ⟨0, ((List.finRange 25).map (idlePower s)).sum * 10 * s.tick.period + workEnergy s, s.power.ceiling * 10 * s.tick.period⟩

/-- The model estimate in mW, rounded up (R438). -/
def estimate (s : State) : Nat := ceilDiv (powerLoad s).demand (10 * s.tick.period)

/-- Resource-3 demand of all stacks exceeds 2.5 TB/s × T_adm (R439). -/
def trafficFail (s : State) : Bool := decide (2500000 * tAdm s < allTraffic s once)

/-! ## Resources 9, 10 and 12 -/

/-- LUT slots of a region that contexts placed on it select, or that are being uploaded (R19, R55 resource 9). -/
def lutLoads (s : State) : List Load :=
  allRegions.map fun r =>
    ⟨regionName r, ((List.finRange 16).filter fun i => s.luts[r][i].state == .loading
      || (placedOn s r).any fun c => s.contexts[c].live.grades.toList.any fun g => g.on && g.lut == some i).length, 16⟩

/-- Line store of one context on a cluster (R181). -/
def lineStore (s : State) (b : Bank) : Nat :=
  let n := stripeOf s b
  let part := fun g : GradeId =>
    let x := b.grades[g]
    if !x.on then 0
    else (if ceilDiv b.source.h x.dv = x.ho then 1 else 9) * (ceilDiv (8 * n) x.dh + 8) * 6
  8 * (n + 32) * 64 + Max.max (part 0 + part 1) (part 2 + part 3)

/-- Line stores of the clusters, each by its whole-cluster name (R25, R55 resource 10). -/
def storeLoads (s : State) : List Load :=
  allRegions.flatMap fun r => ([0, 1] : List (Fin 2)).map fun k =>
    ⟨15 + 16 * k.val + 32 * r.val, ((placedOn s r).map fun c => lineStore s s.contexts[c].live).sum, 3 * 2 ^ 20⟩

/-- A clip of the context writes to media port `p`, or a start that will is accepted (R239). -/
def recordsTo (s : State) (p : Fin 2) (c : CtxId) (more : List Change) : Bool :=
  (s.recs[c].clips.any fun k => k.cfg.target == .media p)
    || (s.contexts[c].live.recording.target == .media p
      && (s.cmd.armed.map Armed.change ++ heldChanges s ++ more).any fun x => match x with
        | .recStart d _ => d == c
        | _ => false)

/-- Bytes a context records to media per tick, in 10^-9 byte: chunks, audio and proxies (R239). -/
def mediaBytes (s : State) (b : Bank) : Nat :=
  let n := captures b * b.source.w * (let r := ownRows s b; r.2 - r.1)
  let audio := (allAudio.map fun p => if b.recording.audio.getLsbD p.val then
    4 * (match s.audio.ports[p].cfg with | some k => k.slots * audioHz k.rate | none => 0) else 0).sum
  let proxy := (allGrades.map fun g => if b.recording.proxy.getLsbD g.val then b.encodes[g].cMax else 0).sum
  ceilDiv (b.recording.budget * n * nano) 1024 + ceilDiv (audio * tAdm s) 1000000 + proxy * nano

/-- Media bandwidth of the mounted ports, in 10^-9 byte (R55 resource 12). -/
def mediaLoads (s : State) (w : Weight) (more : List Change) : List Load :=
  (([0, 1] : List (Fin 2)).filter fun p => s.media[p].mounted).map fun p =>
    ⟨p.val, ((allCtx.filter fun c => counted s c && recordsTo s p c more).map fun c =>
        w c * mediaBytes s s.contexts[c].live).sum + s.stg.portRates[p] * tAdm s,
     (match s.media[p].volume with | some v => v.rate | none => 0) * tAdm s⟩

/-! ## The twelve resources -/

/-- A configuration to be checked: the state now, the configuration before the command and after it, and the command's
changes. -/
structure Check where
  now : State
  before : State
  after : State
  changes : List Change

/-- Loads of resource `id` under configuration `q` (R55). -/
def loadsOf (now q : State) (w : Weight) (more : List Change) (id : Nat) : List Load :=
  match id with
  | 1 => laneLoads q w false
  | 2 => landingLoads now q
  | 3 => hbmLoads q w
  | 4 => capacityLoads q
  | 5 => coreLoads q
  | 6 => cmpLoads q w
  | 7 => linkLoads q
  | 8 => [powerLoad q]
  | 9 => lutLoads q
  | 10 => storeLoads q
  | 11 => laneLoads q w true
  | _ => mediaLoads q w more

/-- The conditions of resource `id` that are no comparison of a demand with a limit. -/
def extraFail (q : State) (id : Nat) : Bool :=
  match id with
  | 1 => stripeFail q
  | 5 => coresFail q || allCtx.any fun c => counted q c && timingFail q c
  | 6 => lanesFail q
  | 7 => outputsFail q
  | 8 => trafficFail q
  | _ => false

/-- The clusters on which a command places, moves or enlarges work (R471): W_u rises, the command starts a context placed
there, or the tick period changes. -/
def concerned (k : Check) (r : RegionId) : Bool :=
  let after := unitClocks k.after once r
  decide (unitClocks k.before once r < after)
    || (decide (k.before.tick.period ≠ k.after.tick.period) && decide (0 < after))
    || k.changes.any fun x => match x with
      | .start c => (placedOn k.after r).contains c
      | _ => false

/-- The spare condition of resource 11 fails (R55, R471). -/
def spareFail (k : Check) : Bool :=
  allRegions.any fun r => concerned k r && !(hasSpare k.after r 0 && hasSpare k.after r 1)

/-- A load exceeds its limit. -/
def Load.over (x : Load) : Bool := decide (x.limit < x.demand)

/-- Resource `id` fails. -/
def resourceOver (k : Check) (id : Nat) : Bool :=
  ((loadsOf k.now k.after once k.changes id).any Load.over) || extraFail k.after id || (id == 11 && spareFail k)

/-- The command raises no demand and lowers no limit: it only removes work (R54). -/
def onlyRemoves (k : Check) : Bool :=
  (List.range 12).all fun i =>
    let a := loadsOf k.now k.before once [] (i + 1)
    let b := loadsOf k.now k.after once k.changes (i + 1)
    b.all fun y => y.demand == 0 || a.any fun x => x.inst == y.inst && y.demand ≤ x.demand && x.limit ≤ y.limit

/-- Every `x.start` counts as work. -/
def starts (cs : List Change) : Bool := cs.any fun x => match x with | .start _ => true | _ => false

/-- The tumbler check: the lowest failing resource (R54). -/
def overBudget (k : Check) : Option Nat :=
  if onlyRemoves k && !starts k.changes then none
  else ((List.range 12).map (· + 1)).find? (resourceOver k)

end Sys2Proof.Machine
end

