-- ==== Sys2Proof/Machine/Admission.lean ====
section
/-!
DEFINITION. Admission: third landing slots (R121), double-frame flags (R130), the latency tolerances of a stack (R214, R215),
and the worst instance of each resource (TICK_BUDGET_QUERY).
-/

namespace Sys2Proof.Machine

/-! ## Landing slots (R121) -/

/-- Bytes a context's stack has left beside `s`, or the package when interleaved (R55 resource 4). -/
def roomFor (s : State) (c : CtxId) : Nat :=
  if s.mem.interleaved then 143 * 2 ^ 30 - (allStacks.map (stackTaken s)).sum
  else
    let m := homeStack s s.contexts[c].live
    stackRoom s m - stackTaken s m

/-- A third slot for each context of the list in turn, while the ring and its stack have space (R121). -/
def giveThird (run : CtxId → Bool) : List CtxId → Nat → State → List CtxId
  | [], _, _ => []
  | c :: cs, left, s =>
    let n := slotBytes s.contexts[c].live
    if run c && n ≤ left && alloc n ≤ roomFor s c then
      c :: giveThird run cs (left - n) (modCtx c (fun x => { x with slots := 3 }) s)
    else giveThird run cs left s

/-- The contexts of port `p` that hold a third slot when those of `run` are RUNNING (R121). -/
def thirdSlots (s : State) (p : PortId) (run : CtxId → Bool) : List CtxId :=
  let on := ctxsOnPort s p
  let t := forEach on (fun c => modCtx c fun x => { x with slots := 2 }) s
  giveThird run on (s.ports[p].ring - (on.map fun c => 2 * slotBytes s.contexts[c].live).sum) t

/-- Slot allotment of the contexts of port `p`, recomputed (R121). -/
def allotSlots (p : PortId) (s : State) : State :=
  let run := fun c : CtxId => s.contexts[c].state == .running
  let third := thirdSlots s p run
  forEach (ctxsOnPort s p) (fun c => modCtx c fun x =>
    { x with slots := if x.state = .running then (if third.contains c && x.oldSlots == 0 then 3 else 2)
                      else if x.state = .stopping then x.slots else 0 }) s

/-! ## The double-frame flag (R130) -/

/-- The demand of every instance on which context `c` counts stays within its limit with `c` counted twice. -/
def fitsTwice (f : Weight → List Load) (c : CtxId) : Bool :=
  ((f once).zip (f (twice c))).all fun x => x.1.demand == x.2.demand || !x.2.over

/-- The double-frame flag of context `c` under configuration `q`, with the changes that start clips (R130). -/
def doubleFlag (q : State) (more : List Change) (c : CtxId) : Bool :=
  (thirdSlots q q.contexts[c].live.source.port fun d => q.contexts[d].state == .running).contains c
    && fitsTwice (fun w => laneLoads q w true) c && fitsTwice (hbmLoads q) c && fitsTwice (cmpLoads q) c
    && fitsTwice (fun w => mediaLoads q w more) c

/-- The core whose motion engine would analyse context `c` under `n`; without room, core 0, which the check then refuses
(R295). -/
def analysisCoreFor (s : State) (c : CtxId) (n : Noise) : Option (Fin 8) :=
  some ((analysisPick (modBank c (fun b => { b with noise := n }) (projected s)) c).getD 0)

/-! ## Latency tolerance (R214, R215) -/

/-- The storage target has an I/O queue (R258). -/
def storageBusy (s : State) : Bool := s.stg.sqs.any fun q => q.id != 0

/-- The target states a tolerance to stack `m`: it holds namespace 2 or a present ring clip (R277). -/
def storageReads (s : State) (m : StackId) : Bool :=
  (s.stg.scratch != 0 && (s.mem.interleaved || s.stg.scratchStack == m))
    || s.stg.directory.any fun d => d.present && d.clip.source == 0
      && (s.mem.interleaved || homeStack s s.contexts[d.clip.ctx].live == m)

/-- Work in stack `m` that states no tolerance: admitted contexts and their encodes (R214). -/
def untolerant (s : State) (m : StackId) : Bool :=
  (allCtx.any fun c => admitted s c && (s.mem.interleaved || homeStack s s.contexts[c].live == m))
    || (stacked s).any fun x => (s.mem.interleaved || x.2 == m) && (match x.1.ctx with
      | some c => admitted s c
      | none => false)

/-- Eight line periods of an output's raster exceed 16 µs (R313, R215). -/
def linesTolerate (o : QuadId) (r : Raster) : Bool :=
  let (n, d) := framePeriod o r
  let lines := if o.val < 2 then sdiLines r.code else if o = 2 then r.timing.getD 5 0 else r.timing.getD 4 0
  decide (16000000 * d * lines < 8 * n)

/-- A running output reads stack `m`: its scan buffers or an overlay image lie there (R303, R313). -/
def scanReads (s : State) (o : QuadId) (m : StackId) : Bool :=
  let (a, b) := overlaysOf s o
  let outs := allOutputs.filter fun i => s.outputs[i].raster.isSome
  let scans := (stacked s).drop ((placedWork s).length - outs.length)
  s.mem.interleaved || (((outs.zip scans).any fun x => x.1 == o && x.2.2 == m && (boundTo s o).isSome)
    || ([a, b].any fun v => v.on && v.addr / 0x900000000 == m.val))

/-- The scan-outs of stack `m` tolerate 16 µs (R313, R215). -/
def scanTolerates (s : State) (m : StackId) : Bool :=
  allOutputs.all fun o => match s.outputs[o].raster with
    | none => true
    | some r => linesTolerate o r || !scanReads s o m

/-- Every latency tolerance stated to stack `m` exceeds 16 µs (R214, R215). Audio's 128 frame periods and the audio senders'
100 µs always do; a video sender reads where its context does. -/
def tolerates (s : State) (m : StackId) : Bool :=
  !untolerant s m && !(storageReads s m && s.stg.power != 2) && scanTolerates s m

/-! ## Worst instances (TICK_BUDGET_QUERY) -/

/-- `x` ranks above `y`: a larger ratio of demand to limit; a limit of 0 is above every other with a demand and below every
other without. -/
def Load.above (x y : Load) : Bool :=
  if x.limit = 0 ∧ y.limit = 0 then x.demand != 0 && y.demand == 0
  else if x.limit = 0 then x.demand != 0
  else if y.limit = 0 then y.demand == 0
  else decide (y.demand * x.limit < x.demand * y.limit)

/-- The worst instance, the lowest on a tie. -/
def worst (l : List Load) : Option Load :=
  l.foldl (fun b x => match b with
    | none => some x
    | some y => if x.above y || (!y.above x && x.inst < y.inst) then some x else b) none

/-- Code of the unit in which resource `id` is reported, and how many fine units make one (TICK_BUDGET_QUERY). -/
def unitOf (s : State) (id : Nat) : Nat × Nat :=
  match id with
  | 1 | 11 => (0, 12000000)
  | 3 | 12 => (1, nano)
  | 2 | 4 | 10 => (1, 1)
  | 5 => (4, cycleUnit)
  | 6 => (5, 1000000)
  | 7 => (5, 1000000000000000)
  | 8 => (2, 10 * s.tick.period)
  | _ => (3, 1)

/-- The entry of resource `id`: demand rounded up, limit down (TICK_BUDGET_QUERY). -/
def budgetEntry (q : State) (id : Nat) : List Byte :=
  let x := (worst (loadsOf q q once [] id)).getD ⟨0, 0, 0⟩
  let (code, scale) := unitOf q id
  leBytes 1 id ++ leBytes 1 x.inst ++ leBytes 1 code ++ leBytes 1 0 ++ leBytes 6 (ceilDiv x.demand scale)
    ++ leBytes 6 (x.limit / scale)

end Sys2Proof.Machine
end

