-- ==== Sys2Proof/Machine/Mailbox.lean ====
section
/-!
DEFINITION. Mailbox: how Kongaord takes, validates, executes and completes one mailbox command (R66 to R83). A
command's own rules are a `Spec`; `runCommand` is the one path every command goes through.
-/

namespace Sys2Proof.Machine

/-- Payload lengths a command accepts (R79 step 2). -/
inductive LenRule where
  /-- one length -/
  | exact (n : Nat)
  /-- the length the payload's own fields call for -/
  | counted (need : List Byte → Nat)
  /-- any length up to a maximum -/
  | upTo (lo hi : Nat)

/-- The length required, when the length is wrong (R80, BAD_LENGTH). -/
def LenRule.bad (r : LenRule) (e : Entry) : Option Nat :=
  match r with
  | .exact n => if e.len.toNat = n then none else some n
  | .counted need =>
    let n := need (if entryLoc e = 0 then e.inl else e.data)
    if e.len.toNat = n then none else some n
  | .upTo lo hi => if lo ≤ e.len.toNat && e.len.toNat ≤ hi then none else some hi

/-- What a completion says (R71), with the payload bytes returned. -/
structure Reply where
  status : Status := .ok
  detail : Nat := 0
  frame : Nat := 0
  ctx : Byte := 0xFF
  /-- bytes written back to the payload location from an offset -/
  back : Option (Nat × List Byte) := none

/-- What a command that passed every step does (R82). -/
inductive Effect where
  /-- it completes now -/
  | reply (t : State) (r : Reply)
  /-- its changes are armed or held -/
  | arm (t : State) (changes : List Change) (ctx : Option CtxId) (detail : Nat)
  /-- it is background: started, it ends later -/
  | background (t : State) (ctx : Option CtxId) (detail : Nat) (back : Option (Nat × List Byte) := none)
  /-- it stays in execution and completes later -/
  | execute (t : State) (ctx : Option CtxId)

/-- The rules of one command. -/
structure Spec where
  opcode : Nat
  len : LenRule
  /-- it writes a payload back, so an inline location is invalid (R70); true also for "arena or host" -/
  noInline : Bool := false
  /-- with this payload it writes back, so an inline location is invalid (R70) -/
  noInlineWhen : Entry → Bool := fun _ => false
  /-- only a host location is valid -/
  hostOnly : Bool := false
  /-- it changes a bank, so the HOLD flag is allowed (R70) -/
  bank : Bool := false
  /-- it is background (R82) -/
  isBackground : Bool := false
  /-- it is permitted in deadbolt (R394) -/
  deadbolt : Bool := false
  /-- it is permitted in deadbolt with this payload (R394) -/
  deadboltWhen : Entry → Bool := fun _ => false
  /-- it is served in recovery mode on mailbox 7 (R417) -/
  recovery : Bool := false
  /-- it is served by the boot ROM in state 0x0 (R419) -/
  rom : Bool := false
  /-- further cases of NOT_PERMITTED (step 1) -/
  permitted : Entry → State → Bool := fun _ _ => true
  /-- payload fields in offset order (step 5) -/
  fields : Entry → State → List Field := fun _ _ => []
  /-- further OUT_OF_RANGE offsets (step 5), found when every field is valid on its own -/
  cross : Entry → State → Option Nat := fun _ _ => none
  /-- states (step 6) -/
  states : Entry → State → Option Fail := fun _ _ => none
  /-- owners (step 7), beside the hold set -/
  owners : Entry → State → Option Fail := fun _ _ => none
  /-- resources (step 8) -/
  resources : Entry → State → Option Fail := fun _ _ => none
  /-- the tumbler check (step 9) -/
  tumbler : Entry → State → Option Fail := fun _ _ => none
  /-- signatures (step 10) -/
  signature : Entry → State → Option Fail := fun _ _ => none
  /-- contexts it touches, for the hold set's conflicts (R50) -/
  touches : Entry → State → List CtxId := fun _ _ => []
  /-- hinges from the one it is armed for to the one its completion names -/
  lag : Nat := 0
  /-- it changes, at once, a demand or a limit that the double-frame flags use (R130) -/
  flags : Bool := false
  /-- its effect -/
  effect : Entry → State → Effect

/-! ## Taking -/

/-- Mailbox `m` is served now (R66, R76, R83, R417, R419). -/
def served (s : State) (m : MbId) : Bool :=
  s.mailboxes[m].enabled &&
    (if s.devState = 2 ∨ s.devState = 4 then s.kongaord && m != 6
     else if s.devState = 3 then m == 4 || m == 7
     else s.devState == 0 && m == 7 && s.boot.step == .keyway && (s.boot.strap == 10 || s.boot.strap == 11))

/-- A command of mailbox `m` can be taken now (R68, R76 to R78). -/
def canTake (s : State) (m : MbId) : Bool :=
  let b := s.mailboxes[m]
  served s m && b.cmdHead != b.tailSeen && !cplFull b && b.executing.isNone && b.quota != 0

/-- The command is taken: the head moves past it (R68). -/
def takeCommand (m : MbId) (s : State) : State :=
  modMb m (fun b => { b with cmdHead := b.cmdHead + 1, quota := b.quota - 1, expected := b.expected.drop 1 }) s

/-! ## Validation (R79) -/

/-- Step 1: permitted in this mailbox and device state (R66, R83). -/
def permits (sp : Spec) (e : Entry) (s : State) : Bool :=
  (if s.devState = 3 then
      (if e.mb = 4 then sp.opcode == 0x0101 || sp.opcode == 0x0102 else sp.recovery)
    else if s.devState = 0 then sp.rom
    else (e.mb != 7 || sp.opcode / 256 == 0x01 || sp.opcode == 0x0206))
  && sp.permitted e s

/-- The most a location can hold (R69). -/
def locationLimit (loc : Nat) : Nat := if loc = 0 then 40 else if loc = 1 then 2 ^ 20 else 2 ^ 24

/-- Step 2: the length (BAD_LENGTH). -/
def lengthFail (sp : Spec) (e : Entry) : Option Fail :=
  match sp.len.bad e with
  | some n => some ⟨.badLength, n⟩
  | none =>
    if entryLoc e ≠ 3 && e.len.toNat > locationLimit (entryLoc e) then
      some ⟨.badLength, locationLimit (entryLoc e)⟩
    else none

/-- The payload location is valid for its kind (R70). -/
def locationOk (e : Entry) : Bool :=
  match entryLoc e with
  | 0 => e.loc == 0
  | 1 => e.loc.toNat % 8 == 0 && e.loc.toNat + e.len.toNat ≤ 2 ^ 20
  | _ => e.loc.toNat % 8 == 0

/-- The flags field is valid: HOLD only on a bank command, a valid location, reserved bits zero (R70); mailbox 4
takes no host location (R66). -/
def flagsOk (sp : Spec) (e : Entry) : Bool :=
  (sp.bank || !holds e) && entryLoc e != 3 && !((sp.noInline || sp.noInlineWhen e) && entryLoc e == 0)
    && !(sp.hostOnly && entryLoc e != 2) && !(e.mb == 4 && entryLoc e == 2) && e.flags.toNat / 8 == 0

/-- Step 3: the entry header fields in offset order (R69, R70). -/
def headerFail (sp : Spec) (e : Entry) : Option Fail :=
  firstFail [
    (!flagsOk sp e, ⟨.outOfRange, 0x10004⟩),
    (e.rsv6 != 0, ⟨.outOfRange, 0x10006⟩),
    (e.rsv12 != 0, ⟨.outOfRange, 0x1000C⟩),
    (!locationOk e, ⟨.outOfRange, 0x10010⟩),
    (entryLoc e == 0 && (e.inl.drop e.len.toNat).any (fun b => b != 0), ⟨.outOfRange, 0x10018⟩)]

/-- Step 4: the payload cannot be fetched (R79). -/
def fetchFail (e : Entry) (s : State) : Option Fail :=
  if entryLoc e = 2 && e.len != 0 && !s.hostUp then some ⟨.hwFault, 0x5B⟩ else none

/-- Step 5: the payload fields in offset order (R79). -/
def fieldFail (sp : Spec) (e : Entry) (s : State) : Option Fail :=
  match firstBad (sp.fields e s) (payload e) with
  | some n => some ⟨.outOfRange, n⟩
  | none => (sp.cross e s).map fun n => ⟨.outOfRange, n⟩

/-- Step 6: in deadbolt only the commands of R394 run (R83); then the command's own states. -/
def stateFail (sp : Spec) (e : Entry) (s : State) : Option Fail :=
  if s.devState = 4 && !sp.deadbolt && !sp.deadboltWhen e then some (wrong 4) else sp.states e s

/-- Step 7: the hold set of another mailbox (R50), then other owners. -/
def ownerFail (sp : Spec) (e : Entry) (s : State) : Option Fail :=
  match otherOwner s e.mb with
  | some o =>
    if (sp.bank && holds e) || (sp.touches e s).any (heldCtx s) then some ⟨.conflict, o.val⟩ else sp.owners e s
  | none => sp.owners e s

/-- Step 8: the 65th held command, the 65th background command of a mailbox (R50, R82), then the command's own
resources. -/
def resourceFail (sp : Spec) (e : Entry) (s : State) : Option Fail :=
  let heldNow := match s.cmd.hold with | some h => h.items.length | none => 0
  let b := s.mailboxes[e.mb]
  if sp.bank && holds e && 64 ≤ heldNow then some ⟨.noResource, 0⟩
  else if sp.isBackground && 64 ≤ b.background.length + b.heldEvents.length then some ⟨.noResource, 0⟩
  else sp.resources e s

/-- The first failing step of R79. -/
def validate (sp : Spec) (e : Entry) (s : State) : Option Fail :=
  if !permits sp e s then some ⟨.notPermitted, s.devState⟩
  else (lengthFail sp e).or ((headerFail sp e).or ((fetchFail e s).or ((fieldFail sp e s).or
    ((stateFail sp e s).or ((ownerFail sp e s).or ((resourceFail sp e s).or
      ((sp.tumbler e s).or (sp.signature e s))))))))

/-! ## Completion -/

/-- The next acceptance sequence: it wraps from 0xFFFF_FFFF to 1 (R71). -/
def nextSeq (q : BitVec 32) : BitVec 32 := if q = BitVec.allOnes 32 then 1 else q + 1

/-- A command counts as accepted (R71). -/
def accept (s : State) : State := { s with cmd := { s.cmd with accepted := nextSeq s.cmd.accepted } }

/-- A completion entry written at the tail, and the tail moved past it (R68, R71). -/
def pushCpl (x : Completion) (b : Mailbox) : Mailbox :=
  { b with cpl := b.cpl.set b.cplTail.toNat x (by have := b.cplTail.isLt; omega), cplTail := b.cplTail + 1,
           written := (true, b.written.2) }

/-- A completion of mailbox 4 in the two-wire window: CPL whole, then MB4STATE (R453). -/
def mirrorCpl (x : Completion) (s : State) : State :=
  { s with twb := { s.twb with cpl := x.bytes, busy := false, valid := true } }

/-- A completion posted in mailbox `m` (R71); mailbox 4's also stands in the two-wire window (R453), mailbox 5's also returns
to the manager (R372). -/
def complete (m : MbId) (x : Completion) (s : State) : State :=
  let t := when (m == 5) (emit (.forwarded x (readCells s.mailboxes[m].arena 0 s.mailboxes[m].delivered))) s
  modMb m (pushCpl x) (when (m == 4) (mirrorCpl x) t)

/-- The completion of an entry that occupied `slot`. -/
def completionOf (e : Entry) (opcode : Nat) (slot : BitVec 6) (seq : BitVec 32) (r : Reply) : Completion :=
  { tag := e.tag, status := r.status.code, opcode := BitVec.ofNat 16 opcode, frame := BitVec.ofNat 48 r.frame,
    ctx := r.ctx, slot := slot.setWidth 8, detail := BitVec.ofNat 64 r.detail, seq := seq }

/-- The payload is returned and the completion posted; an accepted command carries its sequence (R70, R71). -/
def finish (e : Entry) (opcode : Nat) (slot : BitVec 6) (r : Reply) (s : State) : State :=
  let t := if r.status.good then accept s else s
  let t := match r.back with
    | some (off, bytes) => writeBack e off bytes t
    | none => t
  complete e.mb (completionOf e opcode slot (if r.status.good then t.cmd.accepted else 0) r) t

/-- The double-frame flag of every RUNNING context whose flag the configuration `q` changes (R130). -/
def flagChanges (q : State) (more : List Change) : List Change :=
  (allCtx.filter fun c => q.contexts[c].state == .running && doubleFlag q more c != q.contexts[c].live.doubleFrame).map
    fun c => .doubleFrame c (doubleFlag q more c)

/-- The changes of a bank command with the double-frame flags they bring (R130). -/
def withFlags (t : State) (cs : List Change) : List Change :=
  cs ++ flagChanges (cs.foldl (fun q x => applyBank x q) (projected t)) cs

/-- The double-frame flags that a change at once brings, armed for the first hinge they can reach (R130). -/
def armFlags (t : State) : State := armAt (reachable t) t.cmd.accepted.toNat (flagChanges (projected t) []) t

/-- A bank command is armed for the first hinge it can reach, or held (R48, R50). -/
def armOrHold (e : Entry) (opcode : Nat) (slot : BitVec 6) (cs : List Change) (c : Option CtxId) (detail lag : Nat)
    (t : State) : State :=
  let cs := withFlags t cs
  let seq := (nextSeq t.cmd.accepted).toNat
  if holds e then
    finish e opcode slot { status := .accepted, detail := detail, frame := 2 ^ 48 - 1, ctx := ctxByte c }
      (holdMore e.mb ⟨cs, c, seq⟩ t)
  else
    let h := reachable t
    let u := armAt h seq cs t
    let frame := match c with
      | some c => firstFrameAt u c h
      | none => (h + lag) % 2 ^ 48
    finish e opcode slot { status := if t.tick.guardOpen then .okLate else .accepted, detail := detail,
                           frame := frame, ctx := ctxByte c } u

/-- A command that passed every step is executed (R82). -/
def perform (sp : Spec) (e : Entry) (slot : BitVec 6) (s : State) : State :=
  match sp.effect e s with
  | .reply t r => when sp.flags armFlags (finish e sp.opcode slot r t)
  | .arm t cs c detail => armOrHold e sp.opcode slot cs c detail sp.lag t
  | .background t c detail back =>
    let t := modMb e.mb (fun b => { b with background := b.background ++
      [⟨e.tag, BitVec.ofNat 16 sp.opcode, ctxByte c, true⟩] }) t
    finish e sp.opcode slot { detail := detail, ctx := ctxByte c, back := back } t
  | .execute t c =>
    let t := accept t
    let x : InExecution := ⟨e.tag, BitVec.ofNat 16 sp.opcode, slot.setWidth 8, ctxByte c, t.cmd.accepted, false⟩
    modMb e.mb (fun b => { b with executing := some x }) t

/-- A taken command is validated and executed (R77, R79). -/
def command (sp : Spec) (e : Entry) (s : State) : State :=
  let slot := s.mailboxes[e.mb].cmdHead
  let t := takeCommand e.mb s
  match validate sp e t with
  | some f =>
    let t := if f.status = .hwFault then hostFailed t else t
    finish e sp.opcode slot { status := f.status, detail := f.detail } t
  | none => perform sp e slot t

/-- The entry is the one that stands next in a ring the device itself fills: mailbox 4 (R453) and mailbox 5 (R372). -/
def asDelivered (sp : Spec) (e : Entry) (s : State) : Bool :=
  if e.mb != 4 && e.mb != 5 then true
  else match s.mailboxes[e.mb].expected.head? with
    | none => false
    | some (op, x) => op == sp.opcode && x.tag == e.tag && x.flags == e.flags && x.rsv6 == e.rsv6 && x.len == e.len
        && x.rsv12 == e.rsv12 && x.loc == e.loc && x.inl == e.inl
        && (entryLoc e != 1 || payload e == readCells s.mailboxes[e.mb].arena e.loc.toNat e.len.toNat)

/-- Kongaord takes this command from its mailbox now, if it can, and executes it. -/
def runCommand (sp : Spec) (e : Entry) (s : State) : State := if canTake s e.mb && asDelivered sp e s then command sp e s else s

/-- The command in execution in mailbox `m` completes (R82); after a ring reset it posts nothing (R68). -/
def endExecution (m : MbId) (r : Reply) (s : State) : State :=
  match s.mailboxes[m].executing with
  | none => s
  | some x =>
    let t := modMb m (fun b => { b with executing := none }) s
    if x.silent then t
    else complete m { tag := x.tag, status := r.status.code, opcode := x.opcode, frame := BitVec.ofNat 48 r.frame,
                      ctx := x.ctx, slot := x.slot, detail := BitVec.ofNat 64 r.detail,
                      seq := if r.status.good then x.seq else 0 } t

/-! ## Common checks -/

/-- The context field at offset 0. -/
def argCtx (e : Entry) : CtxId := ⟨arg e 0 1 % 8, Nat.mod_lt _ (by decide)⟩

/-- The port field at offset 0. -/
def argPort (e : Entry) : PortId := ⟨arg e 0 1 % 4, Nat.mod_lt _ (by decide)⟩

/-- A context field at offset 0 (R158). -/
def ctxField : Field := range 0 1 0 7

/-- A FREE context gives WRONG_STATE, detail 0x0 (R158). -/
def freeFail (s : State) (c : CtxId) : Option Fail :=
  if shadowState s c = .free then some (wrong 0) else none

/-- The tumbler check of a command that changes `cs` (R54). -/
def budgetFail (s : State) (cs : List Change) : Option Fail :=
  (overBudget ⟨s, projected s, cs.foldl (fun q x => applyBank x q) (projected s), cs⟩).map fun n => ⟨.overBudget, n⟩

/-- The tumbler check of a command that makes `t` of `s` at once (R54). -/
def budgetOf (s t : State) : Option Fail :=
  (overBudget ⟨s, projected s, projected t, []⟩).map fun n => ⟨.overBudget, n⟩

end Sys2Proof.Machine
end

