-- ==== Sys2Proof/Machine/Intake.lean ====
section
/-!
DEFINITION. Intake: which context a received frame belongs to, where its lines go, when it has landed, and what
becomes of late, stale, untaken and missing frames (R119 to R135).
-/

namespace Sys2Proof.Machine

/-! ## Received lines -/

/-- A received line as the sensor link passes it on (R99, R102). -/
structure Line where
  stream : Fin 4
  embedded : Bool
  count : BitVec 16
  number : Nat
  samples : List Nat
  /-- its payload CRC failed, or a word of it was lost (R102, R104) -/
  checkErr : Bool
  /-- a block of it was rebuilt from the parity lane (R104) -/
  rebuilt : Bool

/-- The geometry that sizes a landing slot (R122). -/
def slotShape (v : Source) : Nat × Nat × Nat := (v.w, v.h, v.emb)

/-- Every frame of a context that has not finished (R124). -/
def framesInFlight (x : Context) : List Frame :=
  x.frames ++ x.floating.toList.filterMap id ++ x.results.map PassResult.frame ++ x.slotReaders

/-- The last reader of the frame's slot has finished (R124). -/
def slotDone (f : Frame) : Bool := f.phase == .dropped || (f.phase == .developed && f.chunksLeft.isEmpty)

/-- Frames of a geometry whose landing slot is held (R124). -/
def slotsHeld (x : Context) (v : Source) : Nat :=
  ((framesInFlight x).filter fun f => f.slot && !slotDone f && slotShape f.bank.source == slotShape v).length

/-- A slot of the frame's own size is free (R122, R124). -/
def slotFree (x : Context) (f : Frame) : Bool :=
  decide (slotsHeld x f.bank.source < if slotShape f.bank.source = slotShape x.live.source then x.slots else x.oldSlots)

/-- A frame of an old geometry has not finished (R122). -/
def oldFrames (x : Context) : Bool :=
  (framesInFlight x).any fun f => !slotDone f && slotShape f.bank.source != slotShape x.live.source

/-- A new geometry becomes live: two slots of its size, beside those that frames of the old one keep (R122). -/
def reshape (x : Context) : Context := { x with slots := 2, oldSlots := 2 }

/-- At a hinge: once every old slot has returned, the third slots of the port are allotted again (R122). -/
def returnOld (c : CtxId) (s : State) : State :=
  let x := s.contexts[c]
  if x.oldSlots = 0 || oldFrames x then s
  else allotSlots x.live.source.port (modCtx c (fun x => { x with oldSlots := 0 }) s)

/-- A frame about to take its first line takes a free slot, or overflows (R124). -/
def openSlot (free : Bool) (f : Frame) : Frame :=
  if f.slot || f.overflow then f
  else if free then { f with slot := true }
  else { f with overflow := true, marks := setMark f.marks .truncated }

/-- A line written into its frame under the frame's own bank (R123, R124, R133). -/
def writeLine (free : Bool) (l : Line) (k : Nat) (f : Frame) : Frame :=
  let f := (f.markIf l.checkErr .checkErr).markIf l.rebuilt .laneRecovered
  let src := f.bank.source
  if l.embedded then
    if (f.embedded.filter fun x => x.1 == k).length < src.emb then
      { f with embedded := f.embedded ++ [(k, l.samples)] }
    else f.mark .long
  else if src.h ≤ l.number || f.rows.any (fun r => r.cap.val == k && r.line == l.number) then f.mark .long
  else
    let f := openSlot free (f.markIf (l.samples.length != src.w) .widthErr)
    if f.overflow then f
    else { f with rows := f.rows ++ [⟨⟨k % 4, Nat.mod_lt _ (by decide)⟩, l.number, l.samples.take src.w⟩] }

/-! ## Which contexts -/

/-- Intake ties the port's frames to takings by their frame count: markers on and the port not the tick source
(R125, R37). -/
def tiesByCount (s : State) (p : PortId) : Bool :=
  (match s.ports[p].cfg with | some g => g.markers | none => false)
    && !(s.tick.live.source == 1 && s.tick.live.inst == p.val)

/-- The taking a frame count names: the most recent of the context's last two whose low 16 bits agree (R125). -/
def takingOf (x : Context) (count : BitVec 16) : Option Nat :=
  (x.takings.find? fun t => t.1 % 2 ^ 16 == count.toNat).map Prod.fst

/-- Context `c` is RUNNING and selects a frame of stream `v` and mode `mode` of port `p` (R119); a frame whose
FRAME_START was lost has no mode (R102). A STOPPING context still claims, to discard and count it, a frame of one of its takings
(CTX_STOP). -/
def selects (s : State) (p : PortId) (v : Fin 4) (count : BitVec 16) (mode : Option Nat) (c : CtxId) : Bool :=
  let x := s.contexts[c]
  (x.state == .running || (x.state == .stopping && tiesByCount s p && (takingOf x count).isSome))
    && x.live.source.port == p && x.live.source.mask.getLsbD v.val
    && (match mode with | some m => !x.live.source.byMode || x.live.source.modeId == m | none => true)

/-- A late frame is developed: its context is RUNNING with k = 1 (R128, CTX_STOP). -/
def lateOk (x : Context) (f : Frame) : Bool := f.bank.source.k == 1 && x.state == .running

/-- The in-flight frame taken at hinge `h` that capture `k` may still join (R125, R134). -/
def joinable (h k : Nat) (f : Frame) : Bool :=
  f.tick == h && !f.closed.getLsbD k && (f.phase == .taken || f.phase == .opened)

/-- A frame changed in the context's list. -/
def modFrame (h : Nat) (g : Frame → Frame) (x : Context) : Context :=
  { x with frames := x.frames.map fun f => if f.tick = h then g f else f }

/-! ## Landing -/

/-- Rows of capture `k` that landed. -/
def rowsOf (f : Frame) (k : Nat) : List Row := f.rows.filter fun r => r.cap.val == k

/-- Some configured row of some capture never landed (R133), of the package's band in a split context (R375). -/
def rowsMissing (s : State) (f : Frame) : Bool :=
  let r := ownRows s f.bank
  (List.range (captures f.bank)).any fun k => ((rowsOf f k).filter fun y => ownRow s f.bank y.line).length < r.2 - r.1

/-- Every capture of the mask is closed (R134). -/
def allClosed (f : Frame) : Bool := (List.range (captures f.bank)).all fun k => f.closed.getLsbD k

/-- The counts of a frame that lands (R133). -/
def countLanding (f : Frame) (late : Bool) (n : CtxCounts) : CtxCounts :=
  { n with
    landed := bump n.landed
    lateDeveloped := if late then bump n.lateDeveloped else n.lateDeveloped
    truncated := if hasMark f.marks .truncated then bump n.truncated else n.truncated
    short := if hasMark f.marks .short then bump n.short else n.short
    long := if hasMark f.marks .long then bump n.long else n.long
    width := if hasMark f.marks .widthErr then bump n.width else n.width }

/-- The frame taken at `h` lands in the interval now running (R42, R58, R133). -/
def land (c : CtxId) (h : Nat) (s : State) : State :=
  let now := s.tick.counter.toNat
  modCtx c (fun x =>
    match x.frames.find? fun f => f.tick == h with
    | none => x
    | some f =>
      let g := (f.markIf (rowsMissing s f) .short).markIf s.tick.heldNow .holdover
      { modFrame h (fun _ => { g with phase := .landed, landedIn := now }) x with
          counts := countLanding g (now != h) x.counts }) s

/-- Capture `k` of the frame taken at `h` is closed; the frame lands with its last capture (R134). -/
def closeCapture (c : CtxId) (h k : Nat) (s : State) : State :=
  let t := modCtx c (modFrame h fun f => { f with closed := f.closed ||| BitVec.twoPow 4 k }) s
  match t.contexts[c].frames.find? fun f => f.tick == h with
  | some f => if allClosed f then land c h t else t
  | none => t

/-- A frame is discarded whole and counted (R125, R126, R128). -/
def discard (c : CtxId) (untaken : Bool) (s : State) : State :=
  modCtx c (fun x => { x with counts :=
    if untaken then { x.counts with untaken := bump x.counts.untaken }
    else { x.counts with discarded := bump x.counts.discarded } }) s

/-- The lines a floating frame gathered are written into the frame it turns out to be (R126). -/
def settle (free : Bool) (k : Nat) (y : Frame) (f : Frame) : Frame :=
  let g := y.rows.foldl (fun g r => writeLine free ⟨0, false, 0, r.line, r.samples, false, false⟩ k g) f
  let g := y.embedded.foldl (fun g l => writeLine free ⟨0, true, 0, 0, l.2, false, false⟩ k g) g
  { g with marks := g.marks ||| y.marks, begun := g.begun ||| BitVec.twoPow 4 k, phase := .opened }

/-- The frame of stream `v` of context `c` ends: tied by its count (R125, R128), or by the interval (R126). -/
def endFrame (p : PortId) (v : Fin 4) (count : BitVec 16) (c : CtxId) (s : State) : State :=
  let x := s.contexts[c]
  let now := s.tick.counter.toNat
  let k := captureOf x.live v.val
  if x.live.pattern ≠ 0 then discard c true s
  else if tiesByCount s p then
    match takingOf x count with
    | none => discard c false s
    | some h =>
      match x.frames.find? fun f => joinable h k f && f.begun.getLsbD k with
      | none => discard c false s
      | some f =>
        if now = h || (now = h + 1 && lateOk x f) then closeCapture c h k s
        else discard c false s
  else
    match x.floating[v] with
    | none => discard c true s
    | some y =>
      let t := modCtx c (fun x => { x with floating := x.floating.set v none }) s
      match x.frames.find? fun f => joinable now k f with
      | none => discard c true t
      | some _ =>
        closeCapture c now k (modCtx c (modFrame now fun f => settle (slotFree t.contexts[c] f) k y f) t)

/-- A frame of stream `v` opens for context `c` (R125, R126). -/
def beginFrame (p : PortId) (v : Fin 4) (count : BitVec 16) (lost : Bool) (c : CtxId) (s : State) : State :=
  let x := s.contexts[c]
  let k := captureOf x.live v.val
  if x.live.pattern ≠ 0 then s
  else if tiesByCount s p then
    match takingOf x count with
    | none => s
    | some h =>
      if x.frames.any fun f => joinable h k f && !f.begun.getLsbD k then
        modCtx c (modFrame h fun f => { (f.markIf lost .checkErr) with
          begun := f.begun ||| BitVec.twoPow 4 k, phase := .opened, count := count,
          startedIn := if f.phase = .taken then s.tick.counter.toNat else f.startedIn }) s
      else s
  else
    let y : Frame := { number := 0, tick := 0, bank := x.live, count := count, startedIn := s.tick.counter.toNat,
                       phase := .opened }
    modCtx c (fun x => { x with floating := x.floating.set v (some (y.markIf lost .checkErr)) }) s

/-- The open frame of stream `v` of port `p` ends for every context that claims it (R127). -/
def closeOpen (p : PortId) (v : Fin 4) (s : State) : State :=
  match s.ports[p].opened[v] with
  | none => s
  | some o =>
    modPort p (fun q => { q with opened := q.opened.set v none }) (forEach o.claims (endFrame p v o.count) s)

/-- A FRAME_START, or the first line of a frame whose FRAME_START was lost, opens a frame (R98, R102, R120). -/
def openFrame (p : PortId) (v : Fin 4) (count : BitVec 16) (mode : Option Nat) (s : State) : State :=
  let s := closeOpen p v s
  let claims := allCtx.filter (selects s p v count mode)
  let t := modPort p (fun q => { q with
    opened := q.opened.set v (some ⟨count, mode.getD 0, claims, false⟩), lastOpened := v
    unclaimed := if claims.isEmpty then bump q.unclaimed else q.unclaimed }) s
  forEach claims (beginFrame p v count mode.isNone) t

/-- One line for context `c` (R123, R126). -/
def writeLineFor (p : PortId) (l : Line) (c : CtxId) (s : State) : State :=
  let x := s.contexts[c]
  let k := captureOf x.live l.stream.val
  let t := modCtx c (fun x => { x with counts :=
    if l.checkErr then { x.counts with checks := bump x.counts.checks } else x.counts }) s
  if tiesByCount s p then
    match takingOf x l.count with
    | none => t
    | some h =>
      if x.frames.any fun f => joinable h k f && f.begun.getLsbD k then modCtx c (modFrame h fun f => writeLine (slotFree x f) l k f) t
      else t
  else
    match x.floating[l.stream] with
    | none => t
    | some y =>
      let g := (y.markIf l.checkErr .checkErr).markIf l.rebuilt .laneRecovered
      let g := if l.embedded then { g with embedded := g.embedded ++ [(k, l.samples)] }
               else { openSlot (slotFree x g) g with rows := g.rows ++ [⟨0, l.number, l.samples⟩] }
      modCtx c (fun x => { x with floating := x.floating.set l.stream (some g) }) t

/-- One line for context `c`: outside the package's band it is discarded, unmarked and uncounted (R375); rows near a band's
boundary go to the neighbour too (R376). -/
def lineFor (p : PortId) (l : Line) (c : CtxId) (s : State) : State :=
  let b := s.contexts[c].live
  if b.split.isNone || l.embedded then writeLineFor p l c s
  else if ownRow s b l.number then
    sendHalo c (captureOf b l.stream.val) l.number (l.samples.take b.source.w) (writeLineFor p l c s)
  else s

/-- A mark and a check count for the frame of stream `v` that context `c` is receiving. -/
def markOpen (p : PortId) (v : Fin 4) (m : Mark) (count : BitVec 16) (checks : Bool) (c : CtxId) (s : State) :
    State :=
  let x := s.contexts[c]
  let k := captureOf x.live v.val
  modCtx c (fun x =>
    let x := if checks then { x with counts := { x.counts with checks := bump x.counts.checks } } else x
    if tiesByCount s p then
      match takingOf x count with
      | none => x
      | some h => modFrame h (fun f => f.markIf (joinable h k f && f.begun.getLsbD k) m) x
    else { x with floating := x.floating.set v (x.floating[v].map fun f => f.mark m) }) s

/-- A line of the sensor link reaches intake: a count that differs from the open frame's delimits a frame whose
start or end was lost (R102). In deadbolt every line is discarded (R392). -/
def intakeLine (p : PortId) (l : Line) (s : State) : State :=
  if s.devState = 4 then s
  else
    let current : Bool := s.ports[p].opened[l.stream].any fun o => o.count == l.count
    let t := if current then s else openFrame p l.stream l.count none s
    match t.ports[p].opened[l.stream] with
    | none => t
    | some o => forEach o.claims (lineFor p l) t

/-- The sensor port goes down: its open frames are passed on as partly received (R111, R127). -/
def closeAll (p : PortId) (s : State) : State := forEach allPorts (fun v => closeOpen p v) s

/-! ## Drop records (R131, R190) -/

/-- The worker mask of a record: 0 standalone, bit 0 on a manager, bit w on worker w (R190). -/
def ownWorkerMask (s : State) : BitVec 8 :=
  if isManager s then 1 else if isWorker s then BitVec.twoPow 8 (s.boot.strap - 2) else 0

/-- The drop record of a frame: DROPPED among its marks, no statistics (R131, R190). -/
def dropRecord (s : State) (c : CtxId) (f : Frame) : StatRecord :=
  { ctx := c, marks := setMark f.marks .dropped, flags := 4, frame := BitVec.ofNat 48 f.number,
    tick := BitVec.ofNat 64 f.tick, cfg := f.bank.stat, regions := 0, workers := ownWorkerMask s, valid := 0,
    invalid := 0, bins := [], zones := [], host := f.bank.statHost }

/-- The frame leaves the context and its drop record waits for hinge `h`; an intake drop counts and posts
CTX_FRAME_DROPPED with its reason (R131), an overrun (reason 0) is reported by TICK_OVERRUN (R46). -/
def dropFrame (c : CtxId) (f : Frame) (h reason : Nat) (s : State) : State :=
  let r := dropRecord s c f
  let t := modCtx c (fun x => { x with
    frames := x.frames.filter fun g => g.tick != f.tick
    counts := { x.counts with dropped := bump x.counts.dropped }
    results := x.results ++ [⟨h, r, [], { f with phase := .dropped, rows := [], slot := false, chunksLeft := [], gap := 3, marks := r.marks }⟩] }) s
  if reason = 0 then t else post 0x02A1 (some c) r.frame (reason + 2 ^ 16 * r.marks.toNat) t

/-! ## Test patterns (R135) -/

/-- The CFA channel of a position (R137). -/
def channelAt (f : Front) (x y : Nat) : Nat := f.cells.getD (8 * (y % f.ph) + x % f.pw) 0

/-- One step of PRBS31, x^31 + x^28 + 1: a left-shifting register (log 20). -/
def prbs31 (r : BitVec 31) : BitVec 31 :=
  (r <<< 1) ||| (if r.getLsbD 30 ^^ r.getLsbD 27 then 1 else 0)

/-- PRBS31 stepped `n` times. -/
def prbs31Steps : Nat → BitVec 31 → BitVec 31
  | 0, r => r
  | n + 1, r => prbs31Steps n (prbs31 r)

/-- `n` noise samples in row order: the 14 low bits after 14 steps each, and the register left (R135). -/
def noiseSamples : Nat → BitVec 31 → List Nat × BitVec 31
  | 0, r => ([], r)
  | n + 1, r =>
    let r' := prbs31Steps 14 r
    let (l, q) := noiseSamples n r'
    (r'.toNat % 2 ^ 14 :: l, q)

/-- `h` noise rows of `w` samples. -/
def noiseRows (w : Nat) : Nat → BitVec 31 → List (List Nat)
  | 0, _ => []
  | h + 1, r => let (l, q) := noiseSamples w r; l :: noiseRows w h q

/-- A pattern sample at column `x`, row `y` for the patterns that have a formula (R135). -/
def patternSample (b : Bank) (x y : Nat) : Nat :=
  match b.pattern with
  | 1 => b.patternCode
  | 2 => x * 16383 / (b.source.w - 1)
  | 3 => if channelAt b.front x y = 8 * x / b.source.w then 16383 else 0
  | _ => 0

/-- The rows of a generated frame of one capture (R135). -/
def patternRows (b : Bank) : List (List Nat) :=
  if b.pattern = 4 then noiseRows b.source.w b.source.h 0x7FFFFFFF
  else (List.range b.source.h).map fun y => (List.range b.source.w).map fun x => patternSample b x y

/-- The generated frame of a bank with a test pattern: every capture whole (R135). -/
def generate (f : Frame) : Frame :=
  let rows := patternRows f.bank
  { f with
    marks := setMark f.marks .testPattern
    begun := f.bank.source.mask, slot := true, phase := .opened
    closed := BitVec.ofNat 4 (2 ^ captures f.bank - 1)
    rows := (List.range (captures f.bank)).flatMap fun k =>
      (rows.zipIdx).map fun r => ⟨⟨k % 4, Nat.mod_lt _ (by decide)⟩, r.2, r.1⟩ }

/-! ## The guard and the hinge, for one context -/

/-- At the guard of hinge `h`: pattern frames of the interval land; frames still open are closed early or counted
as not landed (R127, R134, R135). -/
def guardIntake (c : CtxId) (h : Nat) (s : State) : State :=
  let p := s.contexts[c].live.source.port
  let now := s.tick.counter.toNat
  let step := fun (f : Frame) (t : State) =>
    if f.phase != .taken && f.phase != .opened then t
    else if f.bank.pattern ≠ 0 then
      if f.tick = now then land c f.tick (modCtx c (modFrame f.tick generate) t) else t
    else if tiesByCount s p then
      if f.tick + 2 = h then
        if f.begun ≠ 0 then
          if lateOk t.contexts[c] f then land c f.tick t else dropFrame c f h 1 (discard c false t)
        else dropFrame c f h 1 t
      else t
    else if f.tick = now && f.closed ≠ 0 then land c f.tick t
    else t
  let t := forEach s.contexts[c].frames step s
  if tiesByCount s p then t
  else
    forEach allPorts (fun v t => match t.contexts[c].floating[v] with
      | some y => if y.startedIn + 2 = h then
          match t.ports[p].opened[v] with
          | some o => if o.claims.contains c then endFrame p v o.count c t else t
          | none => t
        else t
      | none => t) t

/-- At hinge `h`: a frame of the interval just ended that cannot land any more has its drop record (R41, R126,
R128). -/
def dropMissing (c : CtxId) (h : Nat) (s : State) : State :=
  let p := s.contexts[c].live.source.port
  forEach s.contexts[c].frames (fun f t =>
    if (f.phase == .taken || f.phase == .opened) && f.tick + 1 == h
        && (f.bank.source.k != 1 || !tiesByCount s p) then dropFrame c f (h + 1) 1 t
    else t) s

/-- At hinge `h`: the frames that landed in interval `h - 1` start development; of more than one, the newest two
with the double-frame flag, else the newest (R130). -/
def startDevelopment (c : CtxId) (h : Nat) (s : State) : State :=
  let x := s.contexts[c]
  let ready := x.frames.filter fun f => f.phase == .landed && f.landedIn + 1 == h
  let keep := if x.live.doubleFrame then 2 else 1
  let t := forEach (ready.take (ready.length - keep)) (fun f => dropFrame c f (h + 1) 2) s
  modCtx c (fun x => { x with frames := x.frames.map fun f =>
    if f.phase == .landed && f.landedIn + 1 == h then { f with phase := .developing } else f }) t

/-- At hinge `h`: a RUNNING context takes a frame when its divider and phase say so (R40, R41, R43). -/
def takeFrame (c : CtxId) (h timeNs : Nat) (s : State) : State :=
  let x := s.contexts[c]
  if x.state = .running && takesAt x.live.source.k x.live.source.phase h && s.devState ≠ 4 then
    let f : Frame := { number := x.nextFrame.toNat, tick := h, bank := x.live, time := timeNs }
    modCtx c (fun x => { x with
      frames := x.frames ++ [f.markIf (s.tick.state != .locked || s.hasp.managerHeld) .holdover]
      lastFrame := x.nextFrame, nextFrame := x.nextFrame + 1
      takings := ((h, x.nextFrame) :: x.takings).take 2 }) s
  else s

end Sys2Proof.Machine
end

