-- ==== Sys2Proof/Machine/Contexts.lean ====
section
/-!
DEFINITION. Contexts: the CTX_ commands (05 R118 to R136).
-/

namespace Sys2Proof.Machine

/-! ## Selection (R119) -/

/-- Two takings fall at a common hinge for some hinge (R40, R119). -/
def takingsMeet (a b : Source) : Bool :=
  (((a.phase : Int) - b.phase) % (Nat.gcd a.k b.k : Int)) == 0

/-- Two selections overlap (R119). -/
def selectionsOverlap (a b : Source) : Bool :=
  a.port == b.port && (a.mask &&& b.mask) != 0
    && (!a.byMode || !b.byMode || a.modeId == b.modeId || takingsMeet a b)

/-- The contexts whose selection overlaps with `v` for context `c` (R119). -/
def overlapMask (s : State) (c : CtxId) (v : Source) : Nat :=
  let q := projected s
  ctxMask (allCtx.filter fun d => d != c && q.contexts[d].state != .free && selectionsOverlap v q.contexts[d].live.source)

/-! ## CTX_SET_SOURCE -/

/-- The source a CTX_SET_SOURCE payload describes. -/
def sourceOf (e : Entry) : Source where
  port := ⟨arg e 1 1 % 4, Nat.mod_lt _ (by decide)⟩
  byMode := arg e 2 1 == 1
  modeId := arg e 3 1
  mask := BitVec.ofNat 4 (arg e 4 1)
  k := arg e 6 2
  phase := arg e 8 2
  w := arg e 10 2
  h := arg e 12 2
  emb := arg e 14 1

/-- A context that is FREE becomes SOURCED, with CTX_STATE (R118). -/
def leaveFree (c : CtxId) (s : State) : State :=
  if s.contexts[c].state = .free then setCtxState c .sourced s else s

/-- The source set at once (CTX_SET_SOURCE). -/
def setSource (c : CtxId) (v : Source) (s : State) : State := leaveFree c (modBank c (fun b => { b with source := v }) s)

/-- A port is the first of its bond (R89). -/
def firstOfBond (s : State) (p : PortId) : Bool := match s.ports[p].first with | some q => q == p | none => true

/-- Slots context `c` holds once it runs under `q` (R121). -/
def slotsOnce (q : State) (c : CtxId) : Nat :=
  if (thirdSlots q q.contexts[c].live.source.port fun d => d == c || q.contexts[d].state == .running).contains c then 3 else 2

/-- CTX_SET_SOURCE, 0x0220: at once, or, for a RUNNING context and with HOLD, through the bank. -/
def ctxSetSourceSpec : Spec where
  opcode := 0x0220
  len := .exact 16
  bank := true
  flags := true
  fields := fun e s => [ctxField, ⟨1, 1, fun v => v ≤ 3 && firstOfBond s ⟨v % 4, Nat.mod_lt _ (by decide)⟩⟩, range 2 1 0 1,
    ⟨3, 1, fun v => arg e 2 1 == 1 || v == 0⟩, range 4 1 1 15, rsv 5 1, range 6 2 1 256, ⟨8, 2, fun v => v < arg e 6 2⟩,
    ⟨10, 2, fun v => 64 ≤ v && v ≤ 65532 && v % 4 == 0⟩, range 12 2 16 65535, range 14 1 0 8, rsv 15 1]
  states := fun e s =>
    let c := argCtx e
    let a := s.contexts[c].live.source
    let b := sourceOf e
    firstFail [(s.contexts[c].state == .stopping, wrong 3),
      (s.contexts[c].state == .running && (a.port != b.port || a.byMode != b.byMode || a.modeId != b.modeId || a.mask != b.mask),
        wrong 2),
      (overlapMask s c b != 0, wrong (overlapMask s c b))]
  touches := fun e _ => [argCtx e]
  tumbler := fun e s =>
    (overBudget ⟨s, projected s, setSource (argCtx e) (sourceOf e) (projected s), []⟩).map fun n => ⟨.overBudget, n⟩
  effect := fun e s =>
    let c := argCtx e
    let v := sourceOf e
    let q := setSource c v (projected s)
    if s.contexts[c].state = .running || holds e then .arm (leaveFree c s) [.source c v] (some c) (slotsOnce q c)
    else .reply (setSource c v s) { ctx := ctxByte (some c), detail := slotsOnce q c }

/-! ## Placement and landing -/

/-- The regions a mask names. -/
def maskOfRegions (v : Nat) : List RegionId := allRegions.filter fun r => v.testBit r.val

/-- A region of the mask is not ON, or an accepted switch takes it out of ON (R20, R437). -/
def regionOff (s : State) (v : Nat) : Bool :=
  (maskOfRegions v).any fun r => !domainOn s (regionDomain r) || !domainOn (projected s) (regionDomain r)

/-- Context `c` placed on the regions of a mask, striped over their active units (R11, R20). -/
def place (c : CtxId) (v : Nat) (s : State) : State :=
  let t := modBank c (fun b => { b with regions := BitVec.ofNat 4 v, excluded := [] }) s
  if s.contexts[c].state = .sourced then setCtxState c .configured t else t

/-- CTX_SET_PLACEMENT, 0x0221. -/
def ctxSetPlacementSpec : Spec where
  opcode := 0x0221
  len := .exact 8
  flags := true
  fields := fun _ _ => [ctxField, range 1 1 1 15, rsv 2 6]
  states := fun e s =>
    let x := s.contexts[argCtx e].state
    firstFail [(x == .free, wrong 0), (x == .running || x == .stopping, wrong 2), (regionOff s (arg e 1 1), wrong 5)]
  touches := fun e _ => [argCtx e]
  tumbler := fun e s =>
    let t := place (argCtx e) (arg e 1 1) s
    (overBudget ⟨s, projected s, projected t, [.start (argCtx e)]⟩).map fun n => ⟨.overBudget, n⟩
  effect := fun e s =>
    let t := place (argCtx e) (arg e 1 1) s
    .reply t { ctx := ctxByte (some (argCtx e)), detail := stripeOf t t.contexts[argCtx e].live }

/-- A port's ring size set. -/
def setRing (p : PortId) (n : Nat) (s : State) : State := modPort p (fun q => { q with ring := n }) s

/-- CTX_LANDING_CONFIG, 0x0222. -/
def ctxLandingConfigSpec : Spec where
  opcode := 0x0222
  len := .exact 16
  fields := fun _ s => [⟨0, 1, fun v => v ≤ 3 && firstOfBond s ⟨v % 4, Nat.mod_lt _ (by decide)⟩⟩, rsv 1 7,
    ⟨8, 8, fun v => 2 ^ 26 ≤ v && v ≤ 2 ^ 34 && v % 2 ^ 26 == 0⟩]
  states := fun e s =>
    let m := ctxMask ((ctxsOnPort s (argPort e)).filter (admitted s))
    if m = 0 then none else some (wrong m)
  tumbler := fun e s => budgetOf s (setRing (argPort e) (arg e 8 8) s)
  effect := fun e s =>
    let t := setRing (argPort e) (arg e 8 8) s
    .reply t { detail := (thirdSlots (projected t) (argPort e) fun _ => true).length }

/-! ## Start, stop, pattern and status -/

/-- CTX_START, 0x0223. -/
def ctxStartSpec : Spec where
  opcode := 0x0223
  len := .exact 8
  bank := true
  fields := fun _ _ => [ctxField, rsv 1 7]
  states := fun e s =>
    let x := s.contexts[argCtx e]
    firstFail [(x.state != .configured, wrong 1), (regionOff s x.live.regions.toNat, wrong 5)]
  touches := fun e _ => [argCtx e]
  tumbler := fun e s => budgetFail s [.start (argCtx e)]
  effect := fun e s => .arm s [.start (argCtx e)] (some (argCtx e)) 0

/-- CTX_STOP, 0x0224: it always passes the tumbler check. -/
def ctxStopSpec : Spec where
  opcode := 0x0224
  len := .exact 8
  bank := true
  fields := fun _ _ => [ctxField, rsv 1 7]
  states := fun e s => if s.contexts[argCtx e].state = .running then none else some (wrong 2)
  touches := fun e _ => [argCtx e]
  effect := fun e s => .arm s [.stop (argCtx e)] (some (argCtx e)) 0

/-- CTX_TEST_PATTERN, 0x0225. -/
def ctxTestPatternSpec : Spec where
  opcode := 0x0225
  len := .exact 8
  bank := true
  fields := fun e _ => [ctxField, range 1 1 0 4, ⟨2, 2, fun v => if arg e 1 1 = 1 then v ≤ 16383 else v == 0⟩, rsv 4 4]
  states := fun e s => freeFail s (argCtx e)
  touches := fun e _ => [argCtx e]
  effect := fun e s => .arm s [.pattern (argCtx e) (arg e 1 1) (arg e 2 2)] (some (argCtx e)) 0

/-- Bytes 8 to 63 of CTX_GET_STATUS. -/
def ctxStatus (x : Context) : List Byte :=
  let n := x.counts
  image 56 [put 0 1 x.state.code, put 1 1 x.slots, put 2 1 (bit x.live.doubleFrame), put 3 1 x.live.pattern,
    put 4 6 x.lastFrame.toNat, put 12 4 n.landed.toNat, put 16 4 n.dropped.toNat, put 20 4 n.lateDeveloped.toNat,
    put 24 4 n.discarded.toNat, put 28 4 n.untaken.toNat, put 32 4 n.truncated.toNat, put 36 4 n.short.toNat,
    put 40 4 n.long.toNat, put 44 4 n.width.toNat, put 48 4 n.checks.toNat]

/-- CTX_GET_STATUS, 0x0226. -/
def ctxGetStatusSpec : Spec where
  opcode := 0x0226
  len := .exact 64
  noInline := true
  deadbolt := true
  fields := fun _ _ => [ctxField, range 1 1 0 1, rsv 2 6]
  effect := fun e s =>
    let x := s.contexts[argCtx e]
    .reply (if arg e 1 1 = 1 then modCtx (argCtx e) (fun y => { y with counts := {} }) s else s)
      { ctx := ctxByte (some (argCtx e)), detail := x.state.code, back := some (8, ctxStatus x) }

/-- CTX_SET_SOURCE. -/
def execCtxSetSource (e : Entry) (s : State) : Host.Outcome State Fault Refusal := .next (runCommand ctxSetSourceSpec e s)
/-- CTX_SET_PLACEMENT. -/
def execCtxSetPlacement (e : Entry) (s : State) : Host.Outcome State Fault Refusal := .next (runCommand ctxSetPlacementSpec e s)
/-- CTX_LANDING_CONFIG. -/
def execCtxLandingConfig (e : Entry) (s : State) : Host.Outcome State Fault Refusal :=
  .next (runCommand ctxLandingConfigSpec e s)
/-- CTX_START. -/
def execCtxStart (e : Entry) (s : State) : Host.Outcome State Fault Refusal := .next (runCommand ctxStartSpec e s)
/-- CTX_STOP. -/
def execCtxStop (e : Entry) (s : State) : Host.Outcome State Fault Refusal := .next (runCommand ctxStopSpec e s)
/-- CTX_TEST_PATTERN. -/
def execCtxTestPattern (e : Entry) (s : State) : Host.Outcome State Fault Refusal := .next (runCommand ctxTestPatternSpec e s)
/-- CTX_GET_STATUS. -/
def execCtxGetStatus (e : Entry) (s : State) : Host.Outcome State Fault Refusal := .next (runCommand ctxGetStatusSpec e s)

end Sys2Proof.Machine
end

