-- ==== Sys2Proof/Machine/Fraction.lean ====
section
/-!
DEFINITION. Fraction: exact fractions, rounding to IEEE 754 binary32 (R161) and to L20 (R150, R151). A fraction is
not reduced, so that every operation is plain integer arithmetic.
-/

namespace Sys2Proof.Machine

/-- The fraction n / d, d positive. -/
structure Q where
  n : Int
  d : Nat
  deriving DecidableEq, Repr

namespace Q

/-- An integer. -/
def ofInt (v : Int) : Q := ⟨v, 1⟩
/-- Sum. -/
def add (a b : Q) : Q := ⟨a.n * b.d + b.n * a.d, a.d * b.d⟩
/-- Difference. -/
def sub (a b : Q) : Q := ⟨a.n * b.d - b.n * a.d, a.d * b.d⟩
/-- Product. -/
def mul (a b : Q) : Q := ⟨a.n * b.n, a.d * b.d⟩
/-- Quotient; 0 when the divisor is 0, which no caller divides by. -/
def div (a b : Q) : Q :=
  if b.n = 0 then ⟨0, 1⟩ else if b.n < 0 then ⟨-(a.n * b.d), a.d * b.n.natAbs⟩ else ⟨a.n * b.d, a.d * b.n.natAbs⟩
/-- Less or equal. -/
def le (a b : Q) : Bool := decide (a.n * b.d ≤ b.n * a.d)
/-- Less. -/
def lt (a b : Q) : Bool := decide (a.n * b.d < b.n * a.d)
/-- Equal in value. -/
def eqv (a b : Q) : Bool := decide (a.n * b.d = b.n * a.d)
/-- Magnitude. -/
def abs (a : Q) : Q := ⟨a.n.natAbs, a.d⟩
/-- The larger. -/
def max (a b : Q) : Q := if le a b then b else a
/-- The smaller. -/
def min (a b : Q) : Q := if le a b then a else b
/-- The largest integer not above. -/
def floor (a : Q) : Int := a.n / a.d
/-- The smallest integer not below. -/
def ceil (a : Q) : Int := -((-a.n) / a.d)
/-- The nearest integer, ties away from zero (R138). -/
def round (a : Q) : Int := roundAway a.n a.d
/-- Clamped. -/
def clamp (lo hi a : Q) : Q := max lo (min hi a)

end Q

/-- The nearest integer to `n / d`, ties to even. -/
def roundEven (n d : Nat) : Nat :=
  let q := n / d
  let r := n % d
  if 2 * r < d then q else if d < 2 * r then q + 1 else q + q % 2

/-- floor(log2 (n / d)) for positive n and d. -/
def floorLog2 (n d : Nat) : Int :=
  let e : Int := (Nat.log2 n : Int) - Nat.log2 d
  let fits := if 0 ≤ e then d * 2 ^ e.toNat ≤ n else d ≤ n * 2 ^ (-e).toNat
  if fits then e else e - 1

/-- The integer nearest to `(n / d) / 2^u`, ties to even. -/
def quantum (n d : Nat) (u : Int) : Nat :=
  if 0 ≤ u then roundEven n (d * 2 ^ u.toNat) else roundEven (n * 2 ^ (-u).toNat) d

/-- The fraction `m × 2^u`. -/
def scaled (m : Int) (u : Int) : Q := if 0 ≤ u then ⟨m * 2 ^ u.toNat, 1⟩ else ⟨m, 2 ^ (-u).toNat⟩

/-- Rounded to binary32, to nearest with ties to even (R161); no caller's value overflows. -/
def rnd (a : Q) : Q :=
  if a.n = 0 then ⟨0, 1⟩
  else
    let u := Max.max (floorLog2 a.n.natAbs a.d - 23) (-149)
    let m := quantum a.n.natAbs a.d u
    scaled (if a.n < 0 then -(m : Int) else m) u

/-- The value of a finite binary32 pattern. -/
def f32 (v : Nat) : Q := ⟨f32int v, 2 ^ 149⟩

/-- binary32 sum. -/
def fadd (a b : Q) : Q := rnd (a.add b)
/-- binary32 difference. -/
def fsub (a b : Q) : Q := rnd (a.sub b)
/-- binary32 product. -/
def fmul (a b : Q) : Q := rnd (a.mul b)
/-- binary32 quotient. -/
def fdiv (a b : Q) : Q := rnd (a.div b)
/-- binary32 sum of a list, first to last (log 21). -/
def fsum (l : List Q) : Q := l.foldl fadd ⟨0, 1⟩

/-- floor(sqrt n), by bisection from the top bit. -/
def isqrt (n : Nat) : Nat :=
  (List.range (Nat.log2 n / 2 + 1)).reverse.foldl (fun r i =>
    if (r + 2 ^ i) * (r + 2 ^ i) ≤ n then r + 2 ^ i else r) 0

/-- binary32 square root of a non-negative value: the exact root rounded to nearest. The root is computed to more
than 40 bits below the rounding point, with a sticky bit. -/
def fsqrt (a : Q) : Q :=
  if a.n ≤ 0 then ⟨0, 1⟩
  else
    let k := 300
    let n := a.n.natAbs * 2 ^ (2 * k) / a.d
    let r := isqrt n
    let exact := r * r = n && a.n.natAbs * 2 ^ (2 * k) % a.d = 0
    rnd ⟨if exact then 2 * r else 2 * r + 1, 2 ^ (k + 1)⟩

/-! ## L20 (R150, R151) -/

/-- The value of an L20 code (R150); 0x8_0000 equals zero (R151). -/
def l20 (c : Nat) : Q :=
  let e := c / 8192 % 64
  let m : Int := c % 8192
  let v := if e = 0 then scaled m (-43) else scaled (8192 + m) ((e : Int) - 44)
  if c.testBit 19 then ⟨-v.n, v.d⟩ else v

/-- The L20 code of a value and whether it saturated (R151). -/
def toL20 (a : Q) : Nat × Bool :=
  if a.n = 0 then (0, false)
  else
    let u := Max.max (floorLog2 a.n.natAbs a.d - 13) (-43)
    let code := (u + 43).toNat * 8192 + quantum a.n.natAbs a.d u
    let sat := decide (0x7FFFF < code)
    let mag := if sat then 0x7FFFF else code
    (if mag = 0 then 0 else if a.n < 0 then mag + 2 ^ 19 else mag, sat)

/-- The bits of a binary16 nearest to a value, ties to even; a magnitude above 65,504 becomes 65,504 (R176). -/
def toHalf (a : Q) : Nat :=
  if a.n = 0 then 0
  else
    let u := Max.max (floorLog2 a.n.natAbs a.d - 10) (-24)
    let code := (u + 24).toNat * 1024 + quantum a.n.natAbs a.d u
    let mag := Min.min code 0x7BFF
    if mag = 0 then 0 else if a.n < 0 then mag + 2 ^ 15 else mag

/-- The value of a binary16 pattern. -/
def half (c : Nat) : Q :=
  let e := c / 1024 % 32
  let m : Int := c % 1024
  let v := if e = 0 then scaled m (-24) else scaled (1024 + m) ((e : Int) - 25)
  if c.testBit 15 then ⟨-v.n, v.d⟩ else v

end Sys2Proof.Machine

/-! ## Logarithm and power

Irrational values are computed to 64 fractional bits on a 128-bit fixed-point mantissa, then rounded by the caller
(log 22). -/

namespace Sys2Proof.Machine

/-- `count` bits of the binary logarithm of the mantissa `f / 2^128` in [1, 2), by repeated squaring. -/
def log2Bits : Nat → Nat → Nat → Nat
  | 0, _, acc => acc
  | k + 1, f, acc =>
    let g := f * f / 2 ^ 128
    if 2 ^ 129 ≤ g then log2Bits k (g / 2) (2 * acc + 1) else log2Bits k g (2 * acc)

/-- log2 of a positive fraction, truncated to 64 fractional bits. -/
def log2q (a : Q) : Q :=
  let n := a.n.natAbs
  let e := floorLog2 n a.d
  let f := if 0 ≤ e then n * 2 ^ 128 / (a.d * 2 ^ e.toNat) else n * 2 ^ (128 + (-e).toNat) / a.d
  ⟨e * 2 ^ 64 + log2Bits 64 f 0, 2 ^ 64⟩

/-- The product of the roots 2^(1/2), 2^(1/4), ... that the bits of `t / 2^64` select, on a 128-bit mantissa. -/
def exp2Bits : Nat → Nat → Nat → Nat → Nat
  | 0, _, _, acc => acc
  | k + 1, t, root, acc =>
    let acc := if t.testBit k then acc * root / 2 ^ 128 else acc
    exp2Bits k t (isqrt (root * 2 ^ 128)) acc

/-- 2^a to 64 fractional bits of the exponent. -/
def exp2q (a : Q) : Q :=
  let e := a.floor
  let t := ((a.sub (.ofInt e)).mul (.ofInt (2 ^ 64))).floor.toNat
  let m := exp2Bits 64 t (isqrt (2 ^ 257)) (2 ^ 128)
  (scaled m (e - 128))

/-- a^b for a non-negative a; 0 for a = 0. -/
def powq (a b : Q) : Q := if a.n ≤ 0 then ⟨0, 1⟩ else exp2q ((log2q a).mul b)

/-- ln 2 to 64 fractional bits. -/
def ln2 : Q := ⟨12786308645202655659, 2 ^ 64⟩

end Sys2Proof.Machine
end

