-- ==== Sys2Proof/Machine/FrontEnd.lean ====
section
/-!
DEFINITION. FrontEnd: the raw front end (06), stages 1 to 7, sample by sample. An image is a function of column and
row inside these definitions; State holds the rows.
-/

namespace Sys2Proof.Machine

/-! ## Samples and tables -/

/-- The received code of capture `k` at (x, y), none where nothing landed (R132). -/
def received (f : Frame) (k x y : Nat) : Option Nat :=
  (f.rows.find? fun r => r.cap.val == k && r.line == y).bind fun r => r.samples[x]?

/-- Front-end parameters of capture `k` of a bank. -/
def capOf (b : Bank) (k : Nat) : FrontCap := b.front.caps[k % 4]'(Nat.mod_lt _ (by decide))

/-- Entry `i` of a table version (R154). -/
def tableEntry (s : State) (version i : Nat) : Int :=
  match s.tables.find? fun t => t.id == version with
  | some t => t.entries.getD i 0
  | none => 0

/-- How many entries a table version has. -/
def tableLength (s : State) (version : Nat) : Nat :=
  match s.tables.find? fun t => t.id == version with
  | some t => t.entries.length
  | none => 0

/-- The linearisation L_k of received code `q`: the table, or the identity 64 × q (R140). -/
def linearise (s : State) (g : FrontCap) (q : Nat) : Int :=
  match g.lin with
  | some v => tableEntry s v q
  | none => 64 * q

/-- The value held by two bytes of namespace 2 from byte `a` on. -/
def ns2Word (s : State) (a : Nat) : Nat := leNat [readCell s.ns2 a, readCell s.ns2 (a + 1)]

/-- A bound per-pixel table's word for (x, y): from its first LBA on, 2 × (x + W × y) bytes in (R154, R155). -/
def pixelWord (s : State) (b : PixelBind) (x y : Nat) : Nat := ns2Word s (4096 * b.lba + 2 * (x + b.w * y))

/-! ## Saturation -/

/-- The range of the front-end value (R138). -/
def vMin : Int := -2097152
/-- The range of the front-end value (R138). -/
def vMax : Int := 2097151

/-- A stage result saturated, with whether it was (R138). -/
def satV (v : Int) : Int × Bool := (clampInt vMin vMax v, decide (v < vMin ∨ vMax < v))

/-! ## The optical-black clamp (R142, R143) -/

/-- The optical-black columns a capture declares (R142). -/
def obColumns (g : FrontCap) : List Nat :=
  (List.range g.ob0.2).map (g.ob0.1 + ·) ++ (List.range g.ob1.2).map (g.ob1.1 + ·)

/-- The black level o_k,c = L_k[B_k,c] (R141). -/
def blackLevel (s : State) (g : FrontCap) (c : Nat) : Int := linearise s g (g.black[c % 8]'(Nat.mod_lt _ (by decide)))

/-- The row mean m_k,c(y) - o_k,c in sixteenths, none without a valid sample of the channel (R142). -/
def ownMean (s : State) (f : Frame) (k c y : Nat) : Option Int :=
  let g := capOf f.bank k
  let l := (obColumns g).filterMap fun x =>
    if channelAt f.bank.front x y = c then (received f k x y).map fun q => linearise s g q else none
  if l.isEmpty then none else some (roundAway (16 * (l.sum - l.length * blackLevel s g c)) l.length)

/-- The row mean of a row: its own, or, outside the package's band, the one its package sent (R377). -/
def rowMean (s : State) (f : Frame) (k c y : Nat) : Option Int :=
  if ownRow s f.bank y then ownMean s f k c y
  else (f.means.find? fun m => m.1 == k && m.2.1 == c && m.2.2.1 == y).map fun m => m.2.2.2

/-- The clamp filter over the rows' means: the pairs (a(y), r(y)) with 8 fractional bits, and the state left
(R143). -/
def clampFilter (alpha : Nat) : List (Option Int) → Int → List (Int × Int) × Int
  | [], a => ([], a)
  | none :: ms, a =>
    let (l, b) := clampFilter alpha ms a
    ((a, 0) :: l, b)
  | some m :: ms, a =>
    let a' := a + roundAway (16 * m - a) (2 ^ alpha)
    let (l, b) := clampFilter alpha ms a'
    ((a', 16 * m - a') :: l, b)

/-- The clamp of one channel of one capture over a frame, from the state before, none at a reset point (R143). -/
def clampChannel (s : State) (f : Frame) (k c : Nat) (before : Option Int) : List (Int × Int) × Int :=
  let means := (List.range f.bank.source.h).map (rowMean s f k c)
  match means.filterMap id with
  | [] => (means.map fun _ => (0, 0), 0)
  | m :: _ => clampFilter (capOf f.bank k).alpha means (before.getD (16 * m))

/-- The state entering row 0 of a channel: none at frame 0 and after a change of its black code or of alpha
(R143). -/
def clampEntry (x : Context) (f : Frame) (k c : Nat) : Option Int :=
  let now := capOf f.bank k
  if f.number = 0 then none
  else match x.clampBank with
    | none => none
    | some old =>
      let g := old[k % 4]'(Nat.mod_lt _ (by decide))
      if g.alpha != now.alpha || g.black[c % 8]'(Nat.mod_lt _ (by decide)) != now.black[c % 8]'(Nat.mod_lt _ (by decide))
      then none
      else (x.clamp[k % 4]'(Nat.mod_lt _ (by decide)))[c % 8]'(Nat.mod_lt _ (by decide))

/-- The clamp of every channel of every capture, as lists by capture and channel. -/
def clampAll (s : State) (x : Context) (f : Frame) : List (List (List (Int × Int) × Int)) :=
  (List.range 4).map fun k => (List.range 8).map fun c => clampChannel s f k c (clampEntry x f k c)

/-! ## Stages 1 to 4 -/

/-- What the stages read: the state, the frame, its clamp and its bypassed tables. -/
structure Pass where
  s : State
  f : Frame
  clamp : List (List (List (Int × Int) × Int))
  /-- bypassed (stage, capture) pairs of the frame's bank (R156) -/
  bypass : List (Nat × Nat)

/-- The clamp pair of capture `k`, channel `c`, row `y`; zeros with the clamp off. -/
def Pass.clampAt (p : Pass) (k c y : Nat) : Int × Int :=
  if (capOf p.f.bank k).alpha = 0xFF then (0, 0)
  else (((p.clamp.getD k []).getD c ([], 0)).1).getD y (0, 0)

/-- Stages 1 to 4 of a valid sample, each saturated, with whether any of them saturated (R138 to R145). -/
def Pass.early (p : Pass) (k x y q : Nat) : Int × Bool :=
  let g := capOf p.f.bank k
  let c := channelAt p.f.bank.front x y
  let (a, r) := p.clampAt k c y
  let (v2, s2) := satV (linearise p.s g q - blackLevel p.s g c - roundAway a 256)
  let col : Int := match g.column with
    | some v => if p.bypass.contains (3, k) then 0 else signed 16 (tableEntry p.s v x % 65536).toNat
    | none => 0
  let (v3, s3) := satV (v2 - col - (if g.rowNoise then roundAway r 256 else 0))
  let dark : Int := match g.dark with
    | some b => if p.bypass.contains (4, k) then 0 else roundAway (signed 16 (pixelWord p.s b x y) * b.scale) 4096
    | none => 0
  let (v4, s4) := satV (v3 - dark)
  (v4, s2 || s3 || s4)

/-- The stage-4 value; 0 where the sample is invalid (R139). -/
def Pass.v4 (p : Pass) (k x y : Nat) : Int :=
  match received p.f k x y with
  | some q => (p.early k x y q).1
  | none => 0

/-! ## Stage 5: defects (R137, R145, R146) -/

/-- The static defect list holds (x, y) (R146). -/
def Pass.listed (p : Pass) (x y : Nat) : Bool :=
  match p.f.bank.front.defects with
  | some v => match p.s.tables.find? fun t => t.id == v with
    | some t => t.entries.contains (x + 65536 * y : Int)
    | none => false
  | none => false

/-- Stage-4 values of the same-channel neighbours inside the frame, valid and not on the defect list (R137, R145). -/
def Pass.neighbours (p : Pass) (k x y : Nat) : List Int :=
  let pw := p.f.bank.front.pw
  let ph := p.f.bank.front.ph
  let dx : List Int := [-pw, pw, 0, 0, -pw, pw, -pw, pw]
  let dy : List Int := [0, 0, -ph, ph, -ph, -ph, ph, ph]
  (dx.zip dy).filterMap fun d =>
    let nx : Int := (x : Int) + d.1
    let ny : Int := (y : Int) + d.2
    if 0 ≤ nx ∧ nx < p.f.bank.source.w ∧ 0 ≤ ny ∧ ny < p.f.bank.source.h then
      if (received p.f k nx.toNat ny.toNat).isSome && !p.listed nx.toNat ny.toNat then some (p.v4 k nx.toNat ny.toNat)
      else none
    else none

/-- Insertion into an ascending list. -/
def insertAsc (v : Int) : List Int → List Int
  | [] => [v]
  | w :: ws => if v ≤ w then v :: w :: ws else w :: insertAsc v ws

/-- The list in ascending order. -/
def sortAsc (l : List Int) : List Int := l.foldr insertAsc []

/-- The neighbour estimate: the median, or the rounded mean of the two middle values (R145). -/
def median (l : List Int) : Int :=
  let t := sortAsc l
  if t.length % 2 = 1 then t.getD (t.length / 2) 0
  else roundAway (t.getD (t.length / 2 - 1) 0 + t.getD (t.length / 2) 0) 2

/-- What stage 5 did with a sample (R146). -/
inductive Repair where
  | none | static | unrepaired | dynamic
  deriving DecidableEq

/-- Stage 5: the value and what was done (R146). -/
def Pass.repair (p : Pass) (k x y : Nat) : Int × Repair :=
  let v := p.v4 k x y
  let l := p.neighbours k x y
  let hot := p.f.bank.front.tHot
  let cold := p.f.bank.front.tCold
  if (received p.f k x y).isNone then (v, .none)
  else if p.listed x y then (if l.isEmpty then (v, .unrepaired) else (median l, .static))
  else if l.length < 3 then (v, .none)
  else
    let top := (sortAsc l).getLast?.getD 0
    let low := (sortAsc l).headD 0
    if (hot ≠ 0 ∧ top + hot < v) ∨ (cold ≠ 0 ∧ v < low - cold) then (median l, .dynamic) else (v, .none)

/-! ## Stage 6: shading (R147) -/

/-- The four Catmull-Rom weights at position `t` (R147). -/
def catmull (t : Q) : List Q :=
  let t2 := t.mul t
  let t3 := t2.mul t
  let k (a b c e : Int) : Q :=
    ((((Q.ofInt a).mul t3).add ((Q.ofInt b).mul t2)).add (((Q.ofInt c).mul t).add (.ofInt e))).mul ⟨1, 2⟩
  [k (-1) 2 (-1) 0, k 3 (-5) 0 2, k (-3) 4 1 0, k 1 (-1) 0 0]

/-- Exact sum. -/
def qsum (l : List Q) : Q := l.foldl Q.add ⟨0, 1⟩

/-- The grid gain of channel `c` at (x, y), in u2.14 (R147). -/
def gridGain (s : State) (version c x y w h : Nat) : Int :=
  let px : Q := ⟨128 * x, w - 1⟩
  let py : Q := ⟨96 * y, h - 1⟩
  let i := px.floor
  let j := py.floor
  let wx := catmull (px.sub (.ofInt i))
  let wy := catmull (py.sub (.ofInt j))
  let knot := fun (a b : Int) =>
    tableEntry s version (12513 * c + 129 * (clampInt 0 96 b).toNat + (clampInt 0 128 a).toNat)
  let row := fun (b : Int) => qsum ((List.range 4).map fun m =>
    (wx.getD m ⟨0, 1⟩).mul (.ofInt (knot (i - 1 + m) b)))
  let g := qsum ((List.range 4).map fun m => (wy.getD m ⟨0, 1⟩).mul (row (j - 1 + m)))
  clampInt 0 65535 g.round

/-- The gain of stage 6 (R147); 16,384 where the flat field is bypassed (R156). -/
def Pass.gain (p : Pass) (x y : Nat) : Int :=
  let b := p.f.bank
  match b.front.shading with
  | .off => 16384
  | .grid => match b.front.grid with
    | some v => gridGain p.s v (channelAt b.front x y) x y b.source.w b.source.h
    | none => 16384
  | .perPixel => match b.front.flat with
    | some t => if p.bypass.contains (6, 0) then 16384 else pixelWord p.s t x y
    | none => 16384

/-- Stages 5 and 6 with whether stage 5 or 6 saturated; an invalid sample stays 0 (R139). -/
def Pass.v6 (p : Pass) (k x y : Nat) : Int × Bool :=
  if (received p.f k x y).isNone then (0, false)
  else satV (roundAway ((p.repair k x y).1 * p.gain x y) 16384)

/-- A sample saturated in some stage: counted once (R138). -/
def Pass.saturated (p : Pass) (k x y : Nat) : Bool :=
  match received p.f k x y with
  | some q => (p.early k x y q).2 || (p.v6 k x y).2
  | none => false

/-! ## Stage 7: merge (R148, R149) -/

/-- u_k in binary32 (R148). -/
def Pass.u (p : Pass) (k x y : Nat) : Q := rnd ⟨(p.v6 k x y).1 * (capOf p.f.bank k).gain, 2 ^ 36⟩

/-- The captures in rank order: gain ascending, ties by index (R148). -/
def ranked (b : Bank) : List Nat :=
  let n := captures b
  (List.range n).foldl (fun l k =>
    let before := l.takeWhile fun j => (capOf b j).gain ≤ (capOf b k).gain
    before ++ k :: l.drop before.length) []

/-- The knee weight of capture `k` in 256ths, without regard to validity or rank (R148). -/
def kneeWeight (g : FrontCap) (q : Nat) : Nat :=
  if q < g.k0 then 256 else if g.k1 ≤ q then 0 else 256 * (g.k1 - q) / (g.k1 - g.k0)

/-- The weight w of capture `k` at (x, y) in 256ths (R148): 1 for the last capture, 0 for an invalid sample. -/
def Pass.weight (p : Pass) (last k x y : Nat) : Nat :=
  match received p.f k x y with
  | none => 0
  | some q => if k = last then 256 else kneeWeight (capOf p.f.bank k) q

/-- The cascade of R148 over the ranked captures: the sums of w'u and of w', in binary32. -/
def cascade (ws : List (Q × Q)) : Q × Q :=
  let r := ws.foldl (fun (acc : Q × Q × Q) x =>
    let w' := fmul x.1 acc.2.2
    (fadd acc.1 (fmul w' x.2), fadd acc.2.1 w', fmul acc.2.2 (fsub (.ofInt 1) x.1)))
    (⟨0, 1⟩, ⟨0, 1⟩, ⟨1, 1⟩)
  (r.1, r.2.1)

/-- What the merge found at (x, y). -/
structure Merged where
  /-- L20 code of R -/
  code : Nat
  valid : Bool
  saturated : Bool
  motion : Bool
  /-- captures with a weight strictly between 0 and 1 -/
  knees : Nat

/-- R over every capture, by the cascade and its degenerate cases (R148). -/
def Pass.blend (p : Pass) (order : List Nat) (x y : Nat) : Q :=
  let last := order.getLast?.getD 0
  let ws := order.map fun k => ((⟨p.weight last k x y, 256⟩ : Q), p.u k x y)
  let (num, den) := cascade ws
  if den.n ≠ 0 then fdiv num den
  else match (order.filter fun k => (received p.f k x y).isSome).getLast? with
    | some k => p.u k x y
    | none => ⟨0, 1⟩

/-- The sample is a motion sample (R149). -/
def Pass.moving (p : Pass) (order : List Nat) (x y : Nat) : Bool :=
  let last := order.getLast?.getD 0
  let front := p.f.bank.front
  let uL := p.u last x y
  front.motion && (received p.f last x y).isSome && order.dropLast.any fun k =>
    (received p.f k x y).isSome && p.weight last k x y == 256 &&
      Q.lt (fadd (l20 front.tm) (fmul ⟨front.rm, 256⟩ uL.abs)) (fsub (p.u k x y) uL).abs

/-- Stage 7 (R148, R149). -/
def Pass.merge (p : Pass) (x y : Nat) : Merged :=
  let order := ranked p.f.bank
  let last := order.getLast?.getD 0
  let valid := order.any fun k => (received p.f k x y).isSome
  let motion := decide (1 < order.length) && p.moving order x y
  let ref := p.f.bank.front.refCap.val
  let r := if !valid then ⟨0, 1⟩
    else if order.length ≤ 1 then p.u 0 x y
    else if motion && (received p.f ref x y).isSome && order.contains ref then p.u ref x y
    else p.blend order x y
  let (code, sat) := toL20 r
  { code := code, valid := valid, saturated := sat, motion := motion
    knees := if order.length ≤ 1 then 0 else (order.filter fun k =>
      0 < p.weight last k x y ∧ p.weight last k x y < 256).length }

/-! ## The whole frame -/

/-- Every position of the frame, row by row. -/
def positions (b : Bank) : List (Nat × Nat) :=
  (List.range b.source.h).flatMap fun y => (List.range b.source.w).map fun x => (x, y)

/-- How many elements satisfy a predicate. -/
def countOf {α : Type} (l : List α) (q : α → Bool) : Nat := (l.filter q).length

/-- Counts of the front end over the frame (RAW_GET_STATUS). -/
def Pass.status (p : Pass) : FrontStatus :=
  let ps := positions p.f.bank
  let ks := (List.range (captures p.f.bank)).flatMap fun k => ps.map fun a => (k, a.1, a.2)
  let ms := ps.map fun a => p.merge a.1 a.2
  { frame := BitVec.ofNat 48 p.f.number
    saturations := countOf ks fun a => p.saturated a.1 a.2.1 a.2.2
    static := countOf ks fun a => decide ((p.repair a.1 a.2.1 a.2.2).2 = .static)
    unrepaired := countOf ks fun a => decide ((p.repair a.1 a.2.1 a.2.2).2 = .unrepaired)
    dynamic := countOf ks fun a => decide ((p.repair a.1 a.2.1 a.2.2).2 = .dynamic)
    knee := (ms.map Merged.knees).sum
    motion := countOf ms Merged.motion
    l20 := countOf ms Merged.saturated
    bypass := BitVec.ofNat 3 (bit (p.bypass.any fun b => b.1 == 3) + 2 * bit (p.bypass.any fun b => b.1 == 4)
      + 4 * bit (p.bypass.any fun b => b.1 == 6)) }

/-- The T1 tap value of capture `k` at (x, y) (R152). -/
def Pass.t1 (p : Pass) (k x y : Nat) : Nat :=
  (clampInt 0 16383 (roundAway (p.repair k x y).1 64 + (capOf p.f.bank k).pedestal)).toNat

/-- The fill value of an invalid position: the black code of its channel (R132). -/
def fillCode (b : Bank) (k x y : Nat) : Nat :=
  (capOf b k).black[channelAt b.front x y % 8]'(Nat.mod_lt _ (by decide))

/-- The T0 tap value: the code received, or the fill (R132, R152). -/
def t0 (f : Frame) (k x y : Nat) : Nat := (received f k x y).getD (fillCode f.bank k x y)

/-- The state the clamp leaves for the next frame (R143). -/
def clampAfter (p : Pass) : Vector (Vector (Option Int) 8) 4 :=
  let one := fun (k c : Nat) => some ((p.clamp.getD k []).getD c ([], 0)).2
  let row := fun (k : Nat) => (⟨#[one k 0, one k 1, one k 2, one k 3, one k 4, one k 5, one k 6, one k 7], rfl⟩ :
    Vector (Option Int) 8)
  ⟨#[row 0, row 1, row 2, row 3], rfl⟩

/-! ## Tables that do not fit (R156) -/

/-- The tables of a bank that do not match its geometry, as (stage, capture) (R156). -/
def mismatched (s : State) (b : Bank) : List (Nat × Nat) :=
  let caps := (List.range 4).flatMap fun k =>
    let g := capOf b k
    (match g.column with
     | some v => if tableLength s v = b.source.w then [] else [(3, k)]
     | none => [])
    ++ (match g.dark with
     | some t => if t.w = b.source.w ∧ t.h = b.source.h then [] else [(4, k)]
     | none => [])
  caps ++ (match b.front.shading, b.front.flat with
    | .perPixel, some t => if t.w = b.source.w ∧ t.h = b.source.h then [] else [(6, 0)]
    | _, _ => [])

/-- The checks of a bank that becomes live: RAW_TABLE_BYPASSED once for each table that does not match (R156,
R159). -/
def checkTables (c : CtxId) (h : Nat) (s : State) : State :=
  let bad := mismatched s s.contexts[c].live
  let frame := firstFrameAt s c h
  forEach bad (fun b => post 0x0480 (some c) (BitVec.ofNat 48 frame) (b.1 + 2 ^ 8 * b.2 + 2 ^ 16 * frame))
    (modCtx c (fun x => { x with bypassed := bad }) s)

/-! ## The table pool (R154) -/

/-- The pool a context's tables go to: that of its home region's stack, or the interleaved pool (R154). -/
def poolOf (s : State) (b : Bank) : Nat :=
  if s.mem.interleaved then 4 else match homeRegion b with | some r => r.val | none => 0

/-- The pool's size: 128 MiB a stack, 512 MiB interleaved (R154). -/
def poolSize (pool : Nat) : Nat := if pool = 4 then 2 ^ 29 else 2 ^ 27

/-- Bytes taken in a pool. -/
def poolUsed (s : State) (pool : Nat) : Nat :=
  ((s.tables.filter fun t => t.pool == pool).map TableVersion.size).sum

/-- The versions a bank refers to. -/
def versionsOf (b : Bank) : List Nat :=
  b.front.defects.toList ++ b.front.grid.toList
    ++ b.front.caps.toList.flatMap fun g => g.lin.toList ++ g.column.toList

/-- The versions a change refers to. -/
def changeVersions : Change → List Nat
  | .lin _ _ v => [v]
  | .column _ _ v => v.toList
  | .defects _ _ _ (some (some v)) => [v]
  | .shading _ _ v => v.toList
  | _ => []

/-- The versions that the configuration as accepted so far will still need: the projected banks. -/
def neededVersions (s : State) : List Nat :=
  let p := projected s
  allCtx.flatMap fun c => versionsOf p.contexts[c].live

/-- The versions that any live, armed or held bank, or the bank of a frame in flight, refers to (R43, R154). -/
def referredVersions (s : State) : List Nat :=
  (allCtx.flatMap fun c => versionsOf s.contexts[c].live
      ++ s.contexts[c].frames.flatMap fun f => versionsOf f.bank)
    ++ (s.cmd.armed.flatMap fun a => changeVersions a.change)
    ++ ((heldChanges s).flatMap changeVersions)

/-- At a hinge the versions nothing refers to are freed (R154). -/
def freeTables (s : State) : State :=
  let used := referredVersions s
  { s with tables := s.tables.filter fun t => used.contains t.id }

/-- A load of `size` bytes: NO_RESOURCE, or BUSY_RETRY when the versions awaiting release would make room (R154). -/
def poolFail (s : State) (pool size : Nat) : Option Fail :=
  if poolUsed s pool + size ≤ poolSize pool then none
  else
    let needed := neededVersions s
    let awaiting := ((s.tables.filter fun t => t.pool == pool && !needed.contains t.id).map TableVersion.size).sum
    if poolUsed s pool + size ≤ poolSize pool + awaiting then
      some ⟨.busyRetry, Config.openDetail 0x0402 0x8005⟩
    else some ⟨.noResource, Config.openDetail 0x0402 0x8006⟩

/-- A new version in the pool, with its number (R154). -/
def addTable (pool size : Nat) (entries : List Int) (s : State) : State × Nat :=
  let id := s.tableCount + 1
  ({ s with tables := s.tables ++ [⟨id, pool, size, entries⟩], tableCount := id }, id)

end Sys2Proof.Machine
end

