-- ==== Sys2Proof/Machine/Develop.lean ====
section
/-!
DEFINITION. Develop: the develop stages 8 to 12 (07 R160 to R171), the analysis luma (R170) and the motion search
that reads it (R295, R296). Arithmetic is binary32 with every operation rounded, in the order the rules list
their terms (R161, log 21).
-/

namespace Sys2Proof.Machine

/-- Reflection about the edges of `n` positions, the edge itself not repeated (R12, R162). -/
def reflect (n : Nat) (i : Int) : Nat :=
  if n ≤ 1 then 0
  else
    let m := (i % (2 * (n - 1) : Nat)).toNat
    if m < n then m else 2 * (n - 1) - m

/-- The constant 1. -/
def one : Q := ⟨1, 1⟩

/-- The constant 0. -/
def zero : Q := ⟨0, 1⟩

/-- The larger, for binary32 values. -/
def maxOf (l : List Q) : Q := l.foldl Q.max (l.headD zero)

/-- The smaller, for binary32 values. -/
def minOf (l : List Q) : Q := l.foldl Q.min (l.headD zero)

/-- A merged frame, row by row (R150). -/
structure Scene where
  bank : Bank
  merged : Array Merged

/-- The merged sample at (x, y), reflected at the frame's edges (R162). -/
def Scene.at (c : Scene) (x y : Int) : Merged :=
  c.merged.getD (reflect c.bank.source.w x + c.bank.source.w * reflect c.bank.source.h y)
    ⟨0, false, false, false, 0⟩

/-- S(x, y): the exact value of the L20 code (R161, R164). -/
def Scene.S (c : Scene) (x y : Int) : Q := l20 (c.at x y).code

/-- The CFA channel at (x, y). -/
def Scene.channel (c : Scene) (x y : Int) : Nat :=
  channelAt c.bank.front (reflect c.bank.source.w x) (reflect c.bank.source.h y)

/-! ## Stage 8: demosaic (R163 to R165) -/

/-- The green channel and the two others of a CFA that qualifies for method 1 (R163). -/
def bayer (f : Front) : Option (Nat × Nat × Nat) :=
  let a := channelAt f 0 0
  let b := channelAt f 1 0
  let c := channelAt f 0 1
  let d := channelAt f 1 1
  if f.pw != 2 || f.ph != 2 then none
  else if a == d && b != c && a != b && a != c then some (a, b, c)
  else if b == c && a != d && b != a && b != d then some (b, a, d)
  else none

/-- The bank asks for method 1 and its CFA does not qualify (R163). -/
def fallsBack (b : Bank) : Bool := b.develop.method == 1 && (bayer b.front).isNone

/-- The gradient D of R164 along the first axis of `S`. -/
def gradient (S : Int → Int → Q) : Q :=
  let pair := fun j : Int =>
    fadd (fsub (S (-1) j) (S 1 j)).abs (fsub (fsub (fmul ⟨2, 1⟩ (S 0 j)) (S (-2) j)) (S 2 j)).abs
  fsum [pair (-2), pair 0, pair 2, (fsub (S (-3) 0) (S (-1) 0)).abs, (fsub (S 1 0) (S 3 0)).abs]

/-- The estimate G of R164 along the first axis of `S`. -/
def along (S : Int → Int → Q) : Q :=
  fadd (fdiv (fadd (S (-1) 0) (S 1 0)) ⟨2, 1⟩)
    (fdiv (fsub (fsub (fmul ⟨2, 1⟩ (S 0 0)) (S (-2) 0)) (S 2 0)) ⟨4, 1⟩)

/-- Green at a non-green site (R164 pass 1). -/
def Scene.estimate (c : Scene) (x y : Int) : Q :=
  let H := fun a b : Int => c.S (x + a) (y + b)
  let V := fun a b : Int => c.S (x + b) (y + a)
  let dh := gradient H
  let dv := gradient V
  let gh := along H
  let gv := along V
  let tau : Q := ⟨c.bank.develop.tau, 256⟩
  let g :=
    if Q.le dh (fmul tau dv) && Q.lt dh dv then gh
    else if Q.le dv (fmul tau dh) && Q.lt dv dh then gv
    else if Q.eqv dh dv then fdiv (fadd gh gv) ⟨2, 1⟩
    else fdiv (fadd (fmul dv gh) (fmul dh gv)) (fadd dh dv)
  let near := [H (-1) 0, H 1 0, V (-1) 0, V 1 0]
  Q.clamp (minOf near) (maxOf near) g

/-- Green, sampled or estimated (R164). -/
def Scene.green (c : Scene) (g : Nat) (x y : Int) : Q := if c.channel x y = g then c.S x y else c.estimate x y

/-- Another channel by colour difference from sites at the given offsets (R164 pass 2). -/
def Scene.byDifference (c : Scene) (g : Nat) (x y : Int) (sites : List (Int × Int)) : Q :=
  let d := fsum (sites.map fun o => fsub (c.S (x + o.1) (y + o.2)) (c.green g (x + o.1) (y + o.2)))
  fadd (c.green g x y) (fdiv d (.ofInt sites.length))

/-- Channel `ch` at (x, y) by method 1 (R164). -/
def Scene.byBayer (c : Scene) (g ch : Nat) (x y : Int) : Q :=
  if ch = g then c.green g x y
  else if c.channel x y = ch then c.S x y
  else if c.channel x y = g then
    if c.channel (x + 1) y = ch then c.byDifference g x y [(-1, 0), (1, 0)] else c.byDifference g x y [(0, -1), (0, 1)]
  else c.byDifference g x y [(-1, -1), (1, -1), (-1, 1), (1, 1)]

/-- The offsets of a square window of radius `r`, row by row. -/
def window (r : Nat) : List (Int × Int) :=
  (List.range (2 * r + 1)).flatMap fun j => (List.range (2 * r + 1)).map fun i => ((i : Int) - r, (j : Int) - r)

/-- Channel `ch` at (x, y) by method 0, none at a demosaic gap (R165). -/
def Scene.byWindow (c : Scene) (ch : Nat) (x y : Int) : Option Q :=
  if c.channel x y = ch then some (c.S x y)
  else
    let l := (window 3).filter fun o => c.channel (x + o.1) (y + o.2) == ch
    let w := fun o : Int × Int => (4 - o.1.natAbs) * (4 - o.2.natAbs)
    if l.isEmpty then none
    else some (fdiv (fsum (l.map fun o => fmul (.ofInt (w o)) (c.S (x + o.1) (y + o.2)))) (.ofInt (l.map w).sum))

/-- A channel code stands in some cell of the CFA (R163, log 26). -/
def inCfa (f : Front) (ch : Nat) : Bool :=
  (List.range f.ph).any fun y => (List.range f.pw).any fun x => channelAt f x y == ch

/-- Slot `j` at (x, y) after stage 8, with whether it is a gap (R163, R165). -/
def Scene.slot (c : Scene) (j : Nat) (x y : Int) : Q × Bool :=
  let ch := c.bank.develop.map[j % 4]'(Nat.mod_lt _ (by decide))
  if ch = 0xFF then (one, false)
  else match (if c.bank.develop.method = 1 then bayer c.bank.front else none) with
    | some (g, a, b) => if ch = g || ch = a || ch = b then (c.byBayer g ch x y, false) else (zero, false)
    | none =>
      if !inCfa c.bank.front ch then (zero, false)
      else match c.byWindow ch x y with
        | some v => (v, false)
        | none => (zero, true)

/-- A plane of values, row by row. -/
abbrev Plane := Array Q

/-- A plane from a function of column and row. -/
def plane (w h : Nat) (f : Nat → Nat → Q) : Plane :=
  ((List.range h).flatMap fun y => (List.range w).map fun x => f x y).toArray

/-- The value at a column and a row inside the plane. -/
def Plane.at (p : Plane) (w x y : Nat) : Q := p.getD (x + w * y) zero

/-! ## Noise reduction (R166 to R169) -/

/-- The noise model of slot `j` at a value (R166). -/
def sigma (n : Noise) (j : Nat) (v : Q) : Q :=
  let n0 := f32 (n.n0[j % 4]'(Nat.mod_lt _ (by decide))).toNat
  let n1 := f32 (n.n1[j % 4]'(Nat.mod_lt _ (by decide))).toNat
  fsqrt (Q.max (fadd n0 (fmul n1 (Q.max v zero))) (scaled 1 (-40)))

/-- The noise index of a difference (R166). -/
def noiseIndex (n : Noise) (j : Nat) (at_ delta : Q) : Nat :=
  Min.min 63 (fdiv (fmul ⟨16, 1⟩ delta.abs) (sigma n j at_)).floor.toNat

/-- Spatial noise reduction of slot `j` (R167). -/
def spatial (n : Noise) (j w h : Nat) (p : Plane) (x y : Nat) : Q :=
  let v := p.at w x y
  let terms := (window 4).map fun o =>
    let q := p.at w (reflect w (x + o.1)) (reflect h (y + o.2))
    let k := (n.kernel.toList.getD o.1.natAbs 0) * (n.kernel.toList.getD o.2.natAbs 0)
      * (n.ts.toList.getD (noiseIndex n j v (fsub q v)) 0)
    (k, q)
  let total := (terms.map Prod.fst).sum
  let f := if total = 0 then v else fdiv (fsum (terms.map fun t => fmul (.ofInt t.1) t.2)) (.ofInt total)
  fadd v (fmul ⟨n.strength, 256⟩ (fsub f v))

/-- Bilinear interpolation of a plane at a position clamped to the frame, columns first (R168). -/
def bilinear (w h : Nat) (p : Plane) (x y : Q) : Q :=
  let cx := Q.clamp zero (.ofInt (w - 1 : Nat)) x
  let cy := Q.clamp zero (.ofInt (h - 1 : Nat)) y
  let i := cx.floor.toNat
  let j := cy.floor.toNat
  let fx := cx.sub (.ofInt i)
  let fy := cy.sub (.ofInt j)
  let row := fun b : Nat =>
    let a0 := p.at w i (Min.min b (h - 1))
    let a1 := p.at w (Min.min (i + 1) (w - 1)) (Min.min b (h - 1))
    fadd a0 (fmul fx (fsub a1 a0))
  let r0 := row j
  fadd r0 (fmul fy (fsub (row (j + 1)) r0))

/-- The vector of the analysis block that holds (x / d, y / d), in quarter-pel units (R168, R295). -/
def vectorAt (field : Option VectorField) (d x y : Nat) : Int × Int :=
  match field with
  | none => (0, 0)
  | some f =>
    let (vx, vy, _) := f.vectors.getD (x / d / 16 + f.width * (y / d / 16)) (0, 0, 0)
    (vx, vy)

/-- Temporal noise reduction of a pixel: the four slots after stage 10 (R168). -/
def temporal (b : Bank) (planes refs : List Plane) (field : Option VectorField) (x y : Nat) : List Q :=
  let w := b.source.w
  let h := b.source.h
  let (vx, vy) := vectorAt field b.noise.d x y
  let px : Q := (Q.ofInt x).sub ⟨vx * b.noise.d, 4⟩
  let py : Q := (Q.ofInt y).sub ⟨vy * b.noise.d, 4⟩
  let v := fun j : Nat => (planes.getD j #[]).at w x y
  let r := fun j : Nat => bilinear w h (refs.getD j #[]) px py
  let act := activeSlots b.develop
  let idx := act.foldl (fun m j => Max.max m (noiseIndex b.noise j (v j) (fsub (v j) (r j)))) 0
  let alpha : Q := ⟨b.noise.tt.toList.getD idx 0, 256⟩
  (List.range 4).map fun j => if act.contains j then fadd (v j) (fmul alpha (fsub (r j) (v j))) else v j

/-! ## Stages 11 and 12 (R171) -/

/-- Three values, one a channel. -/
abbrev Rgb := Q × Q × Q

/-- Channel `i` of three. -/
def Rgb.ch (p : Rgb) (i : Nat) : Q := if i = 0 then p.1 else if i = 1 then p.2.1 else p.2.2

/-- Three values from a function. -/
def rgb (f : Nat → Q) : Rgb := (f 0, f 1, f 2)

/-- The developed value of a pixel from its four slots (R171). -/
def developed (d : Develop) (slots : List Q) : Rgb :=
  rgb fun i =>
    let m := fun j => f32 (d.matrix.toList.getD (4 * i + j) 0).toNat
    let out := fsum ((List.range 4).map fun j => fmul (m j) (slots.getD j zero))
    fmul (fmul out (f32 (d.wb.toList.getD i 0).toNat)) (f32 d.exposure.toNat)

/-- Luma of a developed value (R170). -/
def lumaOf (d : Develop) (p : Rgb) : Q :=
  fsum ((List.range 3).map fun i => fmul (f32 (d.luma.toList.getD i 0).toNat) (p.ch i))

/-! ## Suzar Log (R177) -/

/-- Suzar Log of a value (R177). -/
def suzarLog (x : Q) : Q :=
  let knee : Q := ⟨1, 64⟩
  let e := if Q.le knee x then fdiv (fadd (rnd (log2q x)) ⟨9, 1⟩) ⟨16, 1⟩
    else fadd ⟨3, 16⟩ (fdiv (fmul (fsub x knee) ⟨4, 1⟩) (rnd ln2))
  Q.clamp zero one e

/-! ## A whole frame -/

/-- What develop makes of a frame. -/
structure Developed where
  w : Nat
  h : Nat
  /-- developed values, row by row -/
  pixels : Array Rgb
  /-- validity for statistics (R161) -/
  valid : Array Bool
  gaps : Nat
  /-- L20 codes of the stage-10 output by slot, empty for a constant slot (R168) -/
  kept : List (List Nat)

/-- Stages 8 to 12 of a frame, from the reference's planes, none when α is 0, and the field (R160, R169). -/
def develop (c : Scene) (refs : Option (List (List Nat))) (field : Option VectorField) : Developed :=
  let b := c.bank
  let w := b.source.w
  let h := b.source.h
  let act := activeSlots b.develop
  let p8 := (List.range 4).map fun j => plane w h fun x y => (c.slot j x y).1
  let gap := fun x y : Nat => (List.range 4).any fun j => (c.slot j x y).2
  let p9 := (List.range 4).map fun j =>
    let p := p8.getD j #[]
    if b.noise.spatial && act.contains j then plane w h (spatial b.noise j w h p) else p
  let old := (refs.getD []).map fun l => (l.map l20).toArray
  let ten := fun x y : Nat =>
    if b.noise.temporal && refs.isSome then temporal b p9 old field x y
    else (List.range 4).map fun j => (p9.getD j #[]).at w x y
  let cells := positions b
  let out := (cells.map fun a => ten a.1 a.2).toArray
  { w := w, h := h
    pixels := out.map (developed b.develop)
    valid := (cells.map fun a => (c.at a.1 a.2).valid && !gap a.1 a.2).toArray
    gaps := countOf cells fun a => gap a.1 a.2
    kept := (List.range 4).map fun j =>
      if act.contains j then out.toList.map fun l => (toL20 (l.getD j zero)).1 else [] }

/-- The analysis luma of a frame: its width and its 12-bit codes (R170). -/
def analysisLuma (b : Bank) (v : Developed) : Nat × List Nat :=
  let d := b.noise.d
  let wd := ceilDiv v.w d
  let hd := ceilDiv v.h d
  (wd, (List.range hd).flatMap fun j => (List.range wd).map fun i =>
    let box := (List.range d).flatMap fun a => (List.range d).filterMap fun e =>
      let x := i * d + e
      let y := j * d + a
      if x < v.w ∧ y < v.h then (v.pixels[x + v.w * y]?).map (lumaOf b.develop) else none
    let mean := fdiv (fsum box) (.ofInt box.length)
    (fmul ⟨4095, 1⟩ (suzarLog mean)).round.toNat)

/-! ## Motion search (R295, R296) -/

/-- A luma code at a position clamped to the plane (R296). -/
def Luma.code (l : Luma) (h : Nat) (x y : Int) : Nat :=
  let cx := (clampInt 0 ((l.width : Int) - 1) x).toNat
  let cy := (clampInt 0 ((h : Int) - 1) y).toNat
  l.codes.getD (cx + l.width * cy) 0

/-- Four times four times the reference at a quarter-pel position, by bilinear interpolation (R296). -/
def quarterRef (l : Luma) (h : Nat) (x4 y4 : Int) : Int :=
  let x := x4 / 4
  let y := y4 / 4
  let fx := x4 % 4
  let fy := y4 % 4
  let c := fun a b : Int => (l.code h (x + a) (y + b) : Int)
  (4 - fx) * (4 - fy) * c 0 0 + fx * (4 - fy) * c 1 0 + (4 - fx) * fy * c 0 1 + fx * fy * c 1 1

/-- Sixteen times the SAD of block (i, j) for a quarter-pel vector, over the block's samples inside the plane. -/
def sad16 (cur ref : Luma) (h i j : Nat) (v : Int × Int) : Nat :=
  ((List.range 16).flatMap fun b => (List.range 16).map fun a =>
    let x := 16 * i + a
    let y := 16 * j + b
    if x < cur.width ∧ y < h then
      ((16 * (cur.code h x y : Int)) - quarterRef ref h (4 * x - v.1) (4 * y - v.2)).natAbs
    else 0).sum

/-- Vector `a` is tried before `b` at equal SAD (R296). -/
def vectorBefore (a b : Int × Int) : Bool :=
  let m := fun v : Int × Int => v.1.natAbs + v.2.natAbs
  decide (m a < m b) || (m a == m b && (decide (a.2 < b.2) || (a.2 == b.2 && decide (a.1 < b.1))))

/-- The best integer displacement, in quarter-pel units, with its SAD (R296 step 1). -/
def integerSearch (cur ref : Luma) (h i j : Nat) : (Int × Int) × Nat :=
  let all := (List.range 65).flatMap fun b => (List.range 129).map fun a => (((a : Int) - 64), ((b : Int) - 32))
  all.foldl (fun best v =>
    let q := (4 * v.1, 4 * v.2)
    let n := sad16 cur ref h i j q
    if n < best.2 || (n == best.2 && vectorBefore q best.1) then (q, n) else best)
    ((0, 0), sad16 cur ref h i j (0, 0))

/-- One refinement over the eight neighbours at a step; it moves only on a strictly lower SAD (R296 steps 2, 3). -/
def refine (cur ref : Luma) (h i j : Nat) (step : Int) (start : (Int × Int) × Nat) : (Int × Int) × Nat :=
  let near : List (Int × Int) := [(-1, -1), (0, -1), (1, -1), (-1, 0), (1, 0), (-1, 1), (0, 1), (1, 1)]
  near.foldl (fun best o =>
    let q := (start.1.1 + step * o.1, start.1.2 + step * o.2)
    let n := sad16 cur ref h i j q
    if n < best.2 then (q, n) else best) start

/-- The vector of block (i, j) and its SAD divided by 16, saturating (R296, R297). -/
def blockVector (cur ref : Luma) (h i j : Nat) : Int × Int × Nat :=
  let r := refine cur ref h i j 1 (refine cur ref h i j 2 (integerSearch cur ref h i j))
  (r.1.1, r.1.2, Min.min (r.2 / 16 / 16) 0xFFFF)

/-- The vector field of two luma planes (R295). -/
def searchField (cur ref : Luma) (tick : Nat) : VectorField :=
  let h := if cur.width = 0 then 0 else cur.codes.length / cur.width
  let bx := ceilDiv cur.width 16
  { frame := cur.frame, width := bx, tick := tick, d := cur.d
    vectors := (List.range (ceilDiv h 16)).flatMap fun j => (List.range bx).map fun i => blockVector cur ref h i j }

end Sys2Proof.Machine
end

