-- ==== Sys2Proof/Machine/Grades.lean ====
section
/-!
DEFINITION. Grades: stages 13 to 21 (07 R172 to R180), from developed values to the packed bytes of a grade buffer,
and the default tables of R183.
-/

namespace Sys2Proof.Machine

/-! ## Stages 13 to 16 -/

/-- Stage 13: the grade's matrix (R172). -/
def gradeMatrix (g : Grade) (p : Rgb) : Rgb :=
  rgb fun i => fsum ((List.range 3).map fun j => fmul (f32 (g.matrix.toList.getD (3 * i + j) 0).toNat) (p.ch j))

/-- Shaper entry `i` of channel `c`: loaded, or the identity round(65,535 i / 4,095) (R173, R183). -/
def shaperEntry (g : Grade) (c i : Nat) : Nat :=
  match g.shaper with
  | some l => l.getD (4096 * c + i) 0
  | none => (roundAway (65535 * i) 4095).toNat

/-- Stage 14: the shaper (R173). -/
def shape (g : Grade) (c : Nat) (x : Q) : Q :=
  let lo := f32 g.lo.toNat
  let hi := f32 g.hi.toNat
  if g.shaperMode = 0 then Q.clamp zero one x
  else
    let t := if g.shaperMode = 1 then fdiv (fmul ⟨4095, 1⟩ (fsub x lo)) (fsub hi lo)
      else fdiv (fmul ⟨4095, 1⟩ (fsub (rnd (log2q (Q.max x lo))) (rnd (log2q lo))))
        (fsub (rnd (log2q hi)) (rnd (log2q lo)))
    let t := Q.clamp zero ⟨4095, 1⟩ t
    let i := Min.min t.floor.toNat 4094
    let f := fsub t (.ofInt i)
    let a : Q := .ofInt (shaperEntry g c i)
    let b : Q := .ofInt (shaperEntry g c (i + 1))
    fdiv (fadd a (fmul f (fsub b a))) ⟨65535, 1⟩

/-- A LUT entry's channel as a value (R174). -/
def lutValue (entries : List Nat) (i j k c : Nat) : Q :=
  fdiv (.ofInt (entries.getD (3 * (i + 65 * j + 4225 * k) + c) 0)) ⟨65535, 1⟩

/-- The corner weights of the tetrahedral interpolation: weight and corner (x, y, z), in the rule's order (R174). -/
def tetrahedron (fr fg fb : Q) : List (Q × Nat × Nat × Nat) :=
  if Q.le fg fr && Q.le fb fg then
    [(fsub one fr, 0, 0, 0), (fsub fr fg, 1, 0, 0), (fsub fg fb, 1, 1, 0), (fb, 1, 1, 1)]
  else if Q.le fb fr && Q.lt fg fb then
    [(fsub one fr, 0, 0, 0), (fsub fr fb, 1, 0, 0), (fsub fb fg, 1, 0, 1), (fg, 1, 1, 1)]
  else if Q.lt fr fb && Q.le fg fr then
    [(fsub one fb, 0, 0, 0), (fsub fb fr, 0, 0, 1), (fsub fr fg, 1, 0, 1), (fg, 1, 1, 1)]
  else if Q.lt fr fg && Q.le fb fr then
    [(fsub one fg, 0, 0, 0), (fsub fg fr, 0, 1, 0), (fsub fr fb, 1, 1, 0), (fb, 1, 1, 1)]
  else if Q.le fb fg && Q.lt fr fb then
    [(fsub one fg, 0, 0, 0), (fsub fg fb, 0, 1, 0), (fsub fb fr, 0, 1, 1), (fr, 1, 1, 1)]
  else [(fsub one fb, 0, 0, 0), (fsub fb fg, 0, 0, 1), (fsub fg fr, 0, 1, 1), (fr, 1, 1, 1)]

/-- Stage 15: the 3D LUT, or bypass (R174). -/
def lutStage (entries : Option (List Nat)) (p : Rgb) : Rgb :=
  match entries with
  | none => p
  | some l =>
    let pos := fun c => fmul ⟨64, 1⟩ (p.ch c)
    let cell := fun c => Min.min (pos c).floor.toNat 63
    let frac := fun c => fsub (pos c) (.ofInt (cell c))
    let ws := tetrahedron (frac 0) (frac 1) (frac 2)
    rgb fun c => fsum (ws.map fun w =>
      fmul w.1 (lutValue l (cell 0 + w.2.1) (cell 1 + w.2.2.1) (cell 2 + w.2.2.2) c))

/-- Curve entry `i` of channel `c`: loaded, or i / 4,096 (R175, R183). -/
def curveEntry (g : Grade) (c i : Nat) : Q :=
  match g.curve with
  | some l => f32 (l.getD (4097 * c + i) 0).toNat
  | none => ⟨i, 4096⟩

/-- Stage 16: the output curve (R175). -/
def curve (g : Grade) (c : Nat) (r : Q) : Q :=
  let t := fmul ⟨4096, 1⟩ (Q.clamp zero one r)
  let i := Min.min t.floor.toNat 4095
  let a := curveEntry g c i
  fadd a (fmul (fsub t (.ofInt i)) (fsub (curveEntry g c (i + 1)) a))

/-! ## Stage 17: encoding (R176, R177) -/

/-- PQ (R176 code 1). -/
def pq (l : Q) : Q :=
  let y := Q.clamp zero one (fdiv l ⟨10000, 1⟩)
  let ym := rnd (powq y ⟨2610, 16384⟩)
  let n := fadd ⟨3424, 4096⟩ (fmul ⟨2413, 128⟩ ym)
  let d := fadd one (fmul ⟨2392, 128⟩ ym)
  rnd (powq (fdiv n d) ⟨2523, 32⟩)

/-- HLG (R176 code 2). -/
def hlg (l : Q) : Q :=
  let e := Q.clamp zero one l
  if Q.le e ⟨1, 12⟩ then fsqrt (fmul ⟨3, 1⟩ e)
  else
    let a := rnd ⟨17883277, 100000000⟩
    let b := rnd ⟨28466892, 100000000⟩
    let c := rnd ⟨55991073, 100000000⟩
    fadd (fmul a (rnd ((log2q (fsub (fmul ⟨12, 1⟩ e) b)).mul ln2))) c

/-- BT.1886 (R176 code 3). -/
def bt1886 (g : Grade) (l : Q) : Q :=
  let inv : Q := ⟨10, 24⟩
  let w := rnd (powq (f32 g.lw.toNat) inv)
  let b := rnd (powq (f32 g.lb.toNat) inv)
  let a := rnd (powq (fsub w b) ⟨24, 10⟩)
  fsub (rnd (powq (fdiv (Q.max l zero) a) inv)) (fdiv b (fsub w b))

/-- Stage 17: the 16-bit code of E′, or the binary16 pattern under encoding 4 (R176). -/
def encode17 (g : Grade) (l : Q) : Nat :=
  if g.encoding = 4 then toHalf l
  else
    let e := if g.encoding = 1 then pq l else if g.encoding = 2 then hlg l else if g.encoding = 3 then bt1886 g l
      else if g.encoding = 5 then suzarLog l else l
    (fmul ⟨65535, 1⟩ (Q.clamp zero one e)).round.toNat

/-- The exact value of a stage-17 code. -/
def codeExact (g : Grade) (c : Nat) : Q := if g.encoding = 4 then half c else ⟨c, 65535⟩

/-- The value of a stage-17 code as binary32 (R172, R179). -/
def codeValue (g : Grade) (c : Nat) : Q := rnd (codeExact g c)

/-- Stages 13 to 17 of a developed value: the codes of R′, G′ and B′. -/
def gradeCodes (g : Grade) (lut : Option (List Nat)) (p : Rgb) : Nat × Nat × Nat :=
  let m := gradeMatrix g p
  let s := lutStage lut (rgb fun c => shape g c (m.ch c))
  let e := fun c => encode17 g (curve g c (s.ch c))
  (e 0, e 1, e 2)

/-! ## Stages 18 and 19: pre-decimation and scaling (R178) -/

/-- The code that the average of a box rounds to: the box's exact mean, in stage 17's format (R178, log 23). -/
def boxCode (g : Grade) (l : List Nat) : Nat :=
  if g.encoding = 4 then toHalf ((qsum (l.map half)).mul ⟨1, l.length⟩)
  else (roundAway (l.sum : Nat) l.length).toNat

/-- A plane of codes after pre-decimation, with its width and height (R178). -/
def decimate (g : Grade) (w h : Nat) (p : Array Nat) : Nat × Nat × Array Nat :=
  let wd := ceilDiv w g.dh
  let hd := ceilDiv h g.dv
  (wd, hd, ((List.range hd).flatMap fun j => (List.range wd).map fun i =>
    boxCode g ((List.range g.dv).flatMap fun a => (List.range g.dh).filterMap fun b =>
      let x := i * g.dh + b
      let y := j * g.dv + a
      if x < w ∧ y < h then p[x + w * y]? else none)).toArray)

/-- Tap `n` of phase `phi`, horizontal or vertical: loaded, or bilinear (R178, R183). -/
def scalerTap (g : Grade) (vertical : Bool) (phi n : Nat) : Int :=
  match g.scaler with
  | some l => l.getD ((if vertical then 512 else 0) + 8 * phi + n) 0
  | none => if n = 3 then 4096 - 64 * phi else if n = 4 then 64 * phi else 0

/-- Output sample `o` of an axis of `n` samples scaled to `no` (R178). -/
def scaleSample (g : Grade) (vertical : Bool) (n no : Nat) (src : Nat → Q) (o : Nat) : Q :=
  let s : Q := ⟨(2 * o + 1) * n - no, 2 * no⟩
  let i := s.floor
  let phi := ((s.sub (.ofInt i)).mul ⟨64, 1⟩).floor.toNat
  fdiv (fsum ((List.range 8).map fun t => fmul (.ofInt (scalerTap g vertical phi t)) (src (reflect n (i - 3 + t)))))
    ⟨4096, 1⟩

/-- Stages 18 and 19 of one channel's codes (R178). -/
def scaleChannel (g : Grade) (w h : Nat) (p : Array Nat) : Plane :=
  let (wd, hd, q) := decimate g w h p
  let v : Plane := q.map (codeValue g)
  let a : Plane := if g.dh = 1 ∧ g.wo = w then v
    else plane g.wo hd fun o y => scaleSample g false wd g.wo (fun x => v.at wd x y) o
  if g.dv = 1 ∧ g.ho = h then a
  else plane g.wo g.ho fun x o => scaleSample g true hd g.ho (fun y => a.at g.wo x y) o

/-! ## Stages 20 and 21: components and codes (R179) -/

/-- Kr and Kb (R179). -/
def coefficients (coeff : Nat) : Q × Q :=
  if coeff = 0 then (rnd ⟨2126, 10000⟩, rnd ⟨722, 10000⟩) else (rnd ⟨2627, 10000⟩, rnd ⟨593, 10000⟩)

/-- E′Y of R′G′B′ (R179). -/
def primeLuma (coeff : Nat) (p : Rgb) : Q :=
  let (kr, kb) := coefficients coeff
  fsum [fmul kr p.1, fmul (fsub (fsub one kr) kb) p.2.1, fmul kb p.2.2]

/-- E′Y, E′Cb and E′Cr (R179 step 1). -/
def yCbCr (coeff : Nat) (p : Rgb) : Rgb :=
  let (kr, kb) := coefficients coeff
  let y := primeLuma coeff p
  (y, fdiv (fsub p.2.2 y) (fmul ⟨2, 1⟩ (fsub one kb)), fdiv (fsub p.1 y) (fmul ⟨2, 1⟩ (fsub one kr)))

/-- The code of a component: luma or R′G′B′, or chroma (R179 step 4). -/
def quantise (g : Grade) (chroma : Bool) (e : Q) : Nat :=
  let top : Int := 2 ^ g.depth - 1
  let v := if g.full then
      (if chroma then fadd (fmul (.ofInt top) e) (.ofInt (2 ^ (g.depth - 1))) else fmul (.ofInt top) e)
    else
      fmul (if chroma then fadd (fmul ⟨224, 1⟩ e) ⟨128, 1⟩ else fadd (fmul ⟨219, 1⟩ e) ⟨16, 1⟩)
        (.ofInt (2 ^ (g.depth - 8)))
  (clampInt 0 top v.round).toNat

/-- Horizontal chroma of 4:2:2 at even column `x`: [1, 2, 1] / 4, reflected at the edges (R179 step 2). -/
def chroma422 (w : Nat) (p : Nat → Q) (x : Nat) : Q :=
  fdiv (fsum [p (reflect w ((x : Int) - 1)), fmul ⟨2, 1⟩ (p x), p (reflect w ((x : Int) + 1))]) ⟨4, 1⟩

/-- The rows of components a grade buffer holds, each with its component codes in order (R179, R180). -/
def componentRows (g : Grade) (p : Nat → Nat → Rgb) : List (List Nat) :=
  let xs := List.range g.wo
  let ys := List.range g.ho
  let even := (List.range (g.wo / 2)).map (2 * ·)
  let comp := fun x y => yCbCr g.coeff (p x y)
  let c22 := fun c x y => chroma422 g.wo (fun a => (comp a y).ch c) x
  if g.encoding = 4 then ys.map fun y => xs.flatMap fun x => (List.range 3).map fun c => toHalf ((p x y).ch c)
  else if g.chroma = 0 then
    ys.map fun y => xs.flatMap fun x => (List.range 3).map fun c => quantise g false ((p x y).ch c)
  else if g.chroma = 1 then
    ys.map fun y => xs.flatMap fun x => (List.range 3).map fun c => quantise g (c != 0) ((comp x y).ch c)
  else if g.chroma = 2 then
    ys.map fun y => even.flatMap fun x => [quantise g true (c22 1 x y), quantise g false (comp x y).1,
      quantise g true (c22 2 x y), quantise g false (comp (x + 1) y).1]
  else
    (ys.map fun y => xs.map fun x => quantise g false (comp x y).1)
      ++ (List.range (g.ho / 2)).map fun j => even.flatMap fun x => [1, 2].map fun c =>
        quantise g true (fdiv (fadd (c22 c x (2 * j)) (c22 c x (2 * j + 1))) ⟨2, 1⟩)

/-- A row of components as a bit string, least significant byte first, padded to a whole byte (R180). -/
def packRow (depth : Nat) (l : List Nat) : List Byte :=
  leBytes (ceilDiv (depth * l.length) 8) (l.zipIdx.foldl (fun n c => n + c.1 * 2 ^ (depth * c.2)) 0)

/-- A grade's picture of a frame: its stage-17 codes, row by row (R172). -/
def gradePicture (g : Grade) (lut : Option (List Nat)) (v : Developed) : Array (Nat × Nat × Nat) :=
  v.pixels.map (gradeCodes g lut)

/-- The packed bytes of a grade buffer from the stage-17 codes (R178 to R180). -/
def gradeBytes (g : Grade) (w h : Nat) (p : Array (Nat × Nat × Nat)) : List Byte :=
  let r := scaleChannel g w h (p.map fun a => a.1)
  let gr := scaleChannel g w h (p.map fun a => a.2.1)
  let b := scaleChannel g w h (p.map fun a => a.2.2)
  (componentRows g fun x y => (r.at g.wo x y, gr.at g.wo x y, b.at g.wo x y)).flatMap (packRow g.depth)

/-! ## LUT slots (R182) -/

/-- The load number of a slot when it holds a LUT. -/
def lutLoadOf (s : State) (r : RegionId) (slot : Fin 16) : Option Nat :=
  let x := s.luts[r][slot]
  if x.state = .ready then some x.load else none

/-- The slot holds one LUT, of one load number, in every region of the list (R182). -/
def lutCommon (s : State) (rs : List RegionId) (slot : Fin 16) : Bool :=
  rs.all fun r => (lutLoadOf s r slot).isSome && (match rs.head? with
    | some q => lutLoadOf s q slot == lutLoadOf s r slot
    | none => true)

/-- The LUT slots that a bank's grades select. -/
def slotsOf (b : Bank) : List (Fin 16) := b.grades.toList.filterMap fun g => g.lut

/-- A bank selects a slot of a region: some grade names it and the bank is placed there (R182, log 25). -/
def selectsLut (b : Bank) (r : RegionId) (slot : Fin 16) : Bool := (slotsOf b).contains slot && (regionsOf b).contains r

/-- The slot an armed or held change selects, for its context. -/
def changeSlot : Change → Option (CtxId × Fin 16)
  | .grade c _ v => v.lut.map fun n => (c, n)
  | _ => none

/-- A slot is SELECTED: it holds a LUT, and a live, armed, held or shadow bank of a context that is not FREE selects it
(R182). -/
def lutSelected (s : State) (r : RegionId) (slot : Fin 16) : Bool :=
  let p := projected s
  s.luts[r][slot].state == .ready && ((allCtx.any fun c => p.contexts[c].state != .free &&
      (selectsLut s.contexts[c].live r slot || selectsLut p.contexts[c].live r slot))
    || ((s.cmd.armed.map Armed.change ++ heldChanges s).any fun x => match changeSlot x with
      | some (c, n) => n == slot && (regionsOf p.contexts[c].live).contains r
      | none => false))

/-- The slot's state as GRD_GET_STATUS reports it. -/
def lutCode (s : State) (r : RegionId) (slot : Fin 16) : Nat :=
  match s.luts[r][slot].state with
  | .loading => 1
  | .free => 0
  | .ready => if lutSelected s r slot then 3 else 2

/-- The LUT a grade of a bank reads (R174): the slot of its home region. -/
def lutEntries (s : State) (b : Bank) (g : Grade) : Option (List Nat) :=
  match g.lut, homeRegion b with
  | some n, some r => some s.luts[r][n].entries
  | _, _ => none

/-- The enabled grades of the bank that lack their LUT in some region that develops the context (R182). -/
def gradesLacking (s : State) (b : Bank) : BitVec 4 :=
  BitVec.ofNat 4 (maskOf 4 fun i => match b.grades.toList[i]? with
    | some g => g.on && (match g.lut with | some n => !lutCommon s (regionsOf b) n | none => false)
    | none => false)

/-- The checks of a bank that becomes live at hinge `h`: GRD_GRADE_BYPASSED and GRD_DEMOSAIC_FALLBACK, once each
(R163, R182, R184). -/
def checkGrades (c : CtxId) (h : Nat) (s : State) : State :=
  let b := s.contexts[c].live
  let lacking := gradesLacking s b
  let frame := firstFrameAt s c h
  let f := BitVec.ofNat 48 frame
  let t := modCtx c (fun x => { x with gradesBypassed := lacking, fallback := fallsBack b }) s
  let t := forEach ([0, 1, 2, 3].filter fun i => lacking.getLsbD i)
    (fun i => post 0x0580 (some c) f (i + 2 ^ 8 * (match b.grades.toList[i]? with
      | some g => (match g.lut with | some n => n.val | none => 0)
      | none => 0) + 2 ^ 16 * frame)) t
  when (fallsBack b) (post 0x0581 (some c) f (2 ^ 16 * frame)) t

end Sys2Proof.Machine
end

