-- ==== Sys2Proof/Machine/Stats.lean ====
section
/-!
DEFINITION. Stats: the statistics engines (08 R185 to R189), the record and its bytes (R190), the ring, the host
copy (R192, R193), and the STAT_ commands.
-/

namespace Sys2Proof.Machine

/-! ## Taps (R185, R186) -/

/-- What a tap offers at a position. -/
structure Tap where
  /-- periods of its geometry -/
  pw : Nat
  ph : Nat
  /-- values of R, G and B, none where the sample has another channel -/
  value : Nat → Nat → List (Option Q)
  luma : Nat → Nat → Q
  valid : Nat → Nat → Bool
  /-- the focus figure is taken here -/
  focus : Nat → Nat → Bool

/-- Tap `n` of a frame; `pics` holds the stage-17 codes of the grades produced (R185). -/
def tapOf (n : Nat) (c : Scene) (v : Developed) (pics : List (Option (Array (Nat × Nat × Nat)))) (focus : Nat) : Tap :=
  let w := c.bank.source.w
  if n = 0 then
    { pw := c.bank.front.pw, ph := c.bank.front.ph
      value := fun x y => (List.range 3).map fun i => if c.channel x y = i then some (c.S x y) else none
      luma := fun x y => c.S x y
      valid := fun x y => (c.at x y).valid
      focus := fun x y => c.channel x y == focus }
  else
    let px := fun x y : Nat =>
      if n = 1 then v.pixels.getD (x + w * y) (zero, zero, zero)
      else match c.bank.grades.toList[n - 2]?, pics.getD (n - 2) none with
        | some g, some p => let a := p.getD (x + w * y) (0, 0, 0)
                            (codeValue g a.1, codeValue g a.2.1, codeValue g a.2.2)
        | _, _ => (zero, zero, zero)
    { pw := 1, ph := 1
      value := fun x y => (List.range 3).map fun i => some ((px x y).ch i)
      luma := fun x y => if n = 1 then lumaOf c.bank.develop (px x y)
        else match c.bank.grades.toList[n - 2]? with
          | some g => primeLuma g.coeff (px x y)
          | none => zero
      valid := fun x y => v.valid.getD (x + w * y) false
      focus := fun _ _ => true }

/-- The tap is one the frame has: a grade tap needs its grade enabled and not bypassed (R186). -/
def tapPresent (n : Nat) (b : Bank) (lacking : BitVec 4) : Bool :=
  n < 2 || (match b.grades.toList[n - 2]? with | some g => g.on && !lacking.getLsbD (n - 2) | none => false)

/-! ## Histogram (R187) -/

/-- The bin of a value (R187). -/
def binOf (k : StatCfg) (x : Q) : Nat :=
  let lo := f32 k.lo.toNat
  let hi := f32 k.hi.toNat
  if k.log2 then
    if x.n ≤ 0 then 0
    else
      let l := rnd (log2q lo)
      (clampInt 0 1023 (fdiv (fmul ⟨1024, 1⟩ (fsub (rnd (log2q x)) l)) (fsub (rnd (log2q hi)) l)).floor).toNat
  else (clampInt 0 1023 (fdiv (fmul ⟨1024, 1⟩ (fsub x lo)) (fsub hi lo)).floor).toNat

/-- One more in bin `i`. -/
def addBin (a : Array Nat) (i : Nat) : Array Nat := a.modify i (· + 1)

/-- The four channels of 1,024 bins (R187). -/
def histogram (k : StatCfg) (t : Tap) (cells : List (Nat × Nat)) : List Nat :=
  (cells.foldl (fun a p =>
    if t.valid p.1 p.2 then
      let a := (t.value p.1 p.2).zipIdx.foldl (fun a v => match v.1 with
        | some q => addBin a (1024 * v.2 + binOf k q)
        | none => a) a
      addBin a (3072 + binOf k (t.luma p.1 p.2))
    else a) (Array.replicate 4096 0)).toList

/-! ## Zones (R188, R189) -/

/-- Boundary `i` of `n` zones over `size` positions from `start`, of period `p` (R188). -/
def zoneEdge (start size p n i : Nat) : Nat := if i = n then start + size else start + p * (i * (size / p) / n)

/-- A contribution to a zone sum (R189). -/
def zoneTerm (x : Q) : Int := clampInt (-8388607) 8388607 (x.mul ⟨4096, 1⟩).round

/-- The focus term of a position (R189): 0 where a neighbour is invalid. -/
def focusTerm (k : StatCfg) (t : Tap) (w x y : Nat) : Nat :=
  let l := reflect w ((x : Int) - t.pw)
  let r := reflect w ((x : Int) + t.pw)
  if !t.focus x y || !t.valid l y || !t.valid r y then 0
  else
    let e := (fsub (fsub (fmul ⟨2, 1⟩ (t.luma x y)) (t.luma l y)) (t.luma r y)).abs
    let d := Q.max (fsub e (f32 k.coring.toNat)) zero
    Min.min (fmul (fmul ⟨256, 1⟩ (f32 k.gain.toNat)) d).round.toNat 255

/-- A position is clipped: some R, G or B value, or at tap 0 its own value, reaches the threshold (R189, log 27). -/
def clippedAt (k : StatCfg) (tap : Nat) (t : Tap) (x y : Nat) : Bool :=
  let c := f32 k.clip.toNat
  if tap = 0 then Q.le c (t.luma x y) else (t.value x y).any fun v => match v with | some q => Q.le c q | none => false

/-- One zone over its positions (R189). -/
def zoneEntry (k : StatCfg) (t : Tap) (w : Nat) (cells : List (Nat × Nat)) : Zone :=
  let ok := cells.filter fun p => t.valid p.1 p.2
  let vals := fun i : Nat => ok.filterMap fun p => (t.value p.1 p.2).getD i none
  let sum := fun i : Nat => ((vals i).map zoneTerm).sum
  { sums := (sum 0, sum 1, sum 2)
    valid := ((vals 0).length, (vals 1).length, (vals 2).length)
    clipped := countOf ok fun p => clippedAt k k.zoneTap t p.1 p.2
    focus := (ok.map fun p => focusTerm k t w p.1 p.2).sum }

/-- Every zone, row by row of the grid (R188, R190). -/
def zoneGrid (k : StatCfg) (t : Tap) (w : Nat) : List Zone :=
  (List.range k.zy).flatMap fun j => (List.range k.zx).map fun i =>
    let x0 := zoneEdge k.x0 k.w t.pw k.zx i
    let x1 := zoneEdge k.x0 k.w t.pw k.zx (i + 1)
    let y0 := zoneEdge k.y0 k.h t.ph k.zy j
    let y1 := zoneEdge k.y0 k.h t.ph k.zy (j + 1)
    zoneEntry k t w ((List.range (y1 - y0)).flatMap fun b => (List.range (x1 - x0)).map fun a => (x0 + a, y0 + b))

/-- The window lies inside the configured frame (R188). -/
def windowInside (b : Bank) : Bool := b.stat.x0 + b.stat.w ≤ b.source.w && b.stat.y0 + b.stat.h ≤ b.source.h

/-! ## The record (R190) -/

/-- The sections of a record, histogram and zones, and its flags beside them. -/
def sections (b : Bank) (lacking : BitVec 4) : Bool × Bool :=
  (b.stat.hist && tapPresent b.stat.histTap b lacking,
   b.stat.zones && tapPresent b.stat.zoneTap b lacking && windowInside b)

/-- A frame is a worker's partial: the worker develops a band of a split context (R194). -/
def isPartial (s : State) (b : Bank) : Bool := isWorker s && b.split.isSome

/-- The statistics record of a developed frame (R185 to R190), of the package's rows alone in a split context (R194). -/
def statRecord (s : State) (ctx : CtxId) (f : Frame) (c : Scene) (v : Developed)
    (pics : List (Option (Array (Nat × Nat × Nat)))) (lacking : BitVec 4) : StatRecord :=
  let k := f.bank.stat
  let (hist, zones) := sections f.bank lacking
  let cells := (positions f.bank).filter fun a => ownRow s f.bank a.2
  let tap := fun n =>
    let t := tapOf n c v pics k.focus
    { t with valid := fun x y => ownRow s f.bank y && t.valid x y }
  let counted := tap (if zones then k.zoneTap else k.histTap)
  let counts := tapPresent (if zones then k.zoneTap else k.histTap) f.bank lacking
  let valid := if counts then countOf cells fun p => counted.valid p.1 p.2 else 0
  { ctx := ctx, marks := f.marks
    flags := BitVec.ofNat 16 (bit hist + 2 * bit zones + 16 * bit (isPartial s f.bank))
    frame := BitVec.ofNat 48 f.number, tick := BitVec.ofNat 64 f.tick, cfg := k, regions := f.bank.regions
    workers := ownWorkerMask s, valid := valid, invalid := if counts then cells.length - valid else 0
    bins := if hist then histogram k (tap k.histTap) cells else []
    zones := if zones then zoneGrid k (tap k.zoneTap) f.bank.source.w else []
    host := f.bank.statHost, free := s.free }

/-- The length of a record (R190). -/
def StatRecord.length (r : StatRecord) : Nat :=
  if !r.zones.isEmpty then 16448 + 40 * r.zones.length else if !r.bins.isEmpty then 16448 else 64

/-- Bytes with no value given, from counter `n` on (R190, log 16). -/
def freeBytes (n size : Nat) : List Byte := (List.range size).map fun i => BitVec.ofNat 8 (Config.freeValue (n + i))

/-- A zone entry's 40 bytes (R190). -/
def Zone.bytes (z : Zone) : List Byte :=
  leInt 6 z.sums.1 ++ leInt 6 z.sums.2.1 ++ leInt 6 z.sums.2.2 ++ leBytes 4 z.valid.1 ++ leBytes 4 z.valid.2.1
    ++ leBytes 4 z.valid.2.2 ++ leBytes 4 z.clipped ++ leBytes 4 z.focus ++ leBytes 2 0

/-- The record's bytes with its CRC field as given (R190). -/
def StatRecord.body (r : StatRecord) (crc : Nat) : List Byte :=
  let k := r.cfg
  image 64 [put 0 2 1, put 2 1 r.ctx.val, put 3 1 (regime r.marks r.frame), put 4 2 r.marks.toNat,
      put 6 2 r.flags.toNat, put 8 6 r.frame.toNat, put 16 8 r.tick.toNat, put 24 1 k.histTap, put 25 1 k.zoneTap,
      put 26 1 (bit k.log2), put 27 1 k.zx, put 28 1 k.zy, put 29 1 r.regions.toNat, put 30 1 r.workers.toNat,
      put 32 4 r.valid, put 36 4 r.invalid, put 40 4 k.lo.toNat, put 44 4 k.hi.toNat, put 48 4 r.length, put 52 4 crc]
    ++ (if !r.bins.isEmpty then r.bins.flatMap (leBytes 4) else if !r.zones.isEmpty then freeBytes r.free 16384 else [])
    ++ r.zones.flatMap Zone.bytes

/-- The record's bytes (R190): the CRC covers them with its own field zero. -/
def StatRecord.bytes (r : StatRecord) : List Byte := r.body (crc32c (r.body 0)).toNat

/-! ## The ring and the host copy (R192, R193) -/

/-- The ring slot of a frame number (R192). -/
def ringSlot (frame : BitVec 48) : Nat := frame.toNat % 16

/-- The host address of a record's slot (R193). -/
def hostSlot (addr : BitVec 64) (frame : BitVec 48) : Nat := addr.toNat + 147456 * ringSlot frame

/-- Development of a frame starts: version 0 in its slot of the ring and of the host ring (R192 step 1, R193). -/
def rewriteSlot (c : CtxId) (f : Frame) (s : State) : State :=
  let n := ringSlot (BitVec.ofNat 48 f.number)
  let t := modCtx c (fun x => { x with
    records := x.records.filter fun r => ringSlot r.frame != n
    rewriting := if x.rewriting.contains n then x.rewriting else x.rewriting ++ [n] }) s
  match f.bank.statHost with
  | none => t
  | some a => if t.hostUp then writeHost (hostSlot a (BitVec.ofNat 48 f.number)) [0, 0] t else hostFailed t

/-- The host copy of a record: posted, or, when host memory cannot be reached, still due (R193, R409). -/
def postCopy (c : CtxId) (r : StatRecord) (s : State) : State :=
  match r.host with
  | none => s
  | some a =>
    if s.hostUp then writeHost (hostSlot a r.frame) r.bytes s
    else hostFailed (modCtx c (fun x => { x with hostDue := x.hostDue ++ [r] }) s)

/-- A record becomes live (R192 step 4): a drop record's copy is posted here (R131). -/
def recordLive (c : CtxId) (r : StatRecord) (s : State) : State :=
  let n := ringSlot r.frame
  let t := modCtx c (fun x => { x with
    records := (x.records.filter fun q => ringSlot q.frame != n) ++ [r]
    rewriting := x.rewriting.filter (· != n)
    lastLive := some r.frame }) s
  if r.flags.getLsbD 2 then postCopy c r t else t

/-- STAT_HOST_LATE: the oldest copy that was not posted by its step is posted, counted and reported (R193, R196). -/
def statHostLate (c : CtxId) (s : State) : State :=
  match s.contexts[c].hostDue with
  | [] => s
  | r :: rest =>
    match r.host with
    | none => modCtx c (fun x => { x with hostDue := rest }) s
    | some a =>
      if !s.hostUp then hostFailed s
      else
        let n := Min.min (s.contexts[c].hostLate + 1) 0xFFFF
        let t := writeHost (hostSlot a r.frame) r.bytes s
        let t := modCtx c (fun x => { x with hostDue := rest, hostLate := n }) t
        post 0x0680 (some c) r.frame (r.frame.toNat + 2 ^ 48 * n) t

/-! ## Commands (R195) -/

/-- The window fields hold a window of R188 for the grid and the CFA. -/
def windowOk (e : Entry) (s : State) : Bool :=
  let b := shadow s (argCtx e)
  let zx := arg e 5 1
  let zy := arg e 6 1
  let w := arg e 32 2
  let h := arg e 34 2
  16 * zx ≤ w && 16 * zy ≤ h && ceilDiv w zx * ceilDiv h zy ≤ 2 ^ 24 &&
    (arg e 3 1 != 0 || (arg e 28 2 % b.front.pw == 0 && w % b.front.pw == 0 &&
      arg e 30 2 % b.front.ph == 0 && h % b.front.ph == 0))

/-- A finite binary32 pattern above another's value. -/
def f32above (lo v : Nat) : Bool := f32finite v && decide (f32int lo < f32int v)

/-- STAT_SET_CONFIG, 0x0601. -/
def statSetConfigSpec : Spec where
  opcode := 0x0601
  len := .exact 40
  bank := true
  fields := fun e s =>
    let single := arg e 30 2 ≤ 65534 && 16 ≤ arg e 32 2 && arg e 32 2 ≤ 65532 && 16 ≤ arg e 34 2
    [ctxField, range 1 1 0 3, range 2 1 0 5, range 3 1 0 5, range 4 1 0 1, range 5 1 1 64, range 6 1 1 48, range 7 1 0 7,
     ⟨8, 4, fun v => f32finite v && (arg e 4 1 != 1 || decide (0 < f32int v))⟩,
     ⟨12, 4, f32above (arg e 8 4)⟩, ⟨16, 4, f32finite⟩, ⟨20, 4, f32between 0x37800000 0x43800000⟩,
     ⟨24, 4, f32between 0 0x43800000⟩, ⟨28, 2, fun v => v ≤ 65531 && (!single || windowOk e s)⟩, range 30 2 0 65534,
     range 32 2 16 65532, range 34 2 16 65535, rsv 36 4]
  states := fun e s => freeFail s (argCtx e)
  tumbler := fun e s => budgetFail s [.stat (argCtx e) (ofEntry e)]
  touches := fun e _ => [argCtx e]
  effect := fun e s => .arm s [.stat (argCtx e) (ofEntry e)] (some (argCtx e)) 0
where
  /-- The configuration a payload spells. -/
  ofEntry (e : Entry) : StatCfg :=
    { hist := (arg e 1 1).testBit 0, zones := (arg e 1 1).testBit 1, histTap := arg e 2 1, zoneTap := arg e 3 1,
      log2 := arg e 4 1 == 1, zx := arg e 5 1, zy := arg e 6 1, focus := arg e 7 1, lo := BitVec.ofNat 32 (arg e 8 4),
      hi := BitVec.ofNat 32 (arg e 12 4), clip := BitVec.ofNat 32 (arg e 16 4), gain := BitVec.ofNat 32 (arg e 20 4),
      coring := BitVec.ofNat 32 (arg e 24 4), x0 := arg e 28 2, y0 := arg e 30 2, w := arg e 32 2, h := arg e 34 2 }

/-- STAT_SET_TARGET, 0x0602. -/
def statSetTargetSpec : Spec where
  opcode := 0x0602
  len := .exact 16
  bank := true
  fields := fun e _ => [ctxField, range 1 1 0 1, rsv 2 6,
    ⟨8, 8, fun v => if arg e 1 1 = 1 then v % 4096 == 0 else v == 0⟩]
  states := fun e s => freeFail s (argCtx e)
  tumbler := fun e s => budgetFail s [.statHost (argCtx e) (addrOf e)]
  touches := fun e _ => [argCtx e]
  effect := fun e s => .arm s [.statHost (argCtx e) (addrOf e)] (some (argCtx e)) 0
where
  /-- The host ring the payload names. -/
  addrOf (e : Entry) : Option (BitVec 64) := if arg e 1 1 = 1 then some (BitVec.ofNat 64 (arg e 8 8)) else none

/-- The live record of a context that a frame field names: all ones names the newest. -/
def recordNamed (x : Context) (frame : Nat) : Option StatRecord :=
  if frame = 2 ^ 48 - 1 then x.records.getLast? else x.records.find? fun r => r.frame.toNat == frame

/-- STAT_READ_RECORD, 0x0603. -/
def statReadRecordSpec : Spec where
  opcode := 0x0603
  len := .exact 147456
  noInline := true
  deadbolt := true
  fields := fun _ _ => [ctxField, rsv 1 1]
  states := fun e s =>
    let x := s.contexts[argCtx e]
    if (recordNamed x (arg e 2 6)).isSome then none
    else match x.records.head? with
      | some r => some (wrong r.frame.toNat)
      | none => some (wrong (Config.openDetail 0x0603 0x8004))
  effect := fun e s =>
    match recordNamed s.contexts[argCtx e] (arg e 2 6) with
    | some r => .reply s { detail := r.length, ctx := ctxByte (some (argCtx e)), back := some (0, r.bytes) }
    | none => .reply s {}

/-- STAT_SET_CONFIG. -/
def execStatSetConfig (e : Entry) (s : State) : Host.Outcome State Fault Refusal := .next (runCommand statSetConfigSpec e s)
/-- STAT_SET_TARGET. -/
def execStatSetTarget (e : Entry) (s : State) : Host.Outcome State Fault Refusal := .next (runCommand statSetTargetSpec e s)
/-- STAT_READ_RECORD. -/
def execStatReadRecord (e : Entry) (s : State) : Host.Outcome State Fault Refusal :=
  .next (runCommand statReadRecordSpec e s)
/-- STAT_HOST_LATE. -/
def execStatHostLate (c : CtxId) (s : State) : Host.Outcome State Fault Refusal := .next (statHostLate c s)

end Sys2Proof.Machine
end

