-- ==== Sys2Proof/Machine/Grd.lean ====
section
/-!
DEFINITION. Grd: the GRD_ commands (07 R182 to R184) and the end of a LUT load.
-/

namespace Sys2Proof.Machine

/-- The grade field at offset 1. -/
def argGrade (e : Entry) : GradeId := ⟨arg e 1 1 % 4, Nat.mod_lt _ (by decide)⟩

/-- A word of the payload. -/
def argWord (e : Entry) (off : Nat) : BitVec 32 := BitVec.ofNat 32 (arg e off 4)

/-- The grade field of R183. -/
def gradeField : Field := range 1 1 0 3

/-- GRD_SET_DEVELOP, 0x0501. -/
def grdSetDevelopSpec : Spec where
  opcode := 0x0501
  len := .exact 96
  noInline := true
  bank := true
  fields := fun _ _ => [ctxField, range 1 1 0 1, range 2 2 128 256] ++
    (List.range 4).map (fun j => ⟨4 + j, 1, fun v => v ≤ 7 || v == 0xFF⟩) ++
    (List.range 12).map (fun i => ⟨8 + 4 * i, 4, f32mag256⟩) ++
    (List.range 3).map (fun i => ⟨56 + 4 * i, 4, f32between 0 0x43800000⟩) ++
    [⟨68, 4, f32between 0x37800000 0x43800000⟩] ++
    (List.range 3).map (fun i => ⟨72 + 4 * i, 4, f32between 0 0x3F800000⟩) ++ [range 84 1 0 3, rsv 85 11]
  states := fun e s => freeFail s (argCtx e)
  touches := fun e _ => [argCtx e]
  effect := fun e s =>
    let w := argWord e
    .arm s [.develop (argCtx e) {
      method := arg e 1 1, tau := arg e 2 2, map := #v[arg e 4 1, arg e 5 1, arg e 6 1, arg e 7 1],
      matrix := #v[w 8, w 12, w 16, w 20, w 24, w 28, w 32, w 36, w 40, w 44, w 48, w 52],
      wb := #v[w 56, w 60, w 64], exposure := w 68, luma := #v[w 72, w 76, w 80], space := arg e 84 1 }]
      (some (argCtx e)) 0

/-- The noise parameters a GRD_SET_NOISE payload spells. -/
def noiseOf (e : Entry) : Noise :=
  let w := argWord e
  { spatial := arg e 1 1 == 1, strength := arg e 2 2, temporal := arg e 4 1 == 1, d := arg e 5 1,
    n0 := #v[w 8, w 16, w 24, w 32], n1 := #v[w 12, w 20, w 28, w 36],
    kernel := #v[arg e 40 2, arg e 42 2, arg e 44 2, arg e 46 2, arg e 48 2],
    ts := Vector.ofFn fun i : Fin 64 => arg e (56 + i.val) 1, tt := Vector.ofFn fun i : Fin 64 => arg e (120 + i.val) 1 }

/-- The change a GRD_SET_NOISE arms: with temporal noise reduction on, a core analyses the context (R295). -/
def noiseChange (e : Entry) (s : State) : Change :=
  let c := argCtx e
  .noise c (noiseOf e) (if (noiseOf e).temporal then analysisCoreFor s c (noiseOf e) else none)

/-- GRD_SET_NOISE, 0x0502. -/
def grdSetNoiseSpec : Spec where
  opcode := 0x0502
  len := .exact 184
  noInline := true
  bank := true
  fields := fun _ _ => [ctxField, range 1 1 0 1, range 2 2 0 256, range 4 1 0 1, oneOf 5 1 [1, 2, 4], rsv 6 2] ++
    (List.range 8).map (fun i => ⟨8 + 4 * i, 4, f32between 0 0x53800000⟩) ++
    (List.range 5).map (fun i => range (40 + 2 * i) 2 0 256) ++ [rsv 50 6]
  states := fun e s => freeFail s (argCtx e)
  tumbler := fun e s => budgetFail s [noiseChange e s]
  touches := fun e _ => [argCtx e]
  effect := fun e s =>
    .arm s [noiseChange e s] (some (argCtx e)) (temporalBytes (shadow s (argCtx e)) (noiseOf e))

/-- The grade a GRD_SET_GRADE payload spells; tables stay as they are. -/
def gradeOf (e : Entry) : Grade :=
  let w := argWord e
  { on := arg e 2 1 == 1
    lut := if arg e 3 1 = 0xFF then none else some ⟨arg e 3 1 % 16, Nat.mod_lt _ (by decide)⟩
    matrix := #v[w 4, w 8, w 12, w 16, w 20, w 24, w 28, w 32, w 36], shaperMode := arg e 40 1, encoding := arg e 41 1
    depth := arg e 42 1, chroma := arg e 43 1, coeff := arg e 44 1, full := arg e 45 1 == 1, dh := arg e 46 1
    dv := arg e 47 1, wo := arg e 48 2, ho := arg e 50 2, lo := w 52, hi := w 56, lw := w 60, lb := w 64 }

/-- The ratio of an axis lies between 0.5 and 2 (R178). -/
def ratioOk (n d no : Nat) : Bool := no ≤ 2 * ceilDiv n d && ceilDiv n d ≤ 2 * no

/-- GRD_SET_GRADE, 0x0503. -/
def grdSetGradeSpec : Spec where
  opcode := 0x0503
  len := .exact 72
  bank := true
  fields := fun e s =>
    let b := shadow s (argCtx e)
    let free := shadowState s (argCtx e) == .free
    [ctxField, gradeField, range 2 1 0 1, ⟨3, 1, fun v => v ≤ 15 || v == 0xFF⟩] ++
    (List.range 9).map (fun i => ⟨4 + 4 * i, 4, f32mag256⟩) ++
    [range 40 1 0 2, ⟨41, 1, fun v => v ≤ 5 && !(v == 4 && (arg e 42 1 != 16 || arg e 43 1 != 0)
        && [10, 12, 16].contains (arg e 42 1) && arg e 43 1 ≤ 3)⟩,
     oneOf 42 1 [10, 12, 16], range 43 1 0 3, range 44 1 0 1, range 45 1 0 1, oneOf 46 1 [1, 2, 4, 8],
     oneOf 47 1 [1, 2, 4, 8],
     ⟨48, 2, fun v => 16 ≤ v && v ≤ 65532 && (free || ratioOk b.source.w (arg e 46 1) v) &&
       (arg e 43 1 < 2 || v % 2 == 0)⟩,
     ⟨50, 2, fun v => 16 ≤ v && (free || ratioOk b.source.h (arg e 47 1) v) && (arg e 43 1 != 3 || v % 2 == 0)⟩,
     ⟨52, 4, fun v => f32finite v && (arg e 40 1 != 2 || decide (0 < f32int v))⟩, ⟨56, 4, f32above (arg e 52 4)⟩,
     ⟨60, 4, fun v => if arg e 41 1 = 3 then f32above (arg e 64 4) v else v == 0⟩,
     ⟨64, 4, fun v => if arg e 41 1 = 3 then f32finite v && decide (0 ≤ f32int v) else v == 0⟩, rsv 68 4]
  states := fun e s => (freeFail s (argCtx e)).or
    (match (gradeOf e).lut with
     | some n => if lutCommon s (regionsOf (shadow s (argCtx e))) n then none else some (wrong 8)
     | none => none)
  tumbler := fun e s => budgetFail s [.grade (argCtx e) (argGrade e) (gradeOf e)]
  touches := fun e _ => [argCtx e]
  effect := fun e s => .arm s [.grade (argCtx e) (argGrade e) (gradeOf e)] (some (argCtx e))
    (if (gradeOf e).on then 2 * alloc (gradeSize (gradeOf e)) else 0)

/-- GRD_LOAD_GRADE_TABLES, 0x0504. -/
def grdLoadGradeTablesSpec : Spec where
  opcode := 0x0504
  len := .exact 73748
  noInline := true
  bank := true
  fields := fun _ _ => [ctxField, gradeField, range 2 1 0 3, rsv 3 5] ++
    (List.range 12291).map fun i => ⟨24584 + 4 * i, 4, f32finite⟩
  states := fun e s => freeFail s (argCtx e)
  touches := fun e _ => [argCtx e]
  effect := fun e s => .arm s [.gradeTables (argCtx e) (argGrade e)
    (if (arg e 2 1).testBit 0 then some ((List.range 12288).map fun i => arg e (8 + 2 * i) 2) else none)
    (if (arg e 2 1).testBit 1 then some ((List.range 12291).map fun i => argWord e (24584 + 4 * i)) else none)]
    (some (argCtx e)) 0

/-- GRD_LOAD_SCALER, 0x0505. -/
def grdLoadScalerSpec : Spec where
  opcode := 0x0505
  len := .exact 2056
  noInline := true
  bank := true
  fields := fun e _ => [ctxField, gradeField, rsv 2 6] ++ (List.range 128).map fun i =>
    ⟨8 + 16 * i, 2, fun _ => ((List.range 8).map fun n => signed 16 (arg e (8 + 16 * i + 2 * n) 2)).sum == 4096⟩
  states := fun e s => freeFail s (argCtx e)
  touches := fun e _ => [argCtx e]
  effect := fun e s => .arm s [.scaler (argCtx e) (argGrade e)
    ((List.range 1024).map fun i => signed 16 (arg e (8 + 2 * i) 2))] (some (argCtx e)) 0

/-! ## LUT slots (R182) -/

/-- The regions of a mask at offset 0. -/
def maskRegions (e : Entry) : List RegionId := allRegions.filter fun r => (arg e 0 1).testBit r.val

/-- The LUT slot at offset 1. -/
def argSlot (e : Entry) : Fin 16 := ⟨arg e 1 1 % 16, Nat.mod_lt _ (by decide)⟩

/-- A slot of every region of a list changed. -/
def modLuts (rs : List RegionId) (slot : Fin 16) (f : LutSlot → LutSlot) (s : State) : State :=
  forEach rs (fun r t => { t with luts := t.luts.set r (t.luts[r].set slot (f t.luts[r][slot])) }) s

/-- Why a slot may not be written: SELECTED, then LOADING (R182). -/
def lutBusy (e : Entry) (s : State) : Option Fail :=
  firstFail [((maskRegions e).any fun r => lutSelected s r (argSlot e), wrong 9),
    ((maskRegions e).any fun r => s.luts[r][argSlot e].state == .loading,
      ⟨.busyRetry, Config.openDetail (0x0500 + if e.len.toNat = 8 then 7 else 6) 0x8005⟩)]

/-- GRD_LOAD_LUT, 0x0506. -/
def grdLoadLutSpec : Spec where
  opcode := 0x0506
  len := .exact 1647766
  hostOnly := true
  isBackground := true
  fields := fun _ _ => [range 0 1 1 15, range 1 1 0 15, rsv 2 14]
  states := fun e s => (lutBusy e s).or
    (if (maskRegions e).all fun r => s.power.domains[regionDomain r] == .on then none else some (wrong 5))
  effect := fun e s =>
    let n := s.lutCount % 2 ^ 32 + 1
    let t := modLuts (maskRegions e) (argSlot e) (fun x => { x with state := .loading }) s
    let load : LutLoad := ⟨e.mb, e.tag, BitVec.ofNat 4 (arg e 0 1), argSlot e, n % 2 ^ 32,
      (List.range 823875).map fun i => arg e (16 + 2 * i) 2⟩
    .background { t with lutCount := n % 2 ^ 32, lutLoads := t.lutLoads ++ [load] } none (n % 2 ^ 32)

/-- The oldest load into a slot ends: READY with its load number, or FREE (R182). -/
def lutLoadDone (slot : Fin 16) (ok : Bool) (s : State) : State :=
  match s.lutLoads.find? fun l => l.slot == slot with
  | none => s
  | some l =>
    let rs := allRegions.filter fun r => l.regions.getLsbD r.val
    let t := { s with lutLoads := s.lutLoads.erase l }
    if ok then
      endBackground l.mb 0x0506 l.tag .ok 0
        (modLuts rs slot (fun _ => { state := .ready, load := l.load, entries := l.entries }) t)
    else
      let t := modLuts rs slot (fun _ => {}) t
      if s.hostUp then endBackground l.mb 0x0506 l.tag .hwFault 0 t
      else endBackground l.mb 0x0506 l.tag .hwFault 0x5B (hostFailed t)

/-- GRD_FREE_LUT, 0x0507. -/
def grdFreeLutSpec : Spec where
  opcode := 0x0507
  len := .exact 8
  fields := fun _ _ => [range 0 1 1 15, range 1 1 0 15, rsv 2 6]
  states := lutBusy
  effect := fun e s => .reply (modLuts (maskRegions e) (argSlot e) (fun _ => {}) s) { detail := Config.openDetail 0x0507 0 }

/-- GRD_GET_STATUS, 0x0508. -/
def grdGetStatusSpec : Spec where
  opcode := 0x0508
  len := .exact 128
  noInline := true
  deadbolt := true
  fields := fun _ _ => [ctxField, rsv 1 7]
  effect := fun e s =>
    let x := s.contexts[argCtx e]
    .reply s { ctx := ctxByte (some (argCtx e)), back := some (8, image 120 ([put 0 1 x.gradesBypassed.toNat,
      put 1 1 (if x.fallback then 0 else x.live.develop.method), put 24 4 x.noReference.toNat,
      put 28 4 x.zeroVectors.toNat, put 32 4 x.front.gaps] ++
      (x.gradeSkips.toList.zipIdx.map fun g => put (8 + 4 * g.2) 4 g.1.toNat) ++
      allRegions.flatMap fun r => (List.finRange 16).map fun n => put (56 + 16 * r.val + n.val) 1 (lutCode s r n))) }

/-- GRD_SET_DEVELOP. -/
def execGrdSetDevelop (e : Entry) (s : State) : Host.Outcome State Fault Refusal := .next (runCommand grdSetDevelopSpec e s)
/-- GRD_SET_NOISE. -/
def execGrdSetNoise (e : Entry) (s : State) : Host.Outcome State Fault Refusal := .next (runCommand grdSetNoiseSpec e s)
/-- GRD_SET_GRADE. -/
def execGrdSetGrade (e : Entry) (s : State) : Host.Outcome State Fault Refusal := .next (runCommand grdSetGradeSpec e s)
/-- GRD_LOAD_GRADE_TABLES. -/
def execGrdLoadGradeTables (e : Entry) (s : State) : Host.Outcome State Fault Refusal :=
  .next (runCommand grdLoadGradeTablesSpec e s)
/-- GRD_LOAD_SCALER. -/
def execGrdLoadScaler (e : Entry) (s : State) : Host.Outcome State Fault Refusal := .next (runCommand grdLoadScalerSpec e s)
/-- GRD_LOAD_LUT. -/
def execGrdLoadLut (e : Entry) (s : State) : Host.Outcome State Fault Refusal := .next (runCommand grdLoadLutSpec e s)
/-- GRD_FREE_LUT. -/
def execGrdFreeLut (e : Entry) (s : State) : Host.Outcome State Fault Refusal := .next (runCommand grdFreeLutSpec e s)
/-- GRD_GET_STATUS. -/
def execGrdGetStatus (e : Entry) (s : State) : Host.Outcome State Fault Refusal := .next (runCommand grdGetStatusSpec e s)
/-- LUT_LOAD_DONE. -/
def execLutLoadDone (slot : Fin 16) (ok : Bool) (s : State) : Host.Outcome State Fault Refusal := .next (lutLoadDone slot ok s)

end Sys2Proof.Machine
end

