-- ==== Sys2Proof/Machine/Memory.lean ====
section
/-!
DEFINITION. Memory: the HBM memory subsystem (09): address decode, the request queue, ECC, scrub, training and
retraining, self-refresh, and the MEM_ commands.
-/

namespace Sys2Proof.Machine

/-! ## Address decode (R198, R199) -/

/-- First fabric address beyond the map (R31). -/
def mapTop : Nat := 0x2400000000

/-- Bytes of a stack (R198). -/
def stackBytes : Nat := 0x900000000

/-- Stack offset of the reserved area (R199). -/
def reservedAt : Nat := 0x8F0000000

/-- Where a fabric address lies (R198). -/
structure Loc where
  stack : StackId
  offset : Nat

/-- Pseudo-channel within the stack. -/
def Loc.pc (l : Loc) : Nat := l.offset / 1024 % 32
/-- Global pseudo-channel (R197). -/
def Loc.gpc (l : Loc) : Nat := 32 * l.stack.val + l.pc
/-- Bank index. -/
def Loc.bank (l : Loc) : Nat := l.offset / 32768 % 48
/-- Row. -/
def Loc.row (l : Loc) : Nat := l.offset / 32768 / 48
/-- Burst within the 1 KiB piece. -/
def Loc.burst (l : Loc) : Nat := l.offset / 32 % 32
/-- The row's name. -/
def Loc.rowName (l : Loc) : RowName := (l.gpc, l.bank, l.row)
/-- The physical byte. -/
def Loc.byte (l : Loc) : Nat := stackBytes * l.stack.val + l.offset

/-- The decode of an address inside the map (R198). -/
def locOf (s : State) (a : Nat) : Loc :=
  if s.mem.interleaved then ⟨⟨a / 4096 % 4, Nat.mod_lt _ (by decide)⟩, a / 16384 * 4096 + a % 4096⟩
  else ⟨⟨a / stackBytes % 4, Nat.mod_lt _ (by decide)⟩, a % stackBytes⟩

/-- The address lies in a reserved area (R199). -/
def inReserved (s : State) (a : Nat) : Bool := reservedAt ≤ (locOf s a).offset

/-- Some byte of a range lies outside the map or in a reserved area. -/
def badRange (s : State) (a n : Nat) : Bool :=
  mapTop < a + n || (List.range (n / 4096 + 2)).any fun i => inReserved s (Min.min (a + 4096 * i) (a + n - 1))

/-! ## Contents -/

/-- Memory subsystem changed by `f`. -/
def modMem (f : Mem → Mem) (s : State) : State := { s with mem := f s.mem }

/-- Stack `m` changed by `f`. -/
def modStack (m : StackId) (f : Stack → Stack) (s : State) : State :=
  modMem (fun x => { x with stks := x.stks.set m (f x.stks[m]) }) s

/-- What an unwritten byte reads: 0 from reset (log 10), a free byte once its contents became undefined (log 29). -/
def hbmBase (s : State) (l : Loc) : Byte :=
  match (if reservedAt ≤ l.offset then s.mem.undefReserved[l.stack] else s.mem.undef[l.stack]) with
  | none => 0
  | some g => Config.freeHbm g l.byte

/-- A byte of HBM. -/
def readHbm (s : State) (a : Nat) : Byte := readCell s.mem.hbm (locOf s a).byte ^^^ hbmBase s (locOf s a)

/-- `n` bytes of HBM. -/
def readHbms (s : State) (a n : Nat) : List Byte := (List.range n).map fun i => readHbm s (a + i)

/-- A byte of HBM written. -/
def writeHbm (a : Nat) (v : Byte) (s : State) : State :=
  modMem (fun x => { x with hbm := writeCell x.hbm (locOf s a).byte (v ^^^ hbmBase s (locOf s a)) }) s

/-- Bytes of HBM written. -/
def writeHbms (a : Nat) (bytes : List Byte) (s : State) : State :=
  bytes.zipIdx.foldl (fun t b => writeHbm (a + b.2) b.1 t) s

/-- The contents of stack `m` become undefined: outside its reserved area, or all of it (R405, R437). -/
def forgetStack (m : StackId) (all : Bool) (s : State) : State :=
  let lo := stackBytes * m.val
  let hi := lo + (if all then stackBytes else reservedAt)
  modMem (fun x => { x with
    hbm := x.hbm.filter fun c => c.1 < lo || hi ≤ c.1
    poison := x.poison.filter fun b => 32 * b < lo || hi ≤ 32 * b
    undef := x.undef.set m (some s.free)
    undefReserved := if all then x.undefReserved.set m (some s.free) else x.undefReserved }) { s with free := s.free + 1 }

/-! ## The error log (R207) -/

/-- An entry into the log: merged with one of the same kind and burst, or a new entry. -/
def logError (kind : Nat) (requester : Byte) (a : Nat) (syndrome : BitVec 32) (s : State) : State :=
  let l := locOf s a
  let inMap := decide (a < mapTop)
  let at_ := a / 32 * 32
  modMem (fun x =>
    if x.log.any fun e => e.kind == kind && e.addr == at_ then
      { x with log := x.log.map fun e =>
          if e.kind == kind && e.addr == at_ then { e with count := bump e.count } else e }
    else
      let e : MemLogEntry := {
        kind := kind, requester := requester, pc := if inMap && kind != 5 then l.gpc else 0xFF, addr := at_
        syndrome := syndrome, tick := s.tick.counter, row := if inMap then l.row else 0
        bank := if inMap then l.bank else 0, burst := if inMap then l.burst else 0, count := 1 }
      if x.log.length < 256 then { x with log := x.log ++ [e] }
      else { x with log := x.log.drop 1 ++ [e], lost := bump x.lost }) s

/-- The frame a context's request serves: one under development, else the oldest. -/
def servedFrame (s : State) : Option CtxId → Nat
  | none => 0
  | some c =>
    let fs := s.contexts[c].frames
    match fs.find? fun f => f.phase == .developing with
    | some f => f.number
    | none => (fs.head?.map Frame.number).getD 0

/-- The MEM_ERR mark on the frames a data-plane requester served (R205). -/
def markServed (requester : Byte) (c : Option CtxId) (s : State) : State :=
  match c with
  | none => s
  | some c =>
    let n := requester.toNat
    modCtx c (fun x => { x with
      frames := x.frames.map fun f =>
        f.markIf ((n < 0x0C && f.phase == .developing) || (0x10 ≤ n && n ≤ 0x13 && f.phase == .opened)) .memErr }) s

/-- A row becomes a repair candidate (R209, R217). -/
def makeCandidate (r : RowName) (s : State) : State :=
  if s.mem.candidates.contains r then s
  else post 0x0783 none 0 (r.1 + 2 ^ 8 * r.2.1 + 2 ^ 16 * r.2.2)
    (modMem (fun x => { x with candidates := x.candidates ++ [r] }) s)

/-- A count in a list by key, one more. -/
def bumpKey {α : Type} [DecidableEq α] (k : α) (l : List (α × Nat)) : List (α × Nat) :=
  if l.any fun x => x.1 == k then l.map fun x => if x.1 == k then (x.1, x.2 + 1) else x else l ++ [(k, 1)]

/-- A count in a list by key. -/
def countAt {α : Type} [DecidableEq α] (k : α) (l : List (α × Nat)) : Nat :=
  ((l.find? fun x => x.1 == k).map Prod.snd).getD 0

/-- The second now running. -/
def secondNow (s : State) : Nat := s.clk / 500000000

/-- A retraining pass of a pseudo-channel falls due (R213). -/
def scheduleRetrain (m : StackId) (pcs : List Nat) (s : State) : State :=
  modStack m (fun x => { x with retrain := (List.range 32).filter fun i => x.retrain.contains i || pcs.contains i }) s

/-- A corrected burst (R205, R207 to R209, R213). -/
def corrected (kind : Nat) (requester : Byte) (a : Nat) (syndrome : BitVec 32) (s : State) : State :=
  let l := locOf s a
  let now := secondNow s
  let t := modStack l.stack (fun x =>
    let second := if x.secondNo = now then x.second else []
    { x with corrected := bump x.corrected, secondNo := now, second := bumpKey l.pc second }) s
  let t := if t.mem.logged.contains (l.gpc, now) then t
    else modMem (fun x => { x with logged := (x.logged.filter fun y => y.1 != l.gpc) ++ [(l.gpc, now)] })
      (logError kind requester a syndrome t)
  let t := modMem (fun x => { x with rowCounts := bumpKey l.rowName x.rowCounts }) t
  let t := when (countAt l.pc t.mem.stks[l.stack].second == t.mem.threshold)
    (fun u => scheduleRetrain l.stack [l.pc] (raise0 (0x34 + l.stack.val) u)) t
  when (countAt l.rowName t.mem.rowCounts == t.mem.candidate) (makeCandidate l.rowName) t

/-- An uncorrectable burst (R205, R208, R209, R217). -/
def uncorrectable (kind : Nat) (requester : Byte) (a : Nat) (syndrome : BitVec 32) (c : Option CtxId) (s : State) :
    State :=
  let l := locOf s a
  let n := BitVec.ofNat 48 (servedFrame s c)
  let d := a / 32 * 32 + 2 ^ 40 * requester.toNat + 2 ^ 48 * l.gpc + 2 ^ 56 * kind
  let b := l.byte / 32
  let t := modStack l.stack (fun x => { x with uncorrectable := bump x.uncorrectable }) s
  let t := modMem (fun x => { x with poison := if x.poison.contains b then x.poison else x.poison ++ [b] }) t
  let t := raise (src (0x30 + l.stack.val)) c n (Config.faultDetail (0x30 + l.stack.val))
    (logError kind requester a syndrome t)
  makeCandidate l.rowName (post 0x0780 c n d t)

/-! ## Requests (R200 to R205) -/

/-- A request to an address outside the map or in a failed stack: an error response (R31, R212). -/
def refuseRequest (p : MemPiece) (s : State) : State :=
  let t := logError 5 p.requester p.addr 0 s
  let t := raise (src 0x3C) p.ctx (BitVec.ofNat 48 (servedFrame s p.ctx)) (Config.faultDetail 0x3C) t
  markServed p.requester p.ctx
    (emit (.memory p.requester p.addr true (if p.write then [] else List.replicate p.len 0)) t)

/-- The pieces of a request, split at every 1 KiB boundary (R201): offset and length. -/
def splitAt1K (a n : Nat) : List (Nat × Nat) :=
  (List.range ((a % 1024 + n + 1023) / 1024)).map fun i =>
    let lo := Max.max a ((a / 1024 + i) * 1024)
    (lo - a, Min.min (a + n) ((a / 1024 + i + 1) * 1024) - lo)

/-- Queued pieces of a stack. -/
def queuedAt (s : State) (m : StackId) : List MemPiece := s.mem.queue.filter fun p => (locOf s p.addr).stack == m

/-- A piece enters its stack's queue, or waits at its port while the queue is full (R204). -/
def enqueue (p : MemPiece) (s : State) : State :=
  let m := (locOf s p.addr).stack
  if (queuedAt s m).length < 4096 && !(s.mem.waiting.any fun q => (locOf s q.addr).stack == m) then
    let t := modMem (fun x => { x with queue := x.queue ++ [p] }) s
    modStack m (fun x => { x with peak := Max.max x.peak (queuedAt t m).length }) t
  else modMem (fun x => { x with waiting := x.waiting ++ [p] }) s

/-- MEM_REQUEST: a request is split and its pieces enter in address order (R201, R202). -/
def memRequest (r : MemReq) (s : State) : State :=
  (splitAt1K r.addr.toNat r.len).foldl (fun t q =>
    let p : MemPiece := { id := t.mem.nextId, requester := r.requester, write := r.write, addr := r.addr.toNat + q.1,
                          len := q.2, data := slice r.data q.1 q.2, ctx := r.ctx }
    let t := modMem (fun x => { x with nextId := x.nextId + 1 }) t
    if mapTop ≤ p.addr || t.mem.stks[(locOf t p.addr).stack].failed then refuseRequest p t else enqueue p t) s

/-- Two pieces touch a common 32-byte burst (R202). -/
def overlaps (p q : MemPiece) : Bool :=
  p.len != 0 && q.len != 0 && p.addr / 32 ≤ (q.addr + q.len - 1) / 32 && q.addr / 32 ≤ (p.addr + p.len - 1) / 32

/-- A piece must wait for an earlier queued one (R202). -/
def blocked (s : State) (p : MemPiece) : Bool :=
  (s.mem.queue.takeWhile fun q => q.id != p.id).any fun q => overlaps p q && (p.write || q.write)

/-- The piece leaves the queue and a waiting piece of its stack enters (R204). -/
def dequeue (p : MemPiece) (s : State) : State :=
  let m := (locOf s p.addr).stack
  let t := modMem (fun x => { x with queue := x.queue.filter fun q => q.id != p.id }) s
  match t.mem.waiting.find? fun q => (locOf t q.addr).stack == m with
  | none => t
  | some q =>
    let t := modMem (fun x => { x with waiting := x.waiting.filter fun y => y.id != q.id, queue := x.queue ++ [q] }) t
    modStack m (fun x => { x with peak := Max.max x.peak (queuedAt t m).length }) t

/-- The bursts of a piece, by address. -/
def burstsOf (p : MemPiece) : List Nat :=
  (List.range ((p.addr + p.len + 31) / 32 - p.addr / 32)).map fun i => (p.addr / 32 + i) * 32

/-- Whether a write covers the burst whole (R201). -/
def coversBurst (p : MemPiece) (b : Nat) : Bool := p.addr ≤ b && b + 32 ≤ p.addr + p.len

/-- The burst of the piece that ECC cannot correct: one found now, or the first still poisoned; for a write only the
bursts it reads (R201, R205). -/
def badBurst (s : State) (p : MemPiece) (ecc : EccOutcome) : Option (Nat × BitVec 32) :=
  let read := (burstsOf p).filter fun b => !p.write || !coversBurst p b
  match ecc with
  | .uncorrectable n y => if read.isEmpty then none else some (read.getD (n % read.length) 0, y)
  | _ => (read.find? fun b => s.mem.poison.contains ((locOf s b).byte / 32)).map fun b => (b, 0)

/-- The data of a read, poisoned bursts as zeros (R205). -/
def readData (s : State) (p : MemPiece) : List Byte :=
  (List.range p.len).map fun i =>
    if s.mem.poison.contains ((locOf s (p.addr + i)).byte / 32) then 0 else readHbm s (p.addr + i)

/-- An unblocked piece is issued (R201, R205). -/
def issuePiece (p : MemPiece) (ecc : EccOutcome) (s : State) : State :=
  let s := dequeue p s
  let s := match ecc with
    | .corrected n y =>
      let read := (burstsOf p).filter fun b => !p.write || !coversBurst p b
      if read.isEmpty then s else corrected 1 p.requester (read.getD (n % read.length) 0) y s
    | _ => s
  match badBurst s p ecc with
  | some (b, y) =>
    let t := uncorrectable (if p.write then 3 else 2) p.requester b y p.ctx s
    let t := emit (.memory p.requester p.addr true (if p.write then [] else readData t p)) t
    if p.write then t else markServed p.requester p.ctx t
  | none =>
    if p.write then
      let whole := ((burstsOf p).filter (coversBurst p)).map fun b => (locOf s b).byte / 32
      let t := writeHbms p.addr p.data s
      let t := modMem (fun x => { x with poison := x.poison.filter fun b => !whole.contains b }) t
      emit (.memory p.requester p.addr false []) t
    else emit (.memory p.requester p.addr false (readData s p)) s

/-- MEM_REQUEST_ISSUE: the queued piece of that number is issued when nothing blocks it and its stack runs. -/
def memRequestIssue (id : Nat) (ecc : EccOutcome) (s : State) : State :=
  match s.mem.queue.find? fun p => p.id == id with
  | none => s
  | some p =>
    if blocked s p || s.mem.stks[(locOf s p.addr).stack].state != .running then s else issuePiece p ecc s

/-! ## Scrub (R206) -/

/-- The fabric address of a stack offset. -/
def addrOf (s : State) (m : StackId) (o : Nat) : Nat :=
  if s.mem.interleaved then o / 4096 * 16384 + 4096 * m.val + o % 4096 else stackBytes * m.val + o

/-- SCRUB_READ: the next piece of the sweep is read (R206). -/
def scrubRead (m : StackId) (ecc : EccOutcome) (s : State) : State :=
  let x := s.mem.stks[m]
  if x.state != .running then s
  else
    let a := fun n : Nat => addrOf s m (1024 * x.scrub + 32 * (n % 32))
    let t := modStack m (fun y => { y with scrub := (y.scrub + 1) % (36 * 2 ^ 20) }) s
    match ecc with
    | .clean => t
    | .corrected n y => corrected 6 0x58 (a n) y t
    | .uncorrectable n y => uncorrectable 4 0x58 (a n) y none t

/-! ## Training (R210 to R213) -/

/-- The byte a flash address reads (log 30). -/
def readFlash (s : State) (a : Nat) : Byte := readCell s.flash a ^^^ Config.erasedByte

/-- Bytes programmed into flash. -/
def writeFlash (a : Nat) (bytes : List Byte) (s : State) : State :=
  { s with flash := writeCells s.flash a (bytes.map fun b => b ^^^ Config.erasedByte) }

/-- Where the calibration record lies in flash (R210, 20). -/
def recordAt : Nat := 0x04010000

/-- The package serial number's bytes. -/
def serialBytes (s : State) : List Byte := leBytes 16 (match s.boot.fuses with | some f => f.serial.toNat | none => 0)

/-- A calibration record that keeps the earlier values of the stacks not named (R210). -/
def calibrationRecord (s : State) (named : List StackId) : List Byte :=
  let old := (List.range 8256).map fun i => readFlash s (recordAt + i)
  let entry := fun m : StackId => if named.contains m then
      (List.range 32).flatMap fun pc => ((List.range 58).map fun i =>
        Config.trainedByte s.free (2048 * m.val + 64 * pc + i)) ++ List.replicate 6 0
    else slice old (64 + 2048 * m.val) 2048
  let temp := fun m : StackId => if named.contains m then leInt 1 s.mem.stks[m].temp else slice old (24 + m.val) 1
  let make := fun crc : Nat => image 64 ([(0, [0x53, 0x5A, 0x4D, 0x54]), put 4 2 1, (8, serialBytes s), put 28 4 crc]
    ++ allRegions.map fun m => (24 + m.val, temp m)) ++ allRegions.flatMap entry
  make (crc32c (make 0)).toNat

/-- A calibration ends once its last stack has trained (R210). -/
def endCalibration (k : Calibration) (s : State) : State :=
  let t := modMem (fun x => { x with calibration := x.calibration.filter fun y => y != k }) s
  if k.bad then endBackground k.mb 0x0704 k.tag .hwFault
    (match k.named.find? fun m => s.mem.stks[m].failed with | some m => 0x38 + m.val | none => 0) t
  else
    let t := if k.write then { writeFlash recordAt (calibrationRecord t k.named) t with free := t.free + 1 } else t
    endBackground k.mb 0x0704 k.tag .ok 0 t

/-- The stack has trained for every calibration that names it. -/
def calibrated (m : StackId) (ok : Bool) (s : State) : State :=
  let t := modMem (fun x => { x with
    calibration := x.calibration.map fun k =>
      if k.left.contains m then { k with left := k.left.erase m, bad := k.bad || !ok } else k }) s
  match t.mem.calibration.find? fun k => k.left.isEmpty with
  | some k => endCalibration k t
  | none => t

/-- A domain's state set. -/
def putDomain (d : Fin 25) (v : DomainState) (s : State) : State :=
  { s with power := { s.power with domains := s.power.domains.set d v } }

/-- A change of a domain's state, with its PWR_DOMAIN_STATE (R444). -/
def setDomain (d : Fin 25) (v : DomainState) (s : State) : State :=
  if s.power.domains[d] = v then s else post 0x1380 none 0 (d.val + 2 ^ 8 * v.code) (putDomain d v s)

/-- MEM_TRAINED: training from the record or in full ends (R211, R212, R217). A stack under MEM_CALIBRATE trains
fully. -/
def memTrained (m : StackId) (recordOk bootOk fullOk : Bool) (s : State) : State :=
  let x := s.mem.stks[m]
  let calibrating := s.mem.calibration.any fun k => k.left.contains m
  if x.state != .training && !calibrating then s
  else
    let full := calibrating || !recordOk || !bootOk
    let ok := !full || fullOk
    let reason := if !ok then 3 else if !recordOk then 1 else if !bootOk then 2 else 0
    let t := modStack m (fun x => { x with
      state := if ok then .running else .off, failed := x.failed || !ok
      path := bit full, passTemp := if full then x.temp else x.passTemp }) s
    let t := if ok then setDomain (stackDomain m) .on t
      else setDomain (stackDomain m) .off (forgetStack m true (raise0 (0x38 + m.val) t))
    calibrated m ok (post 0x0781 none 0 (m.val + 2 ^ 8 * bit full + 2 ^ 16 * reason) t)

/-- The stacks' temperatures as reported in this management tick; a move of more than 8 °C since the last pass
schedules all 32 pseudo-channels (R213). -/
def reportTemps (temps : List Int) (s : State) : State :=
  forEach allRegions (fun m t => match temps[m.val]? with
    | none => t
    | some v =>
      let t := modStack m (fun x => { x with temp := v }) t
      let x := t.mem.stks[m]
      if x.state != .off && 8 < (v - x.passTemp).natAbs then scheduleRetrain m (List.range 32) t else t) s

/-- One guard's retraining segment of stack `m`; `bad`: the closing check of the pass fails (R213, R217). -/
def retrainSegment (m : StackId) (bad : Bool) (s : State) : State :=
  let x := s.mem.stks[m]
  match x.retrain with
  | [] => s
  | pc :: rest =>
    if x.state != .running then s
    else if !x.segment then modStack m (fun y => { y with segment := true }) s
    else
      let t := modStack m (fun y => { y with
        segment := false, retrain := rest, passes := bump y.passes
        failures := if bad then bump y.failures else y.failures
        passTemp := if rest.isEmpty then y.temp else y.passTemp }) s
      let t := if bad then raise0 (0x38 + m.val) t else t
      post 0x0782 none 0 (m.val + 2 ^ 8 * pc + 2 ^ 16 * bit bad) t

/-- The guard's retraining segments in the four stacks (R213). -/
def retrainGuard (bad : BitVec 4) (s : State) : State :=
  forEach allRegions (fun m => retrainSegment m (bad.getLsbD m.val)) s

/-! ## Self-refresh (R215) -/

/-- SELF_REFRESH_ENTRY: the stack enters self-refresh when every condition of R215 holds. -/
def selfRefreshEntry (m : StackId) (s : State) : State :=
  let x := s.mem.stks[m]
  if x.state == .running && s.mem.selfRefresh.getLsbD m.val && tolerates s m && (queuedAt s m).isEmpty
      && x.retrain.isEmpty && s.mem.repairing.all fun r => r.stack != m then
    modStack m (fun y => { y with state := .selfRefresh, entries := bump y.entries }) s
  else s

/-- SELF_REFRESH_EXIT: the stack leaves on a request, or when a tolerance has fallen to 16 µs or below (R215). -/
def selfRefreshExit (m : StackId) (s : State) : State :=
  if s.mem.stks[m].state == .selfRefresh && (!(queuedAt s m).isEmpty || !tolerates s m) then
    modStack m (fun y => { y with state := .running }) s
  else s

/-! ## Commands -/

/-- Contexts that are not FREE, as a mask. -/
def busyCtxs (s : State) : Nat := ctxMask (allCtx.filter fun c => s.contexts[c].state != .free)

/-- WRONG_STATE with the mask of contexts that are not FREE. -/
def allFree (s : State) : Option Fail := if busyCtxs s = 0 then none else some (wrong (busyCtxs s))

/-- The stack field at offset 0. -/
def argStack (e : Entry) : StackId := ⟨arg e 0 1 % 4, Nat.mod_lt _ (by decide)⟩

/-- The address map changes: what host-visible memory and namespace 2 held is lost (MEM_SET_MODE). -/
def remap (interleaved : Bool) (s : State) : State :=
  { modMem (fun x => { x with interleaved := interleaved }) (forEach allRegions (fun m => forgetStack m false) s) with ns2 := [] }

/-- MEM_SET_MODE, 0x0701. -/
def memSetModeSpec : Spec where
  opcode := 0x0701
  len := .exact 8
  fields := fun _ _ => [range 0 1 0 1, rsv 1 7]
  states := fun e s => (allFree s).or (firstFail [(storageBusy s, wrong 6),
    (arg e 0 1 == 1 && allRegions.any (fun m => s.mem.stks[m].failed), wrong 0x1A)])
  effect := fun e s =>
    if bit s.mem.interleaved = arg e 0 1 then .reply s {}
    else .reply (remap (arg e 0 1 == 1) s) {}

/-- The 64 bytes MEM_GET_STATUS gives of a stack. -/
def stackStatus (x : Stack) (candidates : Nat) : List Byte :=
  image 64 [put 0 1 x.state.code, put 1 1 x.path, (2, leInt 1 x.temp), (3, leInt 1 x.passTemp),
    put 4 4 x.corrected.toNat, put 8 4 x.uncorrectable.toNat, put 12 2 (x.scrub * 10000 / (36 * 2 ^ 20)), put 14 2 x.peak,
    put 16 4 x.entries.toNat, put 20 4 x.passes.toNat, put 24 4 x.failures.toNat,
    put 28 1 (Min.min x.repairs.length 255), put 29 1 (Min.min candidates 255)]

/-- The counts of a stack that MEM_GET_STATUS clears. -/
def clearStack (x : Stack) : Stack :=
  { x with corrected := 0, uncorrectable := 0, peak := 0, entries := 0, passes := 0, failures := 0 }

/-- MEM_GET_STATUS, 0x0702. -/
def memGetStatusSpec : Spec where
  opcode := 0x0702
  len := .exact 272
  noInline := true
  deadbolt := true
  fields := fun _ _ => [range 0 1 0 1, rsv 1 15]
  effect := fun e s =>
    let body := allRegions.flatMap fun m => stackStatus s.mem.stks[m]
      (s.mem.candidates.filter fun r => r.1 / 32 == m.val).length
    .reply (if arg e 0 1 = 1 then forEach allRegions (fun m => modStack m clearStack) s else s)
      { detail := bit s.mem.interleaved, back := some (8, List.replicate 8 0 ++ body) }

/-- The 32 bytes of a log entry (R207). -/
def MemLogEntry.bytes (x : MemLogEntry) : List Byte :=
  image 32 [put 0 1 x.kind, put 1 1 x.requester.toNat, put 2 1 x.pc, put 4 8 x.addr, put 12 4 x.syndrome.toNat,
    put 16 8 x.tick.toNat, put 24 2 x.row, put 26 1 x.bank, put 27 1 x.burst, put 28 4 x.count.toNat]

/-- MEM_READ_LOG, 0x0703. -/
def memReadLogSpec : Spec where
  opcode := 0x0703
  len := .exact 8208
  noInline := true
  deadbolt := true
  fields := fun _ _ => [range 0 1 0 1]
  effect := fun e s =>
    .reply (if arg e 0 1 = 1 then modMem (fun x => { x with log := [] }) s else s)
      { detail := s.mem.log.length
        back := some (8, leBytes 4 s.mem.log.length ++ leBytes 4 s.mem.lost.toNat ++ s.mem.log.flatMap MemLogEntry.bytes) }

/-- MEM_CALIBRATE, 0x0704. -/
def memCalibrateSpec : Spec where
  opcode := 0x0704
  len := .exact 8
  isBackground := true
  fields := fun _ _ => [range 0 1 1 15, range 1 1 0 1, rsv 2 6]
  states := fun _ s => allFree s
  effect := fun e s =>
    let named := allRegions.filter fun m => (arg e 0 1).testBit m.val
    let k : Calibration := ⟨e.mb, e.tag, named, named, arg e 1 1 == 1, false⟩
    .background (forEach named (fun m => modStack m fun x => { x with state := .training })
      (modMem (fun x => { x with calibration := x.calibration ++ [k] }) s)) none (Config.openDetail 0x0704 0)

/-- MEM_RETRAIN, 0x0705. -/
def memRetrainSpec : Spec where
  opcode := 0x0705
  len := .exact 8
  fields := fun _ _ => [range 0 1 0 3, ⟨1, 1, fun v => v ≤ 31 || v == 0xFF⟩, rsv 2 6]
  states := fun e s => if s.mem.stks[argStack e].state == .selfRefresh
    then some ⟨.busyRetry, Config.openDetail 0x0705 0x8005⟩ else none
  effect := fun e s =>
    let t := scheduleRetrain (argStack e) (if arg e 1 1 = 0xFF then List.range 32 else [arg e 1 1]) s
    let x := t.mem.stks[argStack e]
    let ahead := if arg e 1 1 = 0xFF then x.retrain.length else (x.retrain.filter fun p => p ≤ arg e 1 1).length
    .reply t { detail := 2 * ahead - bit x.segment }

/-- MEM_SET_POLICY, 0x0706. -/
def memSetPolicySpec : Spec where
  opcode := 0x0706
  len := .exact 16
  fields := fun _ _ => [range 0 1 0 15, rsv 1 3, range 4 4 1 1000000, range 8 2 1 65535, rsv 10 6]
  effect := fun e s => .reply (modMem (fun x => { x with
    selfRefresh := BitVec.ofNat 4 (arg e 0 1), threshold := arg e 4 4, candidate := arg e 8 2 }) s) {}

/-- A pixel table is bound in some bank (R155). -/
def pixelBound (s : State) : Bool :=
  let bound := fun b : Bank => b.front.flat.isSome || b.front.caps.toList.any fun g => g.dark.isSome
  let p := projected s
  allCtx.any fun c => bound s.contexts[c].live || bound p.contexts[c].live

/-- The row a MEM_REPAIR payload names. -/
def repairRow (e : Entry) : RowName := (32 * arg e 0 1 + arg e 1 1, arg e 2 1, arg e 4 2)

/-- MEM_REPAIR, 0x0707. -/
def memRepairSpec : Spec where
  opcode := 0x0707
  len := .exact 8
  isBackground := true
  fields := fun e s => [range 0 1 0 3, range 1 1 0 31, range 2 1 0 47, rsv 3 1,
    ⟨4, 2, fun v => v ≤ 24575 && s.mem.candidates.contains (repairRow e)⟩, rsv 6 2]
  states := fun _ s => (allFree s).or (if pixelBound s then some (wrong 7) else none)
  resources := fun e s => if s.mem.stks[argStack e].repairs.contains (arg e 1 1, arg e 2 1 / 4)
    then some ⟨.noResource, Config.openDetail 0x0707 0x8006⟩ else none
  effect := fun e s =>
    let r : Repairing := ⟨e.mb, e.tag, argStack e, arg e 1 1, arg e 2 1, arg e 4 2⟩
    .background (modMem (fun x => { x with repairing := x.repairing ++ [r] }) s) none (Config.openDetail 0x0707 0)

/-- The physical bytes of a row: the granule's pieces of its pseudo-channel (R198). -/
def rowBytes (r : Repairing) : Nat := stackBytes * r.stack.val + 32768 * (48 * r.row + r.bank) + 1024 * r.pc

/-- REPAIR_DONE: the oldest repair ends; a repaired row reads as zero (R209). -/
def repairDone (ok : Bool) (s : State) : State :=
  match s.mem.repairing with
  | [] => s
  | r :: rest =>
    let t := modMem (fun x => { x with repairing := rest }) s
    if !ok then endBackground r.mb 0x0707 r.tag .hwFault 0 t
    else
      let name : RowName := (32 * r.stack.val + r.pc, r.bank, r.row)
      let a := addrOf s r.stack (rowBytes r % stackBytes)
      let t := writeHbms a (List.replicate 1024 0) t
      let t := modMem (fun x => { x with
        candidates := x.candidates.filter fun n => n != name
        rowCounts := x.rowCounts.filter fun n => n.1 != name
        poison := x.poison.filter fun b => b / 32 != rowBytes r / 1024 }) t
      endBackground r.mb 0x0707 r.tag .ok 0
        (modStack r.stack (fun x => { x with repairs := x.repairs ++ [(r.pc, r.bank / 4)] }) t)

/-- MEM_SET_MODE. -/
def execMemSetMode (e : Entry) (s : State) : Host.Outcome State Fault Refusal := .next (runCommand memSetModeSpec e s)
/-- MEM_GET_STATUS. -/
def execMemGetStatus (e : Entry) (s : State) : Host.Outcome State Fault Refusal := .next (runCommand memGetStatusSpec e s)
/-- MEM_READ_LOG. -/
def execMemReadLog (e : Entry) (s : State) : Host.Outcome State Fault Refusal := .next (runCommand memReadLogSpec e s)
/-- MEM_CALIBRATE. -/
def execMemCalibrate (e : Entry) (s : State) : Host.Outcome State Fault Refusal := .next (runCommand memCalibrateSpec e s)
/-- MEM_RETRAIN. -/
def execMemRetrain (e : Entry) (s : State) : Host.Outcome State Fault Refusal := .next (runCommand memRetrainSpec e s)
/-- MEM_SET_POLICY. -/
def execMemSetPolicy (e : Entry) (s : State) : Host.Outcome State Fault Refusal := .next (runCommand memSetPolicySpec e s)
/-- MEM_REPAIR. -/
def execMemRepair (e : Entry) (s : State) : Host.Outcome State Fault Refusal := .next (runCommand memRepairSpec e s)
/-- REPAIR_DONE. -/
def execRepairDone (ok : Bool) (s : State) : Host.Outcome State Fault Refusal := .next (repairDone ok s)
/-- MEM_TRAINED. -/
def execMemTrained (m : StackId) (recordOk bootOk fullOk : Bool) (s : State) : Host.Outcome State Fault Refusal :=
  .next (memTrained m recordOk bootOk fullOk s)
/-- MEM_REQUEST. -/
def execMemRequest (r : MemReq) (s : State) : Host.Outcome State Fault Refusal := .next (memRequest r s)
/-- MEM_REQUEST_ISSUE. -/
def execMemRequestIssue (id : Nat) (ecc : EccOutcome) (s : State) : Host.Outcome State Fault Refusal :=
  .next (memRequestIssue id ecc s)
/-- SCRUB_READ. -/
def execScrubRead (m : StackId) (ecc : EccOutcome) (s : State) : Host.Outcome State Fault Refusal :=
  .next (scrubRead m ecc s)
/-- SELF_REFRESH_ENTRY. -/
def execSelfRefreshEntry (m : StackId) (s : State) : Host.Outcome State Fault Refusal := .next (selfRefreshEntry m s)
/-- SELF_REFRESH_EXIT. -/
def execSelfRefreshExit (m : StackId) (s : State) : Host.Outcome State Fault Refusal := .next (selfRefreshExit m s)

end Sys2Proof.Machine
end

