-- ==== Sys2Proof/Machine/Shake.lean ====
section
/-!
DEFINITION. Shake: SHAKE256 of FIPS 202, which the clip chain (R248) and the security engine (21) use.
-/

namespace Sys2Proof.Machine

/-- The Keccak state: 25 lanes of 64 bits, lane (x, y) at x + 5y. -/
abbrev Lanes := List (BitVec 64)

/-- Lane (x, y). -/
def lane (a : Lanes) (x y : Nat) : BitVec 64 := a.getD (x % 5 + 5 * (y % 5)) 0

/-- Lanes from a function. -/
def lanes (f : Nat → Nat → BitVec 64) : Lanes := (List.range 25).map fun i => f (i % 5) (i / 5)

/-- Rotation offsets of ρ, by x + 5y. -/
def rhoOffsets : List Nat :=
  [0, 1, 62, 28, 27, 36, 44, 6, 55, 20, 3, 10, 43, 25, 39, 41, 45, 15, 21, 8, 18, 2, 61, 56, 14]

/-- Round constants of ι. -/
def roundConstants : List (BitVec 64) :=
  [0x0000000000000001, 0x0000000000008082, 0x800000000000808A, 0x8000000080008000, 0x000000000000808B,
   0x0000000080000001, 0x8000000080008081, 0x8000000000008009, 0x000000000000008A, 0x0000000000000088,
   0x0000000080008009, 0x000000008000000A, 0x000000008000808B, 0x800000000000008B, 0x8000000000008089,
   0x8000000000008003, 0x8000000000008002, 0x8000000000000080, 0x000000000000800A, 0x800000008000000A,
   0x8000000080008081, 0x8000000000008080, 0x0000000080000001, 0x8000000080008008]

/-- One round of Keccak-f[1600]. -/
def keccakRound (a : Lanes) (rc : BitVec 64) : Lanes :=
  let c := (List.range 5).map fun x => lane a x 0 ^^^ lane a x 1 ^^^ lane a x 2 ^^^ lane a x 3 ^^^ lane a x 4
  let d := (List.range 5).map fun x => c.getD ((x + 4) % 5) 0 ^^^ (c.getD ((x + 1) % 5) 0).rotateLeft 1
  let t := lanes fun x y => lane a x y ^^^ d.getD x 0
  let b := lanes fun x y =>
    let u := (x + 3 * y) % 5
    (lane t u x).rotateLeft (rhoOffsets.getD (u + 5 * x) 0)
  let e := lanes fun x y => lane b x y ^^^ (~~~ lane b (x + 1) y &&& lane b (x + 2) y)
  lanes fun x y => if x = 0 ∧ y = 0 then lane e 0 0 ^^^ rc else lane e x y

/-- Keccak-f[1600]. -/
def keccakF (a : Lanes) : Lanes := roundConstants.foldl keccakRound a

/-- A block of 136 bytes absorbed. -/
def absorb (a : Lanes) (block : List Byte) : Lanes :=
  keccakF (lanes fun x y => lane a x y ^^^
    (if x + 5 * y < 17 then BitVec.ofNat 64 (fieldAt block (8 * (x + 5 * y)) 8) else 0))

/-- The message with SHAKE's domain bits and padding, to a multiple of 136 bytes. -/
def shakePad (m : List Byte) : List Byte :=
  let n := 136 - m.length % 136
  if n = 1 then m ++ [0x9F] else m ++ [0x1F] ++ List.replicate (n - 2) 0 ++ [0x80]

/-- Consecutive blocks of 136 bytes, at most `n`. -/
def blocks136 : Nat → List Byte → List (List Byte)
  | 0, _ => []
  | n + 1, l => if l.isEmpty then [] else l.take 136 :: blocks136 n (l.drop 136)

/-- SHAKE256 with 32 bytes of output. -/
def shake256 (m : List Byte) : List Byte :=
  let p := shakePad m
  let a := (blocks136 (p.length / 136) p).foldl absorb (List.replicate 25 0)
  (List.range 4).flatMap fun i => leBytes 8 (a.getD i 0).toNat

end Sys2Proof.Machine
end

