-- ==== Sys2Proof/Machine/Leaves.lean ====
section
/-!
DEFINITION. Leaves: XMSS^MT leaves and their reservation records (21 R431 to R433), the security engine's queue
(R430), and what a clip does when its signature fails (19 R385).
-/

namespace Sys2Proof.Machine

/-- Security state changed by `f`. -/
def modSec (f : Security → Security) (s : State) : State := { s with sec := f s.sec }

/-- Recording of context `c` changed by `f`. -/
def modRec (c : CtxId) (f : Recording → Recording) (s : State) : State :=
  { s with recs := s.recs.set c (f s.recs[c]) }

/-- Clip `id` of context `c` changed by `f`. -/
def modClip (c : CtxId) (id : Nat) (f : Clip → Clip) (s : State) : State :=
  modRec c (fun r => { r with clips := r.clips.map fun k => if k.id = id then f k else k }) s

/-- Clip `id` of context `c`. -/
def clipOf (s : State) (c : CtxId) (id : Nat) : Option Clip := s.recs[c].clips.find? fun k => k.id == id

/-! ## Clips that end without a seal -/

/-- REC_STOP's SYS_BACKGROUND_DONE of a clip, if one waits (R249). -/
def answerStop (k : Clip) (st : Status) (detail : Nat) (s : State) : State :=
  match k.stop with
  | none => s
  | some (m, tag) => endBackground m 0x0904 tag st detail s

/-- No frame in flight of a context belongs to clip `id` any more. -/
def untag (id : Nat) (x : Context) : Context :=
  let off := fun f : Frame => if f.clip = some id then { f with clip := none } else f
  { x with
    frames := x.frames.map off, slotReaders := x.slotReaders.map off
    results := x.results.map fun r => { r with frame := off r.frame } }

/-- A clip ends unsealed: it is left to the recovery pass (R245, R249, R385). -/
def abandonClip (c : CtxId) (id detail : Nat) (s : State) : State :=
  match clipOf s c id with
  | none => s
  | some k =>
    answerStop k .hwFault detail (modCtx c (untag id) (modRec c (fun r => { r with clips := r.clips.filter fun y => y.id != id }) s))

/-- A seal could not reserve a leaf or sign: source 0x4F, and one retry by its action, or the end (R385). -/
def sealFailed (c : CtxId) (id : Nat) (s : State) : State :=
  match clipOf s c id with
  | none => s
  | some k =>
    let free := !s.collector.acting.contains 0x4F
    let t := raise (src 0x4F) (some c) (BitVec.ofNat 48 k.last) (Config.faultDetail 0x4F) s
    if k.retried then
      abandonClip c id 0x4F { t with collector := { t.collector with acting := t.collector.acting.filter fun a => a != 0x4F } }
    else if free && t.collector.acting.contains 0x4F then modClip c id (fun y => { y with stage := some .failed }) t
    else abandonClip c id 0x4F t

/-! ## Reservation records (R432) -/

/-- Flash address of a copy. -/
def copyAt (n : Nat) : Nat := if n = 0 then 0x04020000 else 0x04030000

/-- The record that reserves block `k`. -/
def leafRecord (k : Nat) : List Byte :=
  let b := image 28 [(0, [0x53, 0x5A, 0x4C, 0x52]), put 4 2 1, put 8 8 (k + 1), put 16 8 (1024 * (k + 1))]
  b ++ leBytes 4 (crc32c b).toNat

/-- Flash bytes of a range erased. -/
def eraseFlash (a n : Nat) (s : State) : State :=
  { s with flash := s.flash.filter fun c => c.1 < a || a + n ≤ c.1 }

/-- Record `r` appended to copy `n`, which is erased first when it is full. -/
def appendLeaf (n : Nat) (r : List Byte) (s : State) : State :=
  let used := if n = 0 then s.sec.leafCounts.1 else s.sec.leafCounts.2
  let at_ := if used < 2048 then used else 0
  let t := if used < 2048 then s else eraseFlash (copyAt n) 65536 s
  modSec (fun x => { x with leafCounts := if n = 0 then (at_ + 1, x.leafCounts.2) else (x.leafCounts.1, at_ + 1) })
    (writeFlash (copyAt n + 32 * at_) r t)

/-! ## Signing (R430, R431) -/

/-- The leaf of a signature. -/
def Signature.leaf : Signature → Nat
  | .manifest _ _ l => l
  | .attestation _ _ _ _ _ l => l

/-- The signature serves a seal. -/
def Signature.isSeal : Signature → Bool
  | .manifest .. => true
  | .attestation .. => false

/-- A signature that waits fails with the detail given (R432, SEC_ATTEST). -/
def failSignature (x : Signature) (detail : Nat) (s : State) : State :=
  match x with
  | .manifest c id _ => sealFailed c id s
  | .attestation m tag _ _ _ _ => endBackground m 0x1202 tag .hwFault detail s

/-- The queue in the order it is served: seals before attestations (R430). -/
def served21 (l : List Signature) : List Signature := l.filter Signature.isSeal ++ l.filter fun x => !x.isSeal

/-- The engine takes the next signature whose leaf is reserved; when the next needs a new block, its reservation
starts (R430, R431). -/
def startSigning (s : State) : State :=
  if s.sec.down then s
  else
    let running := match s.sec.signing with | some x => x.isSeal | none => false
    match served21 s.sec.queue with
    | [] => s
    | x :: _ =>
      if running || (s.sec.signing.isSome && !x.isSeal) then s
      else if s.sec.limit ≤ x.leaf then modSec (fun y => { y with reserving := true }) s
      else modSec (fun y => { y with
        signing := some x, queue := (s.sec.signing.toList) ++ y.queue.filter fun z => z != x }) s

/-- Leaves are left and signing is not disabled (R431, R433). -/
def canSign (s : State) : Bool := !s.sec.disabled && s.sec.nextLeaf < 2 ^ 40

/-- A signature is queued with the next leaf (R431). -/
def askSignature (f : Nat → Signature) (s : State) : State :=
  startSigning (modSec (fun x => { x with queue := x.queue ++ [f x.nextLeaf], nextLeaf := x.nextLeaf + 1 }) s)

/-- A clip asks for the signature of its manifest, step 5 (R249, R431). -/
def askSeal (c : CtxId) (id : Nat) (s : State) : State :=
  if canSign s then
    askSignature (.manifest c id) (modClip c id (fun k => { k with stage := some .signing, leaf := s.sec.nextLeaf }) s)
  else sealFailed c id s

/-- The signature of a message (R428). -/
def xmss (leaf : Nat) (message : List Byte) : List Byte :=
  (List.range 9893).map fun i => Config.signature leaf message i

/-- LEAF_RESERVATION_DONE: both copies hold the record and the block's leaves are usable, or source 0x0E is raised
and the signature that asked fails (R432). -/
def leafReservationDone (ok : Bool) (s : State) : State :=
  match (served21 s.sec.queue).find? fun x => s.sec.limit ≤ x.leaf with
  | none => s
  | some x =>
    if !s.sec.reserving then s
    else
      let k := x.leaf / 1024
      let t := modSec (fun y => { y with reserving := false }) s
      if ok then
        let t := appendLeaf 1 (leafRecord k) (appendLeaf 0 (leafRecord k) t)
        startSigning (modSec (fun y => { y with leafSeq := k + 1, limit := 1024 * (k + 1) }) t)
      else
        let t := modSec (fun y => { y with queue := y.queue.filter fun z => z != x }) (raise0 0x0E t)
        startSigning (failSignature x 0x0E t)

/-- LEAF_RESERVATION_DONE. -/
def execLeafReservationDone (ok : Bool) (s : State) : Host.Outcome State Fault Refusal := .next (leafReservationDone ok s)

end Sys2Proof.Machine
end

