-- ==== Sys2Proof/Machine/Recording.lean ====
section
/-!
DEFINITION. Recording: records (11 R247), where they go (R237), the capture ring (R241 to R243), seals (R248 to
R251), volumes and recovery (R246, R252), and the REC_ commands.
-/

namespace Sys2Proof.Machine

/-! ## Records (R247) -/

/-- Bytes a record of an `n`-byte body takes. -/
def recordSize (n : Nat) : Nat := 64 * ceilDiv (32 + n) 64

/-- A record: header, body and padding. -/
def recordBytes (kind clip seq : Nat) (body : List Byte) : List Byte :=
  let h := image 24 [(0, [0x53, 0x5A, 0x52, 0x43]), put 4 1 kind, put 8 8 clip, put 16 4 body.length, put 20 4 seq]
    ++ leBytes 4 (crc32c body).toNat
  let r := h ++ leBytes 4 (crc32c h).toNat ++ body
  r ++ List.replicate (recordSize body.length - r.length) 0

/-- The body of a record as stored. -/
def Rec.body (r : Rec) : List Byte := (r.bytes.drop 32).take (fieldAt r.bytes 16 4)

/-- The record counts in the chain: all but MANIFEST, INDEX and SEAL_MARK (R248). -/
def Rec.chained (r : Rec) : Bool := r.kind < 7

/-- The chain value with one more record (R248). -/
def chainNext (c : List Byte) (r : Rec) : List Byte := shake256 (c ++ shake256 r.bytes)

/-- A record inserted by ascending sequence. -/
def insertSeq (r : Rec) : List Rec → List Rec
  | [] => [r]
  | x :: xs => if r.seq ≤ x.seq then r :: x :: xs else x :: insertSeq r xs

/-- Records in ascending sequence. -/
def sortSeq (l : List Rec) : List Rec := l.foldr insertSeq []

/-- A media port changed by `f`. -/
def modMedia (p : Fin 2) (f : MediaPort → MediaPort) (s : State) : State :=
  { s with media := s.media.set p (f s.media[p]) }

/-- The volume of a port changed. -/
def modVolume (p : Fin 2) (f : Volume → Volume) (s : State) : State :=
  modMedia p (fun x => { x with volume := x.volume.map f }) s

/-- A drive command is issued (R245). -/
def drive (p : Fin 2) (u : MediaUse) (s : State) : State :=
  emit (.media p u) (modMedia p (fun x => { x with outstanding := x.outstanding ++ [u] }) s)

/-- The index of the slot that holds a frame, else of the slot taken last. -/
def slotOf (r : Recording) (frame : Nat) : Nat :=
  match r.ring.findIdx? fun x => x.frame == some frame with
  | some i => i
  | none => (r.pointer + r.ring.length - 1) % r.ring.length

/-- A record put into slot `i` of context `c`'s ring: its address in the ring. -/
def putSlot (c : CtxId) (i id kind frame : Nat) (body : List Byte) (s : State) : State × Rec :=
  let r := s.recs[c]
  let used := ((r.ring[i]?).map fun x => (x.records.map fun y => y.bytes.length).sum).getD 0
  let x : Rec := ⟨kind, id, frame, r.seq, i * ringSlotSize s.contexts[c].live s.contexts[c].live.recording + used,
    recordBytes kind id r.seq body⟩
  (modRec c (fun r => { r with seq := r.seq + 1
                               ring := r.ring.modify i fun y => { y with records := y.records ++ [x] } }) s, x)

/-- A record appended to a host ring, wrapping at its size (R237). -/
def putHost (k : RecCfg) (id kind frame : Nat) (body : List Byte) (s : State) : State × Rec :=
  let g := (s.hostRings.find? fun g => g.addr == k.hostAddr).getD { addr := k.hostAddr }
  let bytes := recordBytes kind id g.seq body
  let at_ := k.hostAddr.toNat + (if k.ringSize = 0 then g.tail else g.tail % k.ringSize)
  let g' : HostRing := { g with tail := g.tail + bytes.length, seq := g.seq + 1 }
  let room := if k.ringSize = 0 then bytes.length else k.ringSize - g.tail % k.ringSize
  let t := if s.hostUp then writeHost k.hostAddr.toNat (bytes.drop room) (writeHost at_ (bytes.take room) s)
    else hostFailed s
  ({ t with hostRings := t.hostRings.filter (fun x => x.addr != g.addr) ++ [g'] }, ⟨kind, id, frame, g.seq, at_, bytes⟩)

/-- A record appended to the log of a media port; `use` says what its write is for. -/
def putMedia (p : Fin 2) (use : Rec → MediaUse) (id kind frame : Nat) (body : List Byte) (s : State) : State × Rec :=
  let v := s.media[p].volume
  let seq := (v.map Volume.seq).getD 0
  let at_ := (v.map Volume.append).getD 0
  let x : Rec := ⟨kind, id, frame, seq, at_, recordBytes kind id seq body⟩
  (drive p (use x) (modVolume p (fun v => { v with seq := v.seq + 1, append := v.append + x.bytes.length }) s), x)

/-- A record of clip `k` written where the clip records. -/
def putRecord (c : CtxId) (k : Clip) (use : Rec → MediaUse) (kind frame : Nat) (body : List Byte) (s : State) :
    State × Rec :=
  match k.cfg.target with
  | .ring => putSlot c (slotOf s.recs[c] frame) k.id kind frame body s
  | .media p => putMedia p use k.id kind frame body s
  | _ => putHost k.cfg k.id kind frame body s

/-- A record of the clip, chained (R248). -/
def chainRecord (c : CtxId) (id kind frame : Nat) (body : List Byte) (s : State) : State × Nat :=
  match clipOf s c id with
  | none => (s, 0)
  | some k =>
    let (t, x) := putRecord c k .log kind frame body s
    (modClip c id (fun k => { k with chain := chainNext k.chain x, chained := k.chained + 1 }) t, x.addr)

/-- What CLIP_OPEN sums up of a bank: CFA, geometry, working-space code, budget and masks (R247). -/
def clipSummary (b : Bank) (k : RecCfg) : List Nat :=
  [b.front.pw, b.front.ph] ++ b.front.cells ++ [b.source.w, b.source.h, b.source.mask.toNat, b.develop.space, k.budget,
    k.audio.toNat, k.proxy.toNat]

/-- A record of clip `id`, after its CLIP_OPEN (R238, R247): the state and its address. -/
def appendRecord (c : CtxId) (id kind frame : Nat) (body : List Byte) (s : State) : State × Nat :=
  match clipOf s c id with
  | none => (s, 0)
  | some k =>
    let s := if k.opened then s
      else (chainRecord c id 1 frame (Config.recordBody 1 (clipSummary s.contexts[c].live k.cfg))
        (modClip c id (fun k => { k with opened := true }) s)).1
    chainRecord c id kind frame body s

/-! ## Frames of a clip -/

/-- The FRAME record's body (R247). -/
def frameBody (k : Clip) (f : Frame) (period records : Nat) : List Byte :=
  image 40 [put 0 6 f.number, put 6 2 f.marks.toNat, put 8 8 f.tick, (16, timeBytes f.time),
    put 26 4 (Config.timeAddress k.cfg.timecode.toNat f.bank.source.k period (f.number - k.first)),
    put 30 2 f.chunksExpected, put 32 2 f.chunksDone, put 34 1 f.gap, put 35 1 f.bank.source.mask.toNat,
    put 36 4 records]

/-- The META record's contents: embedded-data lines and record marks, tagged with the frame number (R247). -/
def metaContents (f : Frame) : List Nat :=
  f.number :: (f.embedded.flatMap fun x => x.1 :: x.2) ++ f.recordMarks.map BitVec.toNat

/-- The frame's last records: META when there is any, then FRAME (R247). -/
def frameRecord (c : CtxId) (f : Frame) (s : State) : State :=
  match f.clip with
  | none => s
  | some id =>
    match clipOf s c id with
    | none => s
    | some k =>
      let some' := !(f.embedded.isEmpty && f.recordMarks.isEmpty)
      let t := if some' then (appendRecord c id 6 f.number (Config.recordBody 6 (metaContents f)) s).1 else s
      let n := f.records + bit some' + 1
      let (t, a) := appendRecord c id 3 f.number (frameBody k f s.tick.period n) t
      modRec c (fun r => { r with frames := bump r.frames })
        (modClip c id (fun k => { k with last := f.number, frames := k.frames ++ [(f.number, a)] }) t)

/-- The results of `f` go live: its FRAME record, or, while chunks run, its slot stays held (R229, R247). -/
def recordLiveFrame (c : CtxId) (f : Frame) (s : State) : State :=
  if f.chunksLeft.isEmpty then frameRecord c f s
  else modCtx c (fun x => { x with slotReaders := x.slotReaders ++ [f] }) s

/-- The clip that takes frames now: not stopped, not frozen, not sealing. -/
def Clip.records (k : Clip) (h : Nat) : Bool :=
  k.stage.isNone && k.fromHinge ≤ h && (match k.stopHinge with | none => true | some x => decide (h < x))

/-- Frames up to t + Q belong to a triggered ring clip (R243). -/
def Clip.wants (k : Clip) (n : Nat) : Bool :=
  match k.trigger with
  | none => true
  | some (t, _) => n ≤ t + k.cfg.post

/-- REC_TRIGGERED (R243, R254): frame `t` triggers the armed ring; a later trigger is counted and ignored. -/
def trigger (c : CtxId) (t source : Nat) (s : State) : State :=
  match s.recs[c].clips.find? fun k => k.cfg.target == .ring && k.stage.isNone with
  | none => s
  | some k =>
    if k.trigger.isSome then modRec c (fun r => { r with ignored := bump r.ignored }) s
    else post 0x0981 (some c) (BitVec.ofNat 48 t) (t + 2 ^ 48 * source)
      (modClip c k.id (fun k => { k with trigger := some (t, source) }) s)

/-- The ring of context `c` is armed: a clip records into it (R242). -/
def ringArmed (s : State) (c : CtxId) : Bool :=
  s.recs[c].clips.any fun k => k.cfg.target == .ring && k.stage.isNone && k.stopHinge.isNone

/-- The trigger source bit of the target is set (REC_SET_TARGET). -/
def triggerOn (s : State) (c : CtxId) (i : Nat) : Bool :=
  s.recs[c].clips.any fun k => k.cfg.target == .ring && k.stage.isNone && k.cfg.triggers.getLsbD i

/-- A frame just taken at hinge `h` joins the clip that records, and meets a trigger that waits for it (R52, R238,
R243). -/
def tagFrame (c : CtxId) (h : Nat) (s : State) : State :=
  match s.contexts[c].frames.find? fun f => f.tick == h with
  | none => s
  | some f =>
    let t := match s.recs[c].clips.find? fun k => k.records h && k.wants f.number with
      | none => s
      | some k =>
        let begun := s.contexts[c].frames.any fun g => g.clip == some k.id
        let fresh := !k.opened && !begun && k.frames.isEmpty
        modClip c k.id (fun k => if fresh then { k with first := f.number, openTime := f.time } else k)
          (modCtx c (modFrame h fun g => { g with clip := some k.id }) s)
    match s.contexts[c].triggerNext with
    | none => t
    | some n => modCtx c (fun x => { x with triggerNext := none }) (trigger c f.number n t)

/-! ## The capture ring (R241, R242) -/

/-- Slots that no frozen clip pins. -/
def freeSlots (r : Recording) : Nat := (r.ring.filter fun x => x.pinned.isNone).length

/-- The next slot for a frame or a seal record: the next free one in ascending order with wrap, else the oldest
unpinned frame's (R241, R242). -/
def nextSlot (r : Recording) : Option Nat :=
  let n := r.ring.length
  let order := (List.range n).map fun i => (r.pointer + i) % n
  match order.find? fun i => (r.ring[i]?).any fun x => x.frame.isNone && x.pinned.isNone with
  | some i => some i
  | none =>
    let unpinned := order.filter fun i => (r.ring[i]?).any fun x => x.pinned.isNone
    unpinned.foldl (fun best i =>
      match best with
      | none => some i
      | some j => if ((r.ring[i]?).bind RingSlot.frame).getD 0 < ((r.ring[j]?).bind RingSlot.frame).getD 0 then some i
                  else best) none

/-- A slot is taken: for a frame, or pinned for a clip's seal. -/
def takeSlot (c : CtxId) (frame pin : Option Nat) (s : State) : State × Nat :=
  match nextSlot s.recs[c] with
  | none => (s, 0)
  | some i => (modRec c (fun r => { r with pointer := (i + 1) % r.ring.length
                                           ring := r.ring.set i ⟨frame, pin, []⟩ }) s, i)

/-- The frame's records begin: a ring frame takes its slot (R241). -/
def beginRecords (c : CtxId) (f : Frame) (s : State) : State :=
  match f.clip.bind (clipOf s c) with
  | none => s
  | some k => if k.cfg.target = .ring then (takeSlot c (some f.number) none s).1 else s

/-- The next clip id (R238). -/
def newClipId (s : State) (c : CtxId) : Nat :=
  2 ^ 32 * (timeNow s / 1000000000 % 2 ^ 32) + 8 * (s.clipCount % 2 ^ 29) + c.val

/-- A clip starts recording at hinge `h`, or the ring is armed if it has room; else REC_RING_FULL (R238, R242). -/
def openClip (c : CtxId) (id h : Nat) (s : State) : State :=
  let k := s.contexts[c].live.recording
  let r := s.recs[c]
  if k.target = .ring && freeSlots r < k.pre + k.post + 3 then post 0x0983 (some c) 0 (freeSlots r) s
  else modRec c (fun r => { r with
    clips := r.clips ++ [{ id := id, ctx := c, cfg := k, fromHinge := h }], lastClip := id
    ring := if k.target = .ring then r.ring.map fun x => if x.pinned.isSome then x else {} else r.ring }) s

/-- The ring clip freezes: its window is pinned, every other frame released, and the seal begins; the ring re-arms
when automatic re-arm is set (R243, R249). -/
def freezeClip (c : CtxId) (id h reason : Nat) (s : State) : State :=
  match clipOf s c id with
  | none => s
  | some k =>
    let lo := match k.trigger with | some (t, _) => t - k.cfg.pre | none => 0
    let inWindow := fun x : RingSlot => x.pinned.isNone && (match x.frame with
      | some n => decide (lo ≤ n) && k.wants n && k.frames.any fun y => y.1 == n
      | none => false)
    let kept := (s.recs[c].ring.filter inWindow).flatMap RingSlot.records
    let chained := sortSeq (kept.filter Rec.chained)
    let frames := (chained.filter fun x => x.kind == 3).map fun x => (x.frame, x.addr)
    let pin := fun x : RingSlot =>
      if inWindow x then { x with pinned := some id } else if x.pinned.isSome then x else {}
    let t := modRec c (fun r => { r with ring := r.ring.map pin }) s
    let t := modClip c id (fun k => { k with
      stage := some .draining, reason := reason, frames := frames
      first := (frames.head?.map Prod.fst).getD k.first, last := (frames.getLast?.map Prod.fst).getD k.last
      openTime := ((chained.find? fun x => x.kind == 3).map fun x =>
        fieldAt x.body 16 6 * 1000000000 + fieldAt x.body 22 4).getD k.openTime
      chain := chained.foldl chainNext (List.replicate 32 0), chained := chained.length }) t
    let t := modCtx c (untag id) t
    if k.cfg.triggers.getLsbD 3 then
      openClip c (newClipId t c) h { t with clipCount := t.clipCount + 1 }
    else t

/-! ## What a hinge does for recording (R240, R243, R249, R251) -/

/-- Free bytes of a volume's log. -/
def Volume.free (v : Volume) : Nat := v.capacity - v.append

/-- The open clips on a port. -/
def clipsOn (s : State) (p : Fin 2) : List Clip :=
  allCtx.flatMap fun c => s.recs[c].clips.filter fun k => k.cfg.target == .media p

/-- Recording of a clip stops at hinge `h` (R249). -/
def stopClip (c : CtxId) (id h reason : Nat) (s : State) : State :=
  modClip c id (fun k => if k.stopHinge.isSome || k.stage.isSome then k
    else { k with stopHinge := some h, reason := reason }) s

/-- Every clip of context `c` that still records stops at hinge `h`. -/
def stopClips (c : CtxId) (h reason : Nat) (s : State) : State :=
  forEach s.recs[c].clips (fun k => stopClip c k.id h reason) s

/-- Media full: every open clip of a volume whose free log has fallen to the sum of their reserves stops (R251). -/
def mediaFull (p : Fin 2) (h : Nat) (s : State) : State :=
  let l := clipsOn s p
  match s.media[p].volume with
  | none => s
  | some v =>
    if l.isEmpty || l.length * 2 ^ 24 < v.free then s else forEach l (fun k => stopClip k.ctx k.id h 1) s

/-- A clip at hinge `h`: a triggered ring freezes, a stopped clip begins its seal, an untriggered ring disarms
(R243, R249, REC_STOP). -/
def clipHinge (c : CtxId) (h : Nat) (k : Clip) (s : State) : State :=
  if k.stage.isSome then s
  else if k.cfg.target = .ring then
    match k.trigger, k.stopHinge with
    | some (t, _), x =>
      if k.frames.any fun y => t + k.cfg.post ≤ y.1 then freezeClip c k.id h 2 s
      else if (match x with | some y => decide (y + 2 ≤ h) | none => false) then freezeClip c k.id h 0 s
      else s
    | none, some x =>
      if x ≤ h then
        answerStop k .ok 0 (modRec c (fun r => { r with
          clips := r.clips.filter fun y => y.id != k.id
          ring := r.ring.map fun y => if y.pinned.isSome then y else {} })
          (modCtx c (untag k.id) s))
      else s
    | none, none => s
  else
    match k.stopHinge with
    | some x => if x + 2 ≤ h then modClip c k.id (fun k => { k with stage := some .draining }) s else s
    | none => s

/-- REC_CHUNK_GAP, once per hinge (R240). -/
def gapEvent (c : CtxId) (s : State) : State :=
  let g := s.recs[c].gapsNow
  if g.1 = 0 then s
  else post 0x0982 (some c) (BitVec.ofNat 48 g.2) (g.2 + 2 ^ 48 * (g.1 % 2 ^ 16))
    (modRec c (fun r => { r with gapsNow := (0, 0) }) s)

/-- CMP_RAWPACK_LATE, once per hinge at which a context has late chunks; each late chunk counts once (R229). -/
def lateChunks (c : CtxId) (s : State) : State :=
  let fs := s.contexts[c].slotReaders
  match fs.head? with
  | none => s
  | some f =>
    let n := (fs.map fun g => g.chunksLeft.length).sum
    let new := (fs.filter fun g => !g.lateCounted).map fun g => g.chunksLeft.length
    post 0x0880 (some c) (BitVec.ofNat 48 f.number) (f.number + 2 ^ 48 * (n % 2 ^ 16))
      (modCtx c (fun x => { x with slotReaders := x.slotReaders.map fun g => { g with lateCounted := true } })
        { s with cmp := { s.cmp with late := s.cmp.late.set c (bumpBy s.cmp.late[c] new.sum) } })

/-- Volumes whose log is full at hinge `h`, before it takes a frame (R251). -/
def fullVolumes (h : Nat) (s : State) : State := forEach [0, 1] (fun p => mediaFull p h) s

/-- Recording at hinge `h`, once results are live. -/
def recordHinge (h : Nat) (s : State) : State :=
  forEach allCtx (fun c t => lateChunks c (gapEvent c (forEach t.recs[c].clips (clipHinge c h) t))) s

/-! ## Seals (R249, R250) -/

/-- The firmware measurement (R425). -/
def measurementBytes (s : State) : List Byte :=
  leBytes 32 (match s.boot.firmware with | some f => f.measurement.toNat | none => 0)

/-- Bytes 0 to 151 of a MANIFEST (R250). -/
def manifestHead (s : State) (k : Clip) (kind : Nat) (openTime : List Byte) : List Byte :=
  image 152 [(0, [0x53, 0x5A, 0x4D, 0x46]), put 4 2 1, put 6 1 k.ctx.val, put 7 1 kind, put 8 8 k.id, put 16 6 k.first,
    put 22 6 k.last, put 28 4 k.chained, (32, k.chain), (64, serialBytes s), (80, measurementBytes s), (112, openTime),
    (122, timeBytes k.sealTime), put 132 1 k.reason, put 136 8 k.leaf]

/-- The MANIFEST body. -/
def manifestBody (s : State) (k : Clip) (kind : Nat) (openTime : List Byte) : List Byte :=
  let m := manifestHead s k kind openTime
  m ++ xmss k.leaf m

/-- The INDEX record's body: its record count and the frames' addresses (R247). -/
def indexBody (k : Clip) : List Byte := Config.recordBody 8 (k.chained :: k.frames.flatMap fun x => [x.1, x.2])

/-- The SEAL_MARK record's body (R247). -/
def markBody (manifest index kind : Nat) : List Byte := Config.recordBody 9 [manifest, index, kind]

/-- The records of a clip's image in ascending sequence: the chained ones up to the last FRAME, then the seal's
(R263). -/
def imageOf (l : List Rec) (id : Nat) : List Rec :=
  let mine := l.filter fun r => r.clip == id
  let lastFrame := (mine.filter fun r => r.kind == 3).foldl (fun n r => Max.max n r.seq) 0
  (mine.filter fun r => r.chained && r.seq ≤ lastFrame) ++
    ([7, 8, 9].filterMap fun n => (mine.filter fun r => r.kind == n).getLast?)

/-- Records of clip `id` as stored on its target. -/
def storedRecords (s : State) (c : CtxId) (k : Clip) : List Rec :=
  match k.cfg.target with
  | .ring =>
    sortSeq ((s.recs[c].ring.filter fun x => x.pinned == some k.id).flatMap RingSlot.records)
  | .media p => match s.media[p].volume with | some v => v.log | none => []
  | _ => []

/-- The clip view's source code of a target, none for a host ring (R262, R265). -/
def viewSource : RecTarget → Option Nat
  | .ring => some 0
  | .media p => some (1 + p.val)
  | _ => none

/-- The SEAL_MARK is written: REC_SEALED, the clip view, and REC_STOP's end (R249, R262). -/
def clipSealed (c : CtxId) (k : Clip) (kind : Nat) (s : State) : State :=
  let t := match viewSource k.cfg.target with
    | none => s
    | some n =>
      let x : SealedClip := ⟨k.id, n, c, kind, k.first, k.last, k.reason, k.sealTime, imageOf (storedRecords s c k) k.id⟩
      { s with stg := { s.stg with view := s.stg.view ++ [x] } }
  let t := modRec c (fun r => { r with clips := r.clips.filter fun y => y.id != k.id }) t
  let t := if k.retried then { t with collector := { t.collector with
    acting := t.collector.acting.filter fun a => a != 0x4F } } else t
  answerStop k .ok 0 (post 0x0980 (some c) 0 k.id t)

/-- Steps 7 to 9 of a ring seal, into slots pinned with the clip, and of a host ring (R249). -/
def sealAtOnce (c : CtxId) (k : Clip) (manifest : List Byte) (s : State) : State :=
  let write := fun (kind : Nat) (body : List Byte) (t : State) =>
    if k.cfg.target = .ring then
      let (t, i) := takeSlot c none (some k.id) t
      putSlot c i k.id kind k.last body t
    else putHost k.cfg k.id kind k.last body t
  let (t, m) := write 7 manifest s
  let (t, x) := write 8 (indexBody k) t
  let (t, _) := write 9 (markBody m.addr x.addr 0) t
  clipSealed c k 0 t

/-- The manifest is signed, step 6: step 7 begins (R249). -/
def manifestSigned (c : CtxId) (id : Nat) (s : State) : State :=
  match clipOf s c id with
  | none => s
  | some k =>
    let k := { k with sealTime := timeNow s, stage := some .manifest }
    let body := manifestBody s k 0 (timeBytes k.openTime)
    let t := modClip c id (fun _ => k) s
    match k.cfg.target with
    | .media p =>
      let (t, x) := putMedia p (.manifest id) id 7 k.last body t
      modClip c id (fun k => { k with marks := (x.addr, 0) }) t
    | _ => sealAtOnce c k body t

/-- The clip with this id, wherever its context. -/
def findClip (s : State) (id : Nat) : Option Clip :=
  (allCtx.flatMap fun c => s.recs[c].clips).find? fun k => k.id == id

/-- The management tick moves a draining seal on, once its proxy pictures are coded: Flush on media, else the
signature (R249 steps 3 to 5). -/
def sealTick (pending : CtxId → Nat → Bool) (s : State) : State :=
  forEach (allCtx.flatMap fun c => s.recs[c].clips) (fun k t =>
    if k.stage ≠ some .draining || pending k.ctx k.last then t
    else match k.cfg.target with
      | .media p => drive p (.tailFlush k.id) (modClip k.ctx k.id (fun k => { k with stage := some .flushing }) t)
      | _ => askSeal k.ctx k.id t) s

/-- A drive's Write or Flush has succeeded (R246, R249). -/
def mediaDone (p : Fin 2) (u : MediaUse) (s : State) : State :=
  let logged := fun (r : Rec) => modVolume p (fun v => { v with log := v.log ++ [r] }) s
  match u with
  | .log r => logged r
  | .tailFlush id => match findClip s id with
    | some k => askSeal k.ctx id s
    | none => s
  | .manifest id r =>
    let t := logged r
    match findClip t id with
    | none => t
    | some k =>
      let (t, x) := putMedia p (.index id) id 8 k.last (indexBody k) t
      drive p (.indexFlush id) (modClip k.ctx id (fun k => { k with stage := some .index, marks := (k.marks.1, x.addr) }) t)
  | .index _ r => logged r
  | .indexFlush id => match findClip s id with
    | none => s
    | some k =>
      let (t, _) := putMedia p (.mark id) id 9 k.last (markBody k.marks.1 k.marks.2 0) s
      modClip k.ctx id (fun k => { k with stage := some .mark }) t
  | .mark id r => drive p (.header (some id)) (logged r)
  | .header id =>
    let t := modVolume p (fun v => { v with generation := v.generation + 1, lastSealed := id.getD v.lastSealed }) s
    match id.bind (findClip t) with
    | some k => clipSealed k.ctx k 0 t
    | none => t
  | .read _ => s

/-- The clip a drive command serves. -/
def useClip : MediaUse → Option Nat
  | .log r => some r.clip
  | .tailFlush id | .manifest id _ | .index id _ | .indexFlush id | .mark id _ => some id
  | .header id => id
  | .read _ => none

/-- The command is a Write (R245). -/
def isWrite : MediaUse → Bool
  | .log _ | .manifest .. | .index .. | .mark .. | .header _ => true
  | _ => false

/-- A drive reports an error: source 0x4E for a Write, and the clip ends unsealed (R245, R249, R253). -/
def mediaFailed (u : MediaUse) (s : State) : State :=
  match (useClip u).bind (findClip s) with
  | none => if isWrite u then raise0 0x4E s else s
  | some k =>
    let t := if isWrite u then raise (src 0x4E) (some k.ctx) (BitVec.ofNat 48 k.last) (Config.faultDetail 0x4E) s else s
    abandonClip k.ctx k.id (if isWrite u then 0x4E else 0) t

/-! ## Volumes (R246, R252) -/

/-- The clips of a port leave the view (R262). -/
def dropView (p : Fin 2) (s : State) : State :=
  { s with stg := { s.stg with view := s.stg.view.filter fun x => x.source != 1 + p.val } }

/-- REC_MEDIA_STATE (R254). -/
def mediaState (p : Fin 2) (st source : Nat) (s : State) : State :=
  post 0x0984 none 0 (p.val + 2 ^ 8 * st + 2 ^ 16 * source) s

/-- A port is gone, with the fault source behind it or 0: its clips end unsealed, its volume is unmounted (R245, R262). -/
def mediaGone (n : Nat) (p : Fin 2) (s : State) : State :=
  let l := clipsOn s p
  let was := s.media[p].mounted
  let t := modVolume p (fun v => { v with portLost := v.portLost ++ l.map Clip.id }) s
  let t := forEach l (fun k => abandonClip k.ctx k.id n) t
  let t := modMedia p (fun x => { x with outstanding := [], mounted := false }) t
  if was then mediaState p (if n = 0 then 0 else 2) n (dropView p t) else t

/-- A port is lost (R253). -/
def mediaLost (p : Fin 2) (s : State) : State := mediaGone (0x4C + p.val) p (raise0 (0x4C + p.val) s)

/-- A leaf for a recovery manifest, its block reserved when none is left (R252, R431, R432). -/
def recoveryLeaf (s : State) : State × Nat :=
  let l := s.sec.nextLeaf
  let k := l / 1024
  let t := if s.sec.limit ≤ l then
      modSec (fun y => { y with leafSeq := k + 1, limit := 1024 * (k + 1) })
        (appendLeaf 1 (leafRecord k) (appendLeaf 0 (leafRecord k) s))
    else s
  (modSec (fun y => { y with nextLeaf := l + 1, made := bump y.made }) t, l)

/-- A clip that a reset or a lost port cut short is recovered, signed and marked (R252 steps 2 to 5). -/
def recoverClip (p : Fin 2) (id : Nat) (s : State) : State :=
  match s.media[p].volume with
  | none => s
  | some v =>
    let c : CtxId := ⟨id % 8, Nat.mod_lt _ (by decide)⟩
    let mine := v.log.filter fun r => r.clip == id
    let frames := mine.filter fun r => r.kind == 3
    let cut := frames.foldl (fun n r => Max.max n r.seq) 0
    let kept := mine.filter fun r => r.chained && r.seq ≤ cut
    let reason := if mine.any fun r => r.kind == 7 then 0x11 else if v.portLost.contains id then 0x12 else 0x10
    if !canSign s then raise (src 0x4F) (some c) 0 (Config.faultDetail 0x4F) s
    else
      let (t, leaf) := recoveryLeaf s
      let k : Clip := { id := id, ctx := c, cfg := { target := .media p }, fromHinge := 0, opened := true
                        first := (frames.head?.map Rec.frame).getD 0, last := (frames.getLast?.map Rec.frame).getD 0
                        chain := kept.foldl chainNext (List.replicate 32 0), chained := kept.length
                        frames := frames.map fun r => (r.frame, r.addr)
                        reason := reason, leaf := leaf, sealTime := timeNow s }
      let openTime := match frames.head? with | some r => slice r.body 16 10 | none => timeBytes 0
      let append := fun (kind : Nat) (body : List Byte) (v : Volume) =>
        let r : Rec := ⟨kind, id, k.last, v.seq, v.append, recordBytes kind id v.seq body⟩
        { v with log := v.log ++ [r], seq := v.seq + 1, append := v.append + r.bytes.length }
      let v1 := append 7 (manifestBody s k 1 openTime) v
      let v2 := append 8 (indexBody k) v1
      let v3 := append 9 (markBody v.append v1.append 1) v2
      clipSealed c k 1 (modVolume p (fun _ => { v3 with
        generation := v3.generation + 1, lastSealed := id, portLost := v3.portLost.filter fun x => x != id }) t)

/-- The clips of a log with a CLIP_OPEN and no SEAL_MARK (R252 step 2). -/
def unsealed (l : List Rec) : List Nat :=
  ((l.filter fun r => r.kind == 1).map Rec.clip).filter fun id => !(l.any fun r => r.kind == 9 && r.clip == id)

/-- A sealed clip of a mounted volume as the view shows it, read back from its records (R262). -/
def viewOf (p : Fin 2) (l : List Rec) (id : Nat) : Option SealedClip :=
  match (l.filter fun r => r.clip == id && r.kind == 7).getLast? with
  | none => none
  | some m =>
    let f := fieldAt m.body
    some ⟨id, 1 + p.val, ⟨f 6 1 % 8, Nat.mod_lt _ (by decide)⟩, f 7 1, f 16 6, f 22 6, f 132 1,
      f 122 6 * 1000000000 + f 128 4, imageOf l id⟩

/-- A volume is mounted: the log ends with its last record, its sealed clips enter the view, and the recovery pass
seals the rest (R252, R262). A drive the device has not seen has an empty log (log 39). -/
def mountVolume (p : Fin 2) (i : VolumeInfo) (s : State) : State :=
  let v : Volume := match s.media[p].volume with
    | some v => if v.id = i.volumeId then v else ⟨i.lbaSize, i.capacity, i.rate, i.volumeId, 0, 2 ^ 21, 0, 0, [], []⟩
    | none => ⟨i.lbaSize, i.capacity, i.rate, i.volumeId, 0, 2 ^ 21, 0, 0, [], []⟩
  let v := match v.log.getLast? with
    | some r => { v with append := r.addr + r.bytes.length, seq := r.seq + 1 }
    | none => { v with append := 2 ^ 21, seq := 0 }
  let done := ((v.log.filter fun r => r.kind == 9).map Rec.clip).filterMap (viewOf p v.log)
  let t := modMedia p (fun x => { x with volume := some v, mounted := true }) s
  let t := { t with stg := { t.stg with view := t.stg.view ++ done } }
  mediaState p 1 0 (forEach (unsealed v.log) (recoverClip p) t)

/-- MEDIA_OP_DONE: a mount, format or unmount ends; with none commanded it is the mount at start-up (R246, R252,
REC_MEDIA). -/
def mediaOpDone (p : Fin 2) (ok : Bool) (i : VolumeInfo) (s : State) : State :=
  let t := modMedia p (fun x => { x with op := none }) s
  match s.media[p].op with
  | none => if ok && !s.media[p].mounted && domainOn s 15 && s.kongaord then mountVolume p i t else s
  | some (op, m, tag) =>
    if !ok then endBackground m 0x0901 tag .hwFault 0 t
    else
      let t :=
        if op = 0 then if s.media[p].mounted then t else mountVolume p i t
        else if op = 1 then modMedia p (fun x => { x with
          volume := some ⟨i.lbaSize, i.capacity, i.rate, i.volumeId, 1, 2 ^ 21, 0, 0, [], []⟩ }) (dropView p t)
        else if s.media[p].mounted then mediaState p 0 0 (dropView p (modMedia p (fun x => { x with mounted := false }) t))
        else t
      armFlags (endBackground m 0x0901 tag .ok 0 t)

/-! ## Commands -/

/-- The port a REC_MEDIA payload names. -/
def argMedia (e : Entry) : Fin 2 := ⟨arg e 0 1 % 2, Nat.mod_lt _ (by decide)⟩

/-- REC_MEDIA, 0x0901. -/
def recMediaSpec : Spec where
  opcode := 0x0901
  deadboltWhen := fun e => arg e 1 1 == 2
  len := .exact 8
  isBackground := true
  fields := fun _ _ => [range 0 1 0 1, range 1 1 0 2, rsv 2 6]
  states := fun e s => firstFail [
    (!domainOn s 15, wrong 5),
    (!(clipsOn s (argMedia e)).isEmpty, wrong (ctxMask ((clipsOn s (argMedia e)).map Clip.ctx))),
    (s.media[argMedia e].op.isSome, ⟨.busyRetry, Config.openDetail 0x0901 0x8005⟩)]
  effect := fun e s =>
    let free := match s.media[argMedia e].volume with | some v => v.free / 2 ^ 20 | none => 0
    .background (modMedia (argMedia e) (fun x => { x with op := some (arg e 1 1, e.mb, e.tag) }) s) none free

/-- The target code of REC_SET_TARGET. -/
def targetOf (n : Nat) : RecTarget :=
  if n = 1 then .ring else if n = 2 then .media 0 else if n = 3 then .media 1 else if n = 4 then .host else .none

/-- The target a REC_SET_TARGET payload describes. -/
def recCfgOf (e : Entry) : RecCfg where
  target := targetOf (arg e 1 1)
  t1 := arg e 2 1 == 1
  audio := BitVec.ofNat 4 (arg e 3 1)
  proxy := BitVec.ofNat 4 (arg e 4 1)
  triggers := BitVec.ofNat 4 (arg e 5 1)
  channel := ⟨arg e 6 1 % 4, Nat.mod_lt _ (by decide)⟩
  budget := arg e 8 4
  pre := arg e 12 4
  post := arg e 16 4
  timecode := BitVec.ofNat 32 (arg e 20 4)
  ringSize := arg e 24 8
  hostAddr := BitVec.ofNat 64 (arg e 32 8)

/-- A start of recording of context `c` is armed or held. -/
def startPending (s : State) (c : CtxId) : Bool :=
  (s.cmd.armed.map Armed.change ++ heldChanges s).any fun x => match x with
    | .recStart d _ => d == c
    | _ => false

/-- A clip of context `c` is open, its ring armed, or its ring seal under way. -/
def clipOpen (s : State) (c : CtxId) : Bool :=
  startPending s c || s.recs[c].clips.any fun k => k.stage.isNone || k.cfg.target == .ring

/-- REC_SET_TARGET, 0x0902. -/
def recSetTargetSpec : Spec where
  opcode := 0x0902
  len := .exact 40
  bank := true
  fields := fun e _ => [ctxField, range 1 1 0 4, range 2 1 0 1, range 3 1 0 15, range 4 1 0 15, range 5 1 0 15,
    range 6 1 0 3, rsv 7 1, range 8 4 64 2304, range 12 4 0 1048575, range 16 4 0 1048575, anyVal 20 4,
    ⟨24, 8, fun v => v % 4096 == 0⟩, ⟨32, 8, fun v => if arg e 1 1 = 4 then v % 4096 == 0 else v == 0⟩]
  states := fun e s => (freeFail s (argCtx e)).or (if clipOpen s (argCtx e) then some (wrong 0xA) else none)
  touches := fun e _ => [argCtx e]
  tumbler := fun e s => budgetFail s [.recTarget (argCtx e) (recCfgOf e)]
  effect := fun e s =>
    let k := recCfgOf e
    .arm s [.recTarget (argCtx e) k] (some (argCtx e))
      (if k.target = .ring then ringSlots (shadow s (argCtx e)) k else 0)

/-- The payload of a context and seven reserved bytes. -/
def ctxOnly : List Field := [ctxField, rsv 1 7]

/-- The target is none, or a port without a mounted volume (REC_START). -/
def targetMissing (s : State) (k : RecCfg) : Bool :=
  match k.target with
  | .none => true
  | .media p => !s.media[p].mounted
  | _ => false

/-- REC_START, 0x0903. -/
def recStartSpec : Spec where
  opcode := 0x0903
  len := .exact 8
  bank := true
  fields := fun _ _ => ctxOnly
  states := fun e s => (freeFail s (argCtx e)).or (firstFail [
    (targetMissing s (shadow s (argCtx e)).recording, wrong 0xB),
    (clipOpen s (argCtx e), wrong 0xA)])
  touches := fun e _ => [argCtx e]
  tumbler := fun e s => budgetFail s [.recStart (argCtx e) (BitVec.ofNat 64 (newClipId s (argCtx e)))]
  effect := fun e s =>
    let id := newClipId s (argCtx e)
    .arm { s with clipCount := s.clipCount + 1 } [.recStart (argCtx e) (BitVec.ofNat 64 id)] (some (argCtx e)) id

/-- The clip of context `c` that records now and has no stop yet. -/
def openClipOf (s : State) (c : CtxId) : Option Clip :=
  s.recs[c].clips.find? fun k => k.stage.isNone && k.stop.isNone

/-- REC_STOP, 0x0904. -/
def recStopSpec : Spec where
  opcode := 0x0904
  len := .exact 8
  isBackground := true
  fields := fun _ _ => ctxOnly
  states := fun e s => (freeFail s (argCtx e)).or
    (if (openClipOf s (argCtx e)).isNone then some (wrong (Config.openDetail 0x0904 0x8004)) else none)
  touches := fun e _ => [argCtx e]
  effect := fun e s =>
    let c := argCtx e
    let h := reachable s
    match openClipOf s c with
    | none => .reply s {}
    | some k =>
      let t := modClip c k.id (fun k => { k with stop := some (e.mb, e.tag) }) s
      .background (armAt h (nextSeq s.cmd.accepted).toNat [.recStop c 0] t) (some c) (firstFrameAt s c h)

/-- REC_TRIGGER, 0x0905. -/
def recTriggerSpec : Spec where
  opcode := 0x0905
  len := .exact 8
  bank := true
  fields := fun _ _ => ctxOnly
  states := fun e s => (freeFail s (argCtx e)).or (if ringArmed s (argCtx e) && triggerOn s (argCtx e) 2 then none
    else some (wrong (Config.openDetail 0x0905 0x8004)))
  touches := fun e _ => [argCtx e]
  effect := fun e s => .arm s [.recTrigger (argCtx e)] (some (argCtx e)) (Config.openDetail 0x0905 1)

/-- A REC_RELEASE payload's clip id. -/
def releaseId (e : Entry) : Nat := arg e 0 8

/-- A ring clip is pinned under this id. -/
def pinnedClip (s : State) (id : Nat) : Bool :=
  allCtx.any fun c => s.recs[c].ring.any fun x => x.pinned == some id

/-- The slots of clip `id` are unpinned and it leaves the view (R241, R262). -/
def releaseClip (id : Nat) (s : State) : State :=
  let t := forEach allCtx (fun c => modRec c fun r => { r with
    ring := r.ring.map fun x => if x.pinned = some id then {} else x }) s
  { t with stg := { t.stg with view := t.stg.view.filter fun x => !(x.id == id && x.source == 0) } }

/-- A host command holds a ward entry over the extent of ring clip `id` (R264). -/
def wardOnClip (s : State) (id : Nat) : Bool :=
  match s.stg.directory.find? fun d => d.present && d.clip.id == id && d.clip.source == 0 with
  | none => false
  | some d =>
    let n := 256 * ceilDiv ((d.clip.records.map fun r => r.bytes.length).sum) (256 * 4096)
    s.stg.ward.any fun w => w.taken && w.ranges.any fun r => r.ns == 1 && r.lba < d.lba + n && d.lba < r.lba + r.count

/-- REC_RELEASE, 0x0906. -/
def recReleaseSpec : Spec where
  opcode := 0x0906
  len := .exact 8
  fields := fun _ s => [⟨0, 8, pinnedClip s⟩]
  states := fun e s => if (findClip s (releaseId e)).isSome || wardOnClip s (releaseId e)
    then some ⟨.busyRetry, Config.openDetail 0x0906 0x8005⟩ else none
  effect := fun e s => .reply (releaseClip (releaseId e) s) { detail := Config.openDetail 0x0906 0 }

/-- The state code of REC_GET_STATUS. -/
def recState (r : Recording) : Nat :=
  match r.clips.getLast? with
  | none => 0
  | some k =>
    if k.stage.isSome then 4
    else if k.cfg.target = .ring then (if k.trigger.isSome then 3 else 2)
    else 1

/-- Free bytes of the media the context records to. -/
def mediaFree (s : State) (k : RecCfg) : Nat :=
  match k.target with
  | .media p => if s.media[p].mounted then (s.media[p].volume.map Volume.free).getD 0 else 0
  | _ => 0

/-- REC_GET_STATUS, 0x0907. -/
def recGetStatusSpec : Spec where
  opcode := 0x0907
  len := .exact 64
  noInline := true
  deadbolt := true
  fields := fun _ _ => ctxOnly
  states := fun e s => freeFail s (argCtx e)
  effect := fun e s =>
    let c := argCtx e
    let r := s.recs[c]
    .reply s { detail := Config.openDetail 0x0907 0, ctx := ctxByte (some c), back := some (8, (image 64 [
      put 8 1 (recState r), put 16 8 r.lastClip, put 24 4 r.frames.toNat, put 28 4 r.gaps.toNat, put 32 4 r.ignored.toNat,
      put 36 4 (freeSlots r), put 40 8 (mediaFree s s.contexts[c].live.recording)]).drop 8) }

/-! ## Rows -/

/-- TRIG_IN_EDGE: the frame taken at the latest taking hinge triggers every armed ring that listens (R243). -/
def trigInEdge (s : State) : State :=
  forEach allCtx (fun c t =>
    match t.contexts[c].takings.head? with
    | none => t
    | some (_, n) => if triggerOn t c 0 then trigger c n.toNat 0 t else t) s

/-- SEAL_RETRY: a failed seal is retried once with a fresh leaf (R385). -/
def sealRetry (c : CtxId) (s : State) : State :=
  match s.recs[c].clips.find? fun k => k.stage == some .failed with
  | none => s
  | some k => askSeal c k.id (modClip c k.id (fun k => { k with retried := true }) s)

/-- REC_MEDIA. -/
def execRecMedia (e : Entry) (s : State) : Host.Outcome State Fault Refusal := .next (runCommand recMediaSpec e s)
/-- REC_SET_TARGET. -/
def execRecSetTarget (e : Entry) (s : State) : Host.Outcome State Fault Refusal := .next (runCommand recSetTargetSpec e s)
/-- REC_START. -/
def execRecStart (e : Entry) (s : State) : Host.Outcome State Fault Refusal := .next (runCommand recStartSpec e s)
/-- REC_STOP. -/
def execRecStop (e : Entry) (s : State) : Host.Outcome State Fault Refusal := .next (runCommand recStopSpec e s)
/-- REC_TRIGGER. -/
def execRecTrigger (e : Entry) (s : State) : Host.Outcome State Fault Refusal := .next (runCommand recTriggerSpec e s)
/-- REC_RELEASE. -/
def execRecRelease (e : Entry) (s : State) : Host.Outcome State Fault Refusal := .next (runCommand recReleaseSpec e s)
/-- REC_GET_STATUS. -/
def execRecGetStatus (e : Entry) (s : State) : Host.Outcome State Fault Refusal := .next (runCommand recGetStatusSpec e s)
/-- MEDIA_OP_DONE. -/
def execMediaOpDone (p : Fin 2) (ok : Bool) (v : VolumeInfo) (s : State) : Host.Outcome State Fault Refusal :=
  .next (mediaOpDone p ok v s)
/-- TRIG_IN_EDGE. -/
def execTrigInEdge (s : State) : Host.Outcome State Fault Refusal := .next (trigInEdge s)
/-- SEAL_RETRY. -/
def execSealRetry (c : CtxId) (s : State) : Host.Outcome State Fault Refusal := .next (sealRetry c s)

end Sys2Proof.Machine
end

