-- ==== Sys2Proof/Machine/Audio.lean ====
section
/-!
DEFINITION. Audio: the audio ports (16): frames, FIFOs and blocks (R343), starts (R344), fades, clock loss and slot masks
(R345 to R347), monitors (R348), and the AUD_ commands.
-/

namespace Sys2Proof.Machine

/-! ## Fades and masks (R346, R347) -/

/-- 0.5 (1 − cos(π p / 64)) for p from 0 to 64, in 2^-40: the gain at place p of a ramp (R345, R347, log 50). -/
def rampTable : List Nat :=
  [0, 662204954, 2647224507, 5950276573, 10563403811, 16475492791, 23672300775, 32136490022, 41847669558, 52782444301,
   64914471421, 78214523802, 92650560453, 108187803698, 124788822956, 142413624917, 161019749891, 180562374092] ++
  [200994417628, 222266657914, 244327848262, 267124841332, 290602717170, 314704915517, 339373372067, 364548658346,
   390170124885, 416176047327, 442503775126, 469089882482, 495870321131, 522780574653, 549755813888] ++
  [576731053123, 603641306645, 630421745294, 657007852650, 683335580449, 709341502891, 734962969430, 760138255709,
   784806712259, 808908910606, 832386786444, 855183779514, 877244969862, 898517210148, 918949253684] ++
  [938491877885, 957098002859, 974722804820, 991323824078, 1006861067323, 1021297103974, 1034597156355, 1046729183475,
   1057663958218, 1067375137754, 1075839327001, 1083036134985, 1088948223965, 1093561351203, 1096864403269, 1098849422822,
   1099511627776]

/-- A sample at place `p` of a ramp, rounded half away from zero (log 50). -/
def atPlace (p : Nat) (v : BitVec 32) : BitVec 32 := BitVec.ofInt 32 (roundAway (v.toInt * rampTable.getD p 0) (2 ^ 40))

/-- One frame of a slot: in the mask it ramps in, outside it fades out; its sample, or none once it has left (R347). -/
def gainStep (on : Bool) (v : BitVec 32) (g : SlotGain) : SlotGain × Option (BitVec 32) :=
  if on then
    let p := Min.min 64 (g.pos + 1)
    (⟨p, v⟩, some (atPlace p v))
  else if g.pos = 0 then (g, none)
  else ({ g with pos := g.pos - 1 }, some (atPlace (g.pos - 1) g.hold))

/-- One frame through the gains of its slots (R347). -/
def gainFrame (slots : Nat) (mask : BitVec 16) (v : Nat → BitVec 32) (g : Vector SlotGain 16) :
    Vector SlotGain 16 × AudioFrame :=
  (List.finRange 16).foldl (fun (a : Vector SlotGain 16 × AudioFrame) (i : Fin 16) =>
    if i.val < slots then
      let r := gainStep (mask.getLsbD i.val) (v i.val) a.1[i]
      (a.1.set i r.1, match r.2 with | some x => a.2 ++ [(i.val, x)] | none => a.2)
    else a) (g, [])

/-- One frame through the stream's fade (R345, R346). -/
def fadeStep (f : AudioFrame) : FadeState → FadeState × AudioFrame
  | .good => (.good, f)
  | .fading i hold => (if 64 ≤ i then .silent else .fading (i + 1) hold, hold.map fun x => (x.1, atPlace (64 - i) x.2))
  | .silent => (.silent, f.map fun x => (x.1, 0))
  | .ramping i => (if 64 ≤ i then .good else .ramping (i + 1), f.map fun x => (x.1, atPlace i x.2))

/-- A loss: a fade-out from the values last given begins, unless the stream fades or is silent already (R345, R346). -/
def disrupt (last : AudioFrame) : FadeState → FadeState
  | .good => .fading 1 last
  | .ramping _ => .fading 1 last
  | .fading i h => .fading i h
  | .silent => .silent

/-- A sample as the port's width keeps it, left-aligned (R340). -/
def widthMask (bits : Nat) (v : BitVec 32) : BitVec 32 := v &&& (BitVec.allOnes 32 <<< (32 - bits))

/-! ## One frame (R343, R346, R348) -/

/-- Frames of the input FIFO that take a place. -/
def fifoFill (y : AudioPort) : Nat := (y.inFifo.filter fun x => !x.1).length

/-- The fade event of a port, once per hinge (R346). -/
def noteFade (kind : Nat) (y : AudioPort) : AudioPort := { y with fadeNow := if y.fadeNow = 0 then kind else y.fadeNow }

/-- A frame enters the input FIFO, or, in overrun, is discarded with a faded frame in its place (R346). -/
def receive (p : QuadId) (f : AudioFrame) (s : State) : State :=
  let y := s.audio.ports[p]
  if y.overrun || 256 ≤ fifoFill y then
    let fade := if y.overrun then y.inFade else disrupt y.inLast y.inFade
    let r := fadeStep f fade
    let t := modAud p (fun y => { (if y.overrun then y else noteFade 1 { y with overruns := bump y.overruns }) with
      overrun := true, inFade := r.1, inLast := r.2, inFifo := y.inFifo ++ [(true, r.2)]
      discarded := bump y.discarded, discardedNow := y.discardedNow + 1 }) s
    when (!y.overrun) (raise0 0x56) t
  else
    let r := fadeStep f y.inFade
    modAud p (fun y => { y with inFade := r.1, inLast := r.2, inFifo := y.inFifo ++ [(false, r.2)] }) s

/-- The monitored port gives no frames: stopped, or its clock lost (R348). -/
def monitorDead (s : State) (q : QuadId) : Bool := !s.audio.ports[q].running || s.audio.ports[q].lost

/-- The frame an output sends next, before its mask and fade: none in underrun (R346, R348). -/
def nextOut (p : QuadId) (s : State) : State × Option AudioFrame :=
  let y := s.audio.ports[p]
  match y.cfg.bind AudioCfg.monitor with
  | none => (s, some [])
  | some q =>
    let dead := monitorDead s q || !y.running
    let t := if y.underrun && !dead && 128 ≤ y.outFifo.length then
        modAud p (fun y => { y with underrun := false, outFade := .ramping 1 }) s
      else s
    let y := t.audio.ports[p]
    if y.underrun then (t, none)
    else if dead || y.outFifo.isEmpty then
      (when y.running (raise0 0x56) (modAud p (fun y => (if y.running then noteFade 2 { y with underruns := bump y.underruns } else y))
        (modAud p (fun y => { y with underrun := true, outFifo := [], outFade := disrupt y.outLast y.outFade }) t)), none)
    else (modAud p (fun y => { y with outFifo := y.outFifo.drop 1 }) t, y.outFifo.head?)

/-- A frame leaves on DOUT: silence in deadbolt (R348). -/
def transmit (p : QuadId) (k : AudioCfg) (s : State) : State :=
  let (t, f) := nextOut p s
  let y := t.audio.ports[p]
  let v := fun i : Nat => (((f.getD []).find? fun x => x.1 == i).map Prod.snd).getD 0
  let g := gainFrame k.slots y.outMask v y.outGains
  let r := fadeStep g.2 y.outFade
  let t := modAud p (fun y => { y with outGains := g.1, outFade := r.1, outLast := r.2 }) t
  let word := fun i : Nat => if inDeadbolt t || k.monitor.isNone then 0
    else widthMask k.sampleWidth (((r.2.find? fun x => x.1 == i).map Prod.snd).getD 0)
  emit (.dout p ((List.range k.slots).map word)) t

/-- The measured rate of a slave port (AUD_GET_STATUS). -/
def measure (slave : Bool) (now : Int) (y : AudioPort) : AudioPort :=
  if !slave then y
  else if 10 ^ 12 ≤ now - y.measuring.2 then { y with measured := y.measuring.1 + 1, measuring := (0, now) }
  else { y with measuring := (y.measuring.1 + 1, y.measuring.2) }

/-- A frame period is within ±0.5% of the nominal (R345). -/
def nearNominal (hz : Nat) (d : Int) : Bool := decide (200 * (d * hz - 10 ^ 12).natAbs ≤ 10 ^ 12)

/-- A frame while the clock is lost: after 64 good ones in a row the clock is back (R345 step 3). -/
def recoverFrame (p : QuadId) (s : State) : State :=
  let y := s.audio.ports[p]
  let ok := match y.lastFrame with | some v => nearNominal y.hz (nowPs s - v) | none => false
  let n := if ok then y.goodFrames + 1 else 0
  let t := modAud p (fun y => { y with goodFrames := n, lastFrame := some (nowPs s) }) s
  if n < 64 then t
  else post 0x0E80 none 0 p.val (modAud p (fun y => { y with lost := false, goodFrames := 0, inFade := .ramping 1 }) t)

/-- AUDIO_FRAME: one LRCK frame of a port (R343). -/
def audioFrame (p : QuadId) (samples : List (BitVec 32)) (s : State) : State :=
  let y := s.audio.ports[p]
  match y.cfg with
  | none => s
  | some k =>
    if blockDown s (0x50 + p.val) then s
    else if !y.running then
      if y.tail = 0 then s else modAud p (fun y => { y with tail := y.tail - 1 }) (transmit p k s)
    else if y.awaiting.isSome then s
    else if y.lost then recoverFrame p s
    else
      let v := fun i : Nat => widthMask k.sampleWidth (samples.getD i 0)
      let g := gainFrame k.slots y.inMask v y.inGains
      let t := receive p g.2 (modAud p (fun y => { y with inGains := g.1 }) s)
      transmit p k (modAud p (fun y => measure k.slave (nowPs s) { y with lastFrame := some (nowPs s) }) t)

/-! ## FIFOs and blocks (R343) -/

/-- A frame of port `p` reaches the output FIFO of every port that monitors it (R348). -/
def feedMonitors (p : QuadId) (f : AudioFrame) (s : State) : State :=
  if s.audio.ports[p].lost then s
  else forEach allAudio (fun q => modAud q fun y =>
    if (y.cfg.bind AudioCfg.monitor) = some p ∧ y.running ∧ y.outFifo.length < 256 then { y with outFifo := y.outFifo ++ [f] } else y) s

/-- A frame of port `p` reaches every audio sender of that port: the sample count of the media clock and the 24-bit codes
of its channels (R333). -/
def feedSenders (p : QuadId) (f : AudioFrame) (s : State) : State :=
  forEach (List.finRange 24) (fun i => modSender i fun x =>
    if x.audio.kind = 2 ∧ x.audio.source = p.val then
      let code := fun k : Nat => (((f.find? fun y => y.1 == x.audio.firstSlot + k).map Prod.snd).getD 0).toNat / 256
      let count := timeNow s * (if x.audio.grade = 0 then 48000 else 96000) / 1000000000
      { x with samples := x.samples ++ [(count, (List.range x.audio.channels).map code)] }
    else x) s

/-- The oldest frame of the input FIFO moves into the block (R343); an overrun ends at 128 frames (R346). -/
def drainFrame (p : QuadId) (s : State) : State :=
  match s.audio.ports[p].inFifo with
  | [] => s
  | x :: rest =>
    let t := modAud p (fun y => { y with inFifo := rest, block := y.block ++ [x.2] }) s
    let y := t.audio.ports[p]
    let t := when (y.overrun && fifoFill y ≤ 128)
      (modAud p fun y => { y with overrun := false, inFade := .ramping 1 }) t
    feedSenders p x.2 (feedMonitors p x.2 t)

/-- A frame that a port without its clock synthesises at the nominal rate (R345 step 1). -/
def synthesise (p : QuadId) (s : State) : State :=
  let y := s.audio.ports[p]
  if y.running && y.lost && decide (y.synthAt ≤ nowPs s) then
    let r := fadeStep (y.inLast.map fun x => (x.1, 0)) y.inFade
    modAud p (fun y => { y with inFade := r.1, inFifo := y.inFifo ++ [(true, r.2)]
                                synthAt := y.synthAt + (10 ^ 12 / y.hz : Nat) }) s
  else s

/-- What a clock does at the ports: one frame drains from each FIFO, and lost clocks are synthesised (log 49). -/
def audioClock (s : State) : State :=
  forEach allAudio (fun p t => when (!blockDown t (0x50 + p.val)) (synthesise p) (drainFrame p t)) s

/-- The whole FIFO drains into the block that the hinge closes. -/
def drainAll (p : QuadId) (s : State) : State := s.audio.ports[p].inFifo.foldl (fun t _ => drainFrame p t) s

/-- Silence for the rest of the interval in which a port stopped (AUD_STOP). -/
def padBlock (now : Int) (y : AudioPort) : AudioPort :=
  match y.stoppedAt with
  | none => y
  | some v =>
    let n := ((now - v) * y.hz / (10 ^ 12 : Nat)).toNat
    { y with stoppedAt := none, block := y.block ++ List.replicate n (y.inLast.map fun x => (x.1, 0)) }

/-- AUD_FADE, at most once per hinge and port (R346, R350). -/
def fadeEvent (p : QuadId) (s : State) : State :=
  let y := s.audio.ports[p]
  when (y.fadeNow != 0) (post 0x0E82 none 0 (p.val + 2 ^ 8 * y.fadeNow + 2 ^ 16 * (y.discardedNow % 2 ^ 32)))
    (modAud p (fun y => { y with fadeNow := 0, discardedNow := 0 }) s)

/-- The AUDIO record of the interval that hinge `h` closes, for a clip with an audio mask (R237, R247). -/
def audioRecord (h : Nat) (k : Clip) (s : State) : State :=
  if k.cfg.audio = 0 || k.stage.isSome || h ≤ k.fromHinge || (match k.stopHinge with | some x => decide (x < h) | none => false)
  then s
  else
    let words := (allAudio.filter fun p => k.cfg.audio.getLsbD p.val).flatMap fun p =>
      s.audio.ports[p].lastBlock.flatMap fun f => f.map fun x => x.2.toNat
    (appendRecord k.ctx k.id 4 k.last (Config.recordBody 4 ((h - 1) :: words)) s).1

/-- The ports at hinge `h`: blocks close, fades are reported, AUDIO records are written. -/
def audioHinge (h : Nat) (s : State) : State :=
  let t := forEach allAudio (fun p t => fadeEvent p (modAud p (fun y =>
    let y := padBlock (nowPs s) y
    { y with lastBlock := y.block, block := [] }) (drainAll p t))) s
  forEach (allCtx.flatMap fun c => t.recs[c].clips) (audioRecord h) t

/-! ## Starts and losses (R344, R345) -/

/-- AUDIO_START_INSTANT: a port that awaits its start begins its first frame `offset` ns after the instant (R344). -/
def audioStartInstant (p : QuadId) (offset : Nat) (s : State) : State :=
  let s := match s.audio.ports[p].startAt with
    | some t => startPort t p s
    | none => s
  match s.audio.ports[p].awaiting with
  | none => s
  | some t => post 0x0E81 none 0 (p.val + 2 ^ 8 * offset)
      (modAud p (fun y => { y with awaiting := none, startAt := none, started := t + offset }) s)

/-- A running port loses its clock (R345). -/
def loseClock (p : QuadId) (s : State) : State :=
  let y := s.audio.ports[p]
  if !y.running || y.lost then s
  else post 0x0E80 none 0 (p.val + 2 ^ 8) (raise0 0x55 (modAud p (fun y => { y with
    lost := true, goodFrames := 0, lastFrame := none, inFade := disrupt y.inLast y.inFade, losses := bump y.losses
    synthAt := nowPs s }) s))

/-- AUD_CLOCK_LOST: a slave port without LRCK edges (R345). -/
def audClockLost (p : QuadId) (s : State) : State :=
  match s.audio.ports[p].cfg with
  | some k => if k.slave then loseClock p s else s
  | none => s

/-- AUD_MCLK_LOST: without the external AUD_MCLK every port loses its clock (R345). -/
def audMclkLost (s : State) : State := if s.audio.external then forEach allAudio loseClock s else s

/-! ## Commands -/

/-- The audio port a payload names. -/
def argAudio (e : Entry) : QuadId := ⟨arg e 0 1 % 4, Nat.mod_lt _ (by decide)⟩

/-- AUDIO-POS is off (R349). -/
def audioOff (s : State) : Option Fail := if domainOn s 22 then none else some (wrong 5)

/-- AUD_SET_CLOCK, 0x0E01. -/
def audSetClockSpec : Spec where
  opcode := 0x0E01
  len := .exact 8
  fields := fun _ _ => [range 0 1 0 1, rsv 1 7]
  states := fun _ s => (audioOff s).or
    (if allAudio.any fun p => s.audio.ports[p].running then some (wrong 0x13) else none)
  effect := fun e s => .reply { s with audio := { s.audio with external := arg e 0 1 == 1 } } {}

/-- The configuration an AUD_PORT_CONFIG payload describes. -/
def audioCfgOf (e : Entry) : AudioCfg :=
  ⟨arg e 1 1 == 1, arg e 2 1, arg e 3 1, arg e 4 1, arg e 5 1, arg e 6 1,
    if arg e 7 1 = 1 then some ⟨arg e 8 1 % 4, Nat.mod_lt _ (by decide)⟩ else none⟩

/-- BCLK of a configuration, Hz (R341). -/
def bclk (k : AudioCfg) : Nat := audioHz k.rate * k.slots * k.slotWidth

/-- AUD_PORT_CONFIG, 0x0E02. -/
def audPortConfigSpec : Spec where
  opcode := 0x0E02
  len := .exact 16
  fields := fun e s =>
    let k := audioCfgOf e
    let sameRate := fun n : Nat => n == arg e 0 1 || (match s.audio.ports[(⟨n % 4, Nat.mod_lt _ (by decide)⟩ : QuadId)].cfg with
      | some x => x.rate == k.rate
      | none => false)
    let single := k.rate ≤ 2 && [16, 24, 32].contains k.slotWidth
    [range 0 1 0 3, range 1 1 0 1, range 2 1 0 2, range 3 1 0 2,
     ⟨4, 1, fun n => (if k.format = 2 then 1 ≤ n && n ≤ 16 else n == 2) && (!single || bclk k ≤ 24576000)⟩,
     ⟨5, 1, fun n => if k.format = 2 then n == 32 else [16, 24, 32].contains n⟩,
     ⟨6, 1, fun n => [16, 24, 32].contains n && n ≤ k.slotWidth⟩, range 7 1 0 1,
     ⟨8, 1, fun n => if arg e 7 1 = 0 then n == 0 else n ≤ 3 && sameRate n⟩, rsv 9 7]
  states := fun e s => (audioOff s).or (if s.audio.ports[argAudio e].running then some (wrong 0x13) else none)
  effect := fun e s => .reply (modAud (argAudio e) (fun y => { y with cfg := some (audioCfgOf e), tail := 0 }) s)
    { detail := bclk (audioCfgOf e) }

/-- Slots of a port as configured; an unconfigured port has none. -/
def audioSlots (s : State) (p : QuadId) : Nat := match s.audio.ports[p].cfg with | some k => k.slots | none => 0

/-- AUD_SET_MASK, 0x0E03. -/
def audSetMaskSpec : Spec where
  opcode := 0x0E03
  len := .exact 8
  bank := true
  fields := fun e s =>
    let n := audioSlots s (argAudio e)
    [range 0 1 0 3, rsv 1 1, ⟨2, 2, fun m => m < 2 ^ n⟩, ⟨4, 2, fun m => m < 2 ^ n⟩, rsv 6 2]
  states := fun _ s => audioOff s
  effect := fun e s =>
    .arm s [.audioMask (argAudio e) (BitVec.ofNat 16 (arg e 2 2)) (BitVec.ofNat 16 (arg e 4 2))] none 0

/-- The ports of the mask at offset 0. -/
def maskPorts (e : Entry) : List QuadId := allAudio.filter fun p => (arg e 0 1).testBit p.val

/-- The time an AUD_START in mode 1 names, ns. -/
def startTime (e : Entry) : Nat := arg e 8 8 * 1000000000 + arg e 16 4

/-- AUD_START, 0x0E04. -/
def audStartSpec : Spec where
  opcode := 0x0E04
  len := .exact 24
  bank := true
  fields := fun e s =>
    let timed := arg e 1 1 = 1
    [range 0 1 1 15, range 1 1 0 1, rsv 2 6,
     ⟨8, 8, fun v => !timed || (v < 2 ^ 48 && (999999999 < arg e 16 4 || timeNow s ≤ startTime e))⟩,
     ⟨16, 4, fun v => if timed then v ≤ 999999999 else v == 0⟩, rsv 20 4]
  states := fun e s => (audioOff s).or (if (maskPorts e).any fun p =>
      s.audio.ports[p].running || s.audio.ports[p].cfg.isNone then some (wrong 0x13) else none)
  effect := fun e s =>
    let mask := BitVec.ofNat 4 (arg e 0 1)
    if arg e 1 1 = 1 then
      .reply (forEach (maskPorts e) (fun p => modAud p fun y => { y with startAt := some (startTime e) }) s)
        { detail := Config.openDetail 0x0E04 0 }
    else if holds e then .arm s [.audioStart mask] none (Config.openDetail 0x0E04 1)
    else
      let t := arg e 8 8
      let h := if t < reachable s then reachable s else t
      .reply (armAt h (nextSeq s.cmd.accepted).toNat [.audioStart mask] s)
        { status := if t = 0 ∨ t < reachable s then .okLate else .accepted, frame := h % 2 ^ 48
          detail := Config.openDetail 0x0E04 1 }

/-- A running port stops: its output fades out, then its clocks stop (AUD_STOP). -/
def stopPort (p : QuadId) (s : State) : State :=
  modAud p (fun y => if y.running then
    { y with running := false, awaiting := none, lost := false, tail := 64, outFade := disrupt y.outLast y.outFade
             stoppedAt := some (nowPs s), underrun := true }
    else y) s

/-- AUD_STOP, 0x0E05. -/
def audStopSpec : Spec where
  opcode := 0x0E05
  len := .exact 8
  fields := fun _ _ => [range 0 1 0 15, rsv 1 7]
  states := fun _ s => audioOff s
  effect := fun e s =>
    .reply (forEach (maskPorts e) stopPort s)
      { detail := maskOf 4 fun i => (maskPorts e).any fun p => p.val == i && s.audio.ports[p].running }

/-- The state code of AUD_GET_STATUS. -/
def audioState (y : AudioPort) : Nat := if y.cfg.isNone then 0 else if !y.running then 1 else if y.lost then 3 else 2

/-- AUD_GET_STATUS, 0x0E06. -/
def audGetStatusSpec : Spec where
  opcode := 0x0E06
  len := .exact 32
  noInline := true
  deadbolt := true
  fields := fun _ _ => [range 0 1 0 3, range 1 1 0 1, rsv 2 6]
  effect := fun e s =>
    let p := argAudio e
    let y := s.audio.ports[p]
    let t := if arg e 1 1 = 1 then modAud p (fun y => { y with overruns := 0, underruns := 0, losses := 0, discarded := 0 }) s
      else s
    .reply t { detail := audioState y, back := some (8, image 24 [put 0 1 (audioState y), put 4 4 y.overruns.toNat,
      put 8 4 y.underruns.toNat, put 12 4 y.losses.toNat, put 16 4 y.discarded.toNat, put 20 4 y.measured]) }

/-- AUD_SET_CLOCK. -/
def execAudSetClock (e : Entry) (s : State) : Host.Outcome State Fault Refusal := .next (runCommand audSetClockSpec e s)
/-- AUD_PORT_CONFIG. -/
def execAudPortConfig (e : Entry) (s : State) : Host.Outcome State Fault Refusal := .next (runCommand audPortConfigSpec e s)
/-- AUD_SET_MASK. -/
def execAudSetMask (e : Entry) (s : State) : Host.Outcome State Fault Refusal := .next (runCommand audSetMaskSpec e s)
/-- AUD_START. -/
def execAudStart (e : Entry) (s : State) : Host.Outcome State Fault Refusal := .next (runCommand audStartSpec e s)
/-- AUD_STOP. -/
def execAudStop (e : Entry) (s : State) : Host.Outcome State Fault Refusal := .next (runCommand audStopSpec e s)
/-- AUD_GET_STATUS. -/
def execAudGetStatus (e : Entry) (s : State) : Host.Outcome State Fault Refusal := .next (runCommand audGetStatusSpec e s)
/-- AUDIO_START_INSTANT. -/
def execAudioStartInstant (p : QuadId) (offset : Nat) (s : State) : Host.Outcome State Fault Refusal :=
  .next (audioStartInstant p offset s)
/-- AUDIO_FRAME. -/
def execAudioFrame (p : QuadId) (samples : List (BitVec 32)) (s : State) : Host.Outcome State Fault Refusal :=
  .next (audioFrame p samples s)
/-- AUD_CLOCK_LOST. -/
def execAudClockLost (p : QuadId) (s : State) : Host.Outcome State Fault Refusal := .next (audClockLost p s)
/-- AUD_MCLK_LOST. -/
def execAudMclkLost (s : State) : Host.Outcome State Fault Refusal := .next (audMclkLost s)

end Sys2Proof.Machine
end

