-- ==== Sys2Proof/Machine/Inflate.lean ====
section
/-!
DEFINITION. Inflate: DEFLATE decoding under RFC 1951 with the checks of R233 step 2, and the check values of the
wrappers (R220).
-/

namespace Sys2Proof.Machine

/-- Bit `p` of a stream, least significant bit of each byte first. -/
def streamBit (d : Array Byte) (p : Nat) : Option Nat := (d[p / 8]?).map fun b => b.toNat / 2 ^ (p % 8) % 2

/-- `n` bits from bit `p` on, the first the least significant. -/
def streamBits (d : Array Byte) (p : Nat) : Nat → Option Nat
  | 0 => some 0
  | n + 1 => match streamBits d p n, streamBit d (p + n) with
    | some v, some b => some (v + b * 2 ^ n)
    | _, _ => none

/-- A canonical code: symbols per length, and the symbols in code order. -/
structure Huffman where
  counts : List Nat
  symbols : List Nat

/-- The canonical code of a list of lengths by symbol. -/
def huffman (lengths : List Nat) : Huffman :=
  { counts := (List.range 16).map fun n => (lengths.filter (· == n)).length
    symbols := (List.range 15).flatMap fun n => (lengths.zipIdx.filter fun l => l.1 == n + 1).map Prod.snd }

/-- Codes left over, negative when over-subscribed, 0 when complete. -/
def codesLeft (h : Huffman) : Int :=
  (List.range 15).foldl (fun left n => 2 * left - (h.counts.getD (n + 1) 0 : Nat)) 1

/-- The symbol at bit `p`, and the bit after it. -/
def decodeSymbol (d : Array Byte) (h : Huffman) (p : Nat) : Option (Nat × Nat) :=
  go 15 1 0 0 0 p
where
  /-- One more bit of code: `n` bits may follow, `len` is the length reached. -/
  go : Nat → Nat → Nat → Nat → Nat → Nat → Option (Nat × Nat)
    | 0, _, _, _, _, _ => none
    | n + 1, len, code, first, index, p =>
      match streamBit d p with
      | none => none
      | some b =>
        let code := code + b
        let count := h.counts.getD len 0
        if code < first + count then (h.symbols[index + (code - first)]?).map fun v => (v, p + 1)
        else go n (len + 1) (2 * code) (2 * (first + count)) (index + count) (p + 1)

/-- Base and extra bits of length symbol 257 + i. -/
def lengthCodes : List (Nat × Nat) :=
  [(3, 0), (4, 0), (5, 0), (6, 0), (7, 0), (8, 0), (9, 0), (10, 0), (11, 1), (13, 1), (15, 1), (17, 1), (19, 2),
   (23, 2), (27, 2), (31, 2), (35, 3), (43, 3), (51, 3), (59, 3), (67, 4), (83, 4), (99, 4), (115, 4), (131, 5),
   (163, 5), (195, 5), (227, 5), (258, 0)]

/-- Base and extra bits of distance symbol i. -/
def distanceCodes : List (Nat × Nat) :=
  [(1, 0), (2, 0), (3, 0), (4, 0), (5, 1), (7, 1), (9, 2), (13, 2), (17, 3), (25, 3), (33, 4), (49, 4), (65, 5),
   (97, 5), (129, 6), (193, 6), (257, 7), (385, 7), (513, 8), (769, 8), (1025, 9), (1537, 9), (2049, 10),
   (3073, 10), (4097, 11), (6145, 11), (8193, 12), (12289, 12), (16385, 13), (24577, 13)]

/-- A copy of `n` bytes from `dist` back. -/
def copyBack : Nat → Nat → Array Byte → Array Byte
  | 0, _, out => out
  | n + 1, dist, out => copyBack n dist (out.push (out.getD (out.size - dist) 0))

/-- A value with its extra bits. -/
def extraBits (d : Array Byte) (code : Nat × Nat) (p : Nat) : Option (Nat × Nat) :=
  (streamBits d p code.2).map fun v => (code.1 + v, p + code.2)

/-- The symbols of a coded block until end of block; none when the stream is bad. -/
def codedBlock (d : Array Byte) (lit dist : Huffman) : Nat → Nat → Array Byte → Option (Nat × Array Byte)
  | 0, _, _ => none
  | fuel + 1, p, out =>
    match decodeSymbol d lit p with
    | none => none
    | some (v, p) =>
      if v < 256 then codedBlock d lit dist fuel p (out.push (BitVec.ofNat 8 v))
      else if v = 256 then some (p, out)
      else
        match (lengthCodes[v - 257]?).bind fun c => extraBits d c p with
        | none => none
        | some (n, p) =>
          match decodeSymbol d dist p with
          | none => none
          | some (w, p) =>
            match (distanceCodes[w]?).bind fun c => extraBits d c p with
            | none => none
            | some (back, p) =>
              if out.size < back then none else codedBlock d lit dist fuel p (copyBack n back out)

/-- Order of the code-length code's lengths. -/
def codeLengthOrder : List Nat := [16, 17, 18, 0, 8, 7, 9, 6, 10, 5, 11, 4, 12, 3, 13, 2, 14, 1, 15]

/-- The literal and distance code lengths of a dynamic block, run-length decoded to `want` of them. -/
def readLengths (d : Array Byte) (h : Huffman) (want : Nat) : Nat → Nat → List Nat → Option (Nat × List Nat)
  | 0, _, _ => none
  | fuel + 1, p, acc =>
    if want ≤ acc.length then (if acc.length = want then some (p, acc) else none)
    else
      match decodeSymbol d h p with
      | none => none
      | some (v, p) =>
        if v < 16 then readLengths d h want fuel p (acc ++ [v])
        else
          let (value, base, bits) := if v = 16 then (acc.getLast?, 3, 2) else if v = 17 then (some 0, 3, 3)
            else (some 0, 11, 7)
          match value, streamBits d p bits with
          | some l, some n => readLengths d h want fuel (p + bits) (acc ++ List.replicate (base + n) l)
          | _, _ => none

/-- The codes of a dynamic block. A distance code may be empty, or one code of one bit, as RFC 1951 allows (log 32). -/
def dynamicCodes (d : Array Byte) (p : Nat) : Option (Nat × Huffman × Huffman) :=
  match streamBits d p 5, streamBits d (p + 5) 5, streamBits d (p + 10) 4 with
  | some hlit, some hdist, some hclen =>
    let ls := (List.range (hclen + 4)).map fun i => streamBits d (p + 14 + 3 * i) 3
    if ls.any Option.isNone || 286 < hlit + 257 || 30 < hdist + 1 then none
    else
      let lens := (List.range 19).map fun v =>
        match codeLengthOrder.idxOf? v with
        | some i => (ls.getD i none).getD 0
        | none => 0
      let h := huffman lens
      if codesLeft h ≠ 0 then none
      else
        match readLengths d h (hlit + 257 + hdist + 1) 400 (p + 14 + 3 * (hclen + 4)) [] with
        | none => none
        | some (p, all) =>
          let lit := huffman (all.take (hlit + 257))
          let dl := all.drop (hlit + 257)
          let dist := huffman dl
          let used := dl.filter (· != 0)
          if codesLeft lit ≠ 0 then none
          else if codesLeft dist ≠ 0 && !(used.isEmpty || used == [1]) then none
          else some (p, lit, dist)
  | _, _, _ => none

/-- The fixed literal code. -/
def fixedLiteral : Huffman :=
  huffman (List.replicate 144 8 ++ List.replicate 112 9 ++ List.replicate 24 7 ++ List.replicate 8 8)

/-- The fixed distance code. -/
def fixedDistance : Huffman := huffman (List.replicate 32 5)

/-- A stored block from bit `p` on. -/
def storedBlock (d : Array Byte) (p : Nat) (out : Array Byte) : Option (Nat × Array Byte) :=
  let a := (p + 7) / 8
  match streamBits d (8 * a) 16, streamBits d (8 * a + 16) 16 with
  | some n, some c =>
    if n + c ≠ 0xFFFF || d.size < a + 4 + n then none
    else some (8 * (a + 4 + n), out ++ d.extract (a + 4) (a + 4 + n))
  | _, _ => none

/-- A whole stream from bit `p` on: the bytes after it and its output; none for BAD_STREAM (R233 step 2). -/
def inflateFrom (d : Array Byte) : Nat → Nat → Array Byte → Option (Nat × Array Byte)
  | 0, _, _ => none
  | fuel + 1, p, out =>
    match streamBit d p, streamBits d (p + 1) 2 with
    | some last, some kind =>
      let block := if kind = 0 then storedBlock d (p + 3) out
        else if kind = 1 then codedBlock d fixedLiteral fixedDistance (8 * d.size + 1) (p + 3) out
        else if kind = 2 then match dynamicCodes d (p + 3) with
          | some (q, lit, dist) => codedBlock d lit dist (8 * d.size + 1) q out
          | none => none
        else none
      match block with
      | none => none
      | some (q, out) => if last = 1 then some ((q + 7) / 8, out) else inflateFrom d fuel q out
    | _, _ => none

/-- The output of a DEFLATE stream that starts at byte `a`, and the byte after it. -/
def inflate (bytes : List Byte) (a : Nat) : Option (Nat × List Byte) :=
  (inflateFrom bytes.toArray (8 * bytes.length + 1) (8 * a) #[]).map fun r => (r.1, r.2.toList)

/-- Adler-32 of RFC 1950. -/
def adler32 (l : List Byte) : Nat :=
  let r := l.foldl (fun (s : Nat × Nat) b => let a := (s.1 + b.toNat) % 65521; (a, (s.2 + a) % 65521)) (1, 0)
  r.2 * 65536 + r.1

/-- A number of four bytes, most significant first. -/
def be32 (l : List Byte) (off : Nat) : Nat := leNat (slice l off 4).reverse

end Sys2Proof.Machine
end

