-- ==== Sys2Proof/Machine/RawPack.lean ====
section
/-!
DEFINITION. RawPack: the raw-pack transform and its inverse (10 R223 to R225), the chunk container (R226, R227),
the wrappers (R220) and what one compression job makes of its input (R231 to R234).
-/

namespace Sys2Proof.Machine

/-! ## The predictor (R223) -/

/-- The prediction at (x, y) from the samples already known; `s x y` reads them. -/
def predict (pw ph : Nat) (s : Nat → Nat → Int) (x y : Nat) : Int :=
  if pw ≤ x ∧ ph ≤ y then
    let a := s (x - pw) y
    let b := s x (y - ph)
    let c := s (x - pw) (y - ph)
    if max a b ≤ c then min a b else if c ≤ min a b then max a b else a + b - c
  else if pw ≤ x then s (x - pw) y
  else if ph ≤ y then s x (y - ph)
  else 0

/-- The zigzag value of a residual modulo 16,384 (R223). -/
def zigzag (v p : Int) : Nat :=
  let d := (v - p) % 16384
  let d := if 8192 ≤ d then d - 16384 else d
  if 0 ≤ d then (2 * d).toNat else (-2 * d - 1).toNat

/-- The residual of a zigzag value (R225). -/
def unzigzag (z : Nat) : Int := if z % 2 = 0 then (z / 2 : Nat) else -(((z + 1) / 2 : Nat) : Int)

/-- The zigzag values of a tile in raster order (R223). -/
def tileZigzag (pw ph w : Nat) (samples : List Nat) : List Nat :=
  let a := samples.toArray
  let s := fun x y : Nat => (a.getD (x + w * y) 0 : Int)
  (List.range samples.length).map fun i => zigzag (a.getD i 0) (predict pw ph s (i % w) (i / w))

/-- The samples a tile's zigzag values restore (R225). -/
def restoreTile (pw ph w : Nat) (zs : List Nat) : List Nat :=
  (zs.zipIdx.foldl (fun (a : Array Nat) z =>
    let s := fun x y : Nat => (a.getD (x + w * y) 0 : Int)
    a.push ((predict pw ph s (z.2 % w) (z.2 / w) + unzigzag z.1) % 16384).toNat) #[]).toList

/-- Samples packed four to seven bytes, least significant bit first (R100, R123). -/
def pack14 : List Nat → List Byte
  | a :: b :: c :: d :: rest => leBytes 7 (a + 2 ^ 14 * b + 2 ^ 28 * c + 2 ^ 42 * d) ++ pack14 rest
  | _ => []

/-- The samples of packed rows. -/
def unpack14 (n : Nat) (l : List Byte) : List Nat :=
  (List.range n).map fun i => fieldAt l (i / 4 * 7) 7 / 2 ^ (14 * (i % 4)) % 2 ^ 14

/-- Samples as 16-bit values (R227). -/
def samples16 (l : List Nat) : List Byte := l.flatMap (leBytes 2)

/-! ## The chunk container (R226, R227) -/

/-- The fields of a chunk header that its maker sets (R226). -/
structure ChunkHead where
  predictor : Nat
  clip : Nat := 0
  frame : Nat := 0
  capture : Nat := 0
  pw : Nat := 1
  ph : Nat := 1
  stripe : Nat := 0
  tileRow : Nat := 0
  w : Nat := 0
  h : Nat := 0
  x0 : Nat := 0
  marks : Nat := 0

/-- The 64-byte header for the stream lengths and the uncompressed length (R226). -/
def ChunkHead.bytes (k : ChunkHead) (len0 len1 size : Nat) : List Byte :=
  let raw := k.predictor = 1
  let only := fun v : Nat => if raw then v else 0
  let b := image 60 [(0, [0x53, 0x5A, 0x43, 0x4B]), put 4 2 1, put 6 1 k.predictor, put 7 1 (only 1), put 8 8 k.clip,
    put 16 6 k.frame, put 22 1 (only k.capture), put 23 1 (if raw then k.pw + 16 * k.ph else 0x11),
    put 24 2 (only k.stripe), put 26 2 (only k.tileRow), put 28 2 (only k.w), put 30 2 (only k.h), put 32 2 (only k.x0),
    put 34 2 k.marks, put 36 4 len0, put 40 4 len1, put 44 4 size]
  b ++ leBytes 4 (crc32c b).toNat

/-- A raw-packed chunk of a tile's samples: header, low plane, high plane, trailer (R224, R226, R227). -/
def rawChunk (k : ChunkHead) (samples : List Nat) : List Byte :=
  let zs := tileZigzag k.pw k.ph k.w samples
  let lo := Config.deflate 0 0 0 (zs.map fun z => BitVec.ofNat 8 (z % 256))
  let hi := Config.deflate 0 0 0 (zs.map fun z => BitVec.ofNat 8 (z / 256))
  k.bytes lo.length hi.length (2 * k.w * k.h) ++ lo ++ hi ++ leBytes 4 (crc32c (samples16 samples)).toNat

/-! ## Wrappers (R220) -/

/-- The zlib header of an effort level (R220). -/
def zlibHeader (effort : Nat) : List Byte :=
  let level := if effort ≤ 1 then 0 else if effort ≤ 5 then 1 else if effort = 6 then 2 else 3
  let flg := level * 64
  [0x78, BitVec.ofNat 8 (flg + (31 - (0x7800 + flg) % 31) % 31)]

/-- A compressed stream in its wrapper, with the check value (R220; 0 for wrapper 0). -/
def wrap (wrapper effort : Nat) (k : ChunkHead) (input stream : List Byte) : List Byte × Nat :=
  if wrapper = 1 then
    let a := adler32 input
    (zlibHeader effort ++ stream ++ (leBytes 4 a).reverse, a)
  else if wrapper = 2 then
    let c := (crc32 input).toNat
    ([0x1F, 0x8B, 8, 0, 0, 0, 0, 0, 0, 255] ++ stream ++ leBytes 4 c ++ leBytes 4 input.length, c)
  else if wrapper = 3 then
    let c := (crc32c input).toNat
    (k.bytes stream.length 0 input.length ++ stream ++ leBytes 4 c, c)
  else (stream, 0)

/-! ## Job results (R231) -/

/-- The result codes of R231. -/
inductive JobResult where
  | done | outSpace | badStream | checkFail | memErr | aborted | engineFault
  deriving DecidableEq, Repr

/-- The code of R231. -/
def JobResult.code : JobResult → Nat
  | .done => 0 | .outSpace => 1 | .badStream => 2 | .checkFail => 3 | .memErr => 4 | .aborted => 5 | .engineFault => 6

/-- What a job gives: its result, its output, the input consumed and the check value. -/
structure JobOut where
  result : JobResult
  output : List Byte := []
  consumed : Nat := 0
  check : Nat := 0

/-! ## Decompression (R233) -/

/-- A zero-terminated field of a gzip header, from byte `a` on: the byte after it. -/
def skipString (l : List Byte) (a : Nat) : Nat := a + ((l.drop a).takeWhile (· != 0)).length + 1

/-- The gzip header: the byte after it, or the failure (R233 step 1). -/
def gzipHeader (l : List Byte) : Except JobResult Nat :=
  if l.length < 10 || l.take 3 != [0x1F, 0x8B, 8] then .error .badStream
  else
    let flg := (l.getD 3 0).toNat
    let a := if flg.testBit 2 then 12 + fieldAt l 10 2 else 10
    let a := if flg.testBit 3 then skipString l a else a
    let a := if flg.testBit 4 then skipString l a else a
    let b := if flg.testBit 1 then a + 2 else a
    if l.length < b then .error .badStream
    else if flg.testBit 1 && fieldAt l a 2 != (crc32 (l.take a)).toNat % 65536 then .error .checkFail
    else .ok b

/-- The zlib header: the byte after it, or the failure (R233 step 1). -/
def zlibCheck (l : List Byte) : Except JobResult Nat :=
  let cmf := (l.getD 0 0).toNat
  let flg := (l.getD 1 0).toNat
  if l.length < 2 || cmf % 16 != 8 || 7 < cmf / 16 || (256 * cmf + flg) % 31 != 0 || flg.testBit 5 then .error .badStream
  else .ok 2

/-- Space, then the check value, of an output (R233 steps 3 and 5). -/
def judge (cap : Nat) (out : List Byte) (consumed check : Nat) (ok : Bool) : JobOut :=
  if cap < out.length then { result := .outSpace, consumed := consumed }
  else if !ok then { result := .checkFail, consumed := consumed, check := check }
  else { result := .done, output := out, consumed := consumed, check := check }

/-- A stream of wrapper 0, 1 or 2 decoded (R233). -/
def decodeStream (wrapper cap : Nat) (l : List Byte) : JobOut :=
  match (if wrapper = 1 then zlibCheck l else if wrapper = 2 then gzipHeader l else .ok 0) with
  | .error r => { result := r }
  | .ok a =>
    match inflate l a with
    | none => { result := .badStream }
    | some (b, out) =>
      if wrapper = 0 then judge cap out b 0 true
      else if wrapper = 1 then
        if l.length < b + 4 then { result := .badStream } else judge cap out (b + 4) (adler32 out) (be32 l b == adler32 out)
      else if l.length < b + 8 then { result := .badStream }
      else
        let c := (crc32 out).toNat
        judge cap out (b + 8) c (fieldAt l b 4 == c && fieldAt l (b + 4) 4 == out.length % 2 ^ 32)

/-- A chunk decoded; `packed` chooses four samples in seven bytes (R227, R233). -/
def decodeChunk (packed : Bool) (cap : Nat) (l : List Byte) : JobOut :=
  let f := fieldAt l
  let n0 := f 36 4
  let n1 := f 40 4
  let raw := f 6 1 = 1
  if l.length < 68 || l.take 4 != [0x53, 0x5A, 0x43, 0x4B] || f 4 2 != 1 then { result := .badStream }
  else if f 60 4 != (crc32c (l.take 60)).toNat then { result := .checkFail }
  else if 68 + n0 + n1 ≠ l.length then { result := .badStream }
  else
    let tail := f (64 + n0 + n1) 4
    match inflate (l.take (64 + n0)) 64 with
    | none => { result := .badStream }
    | some (_, out0) =>
      if !raw then judge cap out0 l.length (crc32c out0).toNat (tail == (crc32c out0).toNat)
      else
        match inflate (l.take (64 + n0 + n1)) (64 + n0) with
        | none => { result := .badStream }
        | some (_, out1) =>
          let size := f 28 2 * f 30 2
          let bytes := if packed then size / 4 * 7 else 2 * size
          if cap < bytes then { result := .outSpace, consumed := l.length }
          else if out0.length ≠ size || out1.length ≠ size || out1.any (fun b => 63 < b.toNat) then { result := .badStream }
          else
            let zs := (out0.zip out1).map fun p => p.1.toNat + 256 * p.2.toNat
            let samples := restoreTile (f 23 1 % 16) (f 23 1 / 16) (f 28 2) zs
            let c := (crc32c (samples16 samples)).toNat
            judge cap (if packed then pack14 samples else samples16 samples) l.length c (tail == c)

end Sys2Proof.Machine
end

