-- ==== Sys2Proof/Machine/Ward.lean ====
section
/-!
DEFINITION. Ward: the ward table that keeps host traffic and data-plane readers of the two namespaces apart (12 R268
to R271), and the contents of namespace 2 (R267).
-/

namespace Sys2Proof.Machine

/-- Two ranges of one namespace overlap. -/
def WardRange.overlaps (a b : WardRange) : Bool := a.ns == b.ns && a.lba < b.lba + b.count && b.lba < a.lba + a.count

/-- Two entries conflict (R269). -/
def WardRange.conflicts (a b : WardRange) : Bool := a.overlaps b && (a.write || b.write)

/-- The ranges of the pixel tables bound in a bank (R155). -/
def boundOf (b : Bank) : List WardRange :=
  (b.front.flat.toList ++ b.front.caps.toList.filterMap FrontCap.dark).map fun x =>
    ⟨2, x.lba, ceilDiv (2 * x.w * x.h) 4096, false⟩

/-- The ranges bound under R155, live, armed or held. -/
def boundRanges (s : State) : List WardRange :=
  let p := projected s
  allCtx.flatMap fun c =>
    boundOf s.contexts[c].live ++ boundOf p.contexts[c].live

/-- A write among the ranges touches a bound range (R271). -/
def touchesBound (s : State) (l : List WardRange) : Bool :=
  l.any fun r => r.write && (boundRanges s).any r.overlaps

/-- The read entries of the front end's pool: one per bound table of each frame under development (R268). -/
def wardFrontEnd (s : State) : List WardRange :=
  allCtx.flatMap fun c => (s.contexts[c].frames.filter fun f => f.phase == .developing).flatMap fun f => boundOf f.bank

/-- A user's entries conflict with earlier ones still held (R269). -/
def wardBlocked (s : State) (w : Ward) : Bool :=
  (wardFrontEnd s).any (fun a => w.ranges.any a.conflicts) || (s.stg.ward.takeWhile fun x => x.id != w.id).any fun x =>
    x.taken && x.ranges.any fun a => w.ranges.any a.conflicts

/-- A user asks for entries (R268): the state and its order number. -/
def enterWard (u : WardUser) (ranges : List WardRange) (s : State) : State × Nat :=
  let id := s.stg.wardNext
  let t := refillWard (modStg (fun x => { x with wardNext := id + 1, ward := x.ward ++ [⟨id, u, ranges, false, 0, 0⟩] }) s)
  let waits := match t.stg.ward.find? fun w => w.id == id with
    | some w => !w.taken || wardBlocked t w
    | none => false
  (if waits then modStg (fun x => { x with wardWaits := bump x.wardWaits }) t else t, id)

/-- The user of an order number. -/
def wardOf (s : State) (id : Nat) : Option Ward := s.stg.ward.find? fun w => w.id == id

/-- The user may touch its data now. -/
def wardReady (s : State) (id : Nat) : Bool :=
  match wardOf s id with
  | some w => w.taken && !wardBlocked s w
  | none => false

/-- A user's entries are released (R269). -/
def releaseWard (id : Nat) (s : State) : State :=
  refillWard (modStg (fun x => { x with ward := x.ward.filter fun w => w.id != id }) s)

/-- A user changed by `f`. -/
def modWard (id : Nat) (f : Ward → Ward) (s : State) : State :=
  modStg (fun x => { x with ward := x.ward.map fun w => if w.id = id then f w else w }) s

/-! ## Namespace 2 -/

/-- Bytes of namespace 2. -/
def readNs2 (s : State) (a n : Nat) : List Byte := readCells s.ns2 a n

/-- Bytes of namespace 2 written. -/
def writeNs2 (a : Nat) (bytes : List Byte) (s : State) : State := { s with ns2 := writeCells s.ns2 a bytes }

/-- A byte range of namespace 2 zeroed. -/
def zeroNs2 (a n : Nat) (s : State) : State := { s with ns2 := s.ns2.filter fun c => c.1 < a || a + n ≤ c.1 }

/-- The LBAs a byte range of namespace 2 covers. -/
def lbaRange (a n : Nat) (write : Bool) : WardRange := ⟨2, a / 4096, (a + n + 4095) / 4096 - a / 4096, write⟩

end Sys2Proof.Machine
end

