-- ==== Sys2Proof/Machine/Compression.lean ====
section
/-!
DEFINITION. Compression: raw-pack chunks of admitted frames (10 R222 to R229, R240), host jobs (R230 to R234),
retired engines (R235), and the CMP_ commands.
-/

namespace Sys2Proof.Machine

/-- Compression state changed by `f`. -/
def modCmp (f : Compression → Compression) (s : State) : State := { s with cmp := f s.cmp }

/-! ## Engines (R218, R230, R235) -/

/-- The class code of a result record and of CMP_ENGINE_RETIRED. -/
def classCode : EngineClass → Nat
  | .rawLane => 0 | .general => 1 | .decompress => 2

/-- Retired instances of a class. -/
def retiredOf (k : Compression) : EngineClass → List Nat
  | .rawLane => k.retiredRaw
  | .general => k.retiredGeneral
  | .decompress => k.retiredDecompress

/-- Instances of a class. -/
def engineCount : EngineClass → Nat
  | .rawLane => 32 | .general => 4 | .decompress => 4

/-- Host engines as armed or held changes leave them. -/
def hostEnginesAhead (s : State) : List (Nat × Nat) :=
  ((s.cmd.armed.map Armed.change ++ heldChanges s).filterMap fun x => match x with
    | .hostEngines r g => some (r, g)
    | _ => none) ++ (s.cmp.changing.toList.map fun x => (x.raw, x.general))

/-- An admitted context raw-packs: work is dealt to the raw lanes (R228). -/
def rawDealt (s : State) : Bool :=
  allCtx.any fun c => s.contexts[c].state != .free && s.contexts[c].live.recording.target != .none

/-- Instance `i` is reserved for host jobs with `n` of `all` reserved. -/
def reserved (all n i : Nat) : Bool := all - n ≤ i

/-- Instance `i` is leaving host use: reserved now and not once an accepted change is live (CMP_SET_HOST_ENGINES). -/
def leavingHost (s : State) (cls : EngineClass) (i : Nat) : Bool :=
  (hostEnginesAhead s).any fun x => match cls with
    | .rawLane => reserved 32 s.cmp.hostRaw i && !reserved 32 x.1 i
    | .general => reserved 4 s.cmp.hostGeneral i && !reserved 4 x.2 i
    | .decompress => false

/-- A host job may start on the instance (R230). -/
def eligible (s : State) (cls : EngineClass) (i : Nat) : Bool :=
  !(retiredOf s.cmp cls).contains i && !leavingHost s cls i && (match cls with
    | .rawLane => reserved 32 s.cmp.hostRaw i || !rawDealt s
    | _ => true)

/-- The class a job runs on, by its operation. -/
def CmpJob.cls (j : CmpJob) : EngineClass :=
  match fieldAt j.desc 0 1 with
  | 2 => .rawLane
  | 3 => .decompress
  | _ => .general

/-- The instance runs a host job. -/
def engineBusy (s : State) (cls : EngineClass) (i : Nat) : Bool :=
  s.cmp.submits.any fun u => u.jobs.any fun j => j.result.isNone && j.engine == some i && j.cls == cls

/-- The first eligible idle engine of a class. -/
def freeEngine (s : State) (cls : EngineClass) : Option Nat :=
  if blockDown s 0x48 then none else (List.range (engineCount cls)).find? fun i => eligible s cls i && !engineBusy s cls i

/-- The fault source of a retired class (R235). -/
def retireSource (cls : EngineClass) : Nat := 0x48 + classCode cls

/-! ## Host jobs (R230 to R234) -/

/-- The ranges of namespace 2 a job reads and writes (CMP_SUBMIT). -/
def CmpJob.ranges (j : CmpJob) : List WardRange :=
  let f := fieldAt j.desc
  (if f 4 1 = 1 then [lbaRange (f 8 8) (f 16 4) false] else []) ++
    (if f 5 1 = 1 then [lbaRange (f 24 8) (f 20 4) true] else [])

/-- A result record (R231). -/
def resultRecord (j : CmpJob) (o : JobOut) : List Byte :=
  let done := o.result = .done
  image 16 [put 0 1 o.result.code, put 1 1 (64 * classCode j.cls + j.engine.getD 0),
    put 4 4 (if done then o.output.length else 0), put 8 4 o.consumed, put 12 4 o.check]

/-- Job `i` of a submit changed. -/
def modJob (m : MbId) (tag : BitVec 16) (i : Nat) (f : CmpJob → CmpJob) (s : State) : State :=
  modCmp (fun x => { x with submits := x.submits.map fun u =>
                              if u.mb = m ∧ u.tag = tag then { u with jobs := u.jobs.modify i f } else u }) s

/-- A job waits for an engine. -/
def CmpJob.waits (j : CmpJob) : Bool := j.engine.isNone && j.result.isNone

/-- Job `i` starts if an engine of its class is free; its ranges of namespace 2 enter the ward table, and a write over a
bound range ends it with MEM_ERR (R230, R268, R271). -/
def startJob (m : MbId) (tag : BitVec 16) (i : Nat) (j : CmpJob) (s : State) : State :=
  match freeEngine s j.cls with
  | none => s
  | some n =>
    let j := { j with engine := some n }
    if touchesBound s j.ranges then
      modJob m tag i (fun _ => { j with result := some (resultRecord j { result := .memErr }) })
        (modCmp (fun x => { x with completed := bump x.completed })
          (modStg (fun x => { x with refused := bump x.refused }) s))
    else if j.ranges.isEmpty then modJob m tag i (fun _ => j) s
    else
      let (t, id) := enterWard (.job m tag i) j.ranges s
      modJob m tag i (fun _ => { j with ward := some id }) t

/-- Waiting jobs start in descriptor order (R230). -/
def startJobs (s : State) : State :=
  forEach s.cmp.submits (fun u t =>
    forEach u.jobs.zipIdx (fun p t => if p.1.waits then startJob u.mb u.tag p.2 p.1 t else t) t) s

/-- Bytes written to a payload location kept for later (R70). -/
def writeLocation (m : MbId) (kind loc off : Nat) (bytes : List Byte) (s : State) : State :=
  if kind = 1 then writeArena m (loc + off) bytes s
  else if s.hostUp then writeHost (loc + off) bytes s
  else hostFailed s

/-- A submit whose jobs all have results: the records are written in descriptor order and SYS_BACKGROUND_DONE posted. -/
def finishSubmits (s : State) : State :=
  forEach s.cmp.submits (fun u t =>
    if u.jobs.all fun j => j.result.isSome then
      let records := u.jobs.flatMap fun j => j.result.getD []
      endBackground u.mb 0x0801 u.tag .ok 0 (writeLocation u.mb u.kind u.loc (16 + 64 * u.jobs.length) records
        (modCmp (fun x => { x with submits := x.submits.filter fun y => !(y.mb == u.mb && y.tag == u.tag) }) t))
    else t) s

/-- A host job runs on an engine that leaves host use. -/
def leavingBusy (s : State) : Bool :=
  (List.range 32).any (fun i => leavingHost s .rawLane i && engineBusy s .rawLane i)
    || (List.range 4).any fun i => leavingHost s .general i && engineBusy s .general i

/-- Raw lanes dealt to admitted work with `n` reserved. -/
def dealtLanes (s : State) (n : Nat) : Nat := ((List.range (32 - n)).filter fun i => !s.cmp.retiredRaw.contains i).length

/-- A command in execution arms its changes now, and completes (R48, R82). -/
def endArmed (m : MbId) (hold : Bool) (cs : List Change) (detail : Nat) (s : State) : State :=
  let cs := withFlags s cs
  let seq := s.cmd.accepted.toNat
  if hold then
    endExecution m { status := .accepted, detail := detail, frame := 2 ^ 48 - 1 } (holdMore m ⟨cs, none, seq⟩ s)
  else
    let h := reachable s
    endExecution m { status := if s.tick.guardOpen then .okLate else .accepted, detail := detail, frame := h % 2 ^ 48 }
      (armAt h seq cs s)

/-- CMP_SET_HOST_ENGINES arms once no host job runs on an engine it gives back. -/
def settleHostEngines (s : State) : State :=
  match s.cmp.changing with
  | none => s
  | some x =>
    if leavingBusy s then s
    else endArmed x.mb x.hold [.hostEngines x.raw x.general] (dealtLanes s x.raw) (modCmp (fun y => { y with changing := none }) s)

/-- After a job or an engine changes: results, waiting jobs, a waiting reservation. -/
def settleJobs (s : State) : State := settleHostEngines (startJobs (finishSubmits s))

/-- The chunk header a job descriptor asks for (R226). -/
def headOf (d : List Byte) (raw : Bool) : ChunkHead :=
  let f := fieldAt d
  { predictor := bit raw, clip := f 48 8, frame := f 56 6, capture := f 44 1, pw := f 6 1 % 16, ph := f 6 1 / 16
    stripe := f 38 2, tileRow := f 40 2, w := f 32 2, h := f 34 2, x0 := f 42 2, marks := f 62 2 }

/-- The samples of a raw-pack job's tile: rows of packed samples at the row pitch (R123). -/
def tileOf (d src : List Byte) : List Nat :=
  let f := fieldAt d
  (List.range (f 34 2)).flatMap fun y => unpack14 (f 32 2) (slice src (y * f 36 2) (f 32 2 / 4 * 7))

/-- What a host job makes of its source (R220, R231 to R233). -/
def runJob (d src : List Byte) : JobOut :=
  let f := fieldAt d
  let cap := f 20 4
  if f 0 1 = 1 then
    let stream := Config.deflate 1 (f 3 1) (f 2 1) src
    let (out, check) := wrap (f 1 1) (f 3 1) (headOf d false) src stream
    if cap < out.length then { result := .outSpace } else ⟨.done, out, src.length, check⟩
  else if f 0 1 = 2 then
    let samples := tileOf d src
    let out := rawChunk (headOf d true) samples
    if cap < out.length then { result := .outSpace }
    else ⟨.done, out, src.length, (crc32c (samples16 samples)).toNat⟩
  else if f 1 1 = 3 then decodeChunk (f 7 1 == 1) cap src
  else decodeStream (f 1 1) cap src

/-- The engine is retired until reset, with its source and event (R235, R236). -/
def retireEngine (cls : EngineClass) (i : Nat) (s : State) : State :=
  if (retiredOf s.cmp cls).contains i || engineCount cls ≤ i then s
  else
    let n := retireSource cls
    post 0x0881 none 0 (64 * classCode cls + i + 2 ^ 8 * n) (raise0 n (modCmp (fun x =>
      match cls with
      | .rawLane => { x with retiredRaw := x.retiredRaw ++ [i] }
      | .general => { x with retiredGeneral := x.retiredGeneral ++ [i] }
      | .decompress => { x with retiredDecompress := x.retiredDecompress ++ [i] }) s))

/-- A job's ward entries, if it holds any, are released. -/
def releaseJob (j : CmpJob) (s : State) : State :=
  match j.ward with
  | some id => releaseWard id s
  | none => s

/-- The job of a submit that an engine runs now: started, and past the ward table. -/
def runningJob (s : State) (m : MbId) (tag : BitVec 16) (i : Nat) : Option CmpJob :=
  match ((s.cmp.submits.find? fun u => u.mb == m && u.tag == tag).bind fun u => u.jobs[i]?) with
  | some j => if j.result.isNone && j.engine.isSome && (match j.ward with | some id => wardReady s id | none => true)
      then some j else none
  | none => none

/-- CMP_JOB_DONE: a host job ends with its result, its output written (R231 to R235). -/
def cmpJobDone (m : MbId) (tag : BitVec 16) (i : Nat) (x : JobEnd) (s : State) : State :=
  match runningJob s m tag i with
  | none => s
  | some j =>
    let f := fieldAt j.desc
    let host := f 5 1 = 0
    let o : JobOut := if x.engineFault then { result := .engineFault }
      else if x.poisoned then { result := .memErr }
      else runJob j.desc x.source
    let lost := o.result = .done && host && !s.hostUp
    let o : JobOut := if lost then { result := .memErr } else o
    let t := if lost then hostFailed s else s
    let t := if o.result = .done then
        (if host then writeHost (f 24 8) o.output t else writeNs2 (f 24 8) o.output t) else t
    let t := if x.engineFault then retireEngine j.cls (j.engine.getD 0) t else t
    settleJobs (releaseJob j (modJob m tag i (fun j => { j with result := some (resultRecord j o) })
      (modCmp (fun y => { y with completed := bump y.completed }) t)))

/-- CMP_ENGINE_RETIRED: a failed engine is retired; its host job ends with ENGINE_FAULT, and an admitted job reruns
elsewhere (R235). -/
def cmpEngineRetired (cls : EngineClass) (i : Nat) (s : State) : State :=
  if (retiredOf s.cmp cls).contains i || engineCount cls ≤ i then s
  else
    let t := retireEngine cls i s
    settleJobs (forEach s.cmp.submits (fun u t => forEach u.jobs.zipIdx (fun p t =>
      if p.1.result.isNone && p.1.engine == some i && p.1.cls == cls then
        releaseJob p.1 (modJob u.mb u.tag p.2 (fun j => { j with
          result := some (resultRecord j { result := .engineFault }) })
          (modCmp (fun y => { y with completed := bump y.completed }) t))
      else t) t) t)

/-! ## Raw-pack chunks (R222, R229, R240) -/

/-- Stripes and tile rows of a frame (R222). -/
def tiling (f : Frame) : Nat × Nat :=
  (if f.stripe = 0 then 0 else ceilDiv f.bank.source.w f.stripe, ceilDiv f.bank.source.h 256)

/-- Chunks of a frame (R222). -/
def chunkCount (f : Frame) : Nat := captures f.bank * (tiling f).1 * (tiling f).2

/-- The frame's chunk list as its development begins: none without a clip, or without its T1 buffer (R229,
R240); in a split context the tile rows of the package's band `own` (R378). -/
def dealChunks (own : Nat × Nat) (k : Option Clip) (f : Frame) : Frame :=
  match k with
  | none => f
  | some k =>
    if k.cfg.t1 && !f.tap then { f with gap := 2 }
    else
      let (n, rows) := tiling f
      let l := (List.range (chunkCount f)).filter fun i => let y := 256 * (i / n % rows); own.1 ≤ y && y < own.2
      { f with chunksLeft := l, chunksExpected := l.length }

/-- A tile: capture, stripe, tile row, first column, width, height (R222). -/
structure Tile where
  cap : Nat
  stripe : Nat
  row : Nat
  x0 : Nat
  w : Nat
  h : Nat

/-- The tile of chunk `i`, in the order capture, tile row, stripe (R228). -/
def tileAt (f : Frame) (i : Nat) : Tile :=
  let (n, rows) := tiling f
  let st := i % n
  let tr := i / n % rows
  ⟨i / (n * rows), st, tr, st * f.stripe, Min.min f.stripe (f.bank.source.w - st * f.stripe),
    Min.min 256 (f.bank.source.h - 256 * tr)⟩

/-- The samples of a tile from tap T0 or T1 (R152, R222). -/
def tileSamples (t1 : Bool) (f : Frame) (t : Tile) : List Nat :=
  (List.range t.h).flatMap fun y => (List.range t.w).map fun x =>
    if t1 then (((f.tapRows.find? fun r => r.cap.val == t.cap && r.line == 256 * t.row + y).bind
      fun r => r.samples[t.x0 + x]?)).getD 0
    else t0 f t.cap (t.x0 + x) (256 * t.row + y)

/-- The space left for a chunk's body: what its record fits in of the frame's staging area or ring slot (R240, log 40). -/
def chunkRoom (s : State) (c : CtxId) (k : Clip) (f : Frame) : Nat :=
  let area := match k.cfg.target with
    | .ring => ringSlotSize f.bank k.cfg
    | .media _ => samplesOf f.bank * k.cfg.budget / 1024
    | _ => 2 ^ 40
  let used := match k.cfg.target with
    | .ring => (((s.recs[c].ring[slotOf s.recs[c] f.number]?).map fun x => (x.records.map fun y => y.bytes.length).sum).getD 0)
    | _ => f.staged
  (area - used) / 64 * 64 - 32

/-- The bound of R232 for a raw-packed tile. -/
def packBound (t : Tile) : Nat := 68 + 2 * t.w * t.h + 10 * ceilDiv (t.w * t.h) 32768

/-- A frame in flight that still has chunk `i` to read: late ones first. -/
def chunkFrame (x : Context) (i : Nat) : Option Frame :=
  (x.slotReaders ++ x.results.map PassResult.frame ++ x.frames).find? fun f => f.chunksLeft.contains i

/-- A frame changed wherever it is kept. -/
def modInFlight (number : Nat) (g : Frame → Frame) (x : Context) : Context :=
  let f := fun y : Frame => if y.number = number then g y else y
  { x with frames := x.frames.map f, slotReaders := x.slotReaders.map f
           results := x.results.map fun r => { r with frame := f r.frame } }

/-- A chunk of `n` bytes counted as recorded. -/
def chunkRecorded (n : Nat) (f : Frame) : Frame :=
  { f with chunksDone := f.chunksDone + 1, records := f.records + 1, staged := f.staged + recordSize n }

/-- The header of a recorded chunk (R226). -/
def chunkHead (clip : Nat) (f : Frame) (t : Tile) : ChunkHead where
  predictor := 1
  clip := clip
  frame := f.number
  capture := t.cap
  pw := f.bank.front.pw
  ph := f.bank.front.ph
  stripe := t.stripe
  tileRow := t.row
  w := t.w
  h := t.h
  x0 := t.x0
  marks := f.marks.toNat

/-- A chunk gap counted (R240). -/
def chunkGap (frame : Nat) (r : Recording) : Recording :=
  { r with gaps := bump r.gaps, gapsNow := (r.gapsNow.1 + 1, frame) }

/-- CHUNK_JOB_DONE: the chunk is recorded, or is a chunk gap; a failed engine's chunk reruns (R229, R234, R235, R240). -/
def chunkJobDone (c : CtxId) (i : Nat) (x : JobEnd) (s : State) : State :=
  match chunkFrame s.contexts[c] i with
  | none => s
  | some f =>
    if x.engineFault then retireEngine .rawLane x.engine s
    else
      let f := f.markIf x.poisoned .memErr
      let s := if x.poisoned then modCmp (fun y => { y with memErr := bump y.memErr }) s else s
      let left := f.chunksLeft.filter fun n => n != i
      let done := { f with chunksLeft := left }
      let (t, done) := match f.clip.bind (clipOf s c) with
        | none => (s, done)
        | some k =>
          let tile := tileAt f i
          let samples := if x.poisoned then (List.range tile.h).flatMap fun y =>
              unpack14 tile.w (slice x.source (y * (tile.w / 4 * 7)) (tile.w / 4 * 7))
            else tileSamples k.cfg.t1 f tile
          let body := rawChunk (chunkHead k.id f tile) samples
          if Min.min (packBound tile) (chunkRoom s c k f) < body.length then
            (modCmp (fun y => { y with outSpace := bump y.outSpace }) (modRec c (chunkGap f.number) s), { done with gap := 1 })
          else
            ((appendRecord c k.id 2 f.number body s).1, chunkRecorded body.length done)
      let t := modCtx c (modInFlight f.number fun _ => done) t
      if left.isEmpty && t.contexts[c].slotReaders.any fun g => g.number == f.number then
        frameRecord c done (modCtx c (fun x => { x with slotReaders := x.slotReaders.filter fun g => g.number != f.number }) t)
      else t

/-! ## Commands -/

/-- Offset of job descriptor `i`. -/
def jobAt (i : Nat) : Nat := 16 + 64 * i

/-- The fields of job descriptor `i` (CMP_SUBMIT). -/
def jobFields (e : Entry) (i : Nat) : List Field :=
  let b := jobAt i
  let f := fun off size => arg e (b + off) size
  let op := f 0 1
  let pack := op = 2
  let chunk := f 1 1 = 3
  let zeroUnless := fun (c : Bool) (off size : Nat) (ok : Nat → Bool) => (⟨b + off, size, fun v => if c then ok v else v == 0⟩ : Field)
  [range b 1 1 3, ⟨b + 1, 1, fun v => if pack then v == 3 else v ≤ 3⟩, ⟨b + 2, 1, fun v => if op = 1 then v ≤ 1 else v == 0⟩,
   ⟨b + 3, 1, fun v => if op = 1 then 1 ≤ v && v ≤ 9 else v == 0⟩, range (b + 4) 1 0 1, range (b + 5) 1 0 1,
   zeroUnless pack 6 1 fun v => 1 ≤ v % 16 && v % 16 ≤ 8 && 1 ≤ v / 16 && v / 16 ≤ 8,
   range (b + 7) 1 0 1, anyVal (b + 8) 8, range (b + 16) 4 1 (2 ^ 28), range (b + 20) 4 1 (2 ^ 28), anyVal (b + 24) 8,
   zeroUnless pack 32 2 fun v => 4 ≤ v && v ≤ 8192 && v % 4 == 0, zeroUnless pack 34 2 fun v => 1 ≤ v && v ≤ 256,
   zeroUnless pack 36 2 fun v => f 32 2 * 7 / 4 ≤ v, zeroUnless chunk 38 2 fun _ => true, zeroUnless chunk 40 2 fun _ => true,
   zeroUnless chunk 42 2 fun _ => true, zeroUnless pack 44 1 fun v => v ≤ 3, rsv (b + 45) 3,
   zeroUnless chunk 48 8 fun _ => true, zeroUnless chunk 56 6 fun _ => true, zeroUnless chunk 62 2 fun _ => true]

/-- The bytes a job's source (false) or destination (true) covers: space, address, length. -/
def jobBytes (e : Entry) (i : Nat) (dst : Bool) : Nat × Nat × Nat :=
  let b := jobAt i
  if dst then (arg e (b + 5) 1, arg e (b + 24) 8, arg e (b + 20) 4) else (arg e (b + 4) 1, arg e (b + 8) 8, arg e (b + 16) 4)

/-- Two byte ranges of one space overlap. -/
def bytesOverlap (a b : Nat × Nat × Nat) : Bool :=
  a.1 == b.1 && a.2.1 < b.2.1 + b.2.2 && b.2.1 < a.2.1 + a.2.2

/-- The first job field that reaches beyond namespace 2 or overlaps: its offset (CMP_SUBMIT). -/
def jobCross (e : Entry) (s : State) : Option Nat :=
  let n := arg e 0 1
  let beyond := fun x : Nat × Nat × Nat => x.1 == 1 && s.stg.scratch < x.2.1 + x.2.2
  (List.range n).findSome? fun i =>
    if beyond (jobBytes e i false) then some (jobAt i + 8)
    else if beyond (jobBytes e i true) then some (jobAt i + 24)
    else if (List.range n).any fun k => bytesOverlap (jobBytes e i true) (jobBytes e k false)
        || (k != i && bytesOverlap (jobBytes e i true) (jobBytes e k true)) then some (jobAt i + 24)
    else none

/-- CMPR is off: WRONG_STATE, detail 0x5. -/
def cmprOff (s : State) : Option Fail := if domainOn s 21 then none else some (wrong 5)

/-- CMP_SUBMIT, 0x0801. -/
def cmpSubmitSpec : Spec where
  opcode := 0x0801
  len := .counted fun p => 16 + 80 * Max.max 1 (Min.min 64 (fieldAt p 0 1))
  noInline := true
  isBackground := true
  fields := fun e _ => [range 0 1 1 64, rsv 1 15] ++ (List.range (arg e 0 1)).flatMap (jobFields e)
  cross := jobCross
  states := fun _ s => cmprOff s
  resources := fun _ s => if 4 ≤ s.cmp.submits.length then some ⟨.noResource, Config.openDetail 0x0801 0x8006⟩ else none
  effect := fun e s =>
    let n := arg e 0 1
    let jobs := (List.range n).map fun i => ({ desc := slice (payload e) (jobAt i) 64 } : CmpJob)
    .background (startJobs (modCmp (fun x => { x with
      submits := x.submits ++ [⟨e.mb, e.tag, entryLoc e, e.loc.toNat, jobs⟩] }) s)) none n

/-- CMP_SET_HOST_ENGINES, 0x0802. -/
def cmpSetHostEnginesSpec : Spec where
  opcode := 0x0802
  len := .exact 8
  bank := true
  fields := fun _ _ => [range 0 1 0 32, range 1 1 0 4, rsv 2 6]
  states := fun _ s => (cmprOff s).or
    (if s.cmp.changing.isSome then some ⟨.busyRetry, Config.openDetail 0x0802 0x8005⟩ else none)
  tumbler := fun e s => budgetFail s [.hostEngines (arg e 0 1) (arg e 1 1)]
  effect := fun e s =>
    let x : HostEngines := ⟨e.mb, holds e, arg e 0 1, arg e 1 1⟩
    let t := modCmp (fun y => { y with changing := some x }) s
    if leavingBusy t then .execute t none
    else .arm s [.hostEngines x.raw x.general] none (dealtLanes s x.raw)

/-- CMP_CANCEL, 0x0803. -/
def cmpCancelSpec : Spec where
  opcode := 0x0803
  len := .exact 8
  fields := fun _ _ => [anyVal 0 2, rsv 2 6]
  states := fun e s => (cmprOff s).or
    (if s.cmp.submits.any fun u => u.mb == e.mb && u.tag.toNat == arg e 0 2 then none
     else some (wrong (Config.openDetail 0x0803 0x8004)))
  effect := fun e s =>
    let tag := BitVec.ofNat 16 (arg e 0 2)
    let n := ((s.cmp.submits.filter fun u => u.mb == e.mb && u.tag == tag).map fun u => (u.jobs.filter CmpJob.waits).length).sum
    let abort := fun j : CmpJob =>
      if j.waits then { j with result := some (resultRecord j { result := .aborted }) } else j
    let t := modCmp (fun x => { x with
      completed := bumpBy x.completed n
      submits := x.submits.map fun u => if u.mb = e.mb ∧ u.tag = tag then { u with jobs := u.jobs.map abort } else u }) s
    .reply (settleJobs t) { detail := n }

/-- CMP_GET_STATUS, 0x0804. -/
def cmpGetStatusSpec : Spec where
  opcode := 0x0804
  len := .exact 64
  noInline := true
  deadbolt := true
  fields := fun _ _ => [range 0 1 0 1, rsv 1 7]
  states := fun _ s => cmprOff s
  effect := fun e s =>
    let k := s.cmp
    let bits := fun l : List Nat => maskOf 32 l.contains
    .reply (if arg e 0 1 = 1 then
        modCmp (fun x => { x with late := Vector.replicate 8 0, outSpace := 0, memErr := 0, completed := 0 }) s else s)
      { back := some (8, (image 64 ([put 8 4 (bits k.retiredRaw), put 12 1 (bits k.retiredGeneral),
          put 13 1 (bits k.retiredDecompress), put 14 1 k.hostRaw, put 15 1 k.hostGeneral, put 48 4 k.outSpace.toNat,
          put 52 4 k.memErr.toNat, put 56 4 k.completed.toNat]
        ++ allCtx.map fun c => put (16 + 4 * c.val) 4 k.late[c].toNat)).drop 8) }

/-- CMP_SUBMIT. -/
def execCmpSubmit (e : Entry) (s : State) : Host.Outcome State Fault Refusal := .next (runCommand cmpSubmitSpec e s)
/-- CMP_SET_HOST_ENGINES. -/
def execCmpSetHostEngines (e : Entry) (s : State) : Host.Outcome State Fault Refusal :=
  .next (runCommand cmpSetHostEnginesSpec e s)
/-- CMP_CANCEL. -/
def execCmpCancel (e : Entry) (s : State) : Host.Outcome State Fault Refusal := .next (runCommand cmpCancelSpec e s)
/-- CMP_GET_STATUS. -/
def execCmpGetStatus (e : Entry) (s : State) : Host.Outcome State Fault Refusal := .next (runCommand cmpGetStatusSpec e s)
/-- CMP_JOB_DONE. -/
def execCmpJobDone (m : MbId) (tag : BitVec 16) (i : Nat) (x : JobEnd) (s : State) : Host.Outcome State Fault Refusal :=
  .next (cmpJobDone m tag i x s)
/-- CHUNK_JOB_DONE. -/
def execChunkJobDone (c : CtxId) (i : Nat) (x : JobEnd) (s : State) : Host.Outcome State Fault Refusal :=
  .next (chunkJobDone c i x s)
/-- CMP_ENGINE_RETIRED. -/
def execCmpEngineRetired (cls : EngineClass) (i : Nat) (s : State) : Host.Outcome State Fault Refusal :=
  .next (cmpEngineRetired cls i s)

end Sys2Proof.Machine
end

