-- ==== Sys2Proof/Machine/Passes.lean ====
section
/-!
DEFINITION. Passes: the end of a frame's development (06 R137 to 08 R192), the motion analysis and the vector field
(13 R295, R297).
-/

namespace Sys2Proof.Machine

/-! ## The develop pass -/

/-- The oldest frame of context `c` in development. -/
def developing (s : State) (c : CtxId) : Option Frame := s.contexts[c].frames.find? fun f => f.phase == .developing

/-- The reference a frame uses: its predecessor's, of the frame number before and of the frame's size (R169, log 45). -/
def referenceFor (x : Context) (f : Frame) : Option (List (List Nat)) :=
  match x.reference with
  | none => none
  | some r =>
    if f.bank.noise.temporal && r.frame.toNat + 1 == f.number &&
        (r.planes.all fun p => p.isEmpty || p.length == f.bank.source.w * f.bank.source.h)
    then some r.planes else none

/-- The vector field a frame uses: of frames n − 2 and n − 1, complete before its interval (R169). -/
def fieldFor (s : State) (x : Context) (f : Frame) : Option VectorField :=
  match x.field with
  | none => none
  | some v =>
    if f.bank.noise.temporal && v.frame.toNat + 1 == f.number && v.tick < s.tick.counter.toNat && v.d == f.bank.noise.d
    then some v else none

/-- A grade buffer is held: not live yet, or a reader has not finished (R180). -/
def GradeImage.held (i : GradeImage) : Bool := !i.live || !i.readers.isEmpty

/-- Both buffers of a grade are held (R180). -/
def buffersHeld (x : Context) (g : GradeId) : Bool :=
  2 ≤ (x.buffers.filter fun i => i.grade == g && i.held).length

/-- The grade of a frame is produced: enabled and not bypassed (R172, R182). -/
def gradeOn (f : Frame) (g : GradeId) : Bool := f.bank.grades[g].on && !f.gradesOff.getLsbD g.val

/-- A new grade picture takes a buffer, or the grade of this frame is skipped and counted (R180). -/
def writeGrade (c : CtxId) (i : GradeImage) (s : State) : State :=
  if buffersHeld s.contexts[c] i.grade then
    modCtx c (fun x => { x with gradeSkips := x.gradeSkips.set i.grade (bump x.gradeSkips[i.grade]) }) s
  else modCtx c (fun x => { x with buffers := (x.buffers.filter fun j => j.grade != i.grade || j.held) ++ [i] }) s

/-- The T1 tap's rows (R152). -/
def tapRows (p : Pass) : List Row :=
  (List.range (captures p.f.bank)).flatMap fun k => (List.range p.f.bank.source.h).map fun y =>
    ⟨⟨k % 4, Nat.mod_lt _ (by decide)⟩, y, (List.range p.f.bank.source.w).map fun x => p.t1 k x y⟩

/-- What temporal noise reduction leaves for the next frames: reference and analysis luma (R168, R170). -/
def keepTemporal (c : CtxId) (f : Frame) (v : Developed) (s : State) : State :=
  let n := BitVec.ofNat 48 f.number
  if f.bank.noise.temporal then
    let (wd, codes) := analysisLuma f.bank v
    let l : Luma := ⟨n, wd, codes, s.tick.counter.toNat, f.bank.noise.d⟩
    modCtx c (fun x => { x with reference := some ⟨n, v.kept⟩, lumas := (l :: x.lumas).take 3 }) s
  else modCtx c (fun x => { x with reference := none, lumas := [] }) s

/-- A unit that develops the frame is dead and no spare took its stripe: the stripe is never completed (R397). The striping is
that of the live bank (R398). -/
def stripeLost (s : State) (c : CtxId) (f : Frame) : Bool :=
  (unitsOf s { f.bank with excluded := s.contexts[c].live.excluded }).any fun u =>
    (clusterOf s u.region u.cluster).uncovered.contains u.index

/-- DEVELOP_PASS_DONE: development of the context's oldest developing frame ends (R137 to R192). -/
def developPassDone (c : CtxId) (takenOver : Bool) (s : State) : State :=
  match developing s c with
  | none => s
  | some f0 => if stripeLost s c f0 then s else
    let x := s.contexts[c]
    let f := f0.markIf takenOver .unitTakeover
    let p : Pass := ⟨s, f, clampAll s x f, mismatched s f.bank⟩
    let scene : Scene := ⟨f.bank, ((positions f.bank).map fun a => p.merge a.1 a.2).toArray⟩
    let ref := referenceFor x f
    let field := fieldFor s x f
    let v := develop scene ref field
    let pics := (List.finRange 4).map fun g =>
      if gradeOn f g then some (gradePicture f.bank.grades[g] (lutEntries s f.bank f.bank.grades[g]) v) else none
    let images := (List.finRange 4).filterMap fun g => (pics.getD g.val none).map fun a =>
      (⟨g, BitVec.ofNat 48 f.number, f.marks, false, gradeBytes f.bank.grades[g] v.w v.h a, []⟩ : GradeImage)
    let written := images.filter fun i => !buffersHeld x i.grade
    let r := statRecord s c f scene v pics f.gradesOff
    let t := forEach images (writeGrade c) s
    let t := keepTemporal c f v t
    let f' : Frame := { f with phase := .developed, tapRows := if f.tap then tapRows p else [] }
    let t := modCtx c (fun x => { x with
      clamp := clampAfter p, clampBank := some f.bank.front.caps
      front := { p.status with gaps := v.gaps }
      noReference := if f.bank.noise.temporal && ref.isNone then bump x.noReference else x.noReference
      zeroVectors := if f.bank.noise.temporal && field.isNone then bump x.zeroVectors else x.zeroVectors
      frames := x.frames.map fun g => if g.tick = f.tick then f' else g
      results := x.results ++ [⟨nextHinge s, r, written, f'⟩] }) t
    let t := if r.bins.isEmpty && !r.zones.isEmpty then { t with free := t.free + 16384 } else t
    postCopy c r t

/-! ## Motion analysis (R295, R297) -/

/-- The luma of this interval that can be analysed, with its reference: frame n − 2 of an earlier interval (R295). -/
def analysisPair (s : State) (x : Context) : Option (Luma × Luma) :=
  x.lumas.findSome? fun cur =>
    if cur.tick = s.tick.counter.toNat then
      (x.lumas.find? fun r => r.frame + 1 == cur.frame && r.tick < cur.tick && r.width == cur.width && r.d == cur.d
        && r.codes.length == cur.codes.length).map fun r => (cur, r)
    else none

/-- The search window of block (i, j) leaves the plane (R297). -/
def windowClamped (w h i j : Nat) : Bool :=
  16 * i < 64 || 16 * j < 32 || w < 16 * i + 16 + 64 || h < 16 * j + 16 + 32

/-- The bytes of a field for context `c`, of a plane of `w × h` (R297). A SAD divided by 16 is at most 65,520, so
that flag bit 1 is never set. -/
def VectorField.bytes (f : VectorField) (c : CtxId) (w h : Nat) : List Byte :=
  image 32 [(0, [0x53, 0x5A, 0x56, 0x46]), put 4 2 1, put 6 1 c.val, put 7 1 f.d, put 8 6 f.frame.toNat,
      put 14 6 (f.frame - 1).toNat, put 20 2 f.width, put 22 2 (if f.width = 0 then 0 else f.vectors.length / f.width),
      put 24 8 f.tick]
    ++ f.vectors.zipIdx.flatMap fun v =>
      leInt 2 v.1.1 ++ leInt 2 v.1.2.1 ++ leBytes 2 v.1.2.2
        ++ leBytes 1 (bit (windowClamped w h (v.2 % f.width) (v.2 / f.width))) ++ [0]

/-- The host copy of a completed field (R297). -/
def exportField (c : CtxId) (bytes : List Byte) (s : State) : State :=
  match s.contexts[c].live.vecExport with
  | none => s
  | some (slots, addr) =>
    if !s.hostUp then hostFailed s
    else
      let n := s.contexts[c].exportSlot
      modCtx c (fun x => { x with exportSlot := (n + 1) % slots })
        (writeHost (addr.toNat + alloc bytes.length * (n % slots)) bytes s)

/-- MOTION_FIELD_DONE: the context's field of this interval is complete (R295 to R297). -/
def motionFieldDone (c : CtxId) (s : State) : State :=
  let x := s.contexts[c]
  if !x.live.noise.temporal || x.live.analysisCore.isNone then s
  else match analysisPair s x with
    | none => s
    | some (cur, ref) =>
      let f := searchField cur ref cur.tick
      let h := if cur.width = 0 then 0 else cur.codes.length / cur.width
      exportField c (f.bytes c cur.width h) (modCtx c (fun x => { x with field := some f }) s)

/-- DEVELOP_PASS_DONE. -/
def execDevelopPassDone (c : CtxId) (takenOver : Bool) (s : State) : Host.Outcome State Fault Refusal :=
  .next (developPassDone c takenOver s)
/-- MOTION_FIELD_DONE. -/
def execMotionFieldDone (c : CtxId) (s : State) : Host.Outcome State Fault Refusal := .next (motionFieldDone c s)

end Sys2Proof.Machine
end

