-- ==== Sys2Proof/Machine/Link.lean ====
section
/-!
DEFINITION. Link: the sensor link (04). Columns are received as scrambled 66-bit blocks, sorted, descrambled,
repaired from the parity lane and reassembled into lines; ports are configured, brought up and taken down.
-/

namespace Sys2Proof.Machine

/-! ## Blocks and columns (R90 to R95) -/

/-- The unscrambled payload: d(n) = s(n) XOR s(n-39) XOR s(n-58) (R91). -/
def descramble (b : Block) : BitVec 64 :=
  let x : BitVec 122 := b.payload ++ b.prev
  ((x >>> 58) ^^^ (x >>> 19) ^^^ x).setWidth 64

/-- The eight bytes of a payload word, byte 0 first (R90). -/
def wordBytes (w : BitVec 64) : List Byte := leBytes 8 w.toNat

/-- Eight bytes as a payload word. -/
def bytesWord (l : List Byte) : BitVec 64 := BitVec.ofNat 64 (leNat (slice l 0 8))

/-- A control block of the device: type and bytes 1 to 6, with its CRC-8 in byte 7 (R94). -/
def controlWord (type : Nat) (body : List Byte) : BitVec 64 :=
  let l := BitVec.ofNat 8 type :: slice body 0 6
  bytesWord (l ++ [crc8 l])

/-- A data block's header: bits 0 then 1 (R90). -/
def isData (b : Block) : Bool := b.hdr == 1
/-- A control block's header: bits 1 then 0 (R90). -/
def isControl (b : Block) : Bool := b.hdr == 2
/-- An invalid header: 00 or 11 (R90). -/
def badHeader (b : Block) : Bool := b.hdr == 0 || b.hdr == 3

/-- The kind of a column by the majority of its lanes; none when data and control tie (R92). -/
def columnIsData (c : Column) : Option Bool :=
  let d := (c.flatten.filter isData).length
  let k := (c.flatten.filter isControl).length
  if d = k then none else some (decide (k < d))

/-- The ports of the bond that `p` is first of, in order (R89). -/
def group (bond : Nat) (p : PortId) : List PortId :=
  if bond = 0 then [p] else if bond = 1 then [p, p + 1] else [0, 1, 2, 3]

/-- The ports of port `p`'s bond. -/
def groupOf (s : State) (p : PortId) : List PortId :=
  match s.ports[p].cfg with
  | some g => group g.bond p
  | none => [p]

/-- The content of a control column: that of the lowest-numbered lane whose CRC-8 passes, IDLE needing none; none
is a control error (R94). -/
def controlContent (failed : List (List Nat)) (c : Column) : Option (List Byte) :=
  let lanes := (c.zip failed).flatMap fun (l, bad) =>
    (l.zipIdx.filter fun x => isControl x.1 && !bad.contains x.2).map fun x => wordBytes (descramble x.1)
  lanes.find? fun b => fieldAt b 0 1 == 0x1E || crc8 (b.take 7) == b.getD 7 0

/-- The words of one port's data column: each with whether it is lost, and whether one was rebuilt (R103, R104). -/
def portWords (parity : Bool) (bad : List Nat) (l : List Block) : List (BitVec 64 × Bool) × Bool :=
  let dataLanes := if parity then l.dropLast else l
  let erased := fun (x : Block × Nat) => !isData x.1 || bad.contains x.2
  let tagged := dataLanes.zipIdx.map fun x => (x.1, x.2, erased x)
  let count := (tagged.filter fun x => x.2.2).length
  let parityOk := parity && (match l.getLast? with
    | some b => isData b && !bad.contains 16
    | none => false)
  let others := (tagged.filter fun x => !x.2.2).foldl (fun w x => w ^^^ descramble x.1) 0
  if count = 0 then (tagged.map fun x => (descramble x.1, false), false)
  else if count = 1 && parityOk then
    let p := match l.getLast? with | some b => descramble b | none => 0
    (tagged.map fun x => (if x.2.2 then others ^^^ p else descramble x.1, false), true)
  else (tagged.map fun x => if x.2.2 then (0, true) else (descramble x.1, false), false)

/-- The data words of a column over the bond, in bond lane order, and how many blocks were rebuilt. -/
def columnWords (parity : Bool) (failed : List (List Nat)) (c : Column) : List (BitVec 64 × Bool) × Nat :=
  let ps := (c.zip failed).map fun (l, bad) => portWords parity bad l
  (ps.flatMap Prod.fst, (ps.filter Prod.snd).length)

/-- Four samples of a 7-byte group (R100). -/
def unpackGroup (l : List Byte) : List Nat :=
  let v := leNat (slice l 0 7)
  [v % 2 ^ 14, v / 2 ^ 14 % 2 ^ 14, v / 2 ^ 28 % 2 ^ 14, v / 2 ^ 42 % 2 ^ 14]

/-- `n` samples packed four per 7 bytes (R100). -/
def unpackSamples (n : Nat) (l : List Byte) : List Nat :=
  ((List.range (ceilDiv n 4)).flatMap fun i => unpackGroup (slice l (7 * i) 7)).take n

/-- What a line packet holds (R99 to R102). -/
inductive Packet where
  /-- the header CRC failed or its word was lost: the line is discarded -/
  | badHeader
  | line (l : Line)

/-- A line packet from its words (R99 to R102, R104). -/
def readPacket (words : List (BitVec 64 × Bool)) (rebuilt : Bool) : Packet :=
  match words with
  | [] => .badHeader
  | (h, lost) :: rest =>
    let hb := wordBytes h
    if lost || crc8 (hb.take 7) != hb.getD 7 0 then .badHeader
    else
      let n := fieldAt hb 5 2
      let size := 7 * ceilDiv n 4
      let body := rest.flatMap fun w => wordBytes w.1
      let used := rest.take (ceilDiv (4 + size) 8)
      let good := crc32c (slice body 0 size) == BitVec.ofNat 32 (fieldAt body size 4)
      .line { stream := ⟨fieldAt hb 0 1 / 4 % 4, Nat.mod_lt _ (by decide)⟩, embedded := (fieldAt hb 0 1).testBit 4,
              count := BitVec.ofNat 16 (fieldAt hb 1 2), number := fieldAt hb 3 2,
              samples := unpackSamples n (slice body 0 size),
              checkErr := !good || used.any Prod.snd, rebuilt := rebuilt }

/-! ## Receiving -/

/-- The failed lanes of each port of the bond. -/
def failedLanes (s : State) (g : List PortId) : List (List Nat) := g.map fun p => s.ports[p].failed.map Fin.val

/-- One lane's counters of port `p` changed by `f`. -/
def modLane (p : PortId) (i : Fin 17) (f : LaneStat → LaneStat) (s : State) : State :=
  modPort p (fun q => { q with lanes := q.lanes.set i (f q.lanes[i]) }) s

/-- Every lane's counters changed by `f`. -/
def mapLanes (f : Fin 17 → LaneStat → LaneStat) (v : Vector LaneStat 17) : Vector LaneStat 17 :=
  (List.finRange 17).foldl (fun w (i : Fin 17) => w.set i (f i w[i])) v

/-- Invalid headers of a column, counted lane by lane (R105); on the parity lane too. -/
def countHeaders (s : State) (g : List PortId) (c : Column) : State :=
  forEach (g.zip c) (fun (p, l) t =>
    forEach l.zipIdx (fun (b, i) t =>
      if h : i < 17 then
        if badHeader b then modLane p ⟨i, h⟩ (fun l => { l with invalid := bump l.invalid }) t
        else t
      else t) t) s

/-- Port `p` is the first port of a bond in ACTIVE. -/
def activePort (s : State) (p : PortId) : Bool := s.ports[p].state == .active && s.ports[p].first == some p

/-- A control error is counted (R92, R93, R94). -/
def controlError (p : PortId) (s : State) : State :=
  modPort p (fun q => { q with controlErrors := bump q.controlErrors }) s

/-- A control column of the type wanted is received; anything else is a control error, but for IDLE (R93, R94). -/
def receiveControl (p : PortId) (type : Nat) (c : Column) (act : List Byte → State → State) (s : State) : State :=
  if !activePort s p then s
  else
    let g := groupOf s p
    let t := countHeaders s g c
    match columnIsData c with
    | some false =>
      match controlContent (failedLanes s g) c with
      | some b =>
        if fieldAt b 0 1 = type then act b t
        else if fieldAt b 0 1 = 0x1E then t
        else controlError p t
      | none => controlError p t
    | _ => controlError p t

/-- The virtual stream of a frame column (R98). -/
def streamOf (b : List Byte) : Fin 4 := ⟨fieldAt b 1 1 % 4, Nat.mod_lt _ (by decide)⟩

/-- A FRAME_START is received (R98). -/
def frameStart (p : PortId) (b : List Byte) (s : State) : State :=
  let t := modPort p (fun q => { q with frames := bump q.frames }) s
  if t.devState = 4 then t
  else openFrame p (streamOf b) (BitVec.ofNat 16 (fieldAt b 2 2)) (some (fieldAt b 4 1)) t

/-- A FRAME_END is received: it closes the open frame of its count (R42, R98). -/
def frameEnd (p : PortId) (b : List Byte) (s : State) : State :=
  match s.ports[p].opened[streamOf b] with
  | some o => if o.count.toNat = fieldAt b 2 2 then closeOpen p (streamOf b) s else s
  | none => s

/-- A check error on port `p`: source 0x18 + p when the tick's lines reach the threshold (R114). -/
def checkError (p : PortId) (s : State) : State :=
  let t := modPort p (fun q => { q with checksNow := q.checksNow + 1 }) s
  match s.ports[p].cfg with
  | some g => if g.threshold ≠ 0 && t.ports[p].checksNow = g.threshold then raise0 (0x18 + p.val) t else t
  | none => t

/-- The frame open on stream `v` of port `p` holds rebuilt data: counted once (R104). -/
def noteRebuilt (p : PortId) (v : Fin 4) (s : State) : State :=
  match s.ports[p].opened[v] with
  | some o => if o.rebuilt then s else modPort p (fun q => { q with
      opened := q.opened.set v (some { o with rebuilt := true }), recovered := bump q.recovered }) s
  | none => s

/-- A line packet is received: LINE_START, then data columns (R99, R102, R104). -/
def linePacket (p : PortId) (cols : List Column) (s : State) : State :=
  if !activePort s p then s
  else
    let g := groupOf s p
    let failed := failedLanes s g
    let parity := match s.ports[p].cfg with | some x => x.parity | none => false
    let t := forEach cols (fun c t => countHeaders t g c) s
    match cols with
    | [] => t
    | start :: rest =>
      let opens := columnIsData start == some false &&
        (match controlContent failed start with | some b => fieldAt b 0 1 == 0x55 | none => false)
      if !opens then controlError p t
      else
        let good := rest.filter fun c => columnIsData c == some true
        let t := forEach (rest.filter fun c => columnIsData c != some true) (fun _ t => controlError p t) t
        let words := good.map (columnWords parity failed)
        let n := (words.map Prod.snd).sum
        let t := modPort p (fun q => { q with lines := bump q.lines, rebuilt := bumpBy q.rebuilt n }) t
        match readPacket (words.flatMap Prod.fst) (n != 0) with
        | .badHeader =>
          let v := t.ports[p].lastOpened
          let t := modPort p (fun q => { q with headerErrors := bump q.headerErrors }) (checkError p t)
          match t.ports[p].opened[v] with
          | some o => forEach o.claims (markOpen p v .checkErr o.count true) t
          | none => t
        | .line l =>
          let t := if l.checkErr then
              modPort p (fun q => { q with payloadErrors := bump q.payloadErrors }) (checkError p t) else t
          let t := intakeLine p l t
          if l.rebuilt then noteRebuilt p l.stream t else t

/-! ## Bring-up (R110 to R112) -/

/-- The state of every port of the bond of `p` (R110, lockstep). -/
def setGroup (p : PortId) (f : Port → Port) (s : State) : State := forEach (groupOf s p) (fun q => modPort q f) s

/-- SL_PORT_STATE of the bond of `p` (R116). -/
def postPortState (p : PortId) (s : State) : State :=
  post 0x0380 none 0 (p.val + 2 ^ 8 * s.ports[p].state.code + 2 ^ 16 * s.ports[p].reason) s

/-- A failed attempt: back to DETECT, or OFF after eight (R111). -/
def failAttempt (p : PortId) (reason : Nat) (s : State) : State :=
  let n := s.ports[p].attempts + 1
  if n < 8 then setGroup p (fun q => { q with state := .detect, attempts := n, reason := reason, failed := [] }) s
  else postPortState p
    (setGroup p (fun q => { q with state := .off, attempts := n, reason := reason, failed := [] }) s)

/-- An ACTIVE port goes down: its open frames are passed on as partly received, and it returns to DETECT with the
attempt count reset (R111). -/
def portDown (p : PortId) (reason : Nat) (s : State) : State :=
  let t := closeAll p s
  let t := setGroup p (fun q => { q with state := .detect, attempts := 0, reason := reason, failed := [] }) t
  postPortState p t

/-- The device's own capability structure (R112). -/
def deviceCaps (g : PortCfg) : List Byte :=
  let l := image 28 [put 0 2 1, put 2 1 1, put 3 1 g.lanes, put 4 2 0x1F5A, put 6 2 0x9480, put 8 1 0xB1,
    put 9 1 0x3F,
    put 10 1 (bit g.parity + 2 * bit g.markers + 8 + 16 + 32 * bit (!g.ownRef)),
    put 11 1 0x0F, put 12 2 65535, put 14 2 65535, put 20 1 14]
  l ++ leBytes 4 (crc32c l).toNat

/-- The sensor's structure passes the checks (R112). -/
def capsOk (g : PortCfg) (c : List Byte) : Bool :=
  crc32c (slice c 0 28) == BitVec.ofNat 32 (fieldAt c 28 4) && fieldAt c 2 1 == 0
    && (fieldAt c 9 1).testBit g.rate && fieldAt c 3 1 == g.lanes
    && (!g.parity || (fieldAt c 10 1).testBit 0) && (!g.markers || (fieldAt c 10 1).testBit 1)

/-- The device's CAPS message: the CAPS block and four data blocks (R106). -/
def sendCaps (p : PortId) (s : State) : State :=
  match s.ports[p].cfg with
  | some g =>
    let l := deviceCaps g
    forEach [0, 1, 2, 3] (fun i => emit (.backChannel p false (bytesWord (slice l (8 * i) 8))))
      (emit (.backChannel p true (controlWord 0x66 [])) s)
  | none => s

/-- The lanes a configuration uses, the parity lane 16 with parity on (R86). -/
def usedLanes (g : PortCfg) : List Nat := List.range g.lanes ++ (if g.parity then [16] else [])

/-- A state's condition is met and the bond advances (R110); no port brings up without SLREF (R115). -/
def advance (p : PortId) (s : State) : State :=
  match s.ports[p].cfg with
  | none => s
  | some g =>
    if s.ports[p].first ≠ some p || !s.tick.slref || (groupOf s p).any (fun q => blockDown s (0x10 + q.val)) then s
    else match s.ports[p].state with
      | .detect => setGroup p (fun q => { q with state := .train }) s
      | .train => setGroup p (fun q => { q with state := .bitLock }) s
      | .bitLock => setGroup p (fun q => { q with state := .blockLock }) s
      | .blockLock =>
        let lock := fun (q : Port) => { q with
          state := .caps
          lanes := mapLanes (fun i l => if (usedLanes g).contains i.val then { l with locked := true } else l) q.lanes }
        sendCaps p (setGroup p lock s)
      | _ => s

/-- The BRINGUP block of a port's state: action 1 up to BIT_LOCK, 2 in BLOCK_LOCK (R110). -/
def bringupBlock (g : PortCfg) (action : Nat) : BitVec 64 :=
  controlWord 0x87 [BitVec.ofNat 8 action, BitVec.ofNat 8 g.rate, BitVec.ofNat 8 g.lanes,
    if g.parity then 1 else 0]

/-- The BRINGUP block repeated on every port of the bond (R110). -/
def repeatBringup (p : PortId) (s : State) : State :=
  match s.ports[p].cfg with
  | none => s
  | some g =>
    let send := fun a => if s.tick.slref then forEach (groupOf s p) (fun q => emit (.backChannel q true (bringupBlock g a))) s else s
    match s.ports[p].state with
    | .detect | .train | .bitLock => send 1
    | .blockLock => send 2
    | _ => s

/-- The sensor's capability structure arrives (R112). -/
def receiveCaps (p : PortId) (c : List Byte) (s : State) : State :=
  match s.ports[p].cfg with
  | none => s
  | some g =>
    if s.ports[p].state != .caps || s.ports[p].first != some p then s
    else
      let t := modPort p (fun q => { q with caps := some (slice c 0 32) }) s
      if capsOk g c then
        postPortState p (setGroup p (fun q => { q with state := .active, reason := 0 }) t)
      else failAttempt p 6 t

/-- The skews an ALIGN column measured: port of the bond, lane, skew in UI. -/
abbrev Skews := List (Nat × Nat × Nat)

/-- The measured skew of lane `i` of the bond's port number `n`. -/
def skewOf (k : Skews) (n i : Nat) : Option Nat := (k.find? fun x => x.1 == n && x.2.1 == i).map fun x => x.2.2

/-- Every lane in use of the bond of `ports` changed by `f` of the skew that an ALIGN column shows on it (R96). -/
def eachLane (g : PortCfg) (ports : List PortId) (k : Skews) (f : Option Nat → LaneStat → LaneStat) (s : State) : State :=
  forEach ports.zipIdx (fun (q, n) t =>
    forEach (usedLanes g) (fun i t => if h : i < 17 then modLane q ⟨i, h⟩ (f (skewOf k n i)) t else t) t) s

/-- An ALIGN column (R96, R97): in BLOCK_LOCK it measures the skews, and a spread above 2,048 UI fails with reason
4; in ACTIVE a lane that is missing or moved by more than 4 UI has an alignment error. -/
def align (p : PortId) (c : Column) (k : Skews) (s : State) : State :=
  match s.ports[p].cfg with
  | none => s
  | some g =>
    let ports := groupOf s p
    match s.ports[p].state with
    | .blockLock =>
      let vs := k.map fun x => x.2.2
      let spread := vs.foldl max 0 - vs.foldl min (vs.foldl max 0)
      let t := eachLane g ports k (fun v l => { l with skew := BitVec.ofNat 16 (v.getD l.skew.toNat) }) s
      if 2048 < spread then failAttempt p 4 t else t
    | .active =>
      let t := countHeaders s ports c
      eachLane g ports k (fun v l => match v with
        | some x => if l.skew.toNat + 4 < x || x + 4 < l.skew.toNat then { l with alignErrors := bump l.alignErrors }
                    else l
        | none => { l with alignErrors := bump l.alignErrors }) t
    | _ => s

/-! ## Lane failure (R105) -/

/-- The bond's first port of a port. -/
def firstOf (s : State) (p : PortId) : PortId := (s.ports[p].first).getD p

/-- A lane of port `p` fails (R105, R114, R116); a second data lane, or one without parity, takes the port down. -/
def laneFailed (p : PortId) (lane : Fin 17) (s : State) : State :=
  match s.ports[p].cfg with
  | none => s
  | some g =>
    if s.ports[p].state != .active || s.ports[p].failed.contains lane then s
    else
      let t := modPort p (fun q => { q with
        failed := q.failed ++ [lane] }) (modLane p lane (fun l => { l with
          lockLosses := bump l.lockLosses, locked := false }) s)
      let t := post 0x0381 none 0 (p.val + 2 ^ 8 * lane.val) (raise0 (0x10 + p.val) t)
      let dataFailed := (t.ports[p].failed.filter fun l => l.val < 16).length
      if lane.val < 16 && (2 ≤ dataFailed || !g.parity) then
        portDown (firstOf s p) 7 (raise0 (0x14 + p.val) t)
      else t

/-- A failed lane rejoins (R105). -/
def laneRejoined (p : PortId) (lane : Fin 17) (s : State) : State :=
  if !s.ports[p].failed.contains lane then s
  else post 0x0382 none 0 (p.val + 2 ^ 8 * lane.val)
    (modPort p (fun q => { q with failed := q.failed.erase lane })
      (modLane p lane (fun l => { l with locked := true }) s))

/-- The reason code of R111. -/
def downReason (s : State) (p : PortId) : PortDownReason → Nat
  | .secondLane => 7
  | .signalLost => 8
  | .bondPartner => s.ports[p].reason

/-! ## SLREF (R61, R115) -/

/-- SLREF loss at the ports: every started port enters DETECT with reason 9; partly received frames are marked
SHORT and HOLDOVER as they are passed on (R61, R115). -/
def slrefPorts (s : State) : State :=
  forEach allPorts (fun p t =>
    let q := t.ports[p]
    if q.first ≠ some p || q.state = .off || q.state = .loopback then t
    else if q.state = .active then
      let t := forEach allPorts (fun v t => match t.ports[p].opened[v] with
        | some o => forEach o.claims (fun c t => markOpen p v .holdover o.count false c
            (markOpen p v .short o.count false c t)) t
        | none => t) t
      portDown p 9 (raise0 (0x14 + p.val) t)
    else setGroup p (fun q => { q with state := .detect, reason := 9 }) t) s

/-! ## Register access (R109) -/

/-- The message of a register access (R109). -/
def regMessage (wr : Bool) (tag : Byte) (addr dat : Nat) : BitVec 64 :=
  controlWord (if wr then 0xAA else 0xB4) ([tag] ++ leBytes 2 addr ++ leBytes 2 (if wr then dat else 0))

/-- A REG_RESP answers an outstanding tag (R109): the SL_REG_ACCESS completes with the data and the refused bit. -/
def regResponse (p : PortId) (b : List Byte) (s : State) : State :=
  match s.ports[p].tags.find? fun r => r.tag.toNat == fieldAt b 1 1 with
  | none => s
  | some r =>
    endExecution r.mb { detail := fieldAt b 4 2 + 2 ^ 16 * (fieldAt b 6 1 % 2) }
      (modPort p (fun q => { q with tags := q.tags.erase r }) s)

/-- No REG_RESP within 100 µs: one resend, then TIMEOUT (R109). -/
def regTimeout (p : PortId) (tag : Byte) (s : State) : State :=
  match s.ports[p].tags.find? fun r => r.tag == tag with
  | none => s
  | some r =>
    if r.resent then
      endExecution r.mb { status := .timeout, detail := Config.openDetail 0x0305 0x800C }
        (modPort p (fun q => { q with tags := q.tags.erase r, regTimeouts := bump q.regTimeouts }) s)
    else emit (.backChannel p true r.message)
      (modPort p (fun q => { q with tags := q.tags.map fun x => if x = r then { x with resent := true } else x }) s)

/-! ## Commands -/

/-- A port field that names the first port of a bond, or a port that is in none (04, Commands). -/
def firstPortField (s : State) : Field :=
  ⟨0, 1, fun v => decide (v ≤ 3) && (allPorts.all fun p => p.val != v || (s.ports[p].first).getD p == p)⟩

/-- The power domain of a port: SLINK-L for P0 and P1, SLINK-H for P2 and P3 (R86). -/
def portDomain (p : PortId) : Fin 25 := if p.val < 2 then 12 else 13

/-- The ports a new group dissolves or configures: the group and every bond that shares a port with it (R89). -/
def affectedPorts (s : State) (g : List PortId) : List PortId :=
  allPorts.filter fun q => g.contains q ||
    (match s.ports[q].first with
     | some f => (groupOf s f).any g.contains
     | none => false)

/-- SL_PORT_CONFIG, 0x0301. -/
def slPortConfigSpec : Spec where
  opcode := 0x0301
  len := .exact 16
  fields := fun e _ => [
    ⟨0, 1, fun v => if arg e 1 1 = 1 then v == 0 || v == 2 else if arg e 1 1 = 2 then v == 0 else decide (v ≤ 3)⟩,
    range 1 1 0 2, oneOf 2 1 (if arg e 1 1 = 0 then [4, 8, 16] else [16]), range 3 1 0 5, range 4 1 0 1,
    range 5 1 0 1, range 6 1 0 1, rsv 7 1, anyVal 8 2, rsv 10 6]
  states := fun e s =>
    let g := group (arg e 1 1) (argPort e)
    match (affectedPorts s g).find? fun q => s.ports[q].state != .off with
    | some q => some (wrong s.ports[q].state.code)
    | none => if g.all fun q => domainOn s (portDomain q) then none else some (wrong 5)
  effect := fun e s =>
    let p := argPort e
    let g := group (arg e 1 1) p
    let cfg : PortCfg := { bond := arg e 1 1, lanes := arg e 2 1, rate := arg e 3 1, parity := arg e 4 1 == 1,
                           ownRef := arg e 5 1 == 1, markers := arg e 6 1 == 1, threshold := arg e 8 2 }
    let t := forEach (affectedPorts s g) (fun q => modPort q fun x => { x with cfg := none, first := none }) s
    .reply (forEach g (fun q => modPort q fun x => { x with cfg := some cfg, first := some p }) t) {}

/-- SL_PORT_START, 0x0302. -/
def slPortStartSpec : Spec where
  opcode := 0x0302
  len := .exact 8
  fields := fun _ s => [firstPortField s, rsv 1 7]
  states := fun e s =>
    let q := s.ports[argPort e]
    if q.state != .off || q.cfg.isNone then some (wrong (Config.openDetail 0x0302 0x8004))
    else if (groupOf s (argPort e)).all fun x => domainOn s (portDomain x) then none else some (wrong 5)
  effect := fun e s =>
    .reply (setGroup (argPort e) (fun q => { q with state := .detect, attempts := 0, reason := 0 }) s) {}

/-- SL_PORT_STOP, 0x0303. -/
def slPortStopSpec : Spec where
  opcode := 0x0303
  len := .exact 8
  fields := fun _ s => [firstPortField s, rsv 1 7]
  states := fun e s =>
    let l := (ctxsOnPort s (argPort e)).filter (admitted s)
    if l.isEmpty then none else some (wrong (ctxMask l))
  effect := fun e s =>
    let p := argPort e
    let t := setGroup p (fun q => { q with state := .off, reason := 10, loop := none, failed := [] }) (closeAll p s)
    .reply (if s.ports[p].state = .off then t else postPortState p t) {}

/-- The 8 bytes of one lane's record: loopback counts while a loopback runs, zeros for a lane not in use. -/
def laneRecord (q : Port) (i : Fin 17) : List Byte :=
  let l := q.lanes[i]
  let used := match q.cfg with | some g => (usedLanes g).contains i.val | none => false
  if q.loop.isSome then leBytes 4 l.bitErrors.toNat ++ leBytes 2 l.checkerLosses.toNat ++ [0, 0]
  else if used then leBytes 4 l.invalid.toNat ++ leBytes 2 l.lockLosses.toNat ++ leBytes 2 l.skew.toNat
  else List.replicate 8 0

/-- The status structure of SL_GET_STATUS from offset 8 on. -/
def portStatus (q : Port) : List Byte :=
  image 216 ([put 0 1 q.state.code, put 1 1 q.attempts, put 2 1 q.reason,
    put 3 1 (match q.failed.head? with | some l => l.val | none => 0xFF),
    put 4 4 (maskOf 17 fun i => if h : i < 17 then q.lanes[i].locked else false),
    (8, slice (q.caps.getD []) 0 32), put 40 8 q.lines.toNat, put 48 8 q.frames.toNat, put 56 4 q.headerErrors.toNat,
    put 60 4 q.payloadErrors.toNat, put 64 4 q.controlErrors.toNat, put 68 4 q.recovered.toNat,
    put 72 4 q.rebuilt.toNat, put 76 4 q.regTimeouts.toNat]
    ++ (List.finRange 17).map fun i => (80 + 8 * i.val, laneRecord q i))

/-- A port with its counters cleared. -/
def clearPort (q : Port) : Port :=
  { q with lines := 0, frames := 0, headerErrors := 0, payloadErrors := 0, controlErrors := 0, recovered := 0,
           rebuilt := 0, regTimeouts := 0,
           lanes := mapLanes (fun _ l => { l with
             invalid := 0, lockLosses := 0, alignErrors := 0, bitErrors := 0, checkerLosses := 0 }) q.lanes }

/-- SL_GET_STATUS, 0x0304. -/
def slGetStatusSpec : Spec where
  opcode := 0x0304
  len := .exact 224
  noInline := true
  deadbolt := true
  fields := fun _ s => [firstPortField s, range 1 1 0 1, rsv 2 6]
  effect := fun e s =>
    let p := argPort e
    .reply (if arg e 1 1 = 1 then modPort p clearPort s else s) { back := some (8, portStatus s.ports[p]) }

/-- SL_REG_ACCESS, 0x0305. -/
def slRegAccessSpec : Spec where
  opcode := 0x0305
  len := .exact 8
  fields := fun e s => [firstPortField s, range 1 1 0 1, anyVal 2 2,
    ⟨4, 2, fun v => arg e 1 1 != 0 || v == 0⟩, rsv 6 2]
  states := fun e s => if s.ports[argPort e].state = .active then none
    else some (wrong (Config.openDetail 0x0305 0x8004))
  resources := fun e s => if s.ports[argPort e].tags.length < 16 then none
    else some ⟨.noResource, Config.openDetail 0x0305 0x8006⟩
  effect := fun e s =>
    let p := argPort e
    let tag := s.ports[p].nextTag
    let m := regMessage (arg e 1 1 == 1) tag (arg e 2 2) (arg e 4 2)
    .execute (emit (.backChannel p true m) (modPort p (fun q => { q with
      tags := q.tags ++ [⟨tag, e.mb, m, false⟩], nextTag := q.nextTag + 1 }) s)) none

/-- SL_LOOPBACK, 0x0306. -/
def slLoopbackSpec : Spec where
  opcode := 0x0306
  len := .exact 8
  fields := fun _ s => [firstPortField s, range 1 1 0 3, range 2 1 0 16, range 3 1 0 3, range 4 1 0 5, rsv 5 3]
  states := fun e s =>
    let q := s.ports[argPort e]
    if q.state = .off || q.state = .loopback then
      (if domainOn s (portDomain (argPort e)) then none else some (wrong 5))
    else some (wrong (Config.openDetail 0x0306 0x8004))
  effect := fun e s =>
    .reply (modPort (argPort e) (fun q =>
      if arg e 1 1 = 0 then { q with state := .off, loop := none }
      else { q with state := .loopback, loop := some ⟨arg e 1 1, arg e 2 1, arg e 3 1, arg e 4 1⟩ }) s) {}

/-! ## Tick markers (R107) -/

/-- The streams of a port on which a context takes a frame at hinge `h` (R107). -/
def takeMask (s : State) (p : PortId) (h : Nat) : Nat :=
  maskOf 4 fun v => allCtx.any fun c =>
    let x := s.contexts[c]
    x.state == .running && x.live.source.port == p && x.live.source.mask.getLsbD v
      && takesAt x.live.source.k x.live.source.phase h

/-- The lag of a marker: 200 to 266 UI, by the back-channel's block phase; a free value in that range (log 19). -/
def markerLag (s : State) : Nat := 200 + Config.freeValue s.free % 67

/-- At hinge `h` every ACTIVE port with markers on, but for the tick source, sends one TICK block (R37, R107). -/
def sendMarkers (h : Nat) (s : State) : State :=
  forEach allPorts (fun p t =>
    let q := t.ports[p]
    if activePort t p && tiesByCount t p then
      let body := [BitVec.ofNat 8 (takeMask t p h)] ++ leBytes 2 h ++ leBytes 2 (markerLag t)
        ++ [if t.tick.state = .locked then 0 else 1]
      forEach (groupOf t p) (fun x => emit (.backChannel x true (controlWord 0x99 body))) { t with free := t.free + 1 }
    else t) s

/-! ## The meanings -/

/-- SL_PORT_CONFIG. -/
def execSlPortConfig (e : Entry) (s : State) : Host.Outcome State Fault Refusal := .next (runCommand slPortConfigSpec e s)
/-- SL_PORT_START. -/
def execSlPortStart (e : Entry) (s : State) : Host.Outcome State Fault Refusal := .next (runCommand slPortStartSpec e s)
/-- SL_PORT_STOP. -/
def execSlPortStop (e : Entry) (s : State) : Host.Outcome State Fault Refusal := .next (runCommand slPortStopSpec e s)
/-- SL_GET_STATUS. -/
def execSlGetStatus (e : Entry) (s : State) : Host.Outcome State Fault Refusal := .next (runCommand slGetStatusSpec e s)
/-- SL_REG_ACCESS. -/
def execSlRegAccess (e : Entry) (s : State) : Host.Outcome State Fault Refusal := .next (runCommand slRegAccessSpec e s)
/-- SL_LOOPBACK. -/
def execSlLoopback (e : Entry) (s : State) : Host.Outcome State Fault Refusal := .next (runCommand slLoopbackSpec e s)

/-- SL_BRINGUP_ADVANCE (R110). -/
def execSlBringupAdvance (p : PortId) (s : State) : Host.Outcome State Fault Refusal := .next (advance p s)

/-- SL_BRINGUP_TIMEOUT (R111): the reason is the state that timed out. -/
def execSlBringupTimeout (p : PortId) (s : State) : Host.Outcome State Fault Refusal :=
  .next (if s.ports[p].first = some p ∧ 1 ≤ s.ports[p].state.code ∧ s.ports[p].state.code ≤ 5 then
    failAttempt p s.ports[p].state.code s else s)

/-- SL_BRINGUP_REPEAT (R110). -/
def execSlBringupRepeat (p : PortId) (s : State) : Host.Outcome State Fault Refusal := .next (repeatBringup p s)

/-- SL_CAPS_RESEND (R110). -/
def execSlCapsResend (p : PortId) (s : State) : Host.Outcome State Fault Refusal :=
  .next (if s.ports[p].state = .caps ∧ s.ports[p].first = some p then sendCaps p s else s)

/-- SL_CAPS_RX (R112). -/
def execSlCapsRx (p : PortId) (caps : List Byte) (s : State) : Host.Outcome State Fault Refusal :=
  .next (receiveCaps p caps s)

/-- SL_ALIGN_RX (R97). -/
def execSlAlignRx (p : PortId) (c : Column) (k : List (Nat × Nat × Nat)) (s : State) :
    Host.Outcome State Fault Refusal := .next (align p c k s)

/-- SL_FRAME_START_RX (R98). -/
def execSlFrameStartRx (p : PortId) (c : Column) (s : State) : Host.Outcome State Fault Refusal :=
  .next (receiveControl p 0x33 c (frameStart p) s)

/-- SL_FRAME_END_RX (R42). -/
def execSlFrameEndRx (p : PortId) (c : Column) (s : State) : Host.Outcome State Fault Refusal :=
  .next (receiveControl p 0x4B c (frameEnd p) s)

/-- SL_LINE_PACKET_RX (R102). -/
def execSlLinePacketRx (p : PortId) (cols : List Column) (s : State) : Host.Outcome State Fault Refusal :=
  .next (linePacket p cols s)

/-- SL_REG_RESP_RX (R109). -/
def execSlRegRespRx (p : PortId) (c : Column) (s : State) : Host.Outcome State Fault Refusal :=
  .next (receiveControl p 0x78 c (regResponse p) s)

/-- SL_REG_TIMEOUT (R109). -/
def execSlRegTimeout (p : PortId) (tag : Byte) (s : State) : Host.Outcome State Fault Refusal :=
  .next (regTimeout p tag s)

/-- SL_LANE_FAILED (R105). -/
def execSlLaneFailed (p : PortId) (lane : Fin 17) (s : State) : Host.Outcome State Fault Refusal :=
  .next (laneFailed p lane s)

/-- SL_LANE_REJOINED (R105). -/
def execSlLaneRejoined (p : PortId) (lane : Fin 17) (s : State) : Host.Outcome State Fault Refusal :=
  .next (laneRejoined p lane s)

/-- SL_PORT_DOWN (R111). -/
def execSlPortDown (p : PortId) (r : PortDownReason) (s : State) : Host.Outcome State Fault Refusal :=
  .next (if s.ports[firstOf s p].state = .active then
    portDown (firstOf s p) (downReason s (firstOf s p) r) (raise0 (0x14 + p.val) s) else s)

/-- LOOPBACK_CHECKER_LOCK (R113): the device's checker of modes 1 and 2. -/
def execLoopbackCheckerLock (p : PortId) (lane : Fin 17) (locked : Bool) (errors : Nat) (s : State) :
    Host.Outcome State Fault Refusal :=
  .next (match s.ports[p].loop with
    | some l =>
      if l.mode = 1 ∨ l.mode = 2 then modLane p lane (fun x => { x with
          bitErrors := bumpBy x.bitErrors errors
          checkerLosses := if locked then x.checkerLosses else bump x.checkerLosses }) s
      else s
    | none => s)

end Sys2Proof.Machine
end

