-- ==== Sys2Proof/Machine/Generator.lean ====
section
/-!
DEFINITION. Generator: the tick generator: source edges and the flywheel (R36), source faults (R57), holdover and
relocking (R58 to R60), SLREF (R61), and the counter at a hinge (R39).
-/

namespace Sys2Proof.Machine

/-- The tick generator changed by `f`. -/
def modTick (f : TickGen → TickGen) (s : State) : State := { s with tick := f s.tick }

/-! ## Periods -/

/-- The source periods between edges, newest first. -/
def periodsOf : List Int → List Nat
  | a :: b :: rest => (a - b).toNat :: periodsOf (b :: rest)
  | _ => []

/-- The mean of numbers, rounded down; 0 for none. -/
def meanOf (l : List Nat) : Nat := if l.isEmpty then 0 else l.sum / l.length

/-- The measured period of TICK_GET_STATE: the generator's own for the internal source, else the mean of up to eight
source periods. -/
def measuredPeriod (g : TickGen) : Nat := if g.live.source = 0 then g.live.period else meanOf (periodsOf g.edges)

/-- Two periods within 0.1% of the second. -/
def nearPeriod (a b : Nat) : Bool := decide ((1000 * ((a : Int) - b)).natAbs ≤ b)

/-- The distance of `t` from the nearest predicted hinge (R57). -/
def hingeError (g : TickGen) (t : Int) : Int :=
  let p : Int := Max.max 1 g.period
  (t - g.next + p / 2) % p - p / 2

/-- A correction of at most 0.1% of the period (R36, R59). -/
def phaseStep (g : TickGen) (d : Int) : Int := clampInt (-(g.period / 1000 : Nat)) (g.period / 1000 : Nat) d

/-! ## Holdover (R57, R58) -/

/-- The frames that landed in the interval in which holdover began carry HOLDOVER (R58). -/
def markLanded (s : State) : State :=
  let mark := fun f : Frame => f.markIf (f.phase == .landed && f.landedIn == s.tick.counter.toNat) .holdover
  forEach allCtx (fun c => modCtx c fun x => { x with frames := x.frames.map mark }) s

/-- Holdover with a cause (R57): an entry posts TICK_HOLDOVER; relocking starts over without one. -/
def enterHoldover (cause : Nat) (s : State) : State :=
  if !s.tick.running then s
  else match s.tick.state with
    | .locked => post 0x0280 none 0 cause (markLanded (modTick (fun g => { g with
        state := .holdover, cause := cause, heldHinges := 0, stage2 := 0, agreeing := 0, heldNow := true, edges := [] }) s))
    | .relocking => modTick (fun g => { g with state := .holdover, cause := cause, agreeing := 0 }) s
    | _ => modTick (fun g => { g with cause := cause, agreeing := 0 }) s

/-! ## Edges (R36, R57, R59, R60) -/

/-- An edge of the source arrives that is not a glitch: it is remembered, with up to nine edges. -/
def noteEdge (now : Int) (g : TickGen) : TickGen := { g with lastEdge := some now, edges := (now :: g.edges).take 9 }

/-- An edge after a switch carries no hinge: the next hinge is predicted one new period after the latest edge, not
before 0.999 of that period after the last hinge of the old source (R60). -/
def switchEdge (now : Int) (g : TickGen) : TickGen :=
  let g := noteEdge now g
  let p : Int := Max.max 1 g.live.period
  let least := g.lastAt + 999 * p / 1000
  let first := now + p
  let e := if least ≤ first then first else first + (least - first + p - 1) / p * p
  { g with next := e + g.live.phase }

/-- An edge while locked: it corrects period and phase, or, beyond 0.1%, begins holdover with cause 2 (R36, R57). -/
def lockedEdge (now : Int) (s : State) : State :=
  let d := hingeError s.tick (now + s.tick.live.phase)
  if decide ((s.tick.period : Int) < (1000 * d).natAbs) then
    enterHoldover 2 (modTick (fun g => { g with lastEdge := some now }) s) |> modTick (fun g => { g with edges := [now] })
  else
    modTick (fun g =>
      let g := noteEdge now g
      let ps := periodsOf g.edges
      { g with next := g.next + phaseStep g d, period := if ps.length = 8 then meanOf ps else g.period }) s

/-- An edge while relocking: the coming hinge moves toward it; a period off the holdover period starts stage 1 again
(R59). -/
def relockEdge (now : Int) (g : TickGen) : TickGen :=
  let g := noteEdge now g
  if nearPeriod ((periodsOf g.edges).headD g.period) g.period then
    let d := hingeError g (now + g.live.phase)
    let m := phaseStep g d
    { g with next := g.next + m, err := d - m }
  else { g with state := .holdover, agreeing := 0 }

/-- Stage 1 of relocking, once eight source periods agree with the holdover period and SLREF is present (R59). -/
def tryRelock (g : TickGen) : TickGen :=
  if (g.state == .holdover || g.state == .ratePending) && 8 ≤ g.agreeing && g.slref && g.live.source ≠ 0 then
    { g with state := .relocking, rate := none, err := hingeError g ((g.lastEdge.getD g.next) + g.live.phase) }
  else g

/-- The last eight source periods agree among themselves within 0.1% and their mean differs from the holdover period
(R60). -/
def newRate (g : TickGen) : Option Nat :=
  let ps := periodsOf g.edges
  let m := meanOf ps
  let lo := ps.foldl Min.min m
  let hi := ps.foldl Max.max m
  if ps.length = 8 && 1000 * (hi - lo) ≤ m && !nearPeriod m g.period then some m else none

/-- An edge in holdover: it counts toward stage 1 of R59 or toward a rate change (R60). -/
def heldEdge (now : Int) (s : State) : State :=
  let t := modTick (fun g =>
    let g := noteEdge now g
    let near := nearPeriod ((periodsOf g.edges).headD 0) g.period
    tryRelock { g with agreeing := if near then g.agreeing + 1 else 0
                       state := if near && g.state == .ratePending then .holdover else g.state
                       rate := if near then none else g.rate }) s
  match newRate t.tick with
  | none => t
  | some m =>
    if t.tick.state = .relocking then t
    else match t.tick.rate with
      | some r => if nearPeriod m r then t
        else post 0x0282 none 0 m (modTick (fun g => { g with rate := some m, state := .ratePending }) t)
      | none => post 0x0282 none 0 m (modTick (fun g => { g with rate := some m, state := .ratePending }) t)

/-- An edge of the live source at instant `now`. One less than half a period after the previous one is a glitch: ignored
and counted (R57). -/
def edgeAt (now : Int) (s : State) : State :=
  let g := s.tick
  if (match g.lastEdge with | some e => decide (2 * (now - e) < g.period) | none => false) then
    modTick (fun g => { g with glitches := bump g.glitches }) s
  else if g.switch.isSome then modTick (switchEdge now) s
  else match g.state with
    | .locked => lockedEdge now s
    | .relocking => modTick (relockEdge now) s
    | _ => heldEdge now s

/-- SOURCE_EDGE: an edge of the selected external source; the edges of source 0x7 are the broadcasts (R34). -/
def sourceEdge (s : State) : State :=
  let g := s.tick
  if !g.running || g.live.source = 0 || g.live.source = 7 then s else edgeAt (nowPs s) s

/-- SOURCE_STOP: no accepted edge for 1.5 measured periods (R57 cause 1). -/
def sourceStop (s : State) : State :=
  let g := s.tick
  if !g.running || g.live.source = 0 || g.live.source = 7 then s
  else if g.switch.isSome then
    enterHoldover 1 (modTick (fun g => { g with switch := none, next := g.lastAt + g.period }) s)
  else match g.state with
    | .locked | .relocking => enterHoldover 1 s
    | _ => modTick (fun g => { g with agreeing := 0 }) s

/-! ## SLREF (R57 cause 3, R59, R61, R115) -/

/-- SLREF_LOSS. -/
def slrefLoss (s : State) : State :=
  enterHoldover 3 (slrefPorts (modTick (fun g => { g with slref := false }) s))

/-- SLREF_RETURN: SLREF has been present for 1 ms without a break. -/
def slrefReturn (s : State) : State := modTick (fun g => tryRelock { g with slref := true }) s

/-! ## The hinge (R39, R60) -/

/-- A source and period take over at hinge `h`, the last hinge of the old ones; the internal generator goes on from it
(R60, TICK_SET_SOURCE). -/
def switchSource (h : Nat) (v : TickSource) (s : State) : State :=
  modTick (fun g =>
    if v.source = 0 then
      { g with live := v, period := v.period, next := g.lastAt + v.period, edges := [], lastEdge := none, rate := none, switch := none
               state := if g.slref then .locked else .holdover, cause := if g.slref then 0 else 3 }
    else { g with live := v, period := v.period, edges := [], lastEdge := none, rate := none, switch := some ⟨h, v⟩ }) s

/-- The hinge ends a switch: it is the first of the new source, and the generator is locked (R60). -/
def endSwitch (g : TickGen) : TickGen :=
  { g with switch := none, state := if g.slref then .locked else .holdover, cause := if g.slref then 0 else 3, agreeing := 0 }

/-- The generator at a hinge: the counter, the end of a switch, and lock (R39, R59, R60). -/
def hingeTick (s : State) : State :=
  let now := nowPs s
  let g := s.tick
  let g := { g with
    counter := if g.hinges = 0 then g.counter else g.counter + 1
    hinges := g.hinges + 1, guardOpen := false, lastAt := now, lastTime := timeNow s, next := now + g.period, heldNow := false
    heldHinges := if g.state = .locked then g.heldHinges else bump g.heldHinges
    stage2 := if g.state = .relocking then bump g.stage2 else g.stage2 }
  let t := { s with tick := g }
  let relocked := post 0x0281 none 0 (g.heldHinges.toNat + 2 ^ 32 * g.stage2.toNat)
    (modTick (fun g => { g with state := .locked, cause := 0, agreeing := 0 }) t)
  if g.switch.isSome then (if g.lastEdge.isSome then modTick endSwitch t else t)
  else match g.state with
    | .relocking => if decide (g.err.natAbs ≤ 8000) then relocked else t
    | .holdover => if g.live.source = 0 && g.slref then relocked else t
    | _ => t

/-! ## Start (R85) and the fast doorbell (R51 to R53) -/

/-- The failed-start count is reported by source 0x02 and cleared (R416). -/
def clearFailedStarts (s : State) : State :=
  if s.boot.retention.failedStarts = 0 then s
  else
    let t := raise0 0x02 s
    { t with boot := { t.boot with retention := { t.boot.retention with failedStarts := 0 } } }

/-- Posting START_COMPLETE: the event, and DEV_STATE 0x2 (R85); the failed-start count is cleared (R416). -/
def announceStart (s : State) : State :=
  let s := clearFailedStarts s
  let t := post 0x0180 none 0 ((fwVersionReg s).toNat + 2 ^ 32 * (s.boot.strap % 16)) s
  when (t.devState != 4) (setDevState 2) { t with boot := { t.boot with step := .complete, watchdog := false } }

/-- A word written to the fast doorbell: malformed, merged with a queued one, queued, or lost (R51, R53). -/
def doorbellWrite (w : BitVec 32) (s : State) : State :=
  let v := w.toNat
  let action := v % 16
  let c : CtxId := if action = 4 then 0 else ⟨v / 16 % 8, Nat.mod_lt _ (by decide)⟩
  let same := fun d : Doorbell => d.action == action && d.ctx == c && d.arg == v / 256 % 256
  modTick (fun g =>
    if action = 0 ∨ 4 < action ∨ v.testBit 7 then
      { g with lost := bump g.lost, malformed := bump g.malformed, malformedNow := bump g.malformedNow }
    else if g.queue.any same then
      { g with queue := g.queue.map fun d => if same d then { d with merged := d.merged + 1 } else d }
    else if 16 ≤ g.queue.length then { g with lost := bump g.lost, lostNow := bump g.lostNow }
    else { g with queue := g.queue ++ [⟨action, c, v / 256 % 256, BitVec.ofNat 16 (v / 65536), 0⟩] }) s

/-- SOURCE_EDGE. -/
def execSourceEdge (s : State) : Host.Outcome State Fault Refusal := .next (sourceEdge s)
/-- SOURCE_STOP. -/
def execSourceStop (s : State) : Host.Outcome State Fault Refusal := .next (sourceStop s)
/-- SLREF_LOSS. -/
def execSlrefLoss (s : State) : Host.Outcome State Fault Refusal := .next (slrefLoss s)
/-- SLREF_RETURN. -/
def execSlrefReturn (s : State) : Host.Outcome State Fault Refusal := .next (slrefReturn s)

end Sys2Proof.Machine
end

