-- ==== Sys2Proof/Machine/Timebase.lean ====
section
/-!
DEFINITION. Timebase: steps of the time counter (15 R324), time triggers (R331), the PTP clock and its servo (R325 to R330),
and the TIME_ commands.
-/

namespace Sys2Proof.Machine

/-- The PTP clock changed by `f`. -/
def modPtp (f : Ptp → Ptp) (s : State) : State := { s with ptp := f s.ptp }

/-- Ethernet port `p` changed by `f`. -/
def modEth (p : Fin 2) (f : EthPort → EthPort) (s : State) : State :=
  { s with net := { s.net with ports := s.net.ports.set p (f s.net.ports[p]) } }

/-- The time triggers in order. -/
def allTriggers : List QuadId := [0, 1, 2, 3]

/-! ## Time triggers (R331) -/

/-- The first instant of a grid after `now` (R324, R331). -/
def gridAfter (start period now : Nat) : Nat :=
  if now < start then start else start + ((now - start) / period + 1) * period

/-- A trigger fires: its pin asserts and the firing counts; a one-shot is idle afterwards (R331). -/
def fireTrigger (k : QuadId) (s : State) : State :=
  let t := modTrig k (fun x => { x with
    pulse := true, low := x.prog.low
    next := if x.prog.period = 0 then none else x.next.map fun n => n + x.prog.period }) s
  { t with triggers := { t.triggers with firings := bump t.triggers.firings } }

/-- A one-shot whose time has passed fires at once and TIME_TRIGGER_LATE tells by how much (R324, R331). -/
def fireLate (k : QuadId) (at_ : Nat) (s : State) : State :=
  post 0x0D83 none 0 (k.val + 2 ^ 8 * (timeNow s - at_)) (fireTrigger k s)

/-- A trigger after a step of the counter (R324). -/
def stepTrigger (forward : Bool) (k : QuadId) (s : State) : State :=
  let x := s.triggers.tt[k]
  if !x.prog.on then s
  else if x.prog.period = 0 then
    match x.next with
    | some n => if forward && decide (n ≤ timeNow s) then fireLate k n s else s
    | none => s
  else modTrig k (fun y => { y with next := some (gridAfter y.prog.start y.prog.period (timeNow s)) }) s

/-- TIME_TRIGGER_FIRE: the counter reaches the trigger's next instant. -/
def timeTriggerFire (k : QuadId) (s : State) : State :=
  if s.triggers.tt[k].prog.on && s.triggers.tt[k].next.isSome then fireTrigger k s else s

/-- TIME_TRIGGER_PULSE_END: the pulse width has elapsed. -/
def timeTriggerPulseEnd (k : QuadId) (s : State) : State := modTrig k (fun x => { x with pulse := false }) s

/-- A trigger is the tick source (R332). -/
def triggerSource (s : State) (k : QuadId) : Bool := s.tick.live.source == 5 && s.tick.live.inst == k.val

/-- A program becomes live at a hinge: a one-shot already past fires there; a disabled trigger that is the tick source stops
it (R331, R332). -/
def setTrigger (k : QuadId) (v : TrigProg) (s : State) : State :=
  let was := s.triggers.tt[k].prog.on
  let now := timeNow s
  let next := if !v.on then none else if v.period = 0 then some v.start else some (gridAfter v.start v.period now)
  let t := modTrig k (fun x => { x with prog := v, next := next }) s
  if !v.on then (if was && triggerSource s k then sourceStop t else t)
  else if v.period = 0 && decide (v.start < now) then fireLate k v.start t
  else t

/-! ## Steps (R323, R324) -/

/-- The span of the counter: 2^48 s, in 2^-32 ns. -/
def timeSpan : Int := 2 ^ 48 * 1000000000 * 2 ^ 32

/-- The least and the greatest increment (R323). -/
def minInc : Nat := 8585639625
def maxInc : Nat := 8594229559

/-- A step of the counter by `d`, in 2^-32 ns (R324). -/
def stepTime (d : Int) (s : State) : State :=
  let t := { s with time := { s.time with now := ((s.time.now + d) % timeSpan).toNat }
                    ptp := { s.ptp with steps := bump s.ptp.steps, sync := none } }
  let ns := if d < 0 then -((-d) / 2 ^ 32) else d / 2 ^ 32
  forEach allTriggers (stepTrigger (decide (0 < d))) (post 0x0D82 none 0 (ns % 2 ^ 64).toNat t)

/-! ## The servo (R328 to R330) -/

/-- A change of servo state, or of port, with its TIME_PTP_STATE; HOLDOVER is timed (R329, R330). -/
def setServo (st : ServoState) (moved : Bool) (s : State) : State :=
  if s.ptp.servo = st && !moved then s
  else
    let now := nowPs s
    let t := modPtp (fun x => { x with
      servo := st
      heldAt := if st = .holdover then (if x.servo = .holdover then x.heldAt else some now) else none
      heldMs := match x.heldAt with
        | some v => if st = .holdover then x.heldMs else ((now - v) / 1000000000).toNat
        | none => x.heldMs }) s
    post 0x0D81 none 0 (st.code + 2 ^ 8 * t.ptp.active.val + 2 ^ 16 * bit moved) t

/-- The identity of the device's clock: its EUI-64 (log 52). -/
def clockIdentity (s : State) : BitVec 64 :=
  match s.boot.fuses with
  | some f => (f.macBase.extractLsb' 24 24).zeroExtend 64 <<< 40 ||| 0xFFFE000000 ||| (f.macBase.extractLsb' 0 24).zeroExtend 64
  | none => 0

/-- The order of the best master clock algorithm over the fields an Announce carries (R327, log 52). -/
def betterClock (a b : Announce) : Bool :=
  let k := fun x : Announce => x.priority1 * 2 ^ 80 + x.clockClass * 2 ^ 72 + x.priority2 * 2 ^ 64 + x.identity.toNat
  decide (k a < k b)

/-- The device's own clock (R327). -/
def ownClock (s : State) : Announce :=
  ⟨s.ptp.cfg.domain, clockIdentity s, s.ptp.cfg.priority1, 248, s.ptp.cfg.priority2⟩

/-- The announce interval times the receipt timeout, in ps (R330). -/
def announceWindow (k : PtpCfg) : Int := k.timeout * 10 ^ 12 * 2 ^ (k.logAnnounce + 3).toNat / 8

/-- A master is selected on port `p`: ACQUIRING (R329). -/
def selectMaster (p : Fin 2) (a : Announce) (s : State) : State :=
  setServo .acquiring false (modPtp (fun x => { x with
    active := p, master := some a, sync := none, responses := [], good := 0, bad := 0 }) s)

/-- PTP uses port `p`. -/
def ptpPort (k : PtpCfg) (p : Fin 2) : Bool := k.on && (k.primary == p || k.backup == some p)

/-- A PTP message is received and counted. -/
def countPtp (p : Fin 2) (s : State) : State := modEth p (fun x => { x with ptpReceived := bump x.ptpReceived }) s

/-- PTP_ANNOUNCE_RX (R327, R329, R330). -/
def ptpAnnounceRx (p : Fin 2) (a : Announce) (s : State) : State :=
  let s := countPtp p s
  let k := s.ptp.cfg
  if !ptpPort k p || a.domain ≠ k.domain || (k.capable && !betterClock a (ownClock s)) then s
  else
    let s := modPtp (fun x => { x with heard := x.heard.set p (some (a, nowPs s)) }) s
    match s.ptp.master with
    | some m =>
      if p ≠ s.ptp.active then s
      else if m.identity = a.identity then modPtp (fun x => { x with master := some a }) s
      else if betterClock a m then selectMaster p a s else s
    | none => if p = k.primary ∨ s.ptp.servo = .holdover then selectMaster p a s else s

/-- The increment at which HOLDOVER freezes: the mean over the last 64 Sync intervals in LOCKED (R329). -/
def frozenInc (s : State) : Nat := if s.ptp.incs.isEmpty then s.time.inc else meanOf s.ptp.incs

/-- PTP_MASTER_LOST (R330). -/
def ptpMasterLost (s : State) : State :=
  let k := s.ptp.cfg
  if !k.on || s.ptp.master.isNone then s
  else
    let heard := match k.backup with
      | some b => if s.ptp.active = k.primary then
          (s.ptp.heard[b]).bind fun x => if nowPs s - x.2 ≤ announceWindow k then some (b, x.1) else none
        else none
      | none => none
    match heard with
    | some (b, a) =>
      setServo s.ptp.servo true (modPtp (fun x => { x with active := b, master := some a, sync := none, responses := [] }) s)
    | none =>
      let inc := frozenInc s
      let t := modPtp (fun x => { x with master := none, sync := none, responses := [], good := 0, bad := 0 }) s
      let t := raise0 0x54 (setServo .holdover false { t with time := { t.time with inc := inc } })
      if t.tick.live.source = 3 then enterHoldover 4 t else t

/-- A stamp in 2^-16 ns from a time in ps, truncated (R325). -/
def stampOf (ps : Int) : Nat := (ps * 65536 / 1000).toNat

/-- PTP_SYNC_RX (R325, R328). -/
def ptpSyncRx (p : Fin 2) (m : PtpSync) (s : State) : State :=
  let s := countPtp p s
  if !s.ptp.cfg.on || p ≠ s.ptp.active || s.ptp.master.isNone then s
  else
    let t2 := stampOf ((m.raw : Int) - s.net.ports[p].ingress)
    modPtp (fun x => { x with
      sync := some (m.sequence, m.t1, t2)
      incs := if x.servo = .locked then (s.time.inc :: x.incs).take 64 else x.incs }) s

/-- I is slewed: its new value lies in the range of R323 and is open (log 53). -/
def slew (s : State) : State :=
  { s with free := s.free + 1
           time := { s.time with inc := minInc + Config.freeValue s.free % (maxInc - minInc + 1) } }

/-- What the servo does with an offset in ps (R329). -/
def servoStep (o : Int) (s : State) : State :=
  let k := s.ptp.cfg
  let far := decide (1000 * k.step < o.natAbs)
  let near := decide (o.natAbs ≤ 1000 * k.lock)
  match s.ptp.servo with
  | .acquiring =>
    if far then stepTime (-o * 2 ^ 32 / 1000) (modPtp (fun x => { x with good := 0 }) s)
    else
      let t := slew (modPtp (fun x => { x with good := if near then x.good + 1 else 0 }) s)
      if t.ptp.good < 16 then t else setServo .locked false (modPtp (fun x => { x with bad := 0 }) t)
  | .locked =>
    let t := slew (modPtp (fun x => { x with bad := if far then x.bad + 1 else 0 }) s)
    if t.ptp.bad < 4 then t else setServo .acquiring false (modPtp (fun x => { x with good := 0, bad := 0 }) t)
  | _ => s

/-- An exchange completes: delay D and offset o (R328). -/
def exchange (t3 t4 : Nat) (s : State) : State :=
  match s.ptp.sync with
  | none => s
  | some (_, t1, t2) =>
    let a : Int := (t2 : Int) - t1
    let b : Int := (t4 : Int) - t3
    let o := (a - b) * 1000 / 2 ^ 17 - s.net.ports[s.ptp.active].asymmetry
    servoStep o (modPtp (fun x => { x with offset := o, delay := (a + b) / 2 ^ 17 }) s)

/-- PTP_DELAY_RESP_RX: the exchange completes once its transmit stamp has been read (R326, R328). -/
def ptpDelayRespRx (p : Fin 2) (q : BitVec 16) (t4 : Nat) (s : State) : State :=
  let s := countPtp p s
  if !s.ptp.cfg.on || p ≠ s.ptp.active || s.ptp.master.isNone then s
  else match s.ptp.stamps.find? fun x => x.1 == q with
    | some x => exchange x.2 t4 (modPtp (fun y => { y with stamps := y.stamps.erase x }) s)
    | none => modPtp (fun x => { x with responses := x.responses ++ [(q, t4)] }) s

/-- TX_STAMP_CAPTURED: a stamp enters the port's queue; the 17th sets the overflow flag, and from then on every stamp is lost
until the queue is read (R325, R326). -/
def txStampCaptured (p : Fin 2) (q : BitVec 16) (raw : Nat) (s : State) : State :=
  let x := s.net.ports[p]
  if x.overflow then modEth p (fun x => { x with stampsLost := bump x.stampsLost }) s
  else if 16 ≤ x.stamps.length then
    post 0x0D84 none 0 p.val (modEth p (fun x => { x with
      overflow := true, stampsLost := bump x.stampsLost, overflows := bump x.overflows }) s)
  else modEth p (fun x => { x with stamps := x.stamps ++ [(q, stampOf ((raw : Int) + x.egress))] }) s

/-- The servo reads both queues at a management tick; a response whose stamp was lost is discarded (R326). -/
def readStamps (s : State) : State :=
  let read := [0, 1].flatMap fun p : Fin 2 => s.net.ports[p].stamps
  let t := forEach [0, 1] (fun p => modEth p fun x => { x with stamps := [], overflow := false }) s
  let waiting := t.ptp.responses
  let t := modPtp (fun x => { x with stamps := (x.stamps ++ read).drop (x.stamps.length + read.length - 64), responses := [] }) t
  forEach waiting (fun r u => match u.ptp.stamps.find? fun x => x.1 == r.1 with
    | some x => exchange x.2 r.2 (modPtp (fun y => { y with stamps := y.stamps.erase x }) u)
    | none => u) t

/-- A message leaves port `p`. -/
def sendPtp (p : Fin 2) (k : PtpKind) (q : BitVec 16) (time : Nat) (s : State) : State :=
  emit (.ptp p k q time) (modEth p (fun x => { x with sent := bump x.sent }) s)

/-- PTP_MESSAGE_TX: a slave sends Delay_Req, a master Announce, Sync and Follow_Up, either its membership report (R321,
R327). -/
def ptpMessageTx (p : Fin 2) (k : PtpKind) (s : State) : State :=
  let x := s.ptp
  let master := x.cfg.capable && x.master.isNone
  if !ptpPort x.cfg p || !s.net.ports[p].up then s
  else match k with
    | .igmp => sendPtp p k 0 0 s
    | .delayReq => if p = x.active ∧ x.master.isSome then
        sendPtp p k x.sequences.1 0 (modPtp (fun y => { y with sequences := (y.sequences.1 + 1, y.sequences.2) }) s) else s
    | .announce => if p = x.active ∧ master then
        sendPtp p k x.sequences.2.1 0
          (modPtp (fun y => { y with sequences := (y.sequences.1, y.sequences.2.1 + 1, y.sequences.2.2) }) s) else s
    | .sync => if p = x.active ∧ master then
        sendPtp p k x.sequences.2.2 0
          (modPtp (fun y => { y with sequences := (y.sequences.1, y.sequences.2.1, y.sequences.2.2 + 1) }) s) else s
    | .followUp =>
      let q := x.sequences.2.2 - 1
      match x.stamps.find? fun y => y.1 == q with
      | some y => if p = x.active ∧ master then sendPtp p k q y.2 (modPtp (fun z => { z with stamps := z.stamps.erase y }) s) else s
      | none => s

/-! ## Commands -/

/-- TIME_GET_STATE, 0x0D04. -/
def timeGetStateSpec : Spec where
  opcode := 0x0D04
  len := .exact 64
  noInline := true
  deadbolt := true
  effect := fun _ s =>
    let x := s.ptp
    let held := match x.heldAt with | some v => ((nowPs s - v) / 1000000000).toNat | none => x.heldMs
    .reply s { detail := x.servo.code, back := some (0, image 64 [(0, timeBytes (timeNow s)), put 10 1 x.servo.code,
      put 11 1 (if x.cfg.on then x.active.val else 0xFF), put 16 8 s.time.inc, (24, leInt 8 x.offset),
      (32, leInt 4 x.delay), put 36 8 (match x.master with | some m => m.identity.toNat | none => 0),
      put 44 4 x.steps.toNat, put 48 4 held, put 52 4 s.triggers.firings.toNat]) }

/-- TIME_ADJUST, 0x0D05. -/
def timeAdjustSpec : Spec where
  opcode := 0x0D05
  len := .exact 24
  permitted := fun _ s => !isWorker s
  fields := fun e _ =>
    let op := arg e 0 1
    [range 0 1 0 2, rsv 1 7,
     ⟨8, 8, fun v => if op = 0 then minInc ≤ v && v ≤ maxInc else if op = 1 then (signed 64 v).natAbs ≤ 2 ^ 62 else v < 2 ^ 48⟩,
     ⟨16, 4, fun v => if op = 2 then v ≤ 999999999 else v == 0⟩, rsv 20 4]
  states := fun _ s => if s.ptp.cfg.on then some (wrong 0x12) else none
  effect := fun e s =>
    let v := arg e 8 8
    if arg e 0 1 = 0 then .reply { s with time := { s.time with inc := v } } {}
    else if arg e 0 1 = 1 then .reply (stepTime (signed 64 v * 2 ^ 32) s) {}
    else .reply (stepTime (((v * 1000000000 + arg e 16 4) * 2 ^ 32 : Nat) - (s.time.now : Int)) s) {}

/-- The PTP configuration a TIME_SET_PTP payload describes. -/
def ptpCfgOf (e : Entry) : PtpCfg where
  on := arg e 0 1 == 1
  capable := arg e 1 1 == 1
  domain := arg e 2 1
  primary := ⟨arg e 3 1 % 2, Nat.mod_lt _ (by decide)⟩
  backup := if arg e 4 1 = 0xFF then none else some ⟨arg e 4 1 % 2, Nat.mod_lt _ (by decide)⟩
  priority1 := arg e 5 1
  priority2 := arg e 6 1
  logSync := signed 8 (arg e 7 1)
  logAnnounce := signed 8 (arg e 8 1)
  timeout := arg e 9 1
  logDelay := signed 8 (arg e 10 1)
  step := arg e 12 4
  lock := arg e 16 4

/-- A signed byte field from `lo` to `hi`. -/
def signedByte (off : Nat) (lo hi : Int) : Field := ⟨off, 1, fun v => decide (lo ≤ signed 8 v) && decide (signed 8 v ≤ hi)⟩

/-- A new PTP configuration takes effect: disabled, or newly enabled on a port or in a domain, the clock starts in FREE_RUN
(R329). -/
def setPtp (k : PtpCfg) (s : State) : State :=
  let old := s.ptp.cfg
  let t := modPtp (fun x => { x with cfg := k }) s
  if k.on && old.on && k.primary == old.primary && k.backup == old.backup && k.domain == old.domain && k.capable == old.capable
  then t
  else setServo .freeRun false (modPtp (fun x => { x with
    active := k.primary, master := none, heard := Vector.replicate 2 none, sync := none, responses := [], stamps := []
    good := 0, bad := 0, incs := [] }) t)

/-- ETH is off (R338). -/
def ethOff (s : State) : Option Fail := if domainOn s 16 then none else some (wrong 5)

/-- TIME_SET_PTP, 0x0D06. -/
def timeSetPtpSpec : Spec where
  opcode := 0x0D06
  len := .exact 24
  permitted := fun _ s => !isWorker s
  fields := fun e _ => [range 0 1 0 1, range 1 1 0 1, range 2 1 0 127, range 3 1 0 1,
    ⟨4, 1, fun v => v == 0xFF || v + arg e 3 1 == 1⟩, anyVal 5 1, anyVal 6 1, signedByte 7 (-7) 0, signedByte 8 (-3) 1,
    range 9 1 2 10, signedByte 10 (-7) 0, rsv 11 1, range 12 4 1000 1000000000, range 16 4 10 100000, rsv 20 4]
  states := fun e s => (ethOff s).or
    (let k := ptpCfgOf e
     if s.net.ports[k.primary].mode = 0 || (match k.backup with | some b => s.net.ports[b].mode == 0 | none => false)
     then some (wrong 0x11) else none)
  effect := fun e s => .reply (setPtp (ptpCfgOf e) s) {}

/-- The program a TIME_SET_TRIGGER payload describes. -/
def trigProgOf (e : Entry) : TrigProg :=
  ⟨arg e 1 1 == 1, arg e 2 1 == 1, arg e 4 4, arg e 8 6 * 1000000000 + arg e 16 4, arg e 24 8⟩

/-- The trigger a payload names. -/
def argTrigger (e : Entry) : QuadId := ⟨arg e 0 1 % 4, Nat.mod_lt _ (by decide)⟩

/-- TIME_SET_TRIGGER, 0x0D07. -/
def timeSetTriggerSpec : Spec where
  opcode := 0x0D07
  len := .exact 32
  bank := true
  fields := fun e _ =>
    let p := arg e 24 8
    [range 0 1 0 3, range 1 1 0 1, range 2 1 0 1, rsv 3 1,
     ⟨4, 4, fun v => 8 ≤ v && v ≤ 1000000000 && (p < 100 || v + 8 ≤ p)⟩, anyVal 8 6, rsv 14 2,
     range 16 4 0 999999999, rsv 20 4, ⟨24, 8, fun v => v == 0 || (100 ≤ v && v ≤ 1000000000000)⟩]
  effect := fun e s => .arm s [.trigger (argTrigger e) (trigProgOf e)] none 0

/-- TIME_GET_STATE. -/
def execTimeGetState (e : Entry) (s : State) : Host.Outcome State Fault Refusal := .next (runCommand timeGetStateSpec e s)
/-- TIME_ADJUST. -/
def execTimeAdjust (e : Entry) (s : State) : Host.Outcome State Fault Refusal := .next (runCommand timeAdjustSpec e s)
/-- TIME_SET_PTP. -/
def execTimeSetPtp (e : Entry) (s : State) : Host.Outcome State Fault Refusal := .next (runCommand timeSetPtpSpec e s)
/-- TIME_SET_TRIGGER. -/
def execTimeSetTrigger (e : Entry) (s : State) : Host.Outcome State Fault Refusal := .next (runCommand timeSetTriggerSpec e s)
/-- PTP_ANNOUNCE_RX. -/
def execPtpAnnounceRx (p : Fin 2) (a : Announce) (s : State) : Host.Outcome State Fault Refusal := .next (ptpAnnounceRx p a s)
/-- PTP_SYNC_RX. -/
def execPtpSyncRx (p : Fin 2) (m : PtpSync) (s : State) : Host.Outcome State Fault Refusal := .next (ptpSyncRx p m s)
/-- PTP_DELAY_RESP_RX. -/
def execPtpDelayRespRx (p : Fin 2) (q : BitVec 16) (t4 : Nat) (s : State) : Host.Outcome State Fault Refusal :=
  .next (ptpDelayRespRx p q t4 s)
/-- PTP_MESSAGE_TX. -/
def execPtpMessageTx (p : Fin 2) (k : PtpKind) (s : State) : Host.Outcome State Fault Refusal := .next (ptpMessageTx p k s)
/-- TX_STAMP_CAPTURED. -/
def execTxStampCaptured (p : Fin 2) (q : BitVec 16) (raw : Nat) (s : State) : Host.Outcome State Fault Refusal :=
  .next (txStampCaptured p q raw s)
/-- PTP_MASTER_LOST. -/
def execPtpMasterLost (s : State) : Host.Outcome State Fault Refusal := .next (ptpMasterLost s)
/-- TIME_TRIGGER_FIRE. -/
def execTimeTriggerFire (k : QuadId) (s : State) : Host.Outcome State Fault Refusal := .next (timeTriggerFire k s)
/-- TIME_TRIGGER_PULSE_END. -/
def execTimeTriggerPulseEnd (k : QuadId) (s : State) : Host.Outcome State Fault Refusal := .next (timeTriggerPulseEnd k s)

end Sys2Proof.Machine
end

