-- ==== Sys2Proof/Machine/Network.lean ====
section
/-!
DEFINITION. Network: the Ethernet ports (15 R320 to R322), the senders and their packets (R333 to R335, R337), and the NET_
commands.
-/

namespace Sys2Proof.Machine

/-! ## Ports -/

/-- NET_LINK_STATE: link gained or lost (R322, R339). -/
def netLinkState (p : Fin 2) (up : Bool) (s : State) : State :=
  let x := s.net.ports[p]
  if x.up == up || (up && (x.mode == 0 || blockDown s (0x22 + p.val))) then s
  else
    let t := modEth p (fun x => { x with up := up }) s
    post 0x0D80 none 0 (p.val + 2 ^ 8 * bit up + 2 ^ 12 * x.mode) (when (!up) (raise0 (0x52 + p.val)) t)

/-- ARP_REQUEST_RX: a request for the port's own address is answered (R321). -/
def arpRequestRx (p : Fin 2) (target sender : BitVec 32) (mac : BitVec 48) (s : State) : State :=
  let x := s.net.ports[p]
  if x.up && target.toNat == x.addr then
    emit (.arp p sender mac) (modEth p (fun x => { x with sent := bump x.sent }) s)
  else s

/-- ETH_FRAME_DROPPED: any other received frame is dropped and counted (R321). -/
def ethFrameDropped (p : Fin 2) (s : State) : State := modEth p (fun x => { x with dropped := bump x.dropped }) s

/-! ## Frames (R335) -/

/-- The ports of a stream. -/
def streamPorts (v : Stream) : List (Fin 2) := [0, 1].filter fun p : Fin 2 => v.ports.getLsbD p.val

/-- A frame is not sent on a port, and is counted (R334, R335). -/
def countMissing (ps : List (Fin 2)) (s : State) : State :=
  forEach ps (fun p => modEth p fun x => { x with notSent := bump x.notSent }) s

/-- A frame begins to leave; a port without link loses it (R334). -/
def startSend (i : Fin 24) (j : SendJob) (s : State) : State :=
  countMissing ((streamPorts j.stream).filter fun p => !s.net.ports[p].up)
    (modSender i (fun x => { x with jobs := x.jobs ++ [j] }) s)

/-- One sender at the hinge that makes its frame's results live (R335): the sender reads the grade buffer, or the frame yields
nothing to send. -/
def startSender (c : CtxId) (r : PassResult) (x : Fin 24 × Stream) (s : State) : State :=
  let g := streamGrade r.frame.bank x.2
  let j : SendJob := ⟨x.2, c, r.frame.number, r.record.marks, r.frame.time, (g.wo, g.ho), (g.depth, g.chroma), g.full, [], 0⟩
  if r.frame.phase = .dropped then countMissing (streamPorts x.2) s
  else if x.2.kind = 1 then
    match r.grades.find? fun i => i.grade.val == x.2.grade with
    | none => countMissing (streamPorts x.2) s
    | some i =>
      if !streamable g then countMissing (streamPorts x.2) s
      else
        let read := fun k : GradeImage =>
          if k.grade = i.grade ∧ k.frame = i.frame then { k with readers := k.readers ++ [.sender x.1] } else k
        startSend x.1 { j with bytes := i.bytes } (modCtx c (fun y => { y with buffers := y.buffers.map read }) s)
  else startSend x.1 j s

/-- Every sender of a frame whose results go live. -/
def startSenders (c : CtxId) (r : PassResult) (s : State) : State := forEach r.frame.bank.streams (startSender c r) s

/-- In deadbolt the video and ancillary senders of a context keep their timing (R337). -/
def blackFrames (c : CtxId) (h : Nat) (s : State) : State :=
  let b := s.contexts[c].live
  if !inDeadbolt s || s.contexts[c].state ≠ .running || h < 2 || !takesAt b.source.k b.source.phase (h - 2) then s
  else forEach b.streams (fun x =>
    let g := streamGrade b x.2
    startSend x.1 ⟨x.2, c, 0, 0, timeNow s - 2 * s.tick.period / 1000, (g.wo, g.ho), (g.depth, g.chroma), g.full, [], 0⟩) s

/-! ## Packets (R333, R335, R337) -/

/-- Component `k` of row `r` of a packed picture of the job (R180). -/
def SendJob.component (j : SendJob) (r k : Nat) : Nat :=
  let b := j.format.1
  let row := ceilDiv (b * (j.size.1 * (if j.format.2 = 2 then 2 else 3))) 8
  leNat (slice j.bytes (r * row + b * k / 8) ((b * k % 8 + b + 7) / 8)) / 2 ^ (b * k % 8) % 2 ^ b

/-- The black code of a component: luma or R′G′B′, else chroma (R337). -/
def blackCode (depth : Nat) (full luma : Bool) : Nat :=
  if full then (if luma then 0 else 2 ^ (depth - 1)) else (if luma then 64 else 512) * 2 ^ (depth - 10)

/-- Code `k` of row `r` in the order of ST 2110-20: Cb Y Cr Y, Cb Y Cr, or R G B (R333, log 51); black in deadbolt. -/
def SendJob.code (j : SendJob) (black : Bool) (r k : Nat) : Nat :=
  let n := j.size.1 * (if j.format.2 = 2 then 2 else 3)
  let luma := if j.format.2 = 2 then k % 2 == 1 else if j.format.2 = 1 then k % 3 == 1 else true
  if n ≤ k then 0
  else if black then blackCode j.format.1 j.full luma
  else if j.format.2 = 1 then j.component r (3 * (k / 3) + (if k % 3 = 0 then 1 else if k % 3 = 1 then 0 else 2))
  else j.component r k

/-- Codes of `bits` bits packed big-endian into octets. -/
def packBig (bits : Nat) (codes : List Nat) : List Byte :=
  let n := codes.foldl (fun a v => a * 2 ^ bits + v) 0
  (leBytes (bits * codes.length / 8) n).reverse

/-- Octets of a number, most significant first. -/
def beBytes (size v : Nat) : List Byte := (leBytes size v).reverse

/-- The payload of packet `n` of a video frame: extended sequence number, sample row header and pgroups (R333, log 51). -/
def SendJob.video (j : SendJob) (black : Bool) (seq : BitVec 32) (n : Nat) : List Byte :=
  let lines := linePackets j.stream.packing j.size.1 j.format.2 j.format.1
  let per := perPacket j.stream.packing j.format.2 j.format.1
  let (px, octets) := pgroup j.format.2 j.format.1
  let row := n / lines
  let first := n % lines * per
  let count := Min.min per (lineGroups j.size.1 j.format.2 j.format.1 - first)
  let codes := 8 * octets / j.format.1
  beBytes 2 (seq.toNat / 2 ^ 16) ++ beBytes 2 (count * octets) ++ beBytes 2 row ++ beBytes 2 (first * px)
    ++ packBig j.format.1 ((List.range (count * codes)).map fun k => j.code black row (first * codes + k))

/-- Packets of the job's frame (R335). -/
def SendJob.packets (j : SendJob) : Nat :=
  if j.stream.kind = 1 then j.size.2 * linePackets j.stream.packing j.size.1 j.format.2 j.format.1 else 1

/-- A 10-bit ancillary word of eight data bits: even parity in bit 8, its complement in bit 9 (R333, ST 291-1). -/
def ancillaryWord (b : Byte) : Nat :=
  let p := ((List.range 8).filter fun i => b.getLsbD i).length % 2
  b.toNat + 2 ^ 8 * p + 2 ^ 9 * (1 - p)

/-- The nine user data words of the frame packet (R333). -/
def SendJob.frameWords (j : SendJob) : List Nat :=
  (leBytes 1 j.ctx.val ++ leBytes 6 j.frame ++ leBytes 2 j.marks.toNat).map ancillaryWord

/-- The 90 kHz count at a time, modulo 2^32 (R333). -/
def videoClock (ns : Nat) : Nat := ns * 90000 / 1000000000 % 2 ^ 32

/-- A packet leaves on the ports of its stream that have link (R334). -/
def sendOn (v : Stream) (x : Fin 2 → Emission) (s : State) : State :=
  forEach (streamPorts v) (fun p t => if t.net.ports[p].up then
    emit (x p) (modEth p (fun y => { y with sent := bump y.sent }) t) else t) s

/-- The next packet of a video or ancillary frame (R333, R335); after the last one the grade buffer is released (R180). -/
def sendFramePacket (i : Fin 24) (j : SendJob) (s : State) : State :=
  let q := s.net.senders[i].seq
  let last := j.packets ≤ j.next + 1
  let t := if j.stream.kind = 1 then
      sendOn j.stream (fun p => .packet p i last q (videoClock j.time) (j.video (inDeadbolt s) q j.next)) s
    else
      sendOn j.stream (fun p => .ancillary p i q (videoClock j.time) (Config.freeValue s.free) j.frameWords)
        { s with free := s.free + 1 }
  let t := modSender i (fun x => { x with
    seq := q + 1
    jobs := if last then x.jobs.drop 1 else { j with next := j.next + 1 } :: x.jobs.drop 1 }) t
  let release := fun k : GradeImage =>
    if k.frame.toNat = j.frame then { k with readers := k.readers.erase (.sender i) } else k
  if last then modCtx j.ctx (fun c => { c with buffers := c.buffers.map release }) t else t

/-- The next packet of an audio stream, once its samples are there; silence in deadbolt (R333, R337). -/
def sendAudioPacket (i : Fin 24) (s : State) : State :=
  let x := s.net.senders[i]
  let n := audioPacket x.audio
  if x.audio.kind ≠ 2 || x.samples.length < n then s
  else
    let codes := (x.samples.take n).flatMap Prod.snd
    let body := codes.flatMap fun v => beBytes 3 (if inDeadbolt s then 0 else v)
    let count := ((x.samples.head?.map Prod.fst).getD 0) % 2 ^ 32
    modSender i (fun y => { y with seq := y.seq + 1, samples := y.samples.drop n })
      (sendOn x.audio (fun p => .packet p i false x.seq count body) s)

/-- STREAM_PACKET_TX: the sender's next paced packet (R335). -/
def streamPacketTx (i : Fin 24) (s : State) : State :=
  match s.net.senders[i].jobs with
  | j :: _ => sendFramePacket i j s
  | [] => sendAudioPacket i s

/-! ## Commands -/

/-- The port at offset 0. -/
def argEth (e : Entry) : Fin 2 := ⟨arg e 0 1 % 2, Nat.mod_lt _ (by decide)⟩

/-- A unicast IPv4 address (log 54). -/
def unicast (v : Nat) : Bool := let a := v / 2 ^ 24; 1 ≤ a && a ≤ 223 && a != 127

/-- A latency field: signed, within 1,000,000 ps (NET_PORT_CONFIG). -/
def latency (off : Nat) : Field := ⟨off, 4, fun v => decide ((signed 32 v).natAbs ≤ 1000000)⟩

/-- A stream or PTP uses the port (NET_PORT_CONFIG). -/
def portUsed (s : State) (p : Fin 2) : Bool := streamOn (projected s) p || ptpPort s.ptp.cfg p

/-- The payload changes mode, FEC, auto-negotiation or address. -/
def portChanges (e : Entry) (x : EthPort) : Bool :=
  arg e 1 1 != x.mode || arg e 2 1 != x.fec || arg e 3 1 != x.autoneg || arg e 4 4 != x.addr || arg e 8 1 != x.prefixLen

/-- NET_PORT_CONFIG, 0x0D01. -/
def netPortConfigSpec : Spec where
  opcode := 0x0D01
  len := .exact 32
  fields := fun e _ => [range 0 1 0 1, range 1 1 0 4,
    ⟨2, 1, fun v => if arg e 1 1 = 1 ∨ arg e 1 1 = 2 then v == 2 else v ≤ 2⟩, range 3 1 0 1, ⟨4, 4, unicast⟩, range 8 1 8 30,
    rsv 9 3, latency 12, latency 16, latency 20, rsv 24 8]
  states := fun e s => (ethOff s).or
    (if portChanges e s.net.ports[argEth e] && portUsed s (argEth e) then some (wrong 0x11) else none)
  effect := fun e s =>
    let p := argEth e
    let t := modEth p (fun x => { x with
      mode := arg e 1 1, fec := arg e 2 1, autoneg := arg e 3 1, addr := arg e 4 4, prefixLen := arg e 8 1
      ingress := signed 32 (arg e 12 4), egress := signed 32 (arg e 16 4), asymmetry := signed 32 (arg e 20 4) }) s
    .reply (if arg e 1 1 = 0 then netLinkState p false t else t) {}

/-- The stream a NET_SET_STREAM payload describes. -/
def streamOfEntry (e : Entry) : Stream :=
  if arg e 1 1 = 0 then {}
  else { kind := arg e 1 1, ports := BitVec.ofNat 2 (arg e 2 1), source := arg e 3 1, grade := arg e 4 1, packing := arg e 5 1
         channels := arg e 6 1, firstSlot := arg e 7 1, header := (arg e 8 1, arg e 9 1, arg e 10 1)
         ssrc := BitVec.ofNat 32 (arg e 12 4), tro := arg e 16 4, vlan := arg e 20 2
         dest := [0, 20].map fun o => (arg e (24 + o) 6, arg e (30 + o) 4, arg e (34 + o) 2, arg e (36 + o) 2) }

/-- The stream number at offset 0. -/
def argStream (e : Entry) : Fin 24 := ⟨arg e 0 1 % 24, Nat.mod_lt _ (by decide)⟩

/-- The context whose bank holds stream `i`, as accepted so far. -/
def streamOwner (s : State) (i : Fin 24) : Option CtxId :=
  allCtx.find? fun c => (shadow s c).streams.any fun x => x.1 == i

/-- The context a NET_SET_STREAM acts on: the source of kinds 1 and 3, or the present owner of a stream turned off. -/
def streamCtx (e : Entry) (s : State) : Option CtxId :=
  if arg e 1 1 = 1 ∨ arg e 1 1 = 3 then some ⟨arg e 3 1 % 8, Nat.mod_lt _ (by decide)⟩
  else if arg e 1 1 = 0 then streamOwner s (argStream e)
  else none

/-- 0.04 of the frame period of a context, in ns (R335). -/
def maxTro (s : State) (c : CtxId) : Nat := (projected s).tick.period * (shadow s c).source.k / 25000

/-- NET_SET_STREAM, 0x0D02. -/
def netSetStreamSpec : Spec where
  opcode := 0x0D02
  len := .exact 64
  bank := true
  fields := fun e s =>
    let k := arg e 1 1
    let c : CtxId := ⟨arg e 3 1 % 8, Nat.mod_lt _ (by decide)⟩
    let packet := arg e 5 1
    let dest := fun o => [anyVal (24 + o) 6, anyVal (30 + o) 4, range (34 + o) 2 1 65535, range (36 + o) 2 1 65535, rsv (38 + o) 6]
    [range 0 1 0 23, range 1 1 0 3, range 2 1 1 3, ⟨3, 1, fun v => if k = 2 then v ≤ 3 else v ≤ 7⟩,
     ⟨4, 1, fun v => if k = 1 then v ≤ 3 && streamable ((shadow s c).grades[(⟨v % 4, Nat.mod_lt _ (by decide)⟩ : GradeId)])
       else if k = 2 then v ≤ 1 else v == 0⟩,
     ⟨5, 1, fun v => if k = 1 ∨ k = 2 then v ≤ 1 else v == 0⟩,
     ⟨6, 1, fun v => if k = 2 then 1 ≤ v && v ≤ (if packet = 0 then 8 else 16) else v == 0⟩,
     ⟨7, 1, fun v => if k = 2 then v + arg e 6 1 ≤ 16 else v == 0⟩, range 8 1 96 127, range 9 1 0 63, range 10 1 1 255, rsv 11 1,
     anyVal 12 4, ⟨16, 4, fun v => if k = 2 then v == 0 else v ≤ maxTro s c⟩, range 20 2 0 4094, rsv 22 2] ++ dest 0 ++ dest 20
  states := fun e s => (ethOff s).or (if arg e 1 1 = 1 ∨ arg e 1 1 = 3 then (streamCtx e s).bind (freeFail s) else none)
  tumbler := fun e s => budgetFail s [.stream (argStream e) (streamOfEntry e)]
  touches := fun e s => (streamCtx e s).toList
  effect := fun e s =>
    let v := streamOfEntry e
    let bits := if v.kind = 0 then 0 else if v.kind = 2 then Config.openDetail 0x0D02 0
      else match streamCtx e s with
        | some c => frameWireBits v (streamGrade (shadow s c) v)
        | none => 0
    .arm s [.stream (argStream e) v] (streamCtx e s) bits

/-- NET_GET_STATUS, 0x0D03. -/
def netGetStatusSpec : Spec where
  opcode := 0x0D03
  len := .exact 64
  noInline := true
  deadbolt := true
  fields := fun _ _ => [range 0 1 0 1, range 1 1 0 1, rsv 2 6]
  effect := fun e s =>
    let p := argEth e
    let x := s.net.ports[p]
    let clear := fun x : EthPort => { x with
      corrected := 0, uncorrectable := 0, sent := 0, ptpReceived := 0, dropped := 0, stampsLost := 0, overflows := 0, notSent := 0 }
    .reply (if arg e 1 1 = 1 then modEth p clear s else s)
      { detail := bit x.up, back := some (8, image 56 [put 0 1 (bit x.up), put 1 1 x.mode, put 4 4 x.corrected.toNat,
        put 8 4 x.uncorrectable.toNat, put 12 8 x.sent.toNat, put 20 4 x.ptpReceived.toNat, put 24 4 x.dropped.toNat,
        put 28 4 x.stampsLost.toNat, put 32 4 x.overflows.toNat, put 36 4 x.notSent.toNat]) }

/-- NET_PORT_CONFIG. -/
def execNetPortConfig (e : Entry) (s : State) : Host.Outcome State Fault Refusal := .next (runCommand netPortConfigSpec e s)
/-- NET_SET_STREAM. -/
def execNetSetStream (e : Entry) (s : State) : Host.Outcome State Fault Refusal := .next (runCommand netSetStreamSpec e s)
/-- NET_GET_STATUS. -/
def execNetGetStatus (e : Entry) (s : State) : Host.Outcome State Fault Refusal := .next (runCommand netGetStatusSpec e s)
/-- NET_LINK_STATE. -/
def execNetLinkState (p : Fin 2) (up : Bool) (s : State) : Host.Outcome State Fault Refusal := .next (netLinkState p up s)
/-- ARP_REQUEST_RX. -/
def execArpRequestRx (p : Fin 2) (target sender : BitVec 32) (mac : BitVec 48) (s : State) : Host.Outcome State Fault Refusal :=
  .next (arpRequestRx p target sender mac s)
/-- ETH_FRAME_DROPPED. -/
def execEthFrameDropped (p : Fin 2) (s : State) : Host.Outcome State Fault Refusal := .next (ethFrameDropped p s)
/-- STREAM_PACKET_TX. -/
def execStreamPacketTx (i : Fin 24) (s : State) : Host.Outcome State Fault Refusal := .next (streamPacketTx i s)

end Sys2Proof.Machine
end

