-- ==== Sys2Proof/Machine/Outputs.lean ====
section
/-!
DEFINITION. Outputs: timing generators, scan buffers and latches (14 R301 to R306), the picture an output sends (R307,
R308), references (R310 to R312), freeze detection (R314), embedded audio (R315), and the OUT_ commands.
-/

namespace Sys2Proof.Machine

/-! ## Rasters (R302) -/

/-- The output's pictures are Y′CbCr 4:2:2 (R307). -/
def isYuv (o : QuadId) (r : Raster) : Bool := o.val < 2 || (o == 2 && r.format == 2)

/-- The code width of an output (R307). -/
def codeWidth (o : QuadId) (r : Raster) : Nat := if 2 ≤ o.val && r.format = 0 then 8 else 10

/-- A grade's format is one the output accepts (R307). -/
def outputAccepts (o : QuadId) (r : Raster) (g : Grade) : Bool :=
  g.encoding != 4 && g.depth == 10 &&
    (if isYuv o r then g.chroma == 2 && (2 ≤ o.val || !g.full) else g.chroma == 0)

/-- The grade's picture fits the active raster (R307). -/
def outputFits (o : QuadId) (r : Raster) (g : Grade) : Bool :=
  g.wo ≤ (activeSize o r).1 && g.ho ≤ (activeSize o r).2

/-! ## Scan buffers (R303) -/

/-- The copy of a live grade frame into a scan buffer starts (R303, R307). -/
def startCopy (c : CtxId) (r : PassResult) (o : QuadId) (s : State) : State :=
  let b := r.frame.bank
  match b.binds[o], s.outputs[o].raster with
  | some k, some v =>
    let g := b.grades[k.grade]
    match r.grades.find? fun i => i.grade == k.grade with
    | none => s
    | some i =>
      if !outputAccepts o v g || !outputFits o v g then s
      else
        let x : ScanBuf := { ctx := c, frame := r.frame.number, marks := r.record.marks, size := (g.wo, g.ho)
                             format := (g.depth, g.chroma, g.coeff), full := g.full, place := (k.col, k.row)
                             planes := b.overlays[o], bytes := i.bytes }
        modOut o (fun y => { y with copying := y.copying ++ [x] })
          (modCtx c (fun y => { y with buffers := y.buffers.map fun j =>
            if j.grade = k.grade ∧ j.frame = i.frame then { j with readers := j.readers ++ [.output o] } else j }) s)
  | _, _ => s

/-- Every copy of a frame whose results go live. -/
def startCopies (c : CtxId) (r : PassResult) (s : State) : State := forEach allOutputs (startCopy c r) s

/-- A committed frame takes the place of an unlatched one; one that no latch had passed counts as a drop (R303, R305). -/
def commit (x : ScanBuf) (y : Output) : Output :=
  match y.ready with
  | none => { y with ready := some x }
  | some old =>
    if old.late then { y with ready := some x }
    else { y with ready := some x, replaced := y.replaced + 1, counts := { y.counts with drops := bump y.counts.drops } }

/-- SCAN_COPY_DONE: the oldest copy completes, its frame is committed and the grade buffer released (R303, R306). -/
def scanCopyDone (o : QuadId) (s : State) : State :=
  match s.outputs[o].copying with
  | [] => s
  | x :: rest =>
    let t := modOut o (fun y => commit x { y with copying := rest }) s
    modCtx x.ctx (fun c => { c with buffers := c.buffers.map fun i =>
      if i.frame.toNat = x.frame then { i with readers := i.readers.erase (.output o) } else i }) t

/-! ## The picture sent (R307, R308) -/

/-- Component `k` of row `r` of a packed picture (R180). -/
def unpack (x : ScanBuf) (r k : Nat) : Nat :=
  let b := x.format.1
  let row := ceilDiv (b * (x.size.1 * (if x.format.2.1 = 2 then 2 else 3))) 8
  leNat (slice x.bytes (r * row + b * k / 8) ((b * k % 8 + b + 7) / 8)) / 2 ^ (b * k % 8) % 2 ^ b

/-- A 10-bit code on an output of `bits` bits (R307). -/
def narrow (bits v : Nat) : Nat := if bits = 8 then Min.min ((v + 2) / 4) 255 else v

/-- The pixel of an overlay plane over a raster position: A, R, G, B (R308). -/
def overlayPixel (s : State) (v : Overlay) (x y : Nat) : Option (Nat × Nat × Nat × Nat) :=
  if v.on && v.col ≤ x && x < v.col + v.w && v.row ≤ y && y < v.row + v.h then
    let p := readHbms s (v.addr + v.pitch * (y - v.row) + 4 * (x - v.col)) 4
    some (fieldAt p 3 1, fieldAt p 2 1, fieldAt p 1 1, fieldAt p 0 1)
  else none

/-- Component `k` of an overlay pixel in codes of `bits` bits, before rounding: R′, G′, B′, or Cb, Y, Cr of the output's
coefficients and range (R308 steps 1, 2, log 47). -/
def overlayCode (yuv : Bool) (coeff : Nat) (full : Bool) (bits k : Nat) (p : Nat × Nat × Nat × Nat) : Q :=
  let scale : Q := ⟨2 ^ bits - 1, 255⟩
  if !yuv then (Q.ofInt (if k = 0 then p.2.1 else if k = 1 then p.2.2.1 else p.2.2.2)).mul scale
  else
    let (kr, kb) : Q × Q := if coeff = 0 then (⟨2126, 10000⟩, ⟨722, 10000⟩) else (⟨2627, 10000⟩, ⟨593, 10000⟩)
    let e := fun v : Nat => (⟨v, 255⟩ : Q)
    let r := e p.2.1
    let g := e p.2.2.1
    let b := e p.2.2.2
    let y := ((kr.mul r).add (((one.sub kr).sub kb).mul g)).add (kb.mul b)
    let c := if k = 0 then (b.sub y).div ((⟨2, 1⟩ : Q).mul (one.sub kb))
      else if k = 1 then y else (r.sub y).div ((⟨2, 1⟩ : Q).mul (one.sub kr))
    let v : Q := if full then (if k = 1 then (⟨255, 1⟩ : Q).mul c else ((⟨255, 1⟩ : Q).mul c).add ⟨128, 1⟩)
      else if k = 1 then ((⟨219, 1⟩ : Q).mul c).add ⟨16, 1⟩ else ((⟨224, 1⟩ : Q).mul c).add ⟨128, 1⟩
    v.mul scale

/-- A code under an overlay pixel (R308 step 3). -/
def blend (a : Nat) (o : Q) (p : Nat) : Nat :=
  (((⟨a, 255⟩ : Q).mul o).add ((⟨255 - (a : Int), 255⟩ : Q).mul (.ofInt p))).round.toNat

/-- What one output frame is made of. -/
structure Scanned where
  o : QuadId
  raster : Raster
  /-- the frame shown, none before the first and in deadbolt -/
  buf : Option ScanBuf
  planes : Overlay × Overlay

/-- Component `k` of a position: the picture inside its place, the border colour outside, the overlays above (R307,
R308, R316). For 4:2:2, component 0 is Cb, 1 Y, 2 Cr. -/
def Scanned.code (s : State) (q : Scanned) (x y k : Nat) : Nat :=
  let yuv := isYuv q.o q.raster
  let bits := codeWidth q.o q.raster
  let border := if k = 0 then q.raster.border.1 else if k = 1 then q.raster.border.2.1 else q.raster.border.2.2
  let base := match q.buf with
    | none => border
    | some b =>
      if b.place.1 ≤ x && x < b.place.1 + b.size.1 && b.place.2 ≤ y && y < b.place.2 + b.size.2 then
        let i := x - b.place.1
        narrow bits (unpack b (y - b.place.2) (if yuv then 4 * (i / 2) + (if k = 1 then 1 + 2 * (i % 2) else k) else 3 * i + k))
      else border
  let coeff := match q.buf with | some b => b.format.2.2 | none => 0
  let full := match q.buf with | some b => b.full | none => false
  let lay := fun (v : Overlay) (p : Nat) => match overlayPixel s v x y with
    | none => p
    | some w => blend w.1 (overlayCode yuv coeff full bits k w) p
  lay q.planes.2 (lay q.planes.1 base)

/-- The active raster of an output frame, each row its component codes in order (R307, R308). -/
def Scanned.rows (s : State) (q : Scanned) : List (List Nat) :=
  let (w, h) := activeSize q.o q.raster
  (List.range h).map fun y =>
    if isYuv q.o q.raster then
      (List.range (w / 2)).flatMap fun j => [q.code s (2 * j) y 0, q.code s (2 * j) y 1, q.code s (2 * j) y 2,
        q.code s (2 * j + 1) y 1]
    else (List.range w).flatMap fun x => [q.code s x y 0, q.code s x y 1, q.code s x y 2]

/-- The output sends video: TG2 only over a link that carries its raster (R312). -/
def sendsVideo (o : QuadId) (y : Output) (r : Raster) : Bool := o != 2 || linkCarries y r

/-- The frame an output sends now: border colour alone in deadbolt (R304, R309, R316). -/
def scanned (s : State) (o : QuadId) (r : Raster) : Scanned :=
  let y := s.outputs[o]
  if inDeadbolt s then ⟨o, r, none, ({}, {})⟩
  else match y.shown with
    | none => ⟨o, r, none, overlaysOf s o⟩
    | some b => ⟨o, r, some b, if (boundTo s o).isSome then b.planes else y.planes⟩

/-- The output's frame is sent. -/
def sendPicture (o : QuadId) (s : State) : State :=
  match s.outputs[o].raster with
  | none => s
  | some r => if sendsVideo o s.outputs[o] r && !blockDown s (0x30 + o.val) then emit (.picture o ((scanned s o r).rows s)) s else s

/-! ## Embedded audio (R315) -/

/-- The source of a channel: silence when muted, when its port is stopped or not at 48 kHz, and in deadbolt. -/
def channelSource (s : State) (w : BitVec 16) : Option (QuadId × Nat) :=
  let p : QuadId := ⟨w.toNat / 256 % 4, Nat.mod_lt _ (by decide)⟩
  let x := s.audio.ports[p]
  let at48 := match x.cfg with | some k => k.rate == 0 | none => false
  if w.getLsbD 15 || inDeadbolt s || !x.running || !at48 then none else some (p, w.toNat % 16)

/-- The audio of an SDI frame (R315): synchronous when the raster is genlocked and audio runs from the time base. -/
def sendEmbedded (o : QuadId) (s : State) : State :=
  let y := s.outputs[o]
  if 2 ≤ o.val then s
  else emit (.embedded o y.groups (y.genlock == .locked && !s.audio.external) (y.channels.map (channelSource s))) s

/-! ## Latches (R304 to R306, R314) -/

/-- Freeze detection at a newly latched frame: the new state and whether it reports (R314). -/
def freezeStep (n : Nat) (b : ScanBuf) (f : Freeze) : Freeze × Bool :=
  if n = 0 then ({}, false)
  else if hasMark b.marks .testPattern then ({ f with last := some b.frame, run := 0 }, false)
  else if (match f.last with | some x => decide (b.frame ≤ x) | none => false) then ({ f with last := some b.frame }, false)
  else
    let c := crc32 b.bytes
    let run := if f.crc = some c then f.run + 1 else 0
    ({ last := some b.frame, crc := some c, run := run }, run == n - 1 && f.crc == some c)

/-- The flags of an output frame (R305). -/
def outFlags (again skip late none' free : Bool) : BitVec 16 :=
  BitVec.ofNat 16 (bit again + 2 * bit skip + 4 * bit late + 8 * bit none' + 32 * bit free)

/-- The generator runs without its reference (R310, R311). -/
def freeRuns (y : Output) (r : Raster) : Bool := (r.sync == 1 && y.genlock == .lost) || (r.sync == 2 && y.teFree)

/-- An output frame is counted and logged, newest first, 16 at most (R305). -/
def logFrame (flags : BitVec 16) (y : Output) : Output :=
  let n := bump y.counts.frames
  { y with counts := { y.counts with frames := n, repeats := if flags.getLsbD 0 then bump y.counts.repeats else y.counts.repeats
                                     late := if flags.getLsbD 2 then bump y.counts.late else y.counts.late }
           log := (⟨n, (y.shown.map ScanBuf.frame).getD 0, (y.shown.map ScanBuf.marks).getD 0, flags⟩ :: y.log).take 16
           replaced := 0, copying := y.copying.map fun x => { x with late := true } }

/-- OUT_FREEZE when detection reports (R314, R319). -/
def freezeEvent (o : QuadId) (n : Nat) (b : ScanBuf) (s : State) : State :=
  let (f, report) := freezeStep n b s.outputs[o].freeze
  let t := modOut o (fun y => { y with freeze := f }) s
  if report then
    post 0x0C81 (some b.ctx) (BitVec.ofNat 48 b.frame) (o.val + 2 ^ 8 * n + 2 ^ 16 * b.frame)
      (modOut o (fun y => { y with counts := { y.counts with freezes := bump y.counts.freezes } }) t)
  else t

/-- OUT_COMMIT_LATE, at most once per hinge (R306). -/
def lateEvent (o : QuadId) (b : ScanBuf) (s : State) : State :=
  if !b.late || s.outputs[o].lateNow then s
  else post 0x0C80 (some b.ctx) (BitVec.ofNat 48 b.frame) (o.val + 2 ^ 16 * b.frame)
    (modOut o (fun y => { y with lateNow := true }) s)

/-- A relocking generator that is back within one sample of its reference is locked (R310). -/
def genlockSettled (o : QuadId) (r : Raster) (s : State) : State :=
  let y := s.outputs[o]
  match y.genlock, y.lastV with
  | .relocking, some v =>
    let (n, d) := framePeriod o r
    let lines := sdiLines r.code
    let samples := sdiSamples r.code r.rate
    let target : Q := (Q.ofInt v).add ⟨n * (r.phase.1 * samples + r.phase.2), d * (lines * samples)⟩
    let off := (Q.ofInt (nowPs s + 100000000)).sub target
    let period : Q := ⟨n, d⟩
    let turns := (off.div period).round
    let err := (off.sub (period.mul (.ofInt turns))).abs
    if Q.le err ⟨n, d * (lines * samples)⟩ then
      post 0x0C82 none 0 o.val (modOut o (fun y => { y with genlock := .locked }) s)
    else s
  | _, _ => s

/-- OUTPUT_LATCH: the generator takes the newest committed frame, or shows its current one again (R304 to R306). -/
def outputLatch (o : QuadId) (s : State) : State :=
  match s.outputs[o].raster with
  | none => s
  | some r => if blockDown s (0x30 + o.val) then s else
    let y := s.outputs[o]
    let free := freeRuns y r
    let t := match y.ready with
      | some b =>
        let again := match y.shown with | some x => x.ctx == b.ctx && x.frame == b.frame | none => false
        let t := modOut o (fun y => logFrame (outFlags again (y.replaced != 0) b.late false free)
          { y with shown := some b, ready := none }) s
        freezeEvent o r.freeze b (lateEvent o b t)
      | none => modOut o (fun y => logFrame (outFlags y.shown.isSome (y.replaced != 0) false y.shown.isNone free) y) s
    let t := sendEmbedded o (genlockSettled o r t)
    if r.sync = 2 && !y.teFree then t else sendPicture o t

/-- SCAN_FIFO_UNDERRUN (R313). -/
def scanFifoUnderrun (o : QuadId) (s : State) : State :=
  if (s.outputs[o].raster).isNone then s
  else raise0 0x50 (emit (.borderLine o) (modOut o (fun y => { y with
    counts := { y.counts with underruns := bump y.counts.underruns }
    log := match y.log with
      | [] => []
      | l :: rest => { l with flags := l.flags ||| 16#16 } :: rest }) s))

/-! ## References (R310 to R312) -/

/-- Two periods agree within 0.1%: a measured one in ps and a fraction. -/
def agrees (p : Int) (q : Nat × Nat) : Bool :=
  decide (1000 * (p * q.2 - q.1).natAbs ≤ q.1)

/-- GENLOCK_REF_EDGE: a reference edge of a genlocked SDI generator (R310). -/
def genlockRefEdge (o : QuadId) (vertical : Bool) (s : State) : State :=
  match s.outputs[o].raster with
  | none => s
  | some r =>
    if 2 ≤ o.val || r.sync ≠ 1 then s
    else if !vertical then modOut o (fun y => { y with refH := y.refH + 1 }) s
    else
      let y := s.outputs[o]
      let ok := match y.lastV with
        | some v => agrees (nowPs s - v) (framePeriod o r) && y.refH == sdiLines r.code
        | none => false
      let good := if ok then Min.min (y.goodV + 1) 8 else 0
      let t := modOut o (fun y => { y with goodV := good, refH := 0, lastV := some (nowPs s) }) s
      if good = 8 ∧ y.genlock = .lost then
        post 0x0C82 none 0 (o.val + 2 ^ 8 * 2) (modOut o (fun y => { y with genlock := .relocking }) t)
      else t

/-- GENLOCK_LOST: the generator free-runs at its last period (R310). -/
def genlockLost (o : QuadId) (s : State) : State :=
  match s.outputs[o].raster with
  | none => s
  | some r =>
    if 2 ≤ o.val || r.sync ≠ 1 || s.outputs[o].genlock = .lost then s
    else post 0x0C82 none 0 (o.val + 2 ^ 8) (raise0 0x51 (modOut o (fun y => { y with
      genlock := .lost, goodV := 0, lastV := none, counts := { y.counts with losses := bump y.counts.losses } }) s))

/-- VF_TE_EDGE: TG3 sends a frame, unless the edge comes within 10% of the period after the last; free-running, it
returns to VF_TE after three good edges (R311). -/
def vfTeEdge (s : State) : State :=
  match s.outputs[(3 : QuadId)].raster with
  | none => s
  | some r =>
    if r.sync ≠ 2 then s
    else
      let y := s.outputs[(3 : QuadId)]
      let since := y.lastTe.map fun v => nowPs s - v
      let early := match since with | some d => decide (10 * d ≤ 1000 * r.period) | none => false
      let good := match since with
        | some d => decide (10 * (d - 1000 * r.period).natAbs ≤ 1000 * r.period)
        | none => false
      if y.teFree then
        let n := if good then y.teGood + 1 else 0
        let t := modOut 3 (fun y => { y with lastTe := some (nowPs s), teGood := n, teFree := decide (n < 3), teMissing := 0 }) s
        if n < 3 then t else post 0x0C83 none 0 0 t
      else if early then s
      else sendPicture 3 (modOut 3 (fun y => { y with lastTe := some (nowPs s), teMissing := 0 }) s)

/-- VF_TE_MISSING: the third missing period in a row makes TG3 free-run (R311). -/
def vfTeMissing (s : State) : State :=
  match s.outputs[(3 : QuadId)].raster with
  | none => s
  | some r =>
    let y := s.outputs[(3 : QuadId)]
    if r.sync ≠ 2 || y.teFree then s
    else if y.teMissing + 1 < 3 then modOut 3 (fun y => { y with teMissing := y.teMissing + 1 }) s
    else post 0x0C83 none 0 1 (modOut 3 (fun y => { y with
      teMissing := 0, teGood := 0, teFree := true, counts := { y.counts with losses := bump y.counts.losses } }) s)

/-- HPD_RISE: TG2 trains its link (R312). -/
def hpdRise (s : State) : State := if domainOn s 18 then modOut 2 (fun y => { y with hpd := true }) s else s

/-- HPD_DROP: the link ends (R312). -/
def hpdDrop (s : State) : State := modOut 2 (fun y => { y with hpd := false, lanes := 0, rate := 0 }) s

/-- DP_TRAINING_DONE: TG2 sends video, or posts that the link cannot carry it (R312). -/
def dpTrainingDone (lanes : Nat) (rate : Fin 5) (s : State) : State :=
  if !s.outputs[(2 : QuadId)].hpd then s
  else
    let t := modOut 2 (fun y => { y with lanes := if rate = 0 then 0 else lanes, rate := if lanes = 0 then 0 else rate.val }) s
    match t.outputs[(2 : QuadId)].raster with
    | none => t
    | some r =>
      let y := t.outputs[(2 : QuadId)]
      if linkCarries y r then t else post 0x0C84 none 0 (y.lanes + 2 ^ 4 * y.rate) t

/-! ## Commands -/

/-- The output a payload names. -/
def argOut (e : Entry) : QuadId := ⟨arg e 0 1 % 4, Nat.mod_lt _ (by decide)⟩

/-- The generator's power domain is off. -/
def outOff (e : Entry) (s : State) : Option Fail := if domainOn s (outDomain (argOut e)) then none else some (wrong 5)

/-- The raster an OUT_SET_RASTER payload describes. -/
def rasterOf (e : Entry) : Raster where
  code := arg e 2 1
  rate := arg e 3 1
  sync := arg e 4 1
  format := arg e 5 1
  freeze := arg e 6 1
  edges := BitVec.ofNat 2 (arg e 7 1)
  phase := (arg e 8 2, arg e 10 2)
  border := (arg e 12 2, arg e 14 2, arg e 16 2)
  clock := arg e 20 4
  timing := (List.range 8).map fun i => arg e (24 + 2 * i) 2
  polarity := BitVec.ofNat 2 (arg e 40 1)
  period := arg e 44 4

/-- Total lines and samples that bound the phase fields; TG3 has no totals, so its active size bounds them (log 48). -/
def rasterTotals (o : QuadId) (r : Raster) : Nat × Nat :=
  if o.val < 2 then (sdiLines r.code, sdiSamples r.code r.rate)
  else if o = 2 then (r.timing.getD 5 0, r.timing.getD 1 0)
  else (r.timing.getD 4 0, r.timing.getD 0 0)

/-- OUT_SET_RASTER, 0x0C01. -/
def outSetRasterSpec : Spec where
  opcode := 0x0C01
  len := .exact 64
  noInline := true
  bank := true
  fields := fun e _ =>
    let o := argOut e
    let r := rasterOf e
    let sdi := o.val < 2
    let (lines, samples) := rasterTotals o r
    [range 0 1 0 3, range 1 1 0 1, ⟨2, 1, fun n => if sdi then 1 ≤ n && n ≤ 5 else n == 0⟩,
     ⟨3, 1, fun n => if sdi then n ≤ 9 else n == 0⟩,
     ⟨4, 1, fun n => n == 0 || (n == 1 && sdi) || (n == 2 && o == 3)⟩,
     ⟨5, 1, fun n => if sdi then n == 0 else if o = 2 then n ≤ 2 else n ≤ 1⟩, ⟨6, 1, fun n => n != 1⟩, range 7 1 0 3,
     ⟨8, 2, fun n => n == 0 || n < lines⟩, ⟨10, 2, fun n => n == 0 || n < samples⟩, anyVal 12 6, rsv 18 2,
     ⟨20, 4, fun n => if o = 2 then 25000 ≤ n && n ≤ 1200000 else n == 0⟩] ++
    (List.range 8).map (fun i => ⟨24 + 2 * i, 2, fun n => o == 2 || (o == 3 && (i == 0 || i == 4)) || n == 0⟩) ++
    [⟨40, 1, fun n => if o = 2 then n ≤ 3 else n == 0⟩, rsv 41 3,
     ⟨44, 4, fun n => if o = 3 then 4000000 ≤ n && n ≤ 100000000 else n == 0⟩, rsv 48 16]
  states := outOff
  tumbler := fun e s => budgetFail s [change e]
  effect := fun e s => .arm s [change e] none 0
where
  /-- The raster change. -/
  change (e : Entry) : Change := .raster (argOut e) (if arg e 1 1 = 1 then some (rasterOf e) else none)

/-- The raster of an output as accepted so far. -/
def shadowRaster (s : State) (o : QuadId) : Option Raster := (projected s).outputs[o].raster

/-- The grade an OUT_BIND payload names. -/
def bindGrade (e : Entry) (s : State) : Grade :=
  (shadow s ⟨arg e 2 1 % 8, Nat.mod_lt _ (by decide)⟩).grades[(⟨arg e 1 1 % 4, Nat.mod_lt _ (by decide)⟩ : GradeId)]

/-- OUT_BIND, 0x0C02. -/
def outBindSpec : Spec where
  opcode := 0x0C02
  len := .exact 8
  bank := true
  fields := fun e s =>
    let g := bindGrade e s
    let off := arg e 1 1 = 0xFF
    let r := (shadowRaster s (argOut e)).getD {}
    let running := (shadowRaster s (argOut e)).isSome
    let (w, h) := activeSize (argOut e) r
    [range 0 1 0 3, ⟨1, 1, fun n => n == 0xFF || (n ≤ 3 && (!running || (outputAccepts (argOut e) r g && outputFits (argOut e) r g)))⟩,
     ⟨2, 1, fun n => if off then n == 0 else n ≤ 7⟩, rsv 3 1,
     ⟨4, 2, fun n => off || !running || (n + g.wo ≤ w && (2 ≤ (argOut e).val || n % 2 == 0))⟩,
     ⟨6, 2, fun n => off || !running || n + g.ho ≤ h⟩]
  states := fun e s => (outOff e s).or ((if arg e 1 1 = 0xFF then none else freeFail s (newCtx e)).or
    (if (shadowRaster s (argOut e)).isNone then some (wrong 0x10) else none))
  touches := fun e s => (if arg e 1 1 = 0xFF then [] else [newCtx e]) ++ (bound e s)
  tumbler := fun e s => budgetFail s (changes e s)
  effect := fun e s =>
    let c := if arg e 1 1 = 0xFF then (bound e s).head? else some (newCtx e)
    .arm s (changes e s) c (if arg e 1 1 = 0xFF then 0 else ceilDiv (gradeSize (bindGrade e s)) 32)
where
  /-- The context named. -/
  newCtx (e : Entry) : CtxId := ⟨arg e 2 1 % 8, Nat.mod_lt _ (by decide)⟩
  /-- The context bound so far. -/
  bound (e : Entry) (s : State) : List CtxId := ((boundTo (projected s) (argOut e)).map Prod.fst).toList
  /-- The removal from the old context's bank, then the binding (OUT_BIND). -/
  changes (e : Entry) (s : State) : List Change :=
    let o := argOut e
    if arg e 1 1 = 0xFF then (bound e s).map fun c => .bind o c none
    else ((bound e s).filter fun c => c != newCtx e).map (fun c => Change.bind o c none) ++
      [.bind o (newCtx e) (some ⟨⟨arg e 1 1 % 4, Nat.mod_lt _ (by decide)⟩, arg e 4 2, arg e 6 2⟩)]

/-- OUT_SET_OVERLAY, 0x0C03. -/
def outSetOverlaySpec : Spec where
  opcode := 0x0C03
  len := .exact 32
  bank := true
  fields := fun e s => [range 0 1 0 3, range 1 1 0 1, range 2 1 0 1, rsv 3 1, anyVal 4 2, anyVal 6 2, range 8 2 1 8192,
    range 10 2 1 4352, ⟨12, 4, fun n => 4 * arg e 8 2 ≤ n && n % 64 == 0⟩,
    ⟨16, 8, fun a => a % 64 == 0 && !badRange s a (arg e 12 4 * arg e 10 2)⟩, rsv 24 8]
  states := outOff
  touches := fun e s => ((boundTo (projected s) (argOut e)).map Prod.fst).toList
  tumbler := fun e s => budgetFail s [change e]
  effect := fun e s => .arm s [change e] ((boundTo (projected s) (argOut e)).map Prod.fst) 0
where
  /-- The overlay change. -/
  change (e : Entry) : Change := .overlay (argOut e) (arg e 1 1 == 1)
    { on := arg e 2 1 == 1, col := arg e 4 2, row := arg e 6 2, w := arg e 8 2, h := arg e 10 2, pitch := arg e 12 4
      addr := arg e 16 8 }

/-- OUT_SET_AUDIO, 0x0C04. -/
def outSetAudioSpec : Spec where
  opcode := 0x0C04
  len := .exact 40
  bank := true
  fields := fun _ _ => [range 0 1 0 3, range 1 1 0 15, rsv 2 6] ++
    (List.range 16).map fun i => ⟨8 + 2 * i, 2, fun n => n % 256 ≤ 15 && n / 1024 % 32 == 0⟩
  states := fun e s => (outOff e s).or (if 2 ≤ (argOut e).val then some (wrong 0x10) else none)
  effect := fun e s => .arm s [.outAudio (argOut e) (BitVec.ofNat 4 (arg e 1 1))
    ((List.range 16).map fun i => BitVec.ofNat 16 (arg e (8 + 2 * i) 2))] none 0

/-- The state code of OUT_GET_STATUS. -/
def outState (o : QuadId) (y : Output) : Nat :=
  match y.raster with
  | none => 0
  | some r => if o == 2 && y.lanes == 0 then 3 else if freeRuns y r then 2 else 1

/-- A log entry's bytes (OUT_GET_STATUS). -/
def OutLog.bytes (l : OutLog) : List Byte :=
  leBytes 4 l.count.toNat ++ leBytes 6 l.frame ++ leBytes 2 l.marks.toNat ++ leBytes 2 l.flags.toNat ++ [0, 0]

/-- OUT_GET_STATUS, 0x0C05. -/
def outGetStatusSpec : Spec where
  opcode := 0x0C05
  len := .exact 320
  noInline := true
  deadbolt := true
  fields := fun _ _ => [range 0 1 0 3, range 1 1 0 1, rsv 2 6]
  effect := fun e s =>
    let o := argOut e
    let y := s.outputs[o]
    let n := y.counts
    let t := if arg e 1 1 = 1 then modOut o (fun y => { y with counts := {} }) s else s
    .reply t { detail := outState o y
               back := some (8, image 56 [put 0 4 n.frames.toNat, put 4 4 n.repeats.toNat, put 8 4 n.drops.toNat,
                 put 12 4 n.late.toNat, put 16 4 n.underruns.toNat, put 20 4 n.freezes.toNat, put 24 4 n.losses.toNat,
                 put 28 1 (y.lanes + 16 * y.rate)] ++ slice (y.log.flatMap OutLog.bytes) 0 256) }

/-- OUT_SET_RASTER. -/
def execOutSetRaster (e : Entry) (s : State) : Host.Outcome State Fault Refusal := .next (runCommand outSetRasterSpec e s)
/-- OUT_BIND. -/
def execOutBind (e : Entry) (s : State) : Host.Outcome State Fault Refusal := .next (runCommand outBindSpec e s)
/-- OUT_SET_OVERLAY. -/
def execOutSetOverlay (e : Entry) (s : State) : Host.Outcome State Fault Refusal := .next (runCommand outSetOverlaySpec e s)
/-- OUT_SET_AUDIO. -/
def execOutSetAudio (e : Entry) (s : State) : Host.Outcome State Fault Refusal := .next (runCommand outSetAudioSpec e s)
/-- OUT_GET_STATUS. -/
def execOutGetStatus (e : Entry) (s : State) : Host.Outcome State Fault Refusal := .next (runCommand outGetStatusSpec e s)
/-- SCAN_COPY_DONE. -/
def execScanCopyDone (o : QuadId) (s : State) : Host.Outcome State Fault Refusal := .next (scanCopyDone o s)
/-- OUTPUT_LATCH. -/
def execOutputLatch (o : QuadId) (s : State) : Host.Outcome State Fault Refusal := .next (outputLatch o s)
/-- SCAN_FIFO_UNDERRUN. -/
def execScanFifoUnderrun (o : QuadId) (s : State) : Host.Outcome State Fault Refusal := .next (scanFifoUnderrun o s)
/-- GENLOCK_REF_EDGE. -/
def execGenlockRefEdge (o : QuadId) (vertical : Bool) (s : State) : Host.Outcome State Fault Refusal :=
  .next (genlockRefEdge o vertical s)
/-- GENLOCK_LOST. -/
def execGenlockLost (o : QuadId) (s : State) : Host.Outcome State Fault Refusal := .next (genlockLost o s)
/-- VF_TE_EDGE. -/
def execVfTeEdge (s : State) : Host.Outcome State Fault Refusal := .next (vfTeEdge s)
/-- VF_TE_MISSING. -/
def execVfTeMissing (s : State) : Host.Outcome State Fault Refusal := .next (vfTeMissing s)
/-- HPD_RISE. -/
def execHpdRise (s : State) : Host.Outcome State Fault Refusal := .next (hpdRise s)
/-- HPD_DROP. -/
def execHpdDrop (s : State) : Host.Outcome State Fault Refusal := .next (hpdDrop s)
/-- DP_TRAINING_DONE. -/
def execDpTrainingDone (lanes : Nat) (rate : Fin 5) (s : State) : Host.Outcome State Fault Refusal :=
  .next (dpTrainingDone lanes rate s)

end Sys2Proof.Machine
end

