-- ==== Sys2Proof/Machine/Position.lean ====
section
/-!
DEFINITION. Position: the position channels (17): inputs and modes (R351 to R355), the reported position, index and speed
(R356 to R358), samples (R359), compare events (R360), errors (R361), and the POS_ commands.
-/

namespace Sys2Proof.Machine

/-- The channels in order. -/
def allChannels : List QuadId := [0, 1, 2, 3]

/-- A nonzero number as a binary32 pattern, rounded to nearest, ties to even (within the normal range). -/
def pattern32 (n : Int) (d : Nat) : BitVec 32 :=
  if n = 0 ∨ d = 0 then 0
  else
    let m := n.natAbs
    let e := floorLog2 m d
    let v := roundEven (m * 2 ^ (23 - e).toNat) (d * 2 ^ (e - 23).toNat)
    BitVec.ofNat 32 ((if n < 0 then 2 ^ 31 else 0) + ((e + 127).toNat * 2 ^ 23 + (v - 2 ^ 23)))

/-! ## Arithmetic of positions (R356, R357) -/

/-- A position in the channel's range: modulo M, or as a signed 32-bit value (R357). -/
def reducePos (m : Nat) (v : Int) : Int := if m = 0 then signed 32 (v % 2 ^ 32).toNat else v % m

/-- The difference of two positions, reduced to −M/2 to M/2 − 1 with a modulus (R356). -/
def posDiff (m : Nat) (a b : Int) : Int :=
  if m = 0 then a - b
  else let d := (a - b) % m; if 2 * d < m then d else d - m

/-- The travel of p as r moves to a difference `d`: one count of backlash (R356). -/
def travel (d : Int) : Int := if 0 < d then d else if d < -1 then d + 1 else 0

/-! ## Samples and errors (R359, R361) -/

/-- A sample written to the ring; the oldest is lost when it is full (R359). -/
def addSample (x : PosSample) (c : PosChannel) : PosChannel :=
  if 256 ≤ c.samples.length then { c with samples := x :: c.samples.take 255, lost := bump c.lost }
  else { c with samples := x :: c.samples }

/-- A sample of channel `q` with p and speed as they stand. -/
def sample (q : QuadId) (kind detail time : Nat) (s : State) : State :=
  modPos q (fun c => addSample ⟨kind, detail, c.p, time, c.speed, s.tick.counter⟩ c) s

/-- The 32 bits of p in an event. -/
def posBits (p : Int) : Nat := (p % 2 ^ 32).toNat

/-- An error of kind `k` is counted, sampled and raised, and posted once per hinge, channel and kind (R361). -/
def posError (q : QuadId) (k time : Nat) (s : State) : State :=
  let i : Fin 5 := ⟨(k - 1) % 5, Nat.mod_lt _ (by decide)⟩
  let t := raise0 0x57 (sample q 3 k time (modPos q (fun c => { c with errors := c.errors.set i (bump c.errors[i]) }) s))
  let c := t.pos[q]
  if c.posted.contains k then t
  else post 0x0F80 none 0 (q.val + 2 ^ 8 * k + 2 ^ 32 * posBits c.p) (modPos q (fun c => { c with posted := k :: c.posted }) t)

/-! ## Compare events (R360) -/

/-- The distance from `p` to an entry in the direction of travel; 0 for the position itself, which is not passed. -/
def entryDistance (m : Nat) (up : Bool) (p v : Int) : Int :=
  let d := if up then v - p else p - v
  if m = 0 then d else d % m

/-- Insertion by distance. -/
def insertNear (x : Int × Nat) : List (Int × Nat) → List (Int × Nat)
  | [] => [x]
  | y :: ys => if x.1 ≤ y.1 then x :: y :: ys else y :: insertNear x ys

/-- The entries a travel of p fires, by index, in the order crossed (R360). -/
def crossed (t : CompareTable) (m : Nat) (p move : Int) : List Nat :=
  let up := decide (0 < move)
  let hit := fun x : (Int × Bool × Bool) × Nat =>
    let d := entryDistance m up p x.1.1
    if (if up then x.1.2.1 else x.1.2.2) && decide (0 < d) && decide (d ≤ move.natAbs) then some (d, x.2) else none
  ((t.entries.zipIdx.filterMap hit).foldr insertNear []).map Prod.snd

/-- The recording contexts that listen to channel `q` (R243). -/
def compareTriggers (q : QuadId) (s : State) : State :=
  forEach allCtx (fun c t => match t.contexts[c].takings.head? with
    | none => t
    | some (_, n) =>
      if triggerOn t c 1 && t.recs[c].clips.any (fun k => k.stage.isNone && k.cfg.channel == q) then trigger c n.toNat 1 t
      else t) s

/-- A compare event: pulse, count, sample, recording trigger (R360); in deadbolt the pin stays inactive (R361). -/
def compareEvent (q : QuadId) (stamp i : Nat) (s : State) : State :=
  compareTriggers q (sample q 1 i stamp (modPos q (fun c => { c with
    pulse := c.pulse || !inDeadbolt s, compares := bump c.compares }) s))

/-- The level of POS_CMPn (R360, R361). -/
def compareLevel (s : State) (q : QuadId) : Bool := (s.pos[q].pulse && !inDeadbolt s) != s.pos[q].table.low

/-- COMPARE_PULSE_END: the pulse width has elapsed. -/
def comparePulseEnd (q : QuadId) (s : State) : State := modPos q (fun c => { c with pulse := false }) s

/-! ## Following r (R356 to R358) -/

/-- The speed after a change of p (R358); with no earlier change, or none in time, it is open (log 55). -/
def speedOf (free : Nat) (changes : List (Int × Nat)) : BitVec 32 :=
  match changes.head?, changes.getLast? with
  | some a, some b =>
    if a.2 ≤ b.2 then BitVec.ofNat 32 (Config.freeValue free) else pattern32 ((a.1 - b.1) * 1000000000) (a.2 - b.2)
  | _, _ => 0

/-- A limit is crossed outward: POS_RANGE (R357). -/
def rangeEvents (q : QuadId) (was : Int) (s : State) : State :=
  let c := s.pos[q]
  if c.cfg.modulus ≠ 0 || c.cfg.mode = 3 then s
  else if was ≤ c.cfg.limits.2 && c.cfg.limits.2 < c.p then post 0x0F81 none 0 (q.val + 2 ^ 8 + 2 ^ 32 * posBits c.p) s
  else if c.cfg.limits.1 ≤ was && c.p < c.cfg.limits.1 then post 0x0F81 none 0 (q.val + 2 ^ 32 * posBits c.p) s
  else s

/-- p moves by `move` at time `stamp`: speed, range and compare events (R357, R358, R360). -/
def movePos (q : QuadId) (move : Int) (stamp : Nat) (s : State) : State :=
  let c := s.pos[q]
  let up := decide (0 < move)
  let run := if c.positive == some (!up) then [] else c.changes
  let changes := (((run.head?.map Prod.fst).getD 0 + move, stamp) :: run).take 17
  let t := modPos q (fun c => { c with
    p := reducePos c.cfg.modulus (c.p + move), stamp := stamp, changes := changes, positive := some up
    speed := speedOf s.free changes }) { s with free := s.free + 1 }
  forEach (crossed c.table c.cfg.modulus c.p move) (compareEvent q stamp) (rangeEvents q c.p t)

/-- r takes a new value, and p follows it (R356). -/
def follow (q : QuadId) (r : Int) (stamp : Nat) (s : State) : State :=
  let c := s.pos[q]
  let r := reducePos c.cfg.modulus r
  let move := travel (posDiff c.cfg.modulus r c.p)
  let t := modPos q (fun c => { c with r := r }) s
  if move = 0 then t else movePos q move stamp t

/-- r and p set to a value: no compare event (R356, R357). -/
def setPos (v : Int) (c : PosChannel) : PosChannel :=
  { c with r := reducePos c.cfg.modulus v, p := reducePos c.cfg.modulus v }

/-! ## Modes (R352 to R355) -/

/-- The place of (A, B) in 00, 01, 11, 10 (R353). -/
def quadCode (a b : Bool) : Nat := match a, b with
  | false, false => 0 | false, true => 1 | true, true => 2 | true, false => 3

/-- The place of a Hall code in 1, 3, 2, 6, 4, 5; none for the impossible codes (R354). -/
def hallPlace (n : Nat) : Option Nat := [none, some 0, some 2, some 1, some 4, some 5, some 3, none].getD n none

/-- A qualified index (R357). -/
def indexMet (q : QuadId) (stamp : Nat) (s : State) : State :=
  let c := s.pos[q]
  let k := c.cfg
  if k.index = 0 then s
  else
    let off := decide (1 < (posDiff k.modulus c.p k.indexValue).natAbs)
    let t := when (2 ≤ k.index && off) (posError q 5 stamp) s
    let t := when (k.index = 3 || (k.index = 2 && c.positive == some true)) (modPos q (setPos k.indexValue)) t
    sample q 2 0 stamp t

/-- A quadrature transition: a count, or a phase error; then the index (R353, R357). -/
def quadrature (q : QuadId) (a b z : Bool) (stamp : Nat) (s : State) : State :=
  let c := s.pos[q]
  let d := (quadCode a b + 4 - quadCode c.pins.1 c.pins.2.1) % 4
  let sign : Int := if c.cfg.invert then -1 else 1
  let t := modPos q (fun c => { c with pins := (a, b, z) }) s
  let t := if d = 1 then follow q (c.r + sign) stamp t
    else if d = 3 then follow q (c.r - sign) stamp t
    else if d = 2 then posError q 1 stamp t
    else t
  if z && !c.pins.2.2 && bit a + 2 * bit b == c.cfg.gate then indexMet q stamp t else t

/-- A Hall transition (R354). -/
def hallStep (q : QuadId) (a b z : Bool) (stamp : Nat) (s : State) : State :=
  let c := s.pos[q]
  let n := 4 * bit a + 2 * bit b + bit z
  let t := modPos q (fun c => { c with pins := (a, b, z) }) s
  let sign : Int := if c.cfg.invert then -1 else 1
  match hallPlace n with
  | none => posError q 2 stamp t
  | some i =>
    let t := modPos q (fun c => { c with hall := some n }) t
    match c.hall.bind hallPlace with
    | none => t
    | some j =>
      let d := (i + 6 - j) % 6
      if d = 0 then t
      else if d = 1 then follow q (c.r + sign) stamp t
      else if d = 5 then follow q (c.r - sign) stamp t
      else posError q 3 stamp t

/-- POS_TRANSITION: an accepted transition, stamped with the first sample of the new level (R352). -/
def posTransition (q : QuadId) (a b z : Bool) (s : State) : State :=
  let c := s.pos[q]
  let stamp := timeNow s - 10 * (c.cfg.filter + 1)
  if blockDown s (0x54 + q.val) then s
  else if c.on && c.cfg.mode = 1 then quadrature q a b z stamp s
  else if c.on && c.cfg.mode = 2 then hallStep q a b z stamp s
  else modPos q (fun c => { c with pins := (a, b, z) }) s

/-- A Gray-coded reading as binary (R355). -/
def fromGray (v : Nat) : Nat := (List.range 32).foldl (fun n i => n ^^^ v / 2 ^ i) 0

/-- SSI_POLL: a reading, or, with the sensor busy, a frame error (R355). -/
def ssiPoll (q : QuadId) (busy : Bool) (reading : BitVec 32) (s : State) : State :=
  let c := s.pos[q]
  if !c.on || c.cfg.mode ≠ 3 || blockDown s (0x54 + q.val) then s
  else if busy then posError q 4 (timeNow s) s
  else
    let v := reading.toNat % 2 ^ c.cfg.bits
    let r : Int := (if c.cfg.gray then fromGray v else v : Nat)
    if c.read then follow q r (timeNow s) s
    else modPos q (fun c => { setPos r c with read := true, stamp := timeNow s }) s

/-- POS_STALL: p unchanged for the stall time (R358). -/
def posStall (q : QuadId) (s : State) : State := if s.pos[q].on then modPos q (fun c => { c with speed := 0 }) s else s

/-- The channels at a hinge: a sample each, and errors may be posted again (R359, R361). -/
def posHinge (s : State) : State :=
  forEach allChannels (fun q t =>
    let t := modPos q (fun c => { c with posted := [] }) t
    if t.pos[q].on then sample q 0 0 t.pos[q].stamp t else t) s

/-! ## Commands -/

/-- The channel at offset 0. -/
def argChannel (e : Entry) : QuadId := ⟨arg e 0 1 % 4, Nat.mod_lt _ (by decide)⟩

/-- AUDIO-POS is off (R362). -/
def posOff (s : State) : Option Fail := if domainOn s 22 then none else some (wrong 5)

/-- The modulus of a configuration: 2^b in SSI mode (R355). -/
def modulusOf (e : Entry) : Nat := if arg e 1 1 = 3 then 2 ^ arg e 6 1 else arg e 8 4

/-- The configuration a POS_CONFIG payload describes. -/
def posCfgOf (e : Entry) : PosCfg where
  mode := arg e 1 1
  filter := arg e 2 1
  invert := (arg e 3 1).testBit 0
  gray := (arg e 3 1).testBit 1
  index := arg e 4 1
  gate := arg e 5 1
  bits := arg e 6 1
  modulus := modulusOf e
  indexValue := if arg e 8 4 = 0 then signed 32 (arg e 12 4) else arg e 12 4
  limits := (signed 32 (arg e 16 4), signed 32 (arg e 20 4))
  clock := arg e 24 2
  poll := arg e 26 2
  stall := arg e 28 2

/-- POS_CONFIG, 0x0F01. -/
def posConfigSpec : Spec where
  opcode := 0x0F01
  len := .exact 32
  fields := fun e _ =>
    let mode := arg e 1 1
    let m := arg e 8 4
    let linear := m = 0 && mode ≠ 3
    [range 0 1 0 3, range 1 1 0 3, range 2 1 0 31, range 3 1 0 3, ⟨4, 1, fun v => v == 0 || (v ≤ 3 && mode == 1)⟩, range 5 1 0 3,
     ⟨6, 1, fun v => if mode = 3 then 8 ≤ v && v ≤ 32 else v == 0⟩, rsv 7 1,
     ⟨8, 4, fun v => v == 0 || (if mode = 3 then v == 2 ^ arg e 6 1 else 2 ≤ v && v ≤ 2 ^ 31)⟩,
     ⟨12, 4, fun v => m == 0 || v < m⟩, ⟨16, 4, fun v => m = 0 || v == 0⟩,
     ⟨20, 4, fun v => if linear then decide (signed 32 (arg e 16 4) < signed 32 v) else m = 0 || v == 0⟩,
     ⟨24, 2, fun v => if mode = 3 then 100 ≤ v && v ≤ 10000 else v == 0⟩,
     ⟨26, 2, fun v => 1 ≤ v && v ≤ 1000 && (mode != 3 || 1000 * arg e 6 1 + arg e 24 2 ≤ v * arg e 24 2)⟩,
     range 28 2 1 1000, rsv 30 2]
  states := fun e s => (posOff s).or (if s.pos[argChannel e].on then some (wrong 0x14) else none)
  effect := fun e s =>
    let k := posCfgOf e
    .reply (modPos (argChannel e) (fun c => { c with
      cfg := k, r := reducePos k.modulus c.r, p := reducePos k.modulus c.p }) s) {}

/-- A channel is the tick source (R34). -/
def ticksFrom (s : State) (q : QuadId) : Bool := s.tick.live.source == 6 && s.tick.live.inst == q.val

/-- A position as the channel's fields hold it. -/
def posArg (k : PosCfg) (v : Nat) : Int := if k.modulus = 0 then signed 32 v else v

/-- A channel is enabled: p = r (R356). -/
def enablePos (c : PosChannel) : PosChannel :=
  { c with on := true, p := c.r, changes := [], positive := none, read := false
           hall := let n := 4 * bit c.pins.1 + 2 * bit c.pins.2.1 + bit c.pins.2.2; if (hallPlace n).isSome then some n else none }

/-- POS_CONTROL, 0x0F02. -/
def posControlSpec : Spec where
  opcode := 0x0F02
  len := .exact 8
  fields := fun e s =>
    let k := s.pos[argChannel e].cfg
    [range 0 1 0 3, range 1 1 0 2, rsv 2 2,
     ⟨4, 4, fun v => if arg e 1 1 = 2 then k.modulus == 0 || v < k.modulus else v == 0⟩]
  states := fun e s => (posOff s).or
    (if arg e 1 1 = 0 && ticksFrom s (argChannel e) then some (wrong 0x14) else none)
  effect := fun e s =>
    let q := argChannel e
    let op := arg e 1 1
    let t := modPos q (fun c => if op = 0 then { c with on := false } else if op = 1 then (if c.on then c else enablePos c)
      else setPos (posArg c.cfg (arg e 4 4)) c) s
    .reply t { detail := (t.pos[q].p % 2 ^ 64).toNat }

/-- Entry `i` of a POS_SET_COMPARE payload: position and direction mask. -/
def compareEntry (k : PosCfg) (e : Entry) (i : Nat) : Int × Bool × Bool :=
  let m := arg e (20 + 8 * i) 1
  (posArg k (arg e (16 + 8 * i) 4), m.testBit 0, m.testBit 1)

/-- The offset of the first entry that is out of range or does not ascend (POS_SET_COMPARE). -/
def badEntry (k : PosCfg) (e : Entry) : Option Nat :=
  ((List.range (arg e 2 2)).find? fun i =>
    let v := (compareEntry k e i).1
    !((if k.modulus = 0 then decide (k.limits.1 ≤ v) && decide (v ≤ k.limits.2) else decide (v < k.modulus))
      && (i == 0 || decide ((compareEntry k e (i - 1)).1 < v)))).map fun i => 16 + 8 * i

/-- POS_SET_COMPARE, 0x0F03. -/
def posSetCompareSpec : Spec where
  opcode := 0x0F03
  len := .counted fun b => 16 + 8 * Min.min 1024 (fieldAt b 2 2)
  noInline := true
  bank := true
  fields := fun e _ =>
    [range 0 1 0 3, range 1 1 0 1, range 2 2 0 1024, range 4 4 20 1000000, rsv 8 8]
      ++ (List.range (arg e 2 2)).flatMap fun i => [range (20 + 8 * i) 1 1 3, rsv (21 + 8 * i) 3]
  cross := fun e s => badEntry s.pos[argChannel e].cfg e
  states := fun _ s => posOff s
  effect := fun e s =>
    let k := s.pos[argChannel e].cfg
    let v : CompareTable := ⟨arg e 1 1 == 1, arg e 4 4, (List.range (arg e 2 2)).map (compareEntry k e)⟩
    .arm s [.compare (argChannel e) v] none (arg e 2 2)

/-- The bytes of a sample (R359). -/
def PosSample.bytes (x : PosSample) : List Byte :=
  image 32 [put 0 1 x.kind, put 1 1 x.detail, put 2 2 (x.detail / 256 % 4), (4, leInt 4 x.p), (8, timeBytes x.time),
    put 20 4 x.speed.toNat, put 24 8 x.tick.toNat]

/-- POS_GET_STATUS, 0x0F04. -/
def posGetStatusSpec : Spec where
  opcode := 0x0F04
  len := .exact 8256
  noInline := true
  deadbolt := true
  fields := fun _ _ => [range 0 1 0 3, range 1 1 0 1, rsv 2 6]
  states := fun _ s => posOff s
  effect := fun e s =>
    let q := argChannel e
    let c := s.pos[q]
    let clear := fun c : PosChannel => { c with errors := Vector.replicate 5 0, compares := 0, lost := 0, samples := [] }
    .reply (if arg e 1 1 = 1 then modPos q clear s else s)
      { detail := c.samples.length, back := some (8,
          image 56 [(0, leInt 4 c.p), put 4 4 c.speed.toNat, (8, c.errors.toList.flatMap fun n => leBytes 4 n.toNat),
            put 28 4 c.compares.toNat, put 32 4 c.lost.toNat]
          ++ slice (c.samples.flatMap PosSample.bytes) 0 8192) }

/-- POS_CONFIG. -/
def execPosConfig (e : Entry) (s : State) : Host.Outcome State Fault Refusal := .next (runCommand posConfigSpec e s)
/-- POS_CONTROL. -/
def execPosControl (e : Entry) (s : State) : Host.Outcome State Fault Refusal := .next (runCommand posControlSpec e s)
/-- POS_SET_COMPARE. -/
def execPosSetCompare (e : Entry) (s : State) : Host.Outcome State Fault Refusal := .next (runCommand posSetCompareSpec e s)
/-- POS_GET_STATUS. -/
def execPosGetStatus (e : Entry) (s : State) : Host.Outcome State Fault Refusal := .next (runCommand posGetStatusSpec e s)
/-- POS_TRANSITION. -/
def execPosTransition (q : QuadId) (a b z : Bool) (s : State) : Host.Outcome State Fault Refusal :=
  .next (posTransition q a b z s)
/-- SSI_POLL. -/
def execSsiPoll (q : QuadId) (busy : Bool) (reading : BitVec 32) (s : State) : Host.Outcome State Fault Refusal :=
  .next (ssiPoll q busy reading s)
/-- POS_STALL. -/
def execPosStall (q : QuadId) (s : State) : Host.Outcome State Fault Refusal := .next (posStall q s)
/-- COMPARE_PULSE_END. -/
def execComparePulseEnd (q : QuadId) (s : State) : Host.Outcome State Fault Refusal := .next (comparePulseEnd q s)

end Sys2Proof.Machine
end

