-- ==== Sys2Proof/Machine/Storage.lean ====
section
/-!
DEFINITION. Storage: function 1's NVMe controller (12): its queues and commands, the clip view and its directory,
errors, power states and pacing; drive completions (11); the STG_ commands and RAW_BIND_PIXEL_TABLE (06).
-/

namespace Sys2Proof.Machine

/-! ## Controller state -/

/-- CC.EN. -/
def ccEn (s : State) : Bool := s.stg.cc.getLsbD 0

/-- The controller fetches and completes commands. -/
def stgUp (s : State) : Bool := ccEn s && s.stg.rdy && !s.stg.cfs

/-- CSTS (R256). -/
def cstsReg (s : State) : Nat := bit s.stg.rdy + 2 * bit (s.stg.cfs || s.devState == 3) + 4 * s.stg.shst

/-- STG_CONTROLLER_STATE (R280). -/
def stgState (s : State) : State :=
  post 0x0A80 none 0 (bit s.stg.rdy + 2 * bit s.stg.cfs + 4 * s.stg.power + 16 * s.stg.fatal) s

/-- A cause of function 1's vector `v`: sent, or left pending while masked (R255). -/
def nvmeVector (v : Nat) (s : State) : State :=
  let i : Fin 65 := ⟨v % 65, Nat.mod_lt _ (by decide)⟩
  let x := s.stg.msix[i]
  if x.control.getLsbD 0 then modStg (fun y => { y with pba := y.pba ||| BitVec.twoPow 65 i }) s
  else if s.hostUp then emit (.nvmeMsix i x.addr x.data) s
  else s

/-! ## Completions (R256, R260, R272) -/

/-- A completion queue is full. -/
def cqFull (q : CplQueue) : Bool := (q.tail + 1) % q.size == q.head

/-- A completion entry written at the queue's tail with its phase tag, and its vector raised. -/
def pushCqe (id : Nat) (entry : List Byte) (s : State) : State :=
  match s.stg.cqs.find? fun q => q.id == id with
  | none => s
  | some q =>
    let bytes := overlay entry 14 [BitVec.ofNat 8 (fieldAt entry 14 1 + bit q.phase)]
    let next := (q.tail + 1) % q.size
    let t := if s.hostUp then writeHost (q.base + 16 * q.tail) bytes s else hostFailed s
    let q' : CplQueue := { q with tail := next, phase := q.phase != (next == 0) }
    let t := modStg (fun x => { x with cqs := x.cqs.map fun y => if y.id = id then q' else y }) t
    match q.vector with
    | some v => nvmeVector v t
    | none => t

/-- Held completions posted while their queues have room, oldest first. -/
def flushCpl (s : State) : State :=
  forEach s.stg.heldCpl (fun h t =>
    match t.stg.cqs.find? fun q => q.id == h.1 with
    | none => modStg (fun x => { x with heldCpl := x.heldCpl.erase h }) t
    | some q => if cqFull q then t else pushCqe h.1 h.2 (modStg (fun x => { x with heldCpl := x.heldCpl.erase h }) t)) s

/-- A command's completion entry, posted or held for room. -/
def postCqe (n : NvmeCmd) (status dw0 : Nat) (s : State) : State :=
  match s.stg.sqs.find? fun q => q.id == n.sq.val with
  | none => s
  | some q =>
    if !stgUp s then s
    else
      let entry := image 16 [put 0 4 dw0, put 8 2 q.head, put 10 2 q.id, put 12 2 n.cid.toNat, put 14 2 (2 * status)]
      flushCpl (modStg (fun x => { x with heldCpl := x.heldCpl ++ [(q.cq, entry)] }) s)

/-- An asynchronous event: it completes the oldest request, or waits for one, and is not reported again until its log
has been read (R276). -/
def asyncEvent (kind info page : Nat) (s : State) : State :=
  if s.stg.asyncMasked.contains kind then s
  else
    let t := modStg (fun x => { x with asyncMasked := x.asyncMasked ++ [kind] }) s
    match t.stg.aers with
    | [] => modStg (fun x => { x with asyncDue := x.asyncDue ++ [(kind, info, page)] }) t
    | n :: rest => postCqe n 0 (kind + 2 ^ 8 * info + 2 ^ 16 * page) (modStg (fun x => { x with aers := rest }) t)

/-- A failed command's entry in the error information log (R272, R276). -/
def logNvmeError (n : NvmeCmd) (status lba : Nat) (s : State) : State :=
  let c := s.stg.errorCount + 1
  let x : NvmeError := ⟨c, n.sq.val, n.cid, status, lba, n.nsid⟩
  asyncEvent 0 (Config.openDetail 0x0A00 0) 1
    (modStg (fun y => { y with errorCount := c, errors := (x :: y.errors).take 64 }) s)

/-- A command ends with a status and a result; a failure is logged (R272). -/
def endNvme (n : NvmeCmd) (status dw0 lba : Nat) (s : State) : State :=
  let t := if status = 0 then s else logNvmeError n status lba s
  postCqe n status dw0 t

/-- Statuses of R272: code type × 256 + code. -/
def stInvalidField : Nat := 0x002
def stTransfer : Nat := 0x004
def stSqDeleted : Nat := 0x008
def stNamespace : Nat := 0x00B
def stProtected : Nat := 0x020
def stRange : Nat := 0x080
def stQueueId : Nat := 0x101
def stQueueSize : Nat := 0x102
def stAsyncLimit : Nat := 0x105
def stLogPage : Nat := 0x109
def stQueueDeletion : Nat := 0x10C
def stReadOnlyRange : Nat := 0x182
def stUnrecovered : Nat := 0x281
def stUnwritten : Nat := 0x287

/-! ## Moving data -/

/-- The command's PCIe transfers work. -/
def moveOk (n : NvmeCmd) (s : State) : Bool := n.hostOk && s.hostUp

/-- Bytes written to the host pages of a command. -/
def writePages : List (BitVec 64) → List Byte → State → State
  | [], _, s => s
  | p :: ps, bytes, s =>
    let room := 4096 - p.toNat % 4096
    writePages ps (bytes.drop room) (writeHost p.toNat (bytes.take room) s)

/-- A command that answers with data: the data, then its completion; Data Transfer Error when PCIe fails (R272). -/
def answerNvme (n : NvmeCmd) (bytes : List Byte) (s : State) : State :=
  if moveOk n s then endNvme n 0 0 0 (writePages n.pages bytes s) else endNvme n stTransfer 0 0 (hostFailed s)

/-! ## Fetching (R258, R260, R261, R277) -/

/-- The class order of a queue under weighted round robin: the admin queue, then urgent; the rest share by weights. -/
def queueRank (q : SubQueue) : Nat := if q.id = 0 then 0 else if q.cls = 0 then 1 else 2

/-- CC.AMS selects weighted round robin with urgent class (R261). -/
def weighted (s : State) : Bool := s.stg.cc.toNat / 2 ^ 11 % 8 == 1

/-- Commands of hosts that execute now (R260). -/
def executing12 (s : State) : Nat :=
  (s.stg.ward.filter fun w => match w.user with | .host .. => true | _ => false).length + s.stg.waking.length

/-- The command at the head of its queue is fetched now. -/
def fetchable (n : NvmeCmd) (s : State) : Bool :=
  stgUp s && (match s.stg.sqs.find? fun q => q.id == n.sq.val with
    | none => false
    | some q => q.head != q.tail && (q.id == 0 || executing12 s < 8192) &&
      !(weighted s && s.stg.sqs.any fun y => y.head != y.tail && queueRank y < queueRank q))

/-- The queue's head moves past the fetched command. -/
def fetchNvme (n : NvmeCmd) (s : State) : State :=
  modStg (fun x => { x with sqs := x.sqs.map fun q =>
                      if q.id = n.sq.val then { q with head := (q.head + 1) % q.size } else q }) s

/-- An admin command is fetched and does `f`. -/
def adminNvme (n : NvmeCmd) (f : State → State) (s : State) : State :=
  if n.sq = 0 && fetchable n s then f (fetchNvme n s) else s

/-! ## The clip view (R262 to R266) -/

/-- The bytes of a clip's image (R263). -/
def SealedClip.image (k : SealedClip) : List Byte := k.records.flatMap Rec.bytes

/-- The LBAs of a clip's extent: multiples of 256 (R263). -/
def extentSize (k : SealedClip) : Nat := 256 * ceilDiv k.image.length (256 * 4096)

/-- A directory entry (R265). -/
def DirEntry.bytes (d : DirEntry) : List Byte :=
  let k := d.clip
  let b := Sys2Proof.Machine.image 60 [put 0 8 k.id, put 8 8 d.lba, put 16 8 k.image.length, put 24 1 (if d.present then 1 else 2),
    put 25 1 k.source, put 26 1 k.ctx.val, put 27 1 k.kind, put 28 6 k.first, put 34 6 k.last, put 40 1 k.reason,
    put 44 4 k.records.length, (48, timeBytes k.sealTime)]
  b ++ leBytes 4 (crc32c b).toNat

/-- Clips present in the directory. -/
def clipsPresent (s : State) : Nat := (s.stg.directory.filter DirEntry.present).length

/-- The directory's header (R265). -/
def directoryHeader (s : State) : List Byte :=
  let b := image 60 [(0, [0x53, 0x5A, 0x43, 0x44]), put 4 2 1, put 8 8 s.stg.generation, put 16 4 s.stg.directory.length,
    put 20 4 (clipsPresent s), put 24 8 s.stg.nextLba, (32, serialBytes s)]
  b ++ leBytes 4 (crc32c b).toNat

/-- An LBA of the directory. -/
def directoryLba (s : State) (lba : Nat) : List Byte :=
  (List.range 64).flatMap fun i =>
    if lba = 0 ∧ i = 0 then directoryHeader s
    else match s.stg.directory[64 * lba + i - 1]? with
      | some d => d.bytes
      | none => List.replicate 64 0

/-- The present extent an LBA of namespace 1 lies in. -/
def extentAt (s : State) (lba : Nat) : Option DirEntry :=
  s.stg.directory.find? fun d => d.present && d.lba ≤ lba && lba < d.lba + extentSize d.clip

/-- An LBA of namespace 1, none outside every present extent (R264). -/
def ns1Lba (s : State) (lba : Nat) : Option (List Byte) :=
  if lba < 4096 then some (directoryLba s lba)
  else (extentAt s lba).map fun d => slice d.clip.image (4096 * (lba - d.lba)) 4096

/-- The directory differs from the view (R262, R265). -/
def listed (s : State) (k : SealedClip) : Bool :=
  s.stg.directory.any fun d => d.present && d.clip.id == k.id && d.clip.source == k.source

/-- A clip enters the directory: a free entry and extent, or it is left out (R265). -/
def enterDirectory (k : SealedClip) (s : State) : State :=
  if 262143 ≤ s.stg.directory.length || 2 ^ 36 < s.stg.nextLba + extentSize k then
    modStg (fun x => { x with leftOut := x.leftOut + 1 }) s
  else modStg (fun x => { x with
    directory := x.directory ++ [⟨k, x.nextLba, true⟩], nextLba := x.nextLba + extentSize k }) s

/-- Entries whose clip has left the view (R262, R266). -/
def stale (s : State) (d : DirEntry) : Bool :=
  d.present && !(s.stg.view.any fun k => k.id == d.clip.id && k.source == d.clip.source)

/-- STG_DIRECTORY_CHANGED and the vendor-specific event, at most once per 10 ms (R276, R280). -/
def directoryEvents (s : State) : State :=
  let t := modStg (fun x => { x with generation := x.generation + 1 }) s
  let t := post 0x0A81 none 0 (t.stg.generation % 2 ^ 48 + 2 ^ 48 * Min.min (clipsPresent t) 65535) t
  let due := match t.stg.directoryAt with | none => true | some n => n + 5000000 ≤ t.clk
  if t.stg.asyncCfg.getLsbD 31 && due then
    asyncEvent 7 0xC0 0xC0 (modStg (fun x => { x with directoryAt := some t.clk }) t)
  else t

/-- The directory follows the view: removed clips keep their entries with state 2, new clips enter in order (R265,
R266). -/
def syncDirectory (s : State) : State :=
  let new := s.stg.view.filter fun k => !listed s k
  let t := modStg (fun x => { x with directory := x.directory.map fun d => if stale s d then { d with present := false } else d }) s
  directoryEvents (forEach new enterDirectory t)

/-- Clips inserted by ascending id. -/
def insertClip (k : SealedClip) : List SealedClip → List SealedClip
  | [] => [k]
  | x :: xs => if k.id ≤ x.id then k :: x :: xs else x :: insertClip k xs

/-- The directory rebuilt: present clips in ascending id from LBA 4,096 (R263). -/
def rebuildDirectory (s : State) : State :=
  let t := modStg (fun x => { x with directory := [], nextLba := 4096, leftOut := 0 }) s
  directoryEvents (forEach (s.stg.view.foldr insertClip []) enterDirectory t)

/-- The internal writer's range (R266). -/
def directoryRange : WardRange := ⟨1, 0, 4096, true⟩

/-- A clip is in the view and not in the directory, or the other way round. -/
def directoryDue (s : State) : Bool := s.stg.view.any (fun k => !listed s k) || s.stg.directory.any (stale s)

/-- DIRECTORY_CHANGE: the controller takes its write entry and, when nothing conflicts, changes the directory (R266). -/
def directoryChange (s : State) : State :=
  if !directoryDue s || s.stg.ward.any (fun w => w.user == .directory) then s
  else
    let (t, id) := enterWard .directory [directoryRange] s
    if wardReady t id then releaseWard id (syncDirectory t) else t

/-! ## Reads and writes (R264, R267 to R272, R279) -/

/-- The start LBA of an I/O command. -/
def ioLba (n : NvmeCmd) : Nat := n.cdw10.toNat + 2 ^ 32 * n.cdw11.toNat

/-- The LBA count of a Read, Write or Write Zeroes. -/
def ioCount (n : NvmeCmd) : Nat := n.cdw12.toNat % 2 ^ 16 + 1

/-- Size of a namespace in LBAs; none when it does not exist (R262, R267). -/
def namespaceSize (s : State) (nsid : Nat) : Option Nat :=
  if nsid = 1 then some (2 ^ 36)
  else if nsid = 2 && s.stg.scratch != 0 then some (s.stg.scratch / 4096)
  else none

/-- The ranges an I/O command takes entries over (R268). -/
def ioRanges (k : IoKind) (n : NvmeCmd) (s : State) : List WardRange :=
  let ns := n.nsid.toNat
  match k with
  | .read => [⟨ns, ioLba n, ioCount n, false⟩]
  | .write | .zeroes => [⟨ns, ioLba n, ioCount n, true⟩]
  | .deallocate => (List.range (n.cdw10.toNat % 256 + 1)).map fun i =>
      ⟨ns, fieldAt n.data (16 * i + 8) 8, fieldAt n.data (16 * i + 4) 4, true⟩
  | .format => [⟨ns, 0, (namespaceSize s ns).getD 0, true⟩]

/-- A field of the command lies outside the device's limits (R258). -/
def ioFieldBad (k : IoKind) (n : NvmeCmd) : Bool :=
  match k with
  | .read | .write => 512 < ioCount n
  | .zeroes => false
  | .deallocate => 15 < n.cdw10.toNat % 256 || !n.cdw11.getLsbD 2
  | .format => n.cdw10.toNat % 16 != 0 || n.cdw10.toNat / 2 ^ 9 % 8 != 0

/-- The status that stops an I/O command before it takes entries (R258, R262, R267, R271, R272). -/
def ioStatus (k : IoKind) (n : NvmeCmd) (s : State) : Nat :=
  match namespaceSize s n.nsid.toNat with
  | none => stNamespace
  | some size =>
    if k ≠ .read && n.nsid = 1 then stProtected
    else if ioFieldBad k n then stInvalidField
    else if k = .deallocate && !moveOk n s then stTransfer
    else if (ioRanges k n s).any fun r => size < r.lba + r.count then stRange
    else if touchesBound s (ioRanges k n s) then stReadOnlyRange
    else 0

/-- Where a command's bytes count: HBM of a stack, all stacks, or a media port (R279). -/
inductive PacePool where
  | hbm (m : StackId) | spread | media (p : Fin 2) | none

/-- The pool of a command. -/
def pacePool (n : NvmeCmd) (s : State) : PacePool :=
  if n.nsid = 2 then (if s.mem.interleaved then .spread else .hbm s.stg.scratchStack)
  else match extentAt s (ioLba n) with
    | none => .none
    | some d =>
      if d.clip.source = 1 then .media 0
      else if d.clip.source = 2 then .media 1
      else if s.mem.interleaved then .spread
      else .hbm ((homeRegion s.contexts[d.clip.ctx].live).getD 0)

/-- Bytes a rate in MB/s allows in one tick, halved in power state 1 (R277, R279). -/
def tickBytes (s : State) (rate : Nat) : Nat :=
  (if s.stg.power = 1 then rate / 2 else rate) * s.tick.period * 999 / 1000000000

/-- Bytes the pool may still move in this tick. -/
def paceLeft (p : PacePool) (s : State) : Nat :=
  let hbm := fun m : Fin 4 => tickBytes s s.stg.hbmRates[m] - s.stg.hbmUsed[m]
  match p with
  | .none => 2 ^ 32
  | .hbm m => hbm m
  | .spread => 4 * Min.min (Min.min (hbm 0) (hbm 1)) (Min.min (hbm 2) (hbm 3))
  | .media m => tickBytes s s.stg.portRates[m] - s.stg.portUsed[m]

/-- Bytes counted against the pool. -/
def paceUse (p : PacePool) (n : Nat) (s : State) : State :=
  match p with
  | .none => s
  | .hbm m => modStg (fun x => { x with hbmUsed := x.hbmUsed.set m (x.hbmUsed[m] + n) }) s
  | .spread => forEach allRegions (fun m => modStg fun x => { x with hbmUsed := x.hbmUsed.set m (x.hbmUsed[m] + ceilDiv n 4) }) s
  | .media m => modStg (fun x => { x with portUsed := x.portUsed.set m (x.portUsed[m] + n) }) s

/-- The power state is being left, or nothing runs in it (R277). -/
def stgAsleep (s : State) : Bool := s.stg.power == 2

/-- The command's data effect, its entry released, and its completion (R264, R267, R272). `sourceOk`: the source could
be read. -/
def finishIo (id : Nat) (k : IoKind) (n : NvmeCmd) (sourceOk : Bool) (s : State) : State :=
  let t := releaseWard id s
  match k with
  | .read =>
    if !sourceOk then
      endNvme n stUnrecovered 0 (ioLba n) (raise0 0x59 (modStg (fun x => { x with readErrors := bump x.readErrors }) t))
    else if n.nsid = 2 then answerNvme n (readNs2 s (4096 * ioLba n) (4096 * ioCount n)) t
    else
      let blocks := (List.range (ioCount n)).map fun i => ns1Lba s (ioLba n + i)
      if blocks.any Option.isNone then endNvme n stUnwritten 0 (ioLba n) t
      else answerNvme n (blocks.flatMap fun b => b.getD []) t
  | .write =>
    if moveOk n t then endNvme n 0 0 0 (writeNs2 (4096 * ioLba n) (slice n.data 0 (4096 * ioCount n)) t)
    else endNvme n stTransfer 0 0 (hostFailed t)
  | .zeroes | .deallocate | .format =>
    endNvme n 0 0 0 (forEach (ioRanges k n s) (fun r => zeroNs2 (4096 * r.lba) (4096 * r.count)) t)

/-- Bytes a command moves. -/
def ioBytes (k : IoKind) (n : NvmeCmd) : Nat :=
  match k with
  | .read | .write => 4096 * ioCount n
  | _ => 0

/-- The command moves what this tick's rate allows, and ends when all has moved; a media clip's data is read from its
drive first (R264, R279). -/
def moveIo (id : Nat) (k : IoKind) (n : NvmeCmd) (sourceOk : Bool) (s : State) : State :=
  match wardOf s id with
  | none => s
  | some w =>
    let p := pacePool n s
    let now := Min.min w.left (paceLeft p s)
    let t := paceUse p now (modWard id (fun w => { w with left := w.left - now, waits := 2 }) s)
    if now < w.left then t
    else if !sourceOk then finishIo id k n false t
    else match p with
      | .media m => drive m (.read id) (modWard id (fun w => { w with waits := 1 }) t)
      | _ => finishIo id k n true t

/-- An I/O command runs: its checks, its entries, then its data (R268, R269, R271). -/
def runIo (k : IoKind) (n : NvmeCmd) (s : State) : State :=
  let st := ioStatus k n s
  if st ≠ 0 then
    let t := if st = stReadOnlyRange then modStg (fun x => { x with refused := bump x.refused }) s
      else if st = stTransfer then hostFailed s else s
    endNvme n st 0 0 t
  else
    let (t, id) := enterWard (.host k n) (ioRanges k n s) s
    let t := modWard id (fun w => { w with left := ioBytes k n }) t
    if wardReady t id then moveIo id k n true t else t

/-- An I/O command is fetched; in power state 2 it waits for the exit latency (R277). -/
def ioNvme (k : IoKind) (n : NvmeCmd) (s : State) : State :=
  if n.sq = 0 || !fetchable n s then s
  else
    let t := fetchNvme n s
    if stgAsleep t then
      modStg (fun x => { x with waking := x.waking ++ [(k, n)] }) t
    else runIo k n t

/-- WARD_ENTRY_GRANTED: the entries a user waited for have been released and it touches its data (R269). -/
def wardEntryGranted (id : Nat) (sourceOk : Bool) (s : State) : State :=
  match wardOf s id with
  | none => s
  | some w =>
    if !wardReady s id || w.waits ≠ 0 then s
    else match w.user with
      | .host k n => moveIo id k n sourceOk s
      | .directory => releaseWard id (syncDirectory s)
      | .job .. => s

/-- STG_RATE_RELEASE: paced commands go on in a new tick (R279). -/
def stgRateRelease (s : State) : State :=
  forEach (s.stg.ward.filter fun w => w.waits == 2) (fun w t => match w.user with
    | .host k n => moveIo w.id k n true t
    | _ => t) s

/-- MEDIA_CMD_COMPLETE: the oldest outstanding drive command ends (R245, R249, R264). -/
def mediaCmdComplete (p : Fin 2) (ok : Bool) (s : State) : State :=
  match s.media[p].outstanding with
  | [] => s
  | u :: rest =>
    let t := modMedia p (fun x => { x with outstanding := rest }) s
    match u with
    | .read id => match wardOf t id with
      | some w => match w.user with
        | .host k n => if w.waits = 1 then finishIo id k n ok t else t
        | _ => t
      | none => t
    | u => if ok then mediaDone p u t else mediaFailed u t

/-- A lost port fails the Reads that wait for its drive (R253, R264). -/
def failMediaReads (p : Fin 2) (s : State) : State :=
  forEach s.media[p].outstanding (fun u t => match u with
    | .read id => match wardOf t id with
      | some w => match w.user with
        | .host k n => if w.waits = 1 then finishIo id k n false t else t
        | _ => t
      | none => t
    | _ => t) s

/-! ## Controller reset and fatal conditions (R257, R273) -/

/-- A controller-fatal condition (R273): CFS, source 0x58. -/
def stgFatal (cause : Nat) (s : State) : State :=
  if s.stg.cfs || !ccEn s then s
  else stgState (raise0 0x58 (dropHostWork (modStg (fun x => { x with
    cfs := true, fatal := cause, fatals := bump x.fatals }) s)))

/-- CSTS.RDY once START_COMPLETE has been posted and the controller is not the suspect part (R257). -/
def stgReady (s : State) : State :=
  if ccEn s && !s.stg.rdy && !s.stg.suspect && (s.boot.step == .complete) then
    stgState (modStg (fun x => { x with rdy := true, cfs := false }) s)
  else s

/-- The admin queues as AQA, ASQ and ACQ describe them (R256). -/
def adminQueues (x : Storage) : SubQueue × CplQueue :=
  ({ id := 0, size := x.aqa.toNat % 4096 + 1, base := x.asq.toNat, cq := 0, cls := 0 },
   { id := 0, size := x.aqa.toNat / 2 ^ 16 % 4096 + 1, base := x.acq.toNat, vector := some 0 })

/-- NVME_CC_ENABLE: CC.EN set, the admin queues in place, the directory rebuilt, RDY (R257, R263). -/
def nvmeCcEnable (s : State) : State :=
  if ccEn s then s
  else
    let (a, b) := adminQueues s.stg
    stgReady (rebuildDirectory (modStg (fun x => { x with cc := x.cc ||| 1, sqs := [a], cqs := [b] }) s))

/-- NVME_CC_DISABLE: the controller resets, every I/O queue is deleted, CFS cleared unless it is the suspect part
(R257, R273). -/
def nvmeCcDisable (s : State) : State :=
  if !ccEn s then s
  else stgState (modStg (fun x => { x with
    cc := x.cc &&& ~~~1, rdy := false, cfs := x.suspect, shst := 0, sqs := [], cqs := [], aers := [], asyncDue := []
    asyncMasked := [], entering := none, power := 0, lastPower := 0, fatal := 0, arbitration := 0, coalescing := 0
    vectorCd := [], asyncCfg := 0 }) (dropHostWork s))

/-- WARD_TIMEOUT: a host command that has held its entry for over 1 s (R273). -/
def wardTimeout (id : Nat) (s : State) : State :=
  match wardOf s id with
  | some w => match w.user with
    | .host .. => if w.taken then stgFatal 3 s else s
    | _ => s
  | none => s

/-! ## Doorbells -/

/-- A submission tail doorbell (R256, R260). -/
def nvmeSqTail (q tail : Nat) (s : State) : State :=
  if !stgUp s then s
  else modStg (fun x => { x with sqs := x.sqs.map fun y => if y.id = q ∧ tail < y.size then { y with tail := tail } else y }) s

/-- A completion head doorbell (R256, R260). -/
def nvmeCqHead (q head : Nat) (s : State) : State :=
  if !stgUp s then s
  else flushCpl (modStg (fun x => { x with cqs := x.cqs.map fun y => if y.id = q ∧ head < y.size then { y with head := head } else y }) s)

/-! ## Admin commands (R258, R259, R275 to R278) -/

/-- The host address of a queue to be created. -/
def queueBase (n : NvmeCmd) : Nat := (n.pages.headD 0).toNat

/-- Queue identifier of a create or delete command. -/
def queueId (n : NvmeCmd) : Nat := n.cdw10.toNat % 2 ^ 16

/-- Entries of a queue to be created. -/
def queueSize (n : NvmeCmd) : Nat := n.cdw10.toNat / 2 ^ 16 + 1

/-- Create I/O Completion Queue. -/
def createCq (n : NvmeCmd) (s : State) : State :=
  let id := queueId n
  let v := n.cdw11.toNat / 2 ^ 16
  if id = 0 || 64 < id || s.stg.cqs.any (fun q => q.id == id) then endNvme n stQueueId 0 0 s
  else if queueSize n < 2 || 1024 < queueSize n then endNvme n stQueueSize 0 0 s
  else if !n.cdw11.getLsbD 0 || 64 < v || queueBase n % 4096 != 0 then endNvme n stInvalidField 0 0 s
  else endNvme n 0 0 0 (modStg (fun x => { x with cqs := x.cqs ++
    [{ id := id, size := queueSize n, base := queueBase n, vector := if n.cdw11.getLsbD 1 then some v else none }] }) s)

/-- Create I/O Submission Queue. -/
def createSq (n : NvmeCmd) (s : State) : State :=
  let id := queueId n
  let cq := n.cdw11.toNat / 2 ^ 16
  if id = 0 || 64 < id || s.stg.sqs.any (fun q => q.id == id) || cq = 0 || !(s.stg.cqs.any fun q => q.id == cq) then
    endNvme n stQueueId 0 0 s
  else if queueSize n < 2 || 1024 < queueSize n then endNvme n stQueueSize 0 0 s
  else if !n.cdw11.getLsbD 0 || queueBase n % 4096 != 0 then endNvme n stInvalidField 0 0 s
  else endNvme n 0 0 0 (modStg (fun x => { x with sqs := x.sqs ++
    [{ id := id, size := queueSize n, base := queueBase n, cq := cq, cls := n.cdw11.toNat / 2 % 4 }] }) s)

/-- Delete I/O Submission Queue: its executing commands end with Command Aborted due to SQ Deletion (R272). -/
def deleteSq (n : NvmeCmd) (s : State) : State :=
  let id := queueId n
  if id = 0 || !(s.stg.sqs.any fun q => q.id == id) then endNvme n stQueueId 0 0 s
  else
    let mine := fun m : NvmeCmd => m.sq.val == id
    let t := forEach s.stg.ward (fun w t => match w.user with
      | .host _ m => if mine m then endNvme m stSqDeleted 0 0 (releaseWard w.id t) else t
      | _ => t) s
    let t := forEach (s.stg.waking.filter fun w => mine w.2) (fun w t => endNvme w.2 stSqDeleted 0 0 t) t
    endNvme n 0 0 0 (modStg (fun x => { x with
      waking := x.waking.filter fun w => !mine w.2, sqs := x.sqs.filter fun q => q.id != id }) t)

/-- Delete I/O Completion Queue: refused while a submission queue uses it. -/
def deleteCq (n : NvmeCmd) (s : State) : State :=
  let id := queueId n
  if id = 0 || !(s.stg.cqs.any fun q => q.id == id) then endNvme n stQueueId 0 0 s
  else if s.stg.sqs.any fun q => q.cq == id then endNvme n stQueueDeletion 0 0 s
  else endNvme n 0 0 0 (modStg (fun x => { x with
    cqs := x.cqs.filter fun q => q.id != id, heldCpl := x.heldCpl.filter fun h => h.1 != id }) s)

/-- A structure of `size` bytes whose unstated bytes are free, with the pieces given (log 38). -/
def openImage (which size : Nat) (pieces : List (Nat × List Byte)) : List Byte :=
  pieces.foldl (fun l p => overlay l p.1 p.2) ((List.range size).map fun i => Config.nvmeByte which i)

/-- Identify Controller (R255, R259, R277). -/
def identifyController : List Byte :=
  openImage 1 4096 [put 0 2 0x1F5A, put 77 1 9, put 256 2 2, put 258 1 3, put 259 1 3, put 263 1 2, put 512 1 0x66,
    put 513 1 0x44, put 516 4 2, put 520 2 0xC, put 525 1 0, put 2048 2 612, put 2052 4 0, put 2056 4 0, put 2080 2 431,
    put 2084 4 10, put 2088 4 10, put 2112 2 250, put 2115 1 2, put 2116 4 200, put 2120 4 500]

/-- Identify Namespace: 4,096-byte LBAs, one format, no metadata (R259). -/
def identifyNamespace (nsid size : Nat) : List Byte :=
  openImage (2 + nsid) 4096 [put 0 8 size, put 8 8 size, put 25 1 0, put 26 1 0, put 29 1 0, put 128 4 0xC0000]

/-- The active namespace list above an identifier. -/
def namespaceList (s : State) (nsid : Nat) : List Byte :=
  slice (([1, 2].filter fun n => nsid < n && (namespaceSize s n).isSome).flatMap (leBytes 4)) 0 4096

/-- Identify (R258, R259). -/
def identify (n : NvmeCmd) (s : State) : State :=
  let nsid := n.nsid.toNat
  match n.cdw10.toNat % 256 with
  | 0 => match namespaceSize s nsid with
    | some size => answerNvme n (identifyNamespace nsid size) s
    | none => endNvme n stNamespace 0 0 s
  | 1 => answerNvme n identifyController s
  | 2 => answerNvme n (namespaceList s nsid) s
  | 3 => match namespaceSize s nsid with
    | some _ => answerNvme n (openImage (8 + nsid) 4096 []) s
    | none => endNvme n stNamespace 0 0 s
  | _ => endNvme n stInvalidField 0 0 s

/-- An error information log entry in the NVMe format (R272, STG_READ_ERROR_LOG). -/
def NvmeError.bytes (x : NvmeError) : List Byte :=
  image 64 [put 0 8 x.count, put 8 2 x.sq, put 10 2 x.cid.toNat, put 12 2 (2 * x.status), put 14 2 0xFFFF, put 16 8 x.lba,
    put 24 4 x.nsid.toNat]

/-- The SMART / health page: the composite temperature in kelvin, the rest free (R258, log 38). -/
def smartPage (s : State) : List Byte :=
  let hot := s.thermal.readings.toList.foldl (fun m r => match r with | some v => Max.max m v | none => m) (-320 : Int)
  openImage 16 512 [put 1 2 ((hot / 8 + 273).toNat)]

/-- A log page (R258, R276). -/
def logPage (s : State) (lid : Nat) : Option (List Byte) :=
  if lid = 1 then some (slice (s.stg.errors.flatMap NvmeError.bytes) 0 4096)
  else if lid = 2 then some (smartPage s)
  else if lid = 0xC0 then some (image 16 [put 0 8 s.stg.generation, put 8 4 (clipsPresent s), put 12 4 s.stg.leftOut])
  else none

/-- The event type whose log a page is (R276). -/
def eventOfPage (lid : Nat) : Nat := if lid = 1 then 0 else if lid = 2 then 1 else 7

/-- Get Log Page: its dwords from its offset; reading it clears the event (R276). -/
def getLogPage (n : NvmeCmd) (s : State) : State :=
  let lid := n.cdw10.toNat % 256
  match logPage s lid with
  | none => endNvme n stLogPage 0 0 s
  | some page =>
    let size := 4 * (n.cdw10.toNat / 2 ^ 16 + 2 ^ 16 * (n.cdw11.toNat % 2 ^ 16) + 1)
    let off := n.cdw12.toNat + 2 ^ 32 * n.cdw13.toNat
    answerNvme n (slice page off (Min.min size (page.length - off)))
      (modStg (fun x => { x with asyncMasked := x.asyncMasked.filter fun k => k != eventOfPage lid }) s)

/-- Asynchronous Event Request: queued, up to four; one due is reported at once (R272, R276). -/
def asyncRequest (n : NvmeCmd) (s : State) : State :=
  match s.stg.asyncDue with
  | (k, i, p) :: rest => postCqe n 0 (k + 2 ^ 8 * i + 2 ^ 16 * p) (modStg (fun x => { x with asyncDue := rest }) s)
  | [] =>
    if 4 ≤ s.stg.aers.length then endNvme n stAsyncLimit 0 0 s
    else modStg (fun x => { x with aers := x.aers ++ [n] }) s

/-- Set Features (R258, R278). -/
def setFeatures (n : NvmeCmd) (s : State) : State :=
  let v := n.cdw11
  match n.cdw10.toNat % 256 with
  | 0x01 => endNvme n 0 0 0 (modStg (fun x => { x with arbitration := v }) s)
  | 0x02 =>
    let p := v.toNat % 32
    if 2 < p then endNvme n stInvalidField 0 0 s
    else if s.stg.power < p then modStg (fun x => { x with entering := some (p, n) }) s
    else
      let t := modStg (fun x => { x with power := p, lastPower := if p < 2 then p else x.lastPower, entering := none }) s
      endNvme n 0 0 0 (if s.stg.power = p then t else stgState t)
  | 0x07 => endNvme n 0 0x003F003F 0 s
  | 0x08 => endNvme n 0 0 0 (modStg (fun x => { x with coalescing := v }) s)
  | 0x09 =>
    let i := v.toNat % 2 ^ 16
    if 64 < i then endNvme n stInvalidField 0 0 s
    else endNvme n 0 0 0 (modStg (fun x => { x with
      vectorCd := if v.getLsbD 16 then i :: x.vectorCd.filter (· != i) else x.vectorCd.filter (· != i) }) s)
  | 0x0B => endNvme n 0 0 0 (modStg (fun x => { x with asyncCfg := v }) s)
  | _ => endNvme n stInvalidField 0 0 s

/-- Get Features (R258, R278). -/
def getFeatures (n : NvmeCmd) (s : State) : State :=
  let x := s.stg
  match n.cdw10.toNat % 256 with
  | 0x01 => endNvme n 0 x.arbitration.toNat 0 s
  | 0x02 => endNvme n 0 (match x.entering with | some (p, _) => p | none => x.power) 0 s
  | 0x07 => endNvme n 0 0x003F003F 0 s
  | 0x08 => endNvme n 0 x.coalescing.toNat 0 s
  | 0x09 =>
    let i := n.cdw11.toNat % 2 ^ 16
    if 64 < i then endNvme n stInvalidField 0 0 s else endNvme n 0 (i + 2 ^ 16 * bit (x.vectorCd.contains i)) 0 s
  | 0x0B => endNvme n 0 x.asyncCfg.toNat 0 s
  | _ => endNvme n stInvalidField 0 0 s

/-- POWER_STATE_ENTRY_DONE: the state is reached after every executing command, and the Set Features ends (R278). -/
def powerStateEntryDone (s : State) : State :=
  match s.stg.entering with
  | none => s
  | some (p, n) =>
    if executing12 s ≠ 0 then s
    else endNvme n 0 0 0 (stgState (modStg (fun x => { x with
      entering := none, power := p, lastPower := if p < 2 then p else x.lastPower }) s))

/-- NVME_POWER_STATE_EXIT: the exit latency has passed and the waiting commands run (R277). -/
def nvmePowerStateExit (s : State) : State :=
  if s.stg.power ≠ 2 || s.stg.waking.isEmpty then s
  else
    let t := stgState (modStg (fun x => { x with power := x.lastPower, waking := [] }) s)
    forEach s.stg.waking (fun w => runIo w.1 w.2) t

/-! ## STG_ commands and RAW_BIND_PIXEL_TABLE -/

/-- Namespace 2 with a new size and place, reading as zero (R267). -/
def withScratch (e : Entry) (s : State) : State :=
  { modStg (fun x => { x with scratchStack := ⟨arg e 0 1 % 4, Nat.mod_lt _ (by decide)⟩, scratch := arg e 8 8 }) s with ns2 := [] }

/-- STG_SET_SCRATCH, 0x0A01. -/
def stgSetScratchSpec : Spec where
  opcode := 0x0A01
  len := .exact 16
  fields := fun _ s => [range 0 1 0 (if s.mem.interleaved then 0 else 3), rsv 1 7,
    ⟨8, 8, fun v => v == 0 || (2 ^ 26 ≤ v && v ≤ 2 ^ 35 && v % 2 ^ 26 == 0)⟩]
  states := fun _ s => firstFail [(ccEn s, wrong 0xC), (pixelBound s, wrong 7)]
  tumbler := fun e s => budgetOf s (withScratch e s)
  flags := true
  effect := fun e s => .reply (withScratch e s) { detail := arg e 8 8 / 4096 }

/-- STG_SET_RATES, 0x0A02. -/
def stgSetRatesSpec : Spec where
  opcode := 0x0A02
  deadbolt := true
  len := .exact 32
  bank := true
  fields := fun _ _ => [range 0 4 1 64000, range 4 4 1 64000, range 8 4 1 64000, range 12 4 1 64000, range 16 4 0 16000,
    range 20 4 0 16000, rsv 24 8]
  tumbler := fun e s => budgetFail s [.rates ([0, 4, 8, 12].map fun o => arg e o 4) [arg e 16 4, arg e 20 4]]
  effect := fun e s => .arm s [.rates ([0, 4, 8, 12].map fun o => arg e o 4) [arg e 16 4, arg e 20 4]] none 0

/-- STG_GET_STATUS, 0x0A03. -/
def stgGetStatusSpec : Spec where
  opcode := 0x0A03
  len := .exact 64
  noInline := true
  deadbolt := true
  fields := fun _ _ => [range 0 1 0 1, rsv 1 7]
  effect := fun e s =>
    let x := s.stg
    .reply (if arg e 0 1 = 1 then modStg (fun x => { x with wardWaits := 0, refused := 0, readErrors := 0, fatals := 0 }) s else s)
      { detail := cstsReg s
        back := some (8, (image 64 [put 8 1 x.power, put 9 1 (x.sqs.filter fun q => q.id != 0).length,
          put 10 2 (wardShared s + (wardFrontEnd s).length), put 12 4 (executing12 s), put 16 8 x.generation,
          put 24 4 x.leftOut, put 28 4 x.wardWaits.toNat, put 32 4 x.refused.toNat, put 36 4 x.readErrors.toNat,
          put 40 4 x.fatals.toNat]).drop 8) }

/-- STG_READ_ERROR_LOG, 0x0A04. -/
def stgReadErrorLogSpec : Spec where
  opcode := 0x0A04
  len := .exact 4112
  noInline := true
  deadbolt := true
  effect := fun _ s => .reply s
    { detail := s.stg.errors.length
      back := some (0, image 16 [put 0 4 s.stg.errors.length, put 4 4 s.stg.fatal] ++
        slice (s.stg.errors.flatMap NvmeError.bytes) 0 4096) }

/-- LBAs a RAW_BIND_PIXEL_TABLE payload binds. -/
def bindLbas (e : Entry) : Nat := ceilDiv (2 * arg e 8 4 * arg e 12 4) 4096

/-- The change RAW_BIND_PIXEL_TABLE makes. -/
def bindChange (e : Entry) : Change :=
  let b : Option PixelBind := if arg e 3 1 = 1 then some ⟨arg e 4 2, arg e 8 4, arg e 12 4, arg e 16 8⟩ else none
  if arg e 2 1 = 1 then .flat (argCtx e) b else .dark (argCtx e) ⟨arg e 1 1 % 4, Nat.mod_lt _ (by decide)⟩ b

/-- RAW_BIND_PIXEL_TABLE, 0x0405. -/
def rawBindPixelTableSpec : Spec where
  opcode := 0x0405
  len := .exact 32
  bank := true
  fields := fun e s => [ctxField, range 1 1 0 (if arg e 2 1 = 1 then 0 else 3), range 2 1 0 1, range 3 1 0 1,
    range 4 2 0 (if arg e 2 1 = 1 then 0 else 65535), rsv 6 2, range 8 4 64 65532, range 12 4 16 65535,
    ⟨16, 8, fun v => arg e 3 1 == 0 || v + bindLbas e ≤ s.stg.scratch / 4096⟩, rsv 24 8]
  states := fun e s =>
    let r : WardRange := ⟨2, arg e 16 8, bindLbas e, false⟩
    (freeFail s (argCtx e)).or
      (if arg e 3 1 = 1 && s.stg.ward.any (fun w => w.taken && w.ranges.any fun x => x.write && x.overlaps r) then
        some ⟨.busyRetry, Config.openDetail 0x0405 0x8005⟩ else none)
  touches := fun e _ => [argCtx e]
  tumbler := fun e s => budgetFail s [bindChange e]
  effect := fun e s => .arm s [bindChange e] (some (argCtx e)) (if arg e 3 1 = 1 then bindLbas e else 0)

/-! ## Rows -/

/-- STG_SET_SCRATCH. -/
def execStgSetScratch (e : Entry) (s : State) : Host.Outcome State Fault Refusal := .next (runCommand stgSetScratchSpec e s)
/-- STG_SET_RATES. -/
def execStgSetRates (e : Entry) (s : State) : Host.Outcome State Fault Refusal := .next (runCommand stgSetRatesSpec e s)
/-- STG_GET_STATUS. -/
def execStgGetStatus (e : Entry) (s : State) : Host.Outcome State Fault Refusal := .next (runCommand stgGetStatusSpec e s)
/-- STG_READ_ERROR_LOG. -/
def execStgReadErrorLog (e : Entry) (s : State) : Host.Outcome State Fault Refusal :=
  .next (runCommand stgReadErrorLogSpec e s)
/-- RAW_BIND_PIXEL_TABLE. -/
def execRawBindPixelTable (e : Entry) (s : State) : Host.Outcome State Fault Refusal :=
  .next (runCommand rawBindPixelTableSpec e s)
/-- MEDIA_CMD_COMPLETE. -/
def execMediaCmdComplete (p : Fin 2) (ok : Bool) (s : State) : Host.Outcome State Fault Refusal :=
  .next (mediaCmdComplete p ok s)
/-- MEDIA_CMD_TIMEOUT. -/
def execMediaCmdTimeout (p : Fin 2) (s : State) : Host.Outcome State Fault Refusal :=
  .next (if s.media[p].outstanding.isEmpty then s else mediaLost p (failMediaReads p s))
/-- MEDIA_LINK_DOWN. -/
def execMediaLinkDown (p : Fin 2) (s : State) : Host.Outcome State Fault Refusal :=
  .next (mediaLost p (failMediaReads p s))
/-- DIRECTORY_CHANGE. -/
def execDirectoryChange (s : State) : Host.Outcome State Fault Refusal := .next (directoryChange s)
/-- NVME_CC_ENABLE. -/
def execNvmeCcEnable (s : State) : Host.Outcome State Fault Refusal := .next (nvmeCcEnable s)
/-- NVME_CC_DISABLE. -/
def execNvmeCcDisable (s : State) : Host.Outcome State Fault Refusal := .next (nvmeCcDisable s)
/-- NVME_SQ_TAIL_DOORBELL. -/
def execNvmeSqTailDoorbell (q : Fin 65) (tail : Nat) (s : State) : Host.Outcome State Fault Refusal :=
  .next (nvmeSqTail q.val tail s)
/-- CREATE_IO_SUBMISSION_QUEUE. -/
def execCreateIoSubmissionQueue (n : NvmeCmd) (s : State) : Host.Outcome State Fault Refusal :=
  .next (adminNvme n (createSq n) s)
/-- CREATE_IO_COMPLETION_QUEUE. -/
def execCreateIoCompletionQueue (n : NvmeCmd) (s : State) : Host.Outcome State Fault Refusal :=
  .next (adminNvme n (createCq n) s)
/-- DELETE_IO_SUBMISSION_QUEUE. -/
def execDeleteIoSubmissionQueue (n : NvmeCmd) (s : State) : Host.Outcome State Fault Refusal :=
  .next (adminNvme n (deleteSq n) s)
/-- DELETE_IO_COMPLETION_QUEUE. -/
def execDeleteIoCompletionQueue (n : NvmeCmd) (s : State) : Host.Outcome State Fault Refusal :=
  .next (adminNvme n (deleteCq n) s)
/-- GET_LOG_PAGE. -/
def execGetLogPage (n : NvmeCmd) (s : State) : Host.Outcome State Fault Refusal := .next (adminNvme n (getLogPage n) s)
/-- IDENTIFY. -/
def execIdentify (n : NvmeCmd) (s : State) : Host.Outcome State Fault Refusal := .next (adminNvme n (identify n) s)
/-- ABORT: never aborts (R275). -/
def execAbort (n : NvmeCmd) (s : State) : Host.Outcome State Fault Refusal := .next (adminNvme n (endNvme n 0 1 0) s)
/-- SET_FEATURES. -/
def execSetFeatures (n : NvmeCmd) (s : State) : Host.Outcome State Fault Refusal := .next (adminNvme n (setFeatures n) s)
/-- GET_FEATURES. -/
def execGetFeatures (n : NvmeCmd) (s : State) : Host.Outcome State Fault Refusal := .next (adminNvme n (getFeatures n) s)
/-- ASYNCHRONOUS_EVENT_REQUEST. -/
def execAsynchronousEventRequest (n : NvmeCmd) (s : State) : Host.Outcome State Fault Refusal :=
  .next (adminNvme n (asyncRequest n) s)
/-- FORMAT_NVM. -/
def execFormatNvm (n : NvmeCmd) (s : State) : Host.Outcome State Fault Refusal := .next (adminNvme n (runIo .format n) s)
/-- FLUSH: completes at once (R258). -/
def execFlush (n : NvmeCmd) (s : State) : Host.Outcome State Fault Refusal :=
  .next (if n.sq ≠ 0 && fetchable n s then
    endNvme n (if (namespaceSize s n.nsid.toNat).isSome || n.nsid = BitVec.allOnes 32 then 0 else stNamespace) 0 0 (fetchNvme n s)
    else s)
/-- WRITE. -/
def execWrite (n : NvmeCmd) (s : State) : Host.Outcome State Fault Refusal := .next (ioNvme .write n s)
/-- READ. -/
def execRead (n : NvmeCmd) (s : State) : Host.Outcome State Fault Refusal := .next (ioNvme .read n s)
/-- WRITE_ZEROES. -/
def execWriteZeroes (n : NvmeCmd) (s : State) : Host.Outcome State Fault Refusal := .next (ioNvme .zeroes n s)
/-- DATASET_MANAGEMENT. -/
def execDatasetManagement (n : NvmeCmd) (s : State) : Host.Outcome State Fault Refusal := .next (ioNvme .deallocate n s)
/-- WARD_ENTRY_GRANTED. -/
def execWardEntryGranted (user : Nat) (sourceOk : Bool) (s : State) : Host.Outcome State Fault Refusal :=
  .next (wardEntryGranted user sourceOk s)
/-- WARD_TIMEOUT. -/
def execWardTimeout (user : Nat) (s : State) : Host.Outcome State Fault Refusal := .next (wardTimeout user s)
/-- CONTROLLER_FATAL. -/
def execControllerFatal (cause : FatalCause) (s : State) : Host.Outcome State Fault Refusal :=
  .next (stgFatal (match cause with | .queueState => 1 | .wardTable => 2) s)
/-- POWER_STATE_ENTRY_DONE. -/
def execPowerStateEntryDone (s : State) : Host.Outcome State Fault Refusal := .next (powerStateEntryDone s)
/-- NVME_POWER_STATE_EXIT. -/
def execNvmePowerStateExit (s : State) : Host.Outcome State Fault Refusal := .next (nvmePowerStateExit s)
/-- STG_RATE_RELEASE. -/
def execStgRateRelease (s : State) : Host.Outcome State Fault Refusal := .next (stgRateRelease s)

end Sys2Proof.Machine
end

