-- ==== Sys2Proof/Machine/Hasp.lean ====
section
/-!
DEFINITION. Hasp: hasp links (18 R364 to R368), broadcasts and workers (R369 to R371), forwarding, arming and events (R372 to
R374), split contexts (R375 to R378, R194), loss (R380, R381), and the HASP_ commands.
-/

namespace Sys2Proof.Machine

/-- The hasp state changed by `f`. -/
def modHasp (f : Hasp → Hasp) (s : State) : State := { s with hasp := f s.hasp }

/-- Hasp port `p` changed by `f`. -/
def modLink (p : Fin 2) (f : HaspPort → HaspPort) (s : State) : State :=
  modHasp (fun h => { h with ports := h.ports.set p (f h.ports[p]) }) s

/-- Worker `w` changed by `f`. -/
def modWorker (w : Fin 8) (f : Worker → Worker) (s : State) : State :=
  modHasp (fun h => { h with workers := h.workers.set w (f h.workers[w]) }) s

/-- The package stands alone (R365). -/
def standalone (s : State) : Bool := !isManager s && !isWorker s

/-- The ports that are UP. -/
def upPorts (s : State) : List (Fin 2) := [0, 1].filter fun p : Fin 2 => s.hasp.ports[p].state == .up

/-! ## Links (R366, R368) -/

/-- HASP_LINK_STATE (R366). -/
def postLink (p : Fin 2) (s : State) : State :=
  let x := s.hasp.ports[p]
  post 0x1080 none 0 (p.val + 2 ^ 8 * x.state.code + 2 ^ 16 * x.neighbour.getD 0xFF) s

/-- HASP_LINK_ADVANCE: the port meets its state's condition (R366). An index that is this package's own is refused (R365). -/
def haspLinkAdvance (p : Fin 2) (n : Fin 8) (hop : Nat) (s : State) : State :=
  let x := s.hasp.ports[p]
  if !x.enabled || x.failed || blockDown s (0x60 + p.val) then s
  else match x.state with
    | .off => if !standalone s then modLink p (fun x => { x with state := .train }) s else s
    | .train => modLink p (fun x => { x with state := .align }) s
    | .align =>
      if n.val = ownPackage s then
        post 0x1081 none 0 (n.val + 2 ^ 8 + 2 ^ 16 * 3) (modLink p (fun x => { x with state := .train, failed := true }) s)
      else modLink p (fun x => { x with state := .calibrate, neighbour := some n.val }) s
    | .calibrate => postLink p (modLink p (fun x => { x with state := .up, hop := hop }) s)
    | .up => s

/-- A port fails and waits for its retry; from UP it leaves with HASP_LINK_STATE (R364, R366). -/
def haspFail (p : Fin 2) (s : State) : State :=
  let x := s.hasp.ports[p]
  if x.state = .off then s
  else when (x.state == .up) (postLink p) (modLink p (fun x => { x with state := .train, failed := true }) s)

/-- HASP_STATE_TIMEOUT. -/
def haspStateTimeout (p : Fin 2) (s : State) : State := if s.hasp.ports[p].failed then s else haspFail p s

/-- HASP_RETRY_TIMER: 100 ms after the failure the port trains again (R366). -/
def haspRetryTimer (p : Fin 2) (s : State) : State := modLink p (fun x => { x with failed := false }) s

/-- HASP_CALIBRATION: the hop delay measured anew, the asymmetry added (R368). -/
def haspCalibration (p : Fin 2) (roundTrip turnaround : Nat) (s : State) : State :=
  let x := s.hasp.ports[p]
  if x.state = .up ∨ x.state = .calibrate then
    modLink p (fun x => { x with hop := ((roundTrip : Int) - turnaround) / 2 + x.asymmetry }) s
  else s

/-! ## Broadcasts (R369 to R371) -/

/-- A queued doorbell word as it was written (R51). -/
def doorbellWord (d : Doorbell) : BitVec 32 :=
  BitVec.ofNat 32 (d.action + 2 ^ 4 * d.ctx.val + 2 ^ 8 * d.arg + 2 ^ 16 * d.seq.toNat)

/-- The broadcast of the coming hinge (R369, R373). -/
def nextBroadcast (s : State) : Broadcast :=
  let h := nextHinge s
  let t := timeNow s + 5000
  { tick := h, seconds := t / 1000000000, nanoseconds := t % 1000000000, lead := 5000000
    holdover := s.tick.state != .locked, deadbolt := inDeadbolt s
    armId := match s.hasp.commit with | some (x, id) => if x = h then id else 0 | none => 0
    doorbells := (s.tick.queue.filter fun d => d.action != 4 && s.contexts[d.ctx].live.split.isSome).map doorbellWord }

/-- HINGE_BROADCAST_TX: the manager sends it out of every UP port (R369). -/
def hingeBroadcastTx (s : State) : State :=
  if !isManager s || !s.tick.running then s
  else
    let b := nextBroadcast s
    forEach (upPorts s) (fun p => emit (.broadcast p b)) s

/-- The manager's state as last posted changes: HASP_MANAGER_STATE (R381). -/
def setManager (n : Nat) (s : State) : State :=
  if s.hasp.manager = n then s else post 0x1083 none 0 n (modHasp (fun h => { h with manager := n }) s)

/-- The first broadcast: the worker joins, its counter and time take the manager's, and START_COMPLETE is posted (R370). -/
def joinManager (b : Broadcast) (lead : Nat) (s : State) : State :=
  let d : Int := ((b.seconds * 1000000000 + b.nanoseconds) * 2 ^ 32 : Nat) - ((s.time.now + lead * 2 ^ 32 / 1000 : Nat) : Int)
  let t := modTick (fun g => { g with
    running := true, live := { g.live with source := 7 }, counter := BitVec.ofNat 64 b.tick, hinges := 0 }) s
  stgReady (announceStart (stepTime d (modHasp (fun h => { h with joined := true }) t)))

/-- A commit this worker holds pending is carried: its hold set is armed for the hinge (R373). -/
def commitHeld (h : Nat) (s : State) : State :=
  let items := match s.cmd.hold with | some x => x.items | none => []
  dropHold (forEach items (fun x => armAt h x.seq x.changes) s)

/-- The arm id a broadcast carries, or misses (R373). -/
def applyCommit (b : Broadcast) (s : State) : State :=
  match s.hasp.pendingArm with
  | none => s
  | some (id, h) =>
    if b.armId = id then commitHeld b.tick (modHasp (fun x => { x with pendingArm := none, applied := id, commitMissed := false }) s)
    else if h ≤ b.tick then modHasp (fun x => { x with pendingArm := none, commitMissed := true }) s
    else s

/-- The hinge a broadcast places, and what it does to the worker's generator (R369, R371). -/
def placeHinge (at_ : Int) (s : State) : State :=
  if s.tick.state = .locked then modTick (fun g => { noteEdge at_ g with next := at_ }) s else edgeAt at_ s

/-- HINGE_BROADCAST_RX: the first valid copy counts; a lead below 1.5 µs lets no package join (R369). -/
def hingeBroadcastRx (p : Fin 2) (b : Broadcast) (s : State) : State :=
  let x := s.hasp.ports[p]
  let lead := ((b.lead : Int) - x.hop).toNat
  if !isWorker s || x.state ≠ .up || (match s.hasp.broadcast with | some o => o.tick == b.tick | none => false)
      || (!s.hasp.joined && s.boot.step != .joining) then s
  else if !s.hasp.joined && lead < 1500000 then post 0x1081 none 0 (ownPackage s + 2 ^ 8 + 2 ^ 16 * 4) s
  else
    let q : Fin 2 := if p = 0 then 1 else 0
    let sent := { b with lead := lead - Config.freeValue s.free % (lead + 1) }
    let t := { s with free := s.free + 1 }
    let t := when (t.hasp.ports[q].state == .up) (emit (.broadcast q sent)) t
    let t := if t.hasp.joined then slew t else joinManager b lead t
    let t := modHasp (fun h => { h with broadcast := some b, lead := lead, managerHeld := b.holdover }) t
    let t := setManager (if b.deadbolt then 2 else 0) t
    forEach b.doorbells doorbellWrite (applyCommit b (placeHinge (nowPs s + lead) t))

/-- HASP_MANAGER_LOST (R381). -/
def haspManagerLost (s : State) : State := if isWorker s then setManager 1 (enterHoldover 5 s) else s

/-! ## Workers (R372 to R374, R380) -/

/-- HASP_WORKER_STATE. -/
def postWorker (w : Fin 8) (st reason : Nat) (s : State) : State :=
  post 0x1081 none 0 (w.val + 2 ^ 8 * st + 2 ^ 16 * reason) s

/-- The HASP_ARM in execution ends without a commit: every named hold set is discarded (HASP_ARM). -/
def cancelArm (s : State) : State :=
  match s.hasp.arm with
  | none => s
  | some a =>
    let t := modHasp (fun h => { h with arm := none, commit := none }) s
    let t := forEach (List.finRange 8) (fun w => when (w.val != 0 && a.mask.testBit w.val)
      (fun u => sendHasp 6 w.val 0 (5 + 2 ^ 32 * a.id) [] (modWorker w (fun y => { y with held := 0 }) u))) t
    endExecution a.mb { status := .timeout, detail := Config.openDetail 0x1004 0x800C } (when (a.mask.testBit 0) dropHold t)

/-- A worker is lost, or reports deadbolt (R380). -/
def loseWorker (w : Fin 8) (st : Nat) (s : State) : State :=
  let x := s.hasp.workers[w]
  if !x.joined then s
  else
    let t := modWorker w (fun y => { y with joined := false, forward := none, held := 0, barred := true }) s
    let t := match x.forward with
      | some f => if f.timedOut then t
        else endExecution f.entry.mb { status := .timeout, detail := Config.openDetail 0x1003 0x800C } t
      | none => t
    let named := match t.hasp.arm with | some a => a.mask.testBit w.val | none => false
    postWorker w st 0 (when named cancelArm t)

/-- HASP_WORKER_LOST: two consecutive heartbeats are missing (R380). -/
def haspWorkerLost (w : Fin 8) (s : State) : State := if isManager s then loseWorker w 1 s else s

/-- HASP_HEARTBEAT_RX: the manager learns the worker's state; an index not joined joins (R374, R380). -/
def haspHeartbeatRx (w : Fin 8) (b : Heartbeat) (s : State) : State :=
  if !isManager s || w = 0 then s
  else
    let fresh := !s.hasp.workers[w].joined && !b.deadbolt
    let t := modWorker w (fun y => { y with beat := some b, joined := y.joined || fresh }) s
    let t := when fresh (postWorker w 0 0) t
    let t := when b.commitMissed (postWorker w 0 5) t
    if b.deadbolt then loseWorker w 2 t else t

/-- The status of a code (R80). -/
def statusOf (v : BitVec 16) : Status :=
  ([.ok, .accepted, .okLate, .unknownOpcode, .badLength, .outOfRange, .wrongState, .busyRetry, .noResource, .overBudget,
    .notPermitted, .conflict, .hwFault, .authFail, .timeout].find? fun x => x.code == v).getD .hwFault

/-- HASP_WORKER_EVENTS. -/
def postWorkerEvents (w : Fin 8) (n : Nat) (s : State) : State := post 0x1082 none 0 (w.val + 2 ^ 8 * n) s

/-- The held commands of a worker after a completion: HOLD commands it accepted (R373). -/
def heldBy (e : Entry) (x : WorkerCompletion) : Nat :=
  bit ((fieldAt (payload e) 12 2).testBit 0 && x.status.toNat < 0x8000)

/-- HASP_FORWARD_COMPLETION: the manager's completion mirrors the worker's; one that comes after the timeout is discarded
(R372, HASP_FORWARD). -/
def haspForwardCompletion (w : Fin 8) (x : WorkerCompletion) (s : State) : State :=
  match s.hasp.workers[w].forward with
  | none => s
  | some f =>
    let t := modWorker w (fun y => { y with forward := none, held := y.held + heldBy f.entry x }) s
    if f.timedOut then postWorkerEvents w t.hasp.workers[w].added t
    else
      let t := if x.payload.isEmpty then t else writeBack f.entry 72 x.payload t
      let t := modMb f.entry.mb (fun b => { b with executing := b.executing.map fun y => { y with ctx := x.ctx } }) t
      endExecution f.entry.mb { status := statusOf x.status, detail := x.detail.toNat, frame := x.frame.toNat, ctx := x.ctx } t

/-- HASP_FORWARD_TIMEOUT: 2 s without the worker's completion; the command stays outstanding there (HASP_FORWARD). -/
def haspForwardTimeout (w : Fin 8) (s : State) : State :=
  match s.hasp.workers[w].forward with
  | none => s
  | some f =>
    if f.timedOut then s
    else endExecution f.entry.mb { status := .timeout, detail := Config.openDetail 0x1003 0x800C }
      (modWorker w (fun y => { y with forward := some { f with timedOut := true } }) s)

/-- The first hinge at or after `h` whose guard opens 100 µs or more from now (R373). -/
def meetable (s : State) (h : Nat) : Nat :=
  let guard := fun n : Nat => s.tick.next + ((n : Int) - nextHinge s) * s.tick.period - 1000000
  let h0 := Max.max h (reachable s)
  let p : Int := Max.max 1 s.tick.period
  let short := nowPs s + 100000000 - guard h0
  if short ≤ 0 then h0 else h0 + ((short + p - 1) / p).toNat

/-- Every named worker has confirmed: the manager arms its own set, and the hinge's broadcast is to carry the arm id; a target
missed moves (R373). -/
def finishArm (a : ArmRun) (s : State) : State :=
  let h := meetable s a.target
  let t := modHasp (fun x => { x with arm := none, commit := some (h, a.id) }) s
  let t := when (a.mask.testBit 0) (commitHeld h) t
  let t := forEach (List.finRange 8) (fun w => when (a.mask.testBit w.val)
    (modWorker w fun y => { y with held := 0, barred := false })) t
  endExecution a.mb { status := if h = a.target then .accepted else .okLate, frame := h % 2 ^ 48
                      detail := Config.openDetail 0x1004 1 } t

/-- HASP_ARM_CONFIRM (R373). -/
def haspArmConfirm (w : Fin 8) (s : State) : State :=
  match s.hasp.arm with
  | none => s
  | some a =>
    if !a.waiting.contains w then s
    else
      let a := { a with waiting := a.waiting.erase w }
      let t := modHasp (fun h => { h with arm := some a }) s
      if a.waiting.isEmpty then finishArm a t else t

/-! ## Messages (R367, R372 to R378; class data as in log 56) -/

/-- The entry in 64 bytes, with its payload (R69). -/
def entryOf (m : MbId) (b data : List Byte) : Entry :=
  { mb := m, tag := BitVec.ofNat 16 (fieldAt b 2 2), flags := BitVec.ofNat 16 (fieldAt b 4 2)
    rsv6 := BitVec.ofNat 16 (fieldAt b 6 2), len := BitVec.ofNat 32 (fieldAt b 8 4), rsv12 := BitVec.ofNat 32 (fieldAt b 12 4)
    loc := BitVec.ofNat 64 (fieldAt b 16 8), inl := slice b 24 40, data := data }

/-- A forwarded command arrives: its payload goes to offset 0 of the arena of mailbox 5, and its entry into the ring (R372). -/
def deliverForward (b : List Byte) (s : State) : State :=
  let data := b.drop 64
  let e := entryOf 5 b data
  let e := { e with flags := (e.flags &&& 0xFFF9#16) ||| 2, loc := 0 }
  modMb 5 (fun x => { x with
    arena := writeCells x.arena 0 data, expected := x.expected ++ [(fieldAt b 0 2, e)], cmdTail := x.cmdTail + 1
    delivered := data.length }) s

/-- An event entry in 32 bytes (R72). -/
def eventOf (b : List Byte) : EventEntry :=
  { code := BitVec.ofNat 16 (fieldAt b 0 2), ctx := BitVec.ofNat 8 (fieldAt b 2 1), seq := BitVec.ofNat 32 (fieldAt b 4 4)
    tick := BitVec.ofNat 64 (fieldAt b 8 8), frame := BitVec.ofNat 48 (fieldAt b 16 6), detail := BitVec.ofNat 64 (fieldAt b 24 8) }

/-- A worker's event enters its relay ring; the oldest is overwritten when it is full (R374). -/
def relayEvent (w : Fin 8) (x : EventEntry) (s : State) : State :=
  modWorker w (fun y => { y with
    relay := (if 128 ≤ y.relay.length then y.relay.drop 1 else y.relay) ++ [x]
    lost := if 128 ≤ y.relay.length then bump y.lost else y.lost
    added := y.added + 1 }) s

/-- The bands a payload of HASP_SET_SPLIT declares. -/
def splitOf (b : List Byte) : Option Split :=
  let n := fieldAt b 1 1
  if n = 0 then none
  else some ⟨(List.range n).map fun i => (fieldAt b (8 + 4 * i) 2, fieldAt b (10 + 4 * i) 1), BitVec.ofNat 4 (fieldAt b 2 1)⟩

/-- A halo row, or the row means of another band, enters the frame of its interval (R376, R377). -/
def receiveHalo (m : HaspMessage) (s : State) : State :=
  let d := m.classData.toNat
  let c : CtxId := ⟨d % 8, Nat.mod_lt _ (by decide)⟩
  let cap : Fin 4 := ⟨d / 2 ^ 8 % 4, Nat.mod_lt _ (by decide)⟩
  let y := d / 2 ^ 16 % 2 ^ 16
  let present := (List.range 8).filter fun i => (d / 2 ^ 40).testBit i
  let row := fun f : Frame =>
    if f.phase == .developing || f.phase == .developed || f.phase == .dropped || f.bank.split.isNone || ownRow s f.bank y then f
    else if d.testBit 32 then
      { f with means := f.means ++ present.zipIdx.map fun x => (cap.val, x.1, y, signed 32 (fieldAt m.payload (4 * x.2) 4)) }
    else if f.rows.any (fun r => r.cap == cap && r.line == y) then f
    else { f with rows := f.rows ++ [⟨cap, y, unpackSamples f.bank.source.w m.payload⟩] }
  modCtx c (modFrame m.tick row) s

/-- A command message (class 6), by its kind. -/
def receiveCommand (m : HaspMessage) (s : State) : State :=
  let d := m.classData.toNat
  let kind := d % 2 ^ 8
  if isWorker s then
    if kind = 0 then deliverForward m.payload s
    else if kind = 3 then
      sendHasp 6 0 m.tick (4 + 2 ^ 32 * (d / 2 ^ 32)) [] (modHasp (fun h => { h with pendingArm := some (d / 2 ^ 32, m.tick) }) s)
    else if kind = 5 then dropHold (modHasp (fun h => { h with pendingArm := none }) s)
    else if kind = 6 then
      let c : CtxId := ⟨fieldAt m.payload 0 1 % 8, Nat.mod_lt _ (by decide)⟩
      armAt (reachable s) (nextSeq s.cmd.accepted).toNat [.split c (splitOf m.payload)] s
    else s
  else if kind = 2 then relayEvent ⟨m.source % 8, Nat.mod_lt _ (by decide)⟩ (eventOf m.payload) s
  else s

/-- A message for this package, by its class; broadcasts, calibration, heartbeats and completions have rows of their own. -/
def consumeMessage (m : HaspMessage) (s : State) : State :=
  let d := m.classData.toNat
  let c : CtxId := ⟨d % 8, Nat.mod_lt _ (by decide)⟩
  if m.cls = 3 then receiveHalo m s
  else if m.cls = 4 ∨ m.cls = 5 then
    let x : SplitPart := ⟨c, m.tick, m.source, m.cls, (d / 2 ^ 8 % 2 ^ 8, d / 2 ^ 16 % 2 ^ 16, d / 2 ^ 32), m.payload⟩
    if s.hasp.workers[(⟨m.source % 8, Nat.mod_lt _ (by decide)⟩ : Fin 8)].barred then s
    else modHasp (fun h => { h with parts := h.parts ++ [x] }) s
  else if m.cls = 6 then receiveCommand m s
  else s

/-- HASP_MESSAGE_RX: checked, forwarded or consumed (R367). -/
def haspMessageRx (p : Fin 2) (m : HaspMessage) (s : State) : State :=
  if s.hasp.ports[p].state ≠ .up then s
  else if !m.headerOk || !m.payloadOk then
    modHasp (fun h => { h with
      crcFailures := bump h.crcFailures
      resends := if m.headerOk && 3 ≤ m.cls && m.cls ≤ 6 then bump h.resends else h.resends }) s
  else
    let q : Fin 2 := if p = 0 then 1 else 0
    let own := m.dest == ownPackage s
    let t := when (!own && s.hasp.ports[q].state == .up) (emit (.hasp q m)) s
    if own || m.dest == 0xFF then consumeMessage m t else t

/-! ## Split contexts (R194, R376 to R378) -/

/-- Rows within 16 of a band's interior boundaries that other packages send (R376). -/
def haloRows (s : State) (b : Bank) : List Nat :=
  let r := ownRows s b
  (List.range 16).flatMap fun i => (if i < r.1 then [r.1 - 1 - i] else []) ++ (if r.2 + i < b.source.h then [r.2 + i] else [])

/-- A landed frame lacks a halo row (R376). -/
def haloMissing (s : State) (f : Frame) : Bool :=
  f.bank.split.isSome && (List.range (captures f.bank)).any fun k =>
    (haloRows s f.bank).any fun y => !f.rows.any fun r => r.cap.val == k && r.line == y

/-- Payload in messages of at most 4,096 bytes (R367). -/
def sendParts (cls dest tick data : Nat) (bytes : List Byte) (s : State) : State :=
  let n := ceilDiv bytes.length 4096
  forEach (List.range n) (fun i =>
    sendHasp cls dest tick (data + 2 ^ 32 * i + 2 ^ 48 * n) (slice bytes (4096 * i) (Min.min 4096 (bytes.length - 4096 * i)))) s

/-- The row means of the package's band go to every other package of the split (R377). -/
def sendMeans (c : CtxId) (f : Frame) (s : State) : State :=
  match f.bank.split with
  | none => s
  | some k =>
    let r := ownRows s f.bank
    let rows := (List.range (r.2 - r.1)).map (· + r.1)
    forEach ((k.bands.map Prod.snd).filter fun w => w != ownPackage s) (fun w =>
      forEach (List.range (captures f.bank)) (fun cap => forEach rows (fun y t =>
        let l := (List.range 8).filterMap fun ch => (rowMean s f cap ch y).map fun m => (ch, m)
        if l.isEmpty then t
        else sendHasp 3 w f.tick (c.val + 2 ^ 8 * cap + 2 ^ 16 * y + 2 ^ 32 + 2 ^ 40 * (l.map fun x => 2 ^ x.1).sum)
          (l.flatMap fun x => leInt 4 x.2) t))) s

/-- Source row of output row `o` of a grade (R178). -/
def sourceRow (h : Nat) (g : Grade) (o : Nat) : Nat :=
  let d := ceilDiv h g.dv * g.dv
  (((2 * o + 1) * d : Int) - g.ho * g.dv).toNat / (2 * g.ho)

/-- The packed rows of a grade buffer, with the output row each belongs to (R180). -/
def gradeRows (g : Grade) (bytes : List Byte) : List (Nat × List Byte) :=
  let sizes := (componentRows g fun _ _ => (zero, zero, zero)).map fun r => ceilDiv (g.depth * r.length) 8
  (sizes.zipIdx.foldl (fun (a : Nat × List (Nat × List Byte)) x =>
    (a.1 + x.1, a.2 ++ [(if x.2 < g.ho then x.2 else 2 * (x.2 - g.ho), slice bytes a.1 x.1)])) (0, [])).2

/-- The rows of one grade that lie in the package's band go to the manager (R378). -/
def sendGradeRows (c : CtxId) (b : Bank) (tick : Nat) (i : GradeImage) (s : State) : State :=
  let g := b.grades[i.grade]
  forEach (gradeRows g i.bytes).zipIdx (fun x t =>
    if ownRow s b (sourceRow b.source.h g x.1.1) then
      sendParts 4 0 tick (c.val + 2 ^ 8 * i.grade.val + 2 ^ 16 * x.2) x.1.2 t
    else t) s

/-- A worker sends the rows of its band of the assembled grades, and its partial, to the manager (R194, R378). -/
def sendBand (c : CtxId) (r : PassResult) (s : State) : State :=
  match r.frame.bank.split with
  | none => s
  | some k =>
    if !isWorker s || r.frame.phase = .dropped then s
    else
      sendParts 5 0 r.frame.tick c.val r.record.bytes
        (forEach (r.grades.filter fun i => k.assembled.getLsbD i.grade.val) (sendGradeRows c r.frame.bank r.frame.tick) s)

/-- The parts of one transfer, joined, once all have arrived. -/
def joined (s : State) (c : CtxId) (tick source cls grade row : Nat) : Option (List Byte) :=
  let l := s.hasp.parts.filter fun x =>
    x.ctx == c && x.tick == tick && x.source == source && x.cls == cls && x.place.1 == grade && x.place.2.1 == row
  match l.head? with
  | none => none
  | some x =>
    let n := x.place.2.2 / 2 ^ 16
    let ps := (List.range n).map fun i => (l.find? fun y => y.place.2.2 % 2 ^ 16 == i).map SplitPart.bytes
    if ps.all Option.isSome then some (ps.flatMap fun p => p.getD []) else none

/-- A zone entry of a record's bytes (R190). -/
def zoneOf (b : List Byte) (o : Nat) : Zone :=
  ⟨(signed 48 (fieldAt b o 6), signed 48 (fieldAt b (o + 6) 6), signed 48 (fieldAt b (o + 12) 6)),
   (fieldAt b (o + 18) 4, fieldAt b (o + 22) 4, fieldAt b (o + 26) 4), fieldAt b (o + 30) 4, fieldAt b (o + 34) 4⟩

/-- Two zone entries added; the focus figure saturates (R194). -/
def addZone (a b : Zone) : Zone :=
  ⟨(a.sums.1 + b.sums.1, a.sums.2.1 + b.sums.2.1, a.sums.2.2 + b.sums.2.2),
   (a.valid.1 + b.valid.1, a.valid.2.1 + b.valid.2.1, a.valid.2.2 + b.valid.2.2), a.clipped + b.clipped,
   Min.min (a.focus + b.focus) 0xFFFFFFFF⟩

/-- A record with a worker's partial added (R194). -/
def addPartial (w : Nat) (p : List Byte) (r : StatRecord) : StatRecord :=
  { r with
    marks := r.marks ||| BitVec.ofNat 16 (fieldAt p 4 2), workers := r.workers ||| BitVec.ofNat 8 (2 ^ w)
    valid := r.valid + fieldAt p 32 4, invalid := r.invalid + fieldAt p 36 4
    bins := r.bins.zipIdx.map fun x => x.1 + fieldAt p (64 + 4 * x.2) 4
    zones := r.zones.zipIdx.map fun x => addZone x.1 (zoneOf p (16448 + 40 * x.2)) }

/-- The workers that hold a band. -/
def bandWorkers (k : Split) : List Nat := (k.bands.map Prod.snd).filter fun w => w != 0

/-- The manager's record of a split frame: every partial that has arrived is added, and a missing one marks the record
(R194). -/
def mergeRecord (s : State) (c : CtxId) (k : Split) (r : StatRecord) : StatRecord :=
  (bandWorkers k).foldl (fun r w =>
    match joined s c r.tick.toNat w 5 0 0 with
    | some p => addPartial w p r
    | none => { r with marks := setMark r.marks .workerGap }) { r with flags := r.flags ||| 8 }

/-- An assembled grade on the manager: rows of other bands as they arrived, else E′ = 0; and whether any is missing (R378). -/
def assemble (s : State) (c : CtxId) (k : Split) (f : Frame) (i : GradeImage) : GradeImage × Bool :=
  let b := f.bank
  let g := b.grades[i.grade]
  let black := (componentRows g fun _ _ => (zero, zero, zero)).map (packRow g.depth)
  let rows := (gradeRows g i.bytes).zipIdx.map fun x =>
    let y := sourceRow b.source.h g x.1.1
    if ownRow s b y then (x.1.2, false)
    else match (bandWorkers k).findSome? fun w => joined s c f.tick w 4 i.grade.val x.2 with
      | some l => (l, false)
      | none => (black.getD x.2 [], true)
  ({ i with bytes := rows.flatMap Prod.fst }, rows.any Prod.snd)

/-- A split frame's results as they go live on the manager (R194, R378). -/
def mergeResult (c : CtxId) (r : PassResult) (s : State) : State × PassResult :=
  match r.frame.bank.split with
  | none => (s, r)
  | some k =>
    if !isManager s || r.frame.phase = .dropped then (s, r)
    else
      let imgs := r.grades.map fun i => if k.assembled.getLsbD i.grade.val then assemble s c k r.frame i else (i, false)
      let rec' := mergeRecord s c k r.record
      let rec' := if imgs.any Prod.snd then { rec' with marks := setMark rec'.marks .workerGap } else rec'
      let put := fun j : GradeImage => match imgs.find? fun i => i.1.grade == j.grade && i.1.frame == j.frame with
        | some i => { j with bytes := i.1.bytes, marks := rec'.marks }
        | none => j
      let t := modCtx c (fun x => { x with buffers := x.buffers.map put }) s
      (modHasp (fun h => { h with parts := h.parts.filter fun x => x.ctx != c || r.frame.tick < x.tick }) t,
       { r with record := rec', grades := imgs.map Prod.fst, frame := { r.frame with marks := rec'.marks } })

/-- The hasp side of the guard: a worker without its broadcast enters holdover with cause 5 (R371); landed frames short of
halo rows are marked (R376); row means, grade rows and partials leave (R377, R378). -/
def haspGuard (s : State) : State :=
  let h := nextHinge s
  let absent := isWorker s && s.hasp.joined && !(match s.hasp.broadcast with | some b => b.tick == h | none => false)
  let t := if absent then enterHoldover 5 (modHasp (fun x => { x with missed := bump x.missed }) s) else s
  forEach allCtx (fun c t =>
    let now := t.tick.counter.toNat
    let landed := t.contexts[c].frames.filter fun f => f.phase == .landed && f.landedIn == now
    let mark := fun f : Frame => f.markIf (f.phase == .landed && f.landedIn == now && haloMissing t f) .workerGap
    let u := forEach landed (sendMeans c) (modCtx c (fun x => { x with frames := x.frames.map mark }) t)
    forEach (u.contexts[c].results.filter fun r => r.hinge == h) (sendBand c) u) t

/-- The hasp side of hinge `h`: a worker's heartbeat; the relay rings that gained entries are announced (R374). -/
def haspHinge (h : Nat) (s : State) : State :=
  let t := when (isWorker s && s.hasp.joined) (fun s =>
    modHasp (fun x => { x with commitMissed := false }) (emit (.heartbeat
      { tick := h, state := s.devState, holdover := s.tick.state != .locked, deadbolt := inDeadbolt s, armId := s.hasp.applied
        commitMissed := s.hasp.commitMissed }) s)) s
  forEach (List.finRange 8) (fun w t => let n := t.hasp.workers[w].added
    if n = 0 then t else postWorkerEvents w (Min.min n 255) (modWorker w (fun y => { y with added := 0 }) t)) t

/-! ## Commands -/

/-- On a standalone package, and for some commands on a worker, not permitted. -/
def managerOnly (_ : Entry) (s : State) : Bool := isManager s

/-- The worker at offset 0. -/
def argWorker (e : Entry) : Fin 8 := ⟨arg e 0 1 % 8, Nat.mod_lt _ (by decide)⟩

/-- A worker that has not joined (HASP_ commands). -/
def notJoined (s : State) (w : Nat) : Bool := w ≠ 0 && !s.hasp.workers[(⟨w % 8, Nat.mod_lt _ (by decide)⟩ : Fin 8)].joined

/-- HASP_PORT_CONFIG, 0x1001. -/
def haspPortConfigSpec : Spec where
  opcode := 0x1001
  len := .exact 8
  permitted := fun _ s => !standalone s
  fields := fun _ _ => [range 0 1 0 1, range 1 1 0 1, rsv 2 2, ⟨4, 4, fun v => decide ((signed 32 v).natAbs ≤ 100000)⟩]
  effect := fun e s =>
    let p : Fin 2 := ⟨arg e 0 1 % 2, Nat.mod_lt _ (by decide)⟩
    let t := modLink p (fun x => { x with enabled := arg e 1 1 == 1, asymmetry := signed 32 (arg e 4 4) }) s
    let off := fun t => modLink p (fun x => { x with state := .off, failed := false, neighbour := none })
      (when (s.hasp.ports[p].state == .up) (fun t => postLink p (modLink p (fun x => { x with state := .off }) t)) t)
    .reply (if arg e 1 1 = 0 then off t else t) {}

/-- The mask of joined workers, bit 0 for the manager. -/
def joinedMask (s : State) : Nat := 1 + maskOf 8 fun i => i ≠ 0 && !notJoined s i

/-- HASP_GET_STATUS, 0x1002. -/
def haspGetStatusSpec : Spec where
  opcode := 0x1002
  len := .exact 64
  noInline := true
  deadbolt := true
  permitted := fun _ s => !standalone s
  fields := fun _ _ => [range 0 1 0 1, rsv 1 7]
  effect := fun e s =>
    let x := s.hasp
    let port := fun p : Fin 2 => image 8 [put 0 1 x.ports[p].state.code, put 1 1 (x.ports[p].neighbour.getD 0xFF),
      (4, leInt 4 x.ports[p].hop)]
    let clear := fun h : Hasp => { h with crcFailures := 0, resends := 0, missed := 0 }
    .reply (if arg e 0 1 = 1 then modHasp clear s else s)
      { detail := joinedMask s, back := some (8, port 0 ++ port 1 ++ image 40 [put 0 4 x.crcFailures.toNat,
        put 4 4 x.resends.toNat, put 8 4 x.missed.toNat, put 12 4 x.lead, put 16 1 (bit ((upPorts s).length == 2))]) }

/-- HASP_FORWARD, 0x1003. -/
def haspForwardSpec : Spec where
  opcode := 0x1003
  len := .counted fun b => 72 + Min.min (2 ^ 20) (fieldAt b 16 4)
  noInline := true
  permitted := managerOnly
  fields := fun _ _ => [range 0 1 1 7, rsv 1 7, ⟨12, 2, fun v => v / 2 % 4 ≤ 1⟩, ⟨16, 4, fun v => v ≤ 2 ^ 20⟩]
  states := fun e s =>
    if notJoined s (arg e 0 1) then some (wrong 0x15)
    else if (s.hasp.workers[argWorker e].forward).isSome then some ⟨.busyRetry, Config.openDetail 0x1003 0x8005⟩
    else none
  effect := fun e s =>
    let w := argWorker e
    .execute (sendParts 6 w.val 0 0 ((payload e).drop 8) (modWorker w (fun y => { y with forward := some { entry := e } }) s)) none

/-- A named package's hold set is empty (HASP_ARM). -/
def holdEmpty (s : State) (mask : Nat) : Bool :=
  (mask.testBit 0 && s.cmd.hold.isNone)
    || (List.finRange 8).any fun w => w.val != 0 && mask.testBit w.val && s.hasp.workers[w].held == 0

/-- HASP_ARM, 0x1004. -/
def haspArmSpec : Spec where
  opcode := 0x1004
  len := .exact 16
  permitted := managerOnly
  fields := fun _ _ => [range 0 1 0 255, rsv 1 7, anyVal 8 8]
  states := fun e s =>
    if (List.range 8).any fun w => (arg e 0 1).testBit w && notJoined s w then some (wrong 0x15)
    else if holdEmpty s (arg e 0 1) then some (wrong (Config.openDetail 0x1004 0x8004))
    else none
  effect := fun e s =>
    let mask := arg e 0 1
    let id := s.hasp.armId + 1
    let target := if arg e 8 8 = 0 then meetable s 0 else arg e 8 8
    let named := (List.finRange 8).filter fun w => w.val != 0 && mask.testBit w.val
    let t := modHasp (fun h => { h with armId := id, arm := some ⟨e.mb, mask, target, id, named⟩ }) s
    .execute (forEach named (fun w => sendHasp 6 w.val target (3 + 2 ^ 32 * id) []) t) none

/-- The bands of a payload keep R375: from row 0, 256 rows or more each, boundaries at multiples of 256 and Ph, packages
distinct and known. -/
def bandsOk (h ph : Nat) (l : List (Nat × Nat)) : Bool :=
  (l.head?.map Prod.fst) == some 0 && (bandList h l).all (fun x => x.2.1 + 256 ≤ x.2.2)
    && l.all (fun x => x.1 % 256 == 0 && x.1 % ph == 0 && x.2 ≤ 7) && decide ((l.map Prod.snd).Nodup)

/-- HASP_SET_SPLIT, 0x1005. -/
def haspSetSplitSpec : Spec where
  opcode := 0x1005
  len := .counted fun b => 8 + 4 * fieldAt b 1 1
  bank := true
  permitted := managerOnly
  fields := fun e s =>
    let b := shadow s (argCtx e)
    let k := splitOf (payload e)
    [ctxField, ⟨1, 1, fun v => v == 0 || (2 ≤ v && v ≤ 8)⟩, range 2 1 0 15, rsv 3 5,
     ⟨8, 2, fun _ => match k with | some k => bandsOk b.source.h b.front.ph k.bands | none => true⟩]
      ++ (List.range (arg e 1 1)).map fun i => rsv (11 + 4 * i) 1
  states := fun e s => (freeFail s (argCtx e)).or
    (match splitOf (payload e) with
      | some k => if k.bands.any fun x => notJoined s x.2 then some (wrong 0x15) else none
      | none => none)
  tumbler := fun e s => budgetFail s [.split (argCtx e) (splitOf (payload e))]
  touches := fun e _ => [argCtx e]
  effect := fun e s =>
    let c := argCtx e
    let was := match (shadow s c).split with | some k => bandWorkers k | none => []
    let now := match splitOf (payload e) with | some k => bandWorkers k | none => []
    .arm (forEach (was ++ now).eraseDups (fun w => sendHasp 6 w 0 6 (payload e)) s) [.split c (splitOf (payload e))] (some c)
      (Config.openDetail 0x1005 1)

/-- HASP_READ_EVENTS, 0x1006. -/
def haspReadEventsSpec : Spec where
  opcode := 0x1006
  len := .exact 4104
  noInline := true
  deadbolt := true
  permitted := managerOnly
  fields := fun _ _ => [range 0 1 1 7]
  states := fun e s => if notJoined s (arg e 0 1) then some (wrong 0x15) else none
  effect := fun e s =>
    let x := s.hasp.workers[argWorker e]
    .reply (modWorker (argWorker e) (fun y => { y with relay := [] }) s)
      { detail := x.relay.length, back := some (4, leBytes 4 x.lost.toNat ++ x.relay.flatMap EventEntry.bytes) }

/-- HASP_PORT_CONFIG. -/
def execHaspPortConfig (e : Entry) (s : State) : Host.Outcome State Fault Refusal := .next (runCommand haspPortConfigSpec e s)
/-- HASP_GET_STATUS. -/
def execHaspGetStatus (e : Entry) (s : State) : Host.Outcome State Fault Refusal := .next (runCommand haspGetStatusSpec e s)
/-- HASP_FORWARD. -/
def execHaspForward (e : Entry) (s : State) : Host.Outcome State Fault Refusal := .next (runCommand haspForwardSpec e s)
/-- HASP_ARM: with no worker named, the manager's set is armed at once. -/
def execHaspArm (e : Entry) (s : State) : Host.Outcome State Fault Refusal :=
  let t := runCommand haspArmSpec e s
  .next (match t.hasp.arm with | some a => if a.waiting.isEmpty then finishArm a t else t | none => t)
/-- HASP_SET_SPLIT. -/
def execHaspSetSplit (e : Entry) (s : State) : Host.Outcome State Fault Refusal := .next (runCommand haspSetSplitSpec e s)
/-- HASP_READ_EVENTS. -/
def execHaspReadEvents (e : Entry) (s : State) : Host.Outcome State Fault Refusal := .next (runCommand haspReadEventsSpec e s)
/-- HASP_LINK_ADVANCE. -/
def execHaspLinkAdvance (p : Fin 2) (n : Fin 8) (hop : Nat) (s : State) : Host.Outcome State Fault Refusal :=
  .next (haspLinkAdvance p n hop s)
/-- HASP_STATE_TIMEOUT. -/
def execHaspStateTimeout (p : Fin 2) (s : State) : Host.Outcome State Fault Refusal := .next (haspStateTimeout p s)
/-- HASP_RETRY_TIMER. -/
def execHaspRetryTimer (p : Fin 2) (s : State) : Host.Outcome State Fault Refusal := .next (haspRetryTimer p s)
/-- HASP_CALIBRATION. -/
def execHaspCalibration (p : Fin 2) (roundTrip turnaround : Nat) (s : State) : Host.Outcome State Fault Refusal :=
  .next (haspCalibration p roundTrip turnaround s)
/-- HINGE_BROADCAST_TX. -/
def execHingeBroadcastTx (s : State) : Host.Outcome State Fault Refusal := .next (hingeBroadcastTx s)
/-- HINGE_BROADCAST_RX. -/
def execHingeBroadcastRx (p : Fin 2) (b : Broadcast) (s : State) : Host.Outcome State Fault Refusal :=
  .next (hingeBroadcastRx p b s)
/-- HASP_MESSAGE_RX. -/
def execHaspMessageRx (p : Fin 2) (m : HaspMessage) (s : State) : Host.Outcome State Fault Refusal := .next (haspMessageRx p m s)
/-- HASP_FORWARD_COMPLETION. -/
def execHaspForwardCompletion (w : Fin 8) (x : WorkerCompletion) (s : State) : Host.Outcome State Fault Refusal :=
  .next (haspForwardCompletion w x s)
/-- HASP_FORWARD_TIMEOUT. -/
def execHaspForwardTimeout (w : Fin 8) (s : State) : Host.Outcome State Fault Refusal := .next (haspForwardTimeout w s)
/-- HASP_ARM_CONFIRM. -/
def execHaspArmConfirm (w : Fin 8) (s : State) : Host.Outcome State Fault Refusal := .next (haspArmConfirm w s)
/-- HASP_HEARTBEAT_RX. -/
def execHaspHeartbeatRx (w : Fin 8) (b : Heartbeat) (s : State) : Host.Outcome State Fault Refusal := .next (haspHeartbeatRx w b s)
/-- HASP_WORKER_LOST. -/
def execHaspWorkerLost (w : Fin 8) (s : State) : Host.Outcome State Fault Refusal := .next (haspWorkerLost w s)
/-- HASP_MANAGER_LOST. -/
def execHaspManagerLost (s : State) : Host.Outcome State Fault Refusal := .next (haspManagerLost s)

end Sys2Proof.Machine
end

