-- ==== Sys2Proof/Machine/TwoWire.lean ====
section
/-!
DEFINITION. TwoWire: the two-wire target (23): transactions (R445 to R450), the window (R451, R452), mailbox 4 through it
(R453) and SYS_TWB_CONFIG (R454).
-/

namespace Sys2Proof.Machine

/-- The two-wire target changed by `f`. -/
def modTwb (f : Twb → Twb) (s : State) : State := { s with twb := f s.twb }

/-- The target answers: TIME-TWB is on, and the block is not held in reset (R445). -/
def twbOn (s : State) : Bool := !blockDown s 0x70

/-! ## The window (R451) -/

/-- MB4STATE. -/
def mb4State (s : State) : Nat := bit s.twb.busy + 2 * bit s.twb.valid + 4 * bit s.twb.refused + 8 * bit (served s 4)

/-- The event entry at the head of mailbox 4's ring, zero when empty. -/
def eventHead (b : Mailbox) : List Byte :=
  if b.evtHead = b.evtTail then List.replicate 32 0
  else (b.evt[b.evtHead.toNat]'(by have := b.evtHead.isLt; omega)).bytes

/-- The live window: write-only bytes read as zero (R447, R451). -/
def twbWindow (s : State) : List Byte :=
  image 256 [put 0x00 2 0x9480, put 0x02 1 0xB1, put 0x03 1 s.boot.strap, put 0x04 2 (cmdsetReg s).toNat,
    put 0x08 4 (fwVersionReg s).toNat, put 0x0C 1 0x01, put 0x10 4 (devStateReg s).toNat,
    put 0x14 4 (legacyWord s).toNat, (0x18, leInt 2 (maxTemp s)), put 0x1C 4 s.bar0.heartbeat.toNat,
    (0x20, s.twb.cmd), (0x60, s.twb.cpl), put 0x81 1 (mb4State s), put 0x84 4 s.twb.apbase,
    (0x90, readCells s.mailboxes[(4 : MbId)].arena s.twb.apbase 64), (0xD0, eventHead s.mailboxes[(4 : MbId)]),
    put 0xF1 1 (s.mailboxes[(4 : MbId)].evtTail - s.mailboxes[(4 : MbId)].evtHead).toNat]

/-! ## What a written byte does (R451 to R453) -/

/-- DOORBELL 0x01: CMD goes onto mailbox 4's command ring, or the doorbell is refused (R453). -/
def submit (s : State) : State :=
  if s.twb.busy || s.twb.valid || !served s 4 then modTwb (fun w => { w with refused := true }) s
  else
    modTwb (fun w => { w with busy := true, refused := false })
      (modMb 4 (fun b => { b with
        expected := b.expected ++ [(fieldAt s.twb.cmd 0 2, entryOf 4 s.twb.cmd [])]
        cmdTail := b.cmdTail + 1 }) s)

/-- DOORBELL 0x02: the completion is acknowledged, and its ring slot is free again (R453). -/
def ackCompletion (s : State) : State :=
  if s.twb.valid then
    modTwb (fun w => { w with valid := false }) (modMb 4 (fun b => { b with cplHead := b.cplTail }) s)
  else s

/-- EVTNEXT 0x01: the event head advances, unless the ring is empty (R451). -/
def nextEvent (s : State) : State :=
  modMb 4 (fun b => if b.evtHead = b.evtTail then b else { b with evtHead := b.evtHead + 1 }) s

/-- A byte of APBASE commits; with its last byte a valid value takes effect, and any other is ignored (R452). -/
def writeApbase (i : Nat) (v : Byte) (s : State) : State :=
  let staged := (i, v) :: s.twb.staged.filter fun x => x.1 != i
  if i = 3 then
    let n := leNat ((List.range 4).map fun j =>
      ((staged.find? fun x => x.1 == j).map Prod.snd).getD (BitVec.ofNat 8 (s.twb.apbase / 256 ^ j)))
    modTwb (fun w => { w with staged := [], apbase := if n % 64 = 0 ∧ n ≤ 2 ^ 20 - 64 then n else w.apbase }) s
  else modTwb (fun w => { w with staged := staged }) s

/-- A written byte commits at window offset `a`; one that may not be written is ignored (R447, R453). -/
def writeByte (a : Nat) (v : Byte) (s : State) : State :=
  if 0x20 ≤ a ∧ a < 0x60 then
    if s.twb.busy then s else modTwb (fun w => { w with cmd := w.cmd.set (a - 0x20) v }) s
  else if a = 0x80 then (if v = 0x01 then submit s else if v = 0x02 then ackCompletion s else s)
  else if 0x84 ≤ a ∧ a < 0x88 then writeApbase (a - 0x84) v s
  else if 0x90 ≤ a ∧ a < 0xD0 then writeArena 4 (s.twb.apbase + (a - 0x90)) [v] s
  else if a = 0xF0 ∧ v = 0x01 then nextEvent s
  else s

/-- A written byte commits at offset `a`, and the pointer stands behind it (R447). -/
def commitAt (a : Byte) (v : Byte) (s : State) : State :=
  if twbOn s then modTwb (fun w => { w with pointer := a + 1 }) (writeByte a.toNat v s) else s

/-! ## Transactions -/

/-- The whole window is copied for a read transaction (R447). -/
def takeSnapshot (s : State) : State := modTwb (fun w => { w with phase := .read, snapshot := twbWindow s }) s

/-- The address byte commits: the device acknowledges its own address only (R445). -/
def addressByte (v : Byte) (s : State) : State :=
  if v.toNat / 2 = s.boot.twoWire then
    emit (.twbAck true) (if v.getLsbD 0 then takeSnapshot s else modTwb (fun w => { w with phase := .pointer }) s)
  else emit (.twbAck false) (modTwb (fun w => { w with phase := .idle }) s)

/-- TWB_BYTE_COMMIT: a byte commits at the ninth clock (R447). -/
def byteCommit (wr : Bool) (v : Byte) (s : State) : State :=
  if !twbOn s then s
  else match s.twb.phase with
    | .idle => s
    | .address => addressByte v s
    | .pointer => if wr then emit (.twbAck true) (modTwb (fun w => { w with phase := .write, pointer := v }) s) else s
    | .write => if wr then emit (.twbAck true) (commitAt s.twb.pointer v s) else s
    | .read =>
      if wr then s
      else modTwb (fun w => { w with pointer := w.pointer + 1 }) (emit (.twbByte (s.twb.snapshot.getD s.twb.pointer.toNat 0)) s)

/-- TWB_START_STOP: the byte in progress is abandoned; after a START an address comes, with the filter that now applies
(R448, R454). -/
def startStop (start : Bool) (s : State) : State :=
  if !twbOn s then s
  else if start then modTwb (fun w => { w with phase := .address, filter := w.filterNext }) s
  else modTwb (fun w => { w with phase := .idle }) s

/-- TWB_SCL_TIMEOUT: SDA is released, the byte in progress abandoned, and a START awaited (R450). -/
def sclTimeout (s : State) : State :=
  if twbOn s then emit .twbRelease (modTwb (fun w => { w with phase := .idle }) s) else s

/-- SYS_TWB_CONFIG, 0x0114. -/
def sysTwbConfigSpec : Spec where
  opcode := 0x0114
  len := .exact 8
  deadbolt := true
  fields := fun _ _ => [range 0 1 0 31, rsv 1 7]
  effect := fun e s => .reply (modTwb (fun w => { w with filterNext := arg e 0 1 }) s) { detail := s.twb.filterNext }

/-! ## Meanings -/

/-- SYS_TWB_CONFIG. -/
def execSysTwbConfig (e : Entry) (s : State) : Host.Outcome State Fault Refusal := .next (runCommand sysTwbConfigSpec e s)
/-- TWB_BYTE_COMMIT. -/
def execTwbByteCommit (write : Bool) (value : Byte) (s : State) : Host.Outcome State Fault Refusal := .next (byteCommit write value s)
/-- TWB_READ_SNAPSHOT. -/
def execTwbReadSnapshot (s : State) : Host.Outcome State Fault Refusal := .next (if twbOn s then takeSnapshot s else s)
/-- TWB_SUBMIT: byte 0x01 commits at DOORBELL. -/
def execTwbSubmit (s : State) : Host.Outcome State Fault Refusal := .next (commitAt 0x80 0x01 s)
/-- TWB_ACK_COMPLETION: byte 0x02 commits at DOORBELL. -/
def execTwbAckCompletion (s : State) : Host.Outcome State Fault Refusal := .next (commitAt 0x80 0x02 s)
/-- TWB_EVENT_ADVANCE: byte 0x01 commits at EVTNEXT. -/
def execTwbEventAdvance (s : State) : Host.Outcome State Fault Refusal := .next (commitAt 0xF0 0x01 s)
/-- TWB_APBASE_COMMIT: the four bytes of APBASE commit, the last making the value take effect. -/
def execTwbApbaseCommit (value : BitVec 32) (s : State) : Host.Outcome State Fault Refusal :=
  .next (forEach [0, 1, 2, 3] (fun i => commitAt (BitVec.ofNat 8 (0x84 + i)) (BitVec.ofNat 8 (value.toNat / 256 ^ i))) s)
/-- TWB_APERTURE_WRITE: a byte commits in the aperture. -/
def execTwbApertureWrite (index : Fin 64) (value : Byte) (s : State) : Host.Outcome State Fault Refusal :=
  .next (commitAt (BitVec.ofNat 8 (0x90 + index.val)) value s)
/-- TWB_START_STOP. -/
def execTwbStartStop (start : Bool) (s : State) : Host.Outcome State Fault Refusal := .next (startStop start s)
/-- TWB_SCL_TIMEOUT. -/
def execTwbSclTimeout (s : State) : Host.Outcome State Fault Refusal := .next (sclTimeout s)

end Sys2Proof.Machine
end

