-- ==== Sys2Proof/Machine/Video.lean ====
section
/-!
DEFINITION. Video: the coding cores (13): encodes, the cap and fill mode (R283 to R291), decode sessions (R292 to R294),
core faults (R299), and the VC_ commands.
-/

namespace Sys2Proof.Machine

/-- The coding cores changed by `f`. -/
def modVc (f : Coders → Coders) (s : State) : State := { s with vc := f s.vc }

/-- The run of an encode changed by `f`. -/
def modRun (c : CtxId) (g : GradeId) (f : EncodeRun → EncodeRun) (s : State) : State :=
  modCtx c (fun x => { x with encodes := x.encodes.set g (f x.encodes[g]) }) s

/-! ## Encoding (R283, R284, R290, R291) -/

/-- Why a bank's encode is suspended: 3 the grade is disabled or bypassed, 2 its format is not accepted, else 0
(R291, R300). -/
def encodeReason (b : Bank) (off : BitVec 4) (g : GradeId) : Nat :=
  if !b.grades[g].on || off.getLsbD g.val then 3
  else if !profileOk b.encodes[g].profile b.grades[g] then 2
  else 0

/-- VC_STREAM_SUSPENDED (R300). -/
def streamSuspended (c : Option CtxId) (what reason : Nat) (s : State) : State :=
  post 0x0B82 c 0 (what % 2 ^ 8 + 2 ^ 8 * reason) s

/-- The live bank's encodes at a hinge: one VC_STREAM_SUSPENDED for each that its grade suspends (R291). -/
def checkEncodes (c : CtxId) (s : State) : State :=
  forEach allGrades (fun g t =>
    let x := t.contexts[c]
    let r := if x.live.encodes[g].on then encodeReason x.live x.gradesBypassed g else 0
    let t := modRun c g (fun y => { y with suspended := r }) t
    when (r != 0 && x.encodes[g].suspended == 0) (streamSuspended (some c) g.val r) t) s

/-- What fixes the coded video sequence of an encode (R291). -/
def sequenceKey (v : Encode) (g : Grade) : List Nat :=
  [v.profile, v.ctu, v.partition, v.tileCols, v.tileRows, v.cores, g.wo, g.ho, g.chroma, g.depth, g.encoding,
    g.coeff, bit g.full] ++ v.coreSet.map Fin.val

/-- Access-unit slots of an encode that are still held (R284). -/
def slotsHeldBy (s : State) (r : EncodeRun) : Nat :=
  r.coding.length + (r.held.filter fun a => s.media[a.1].outstanding.any fun u => match u with
    | .log x => x.kind == 5 && x.addr == a.2
    | _ => false).length

/-- The clip that takes the PICTURE records of grade `g` of a frame (R237). -/
def proxyClip (s : State) (c : CtxId) (g : GradeId) (f : Frame) : Option Nat :=
  match f.clip.bind (clipOf s c) with
  | some k => if k.cfg.proxy.getLsbD g.val then some k.id else none
  | none => none

/-- A picture that is due as an IDR picture (R290). -/
def idrNow (r : EncodeRun) (v : Encode) (key : List Nat) (asked : Bool) : Bool :=
  asked || r.idrDue || !r.started || r.sequence != key || (v.idrPeriod != 0 && v.idrPeriod ≤ r.sinceIdr + 1)

/-- The encoder starts a picture (R284, R290): its access unit takes a slot of the ring, and it reads the buffer. -/
def startCoding (c : CtxId) (g : GradeId) (f : Frame) (idr again : Bool) (s : State) : State :=
  let v := f.bank.encodes[g]
  let p : Coding := ⟨f.number, f.marks, idr, again, v, (f.bank.grades[g].wo, f.bank.grades[g].ho), f.bank.source.k, proxyClip s c g f⟩
  let t := modRun c g (fun r => { r with
    coding := r.coding ++ [p], started := true, sequence := sequenceKey v f.bank.grades[g], mode := v.mode
    debt := if r.started && r.mode == v.mode then r.debt else 0
    sinceIdr := if idr then 0 else r.sinceIdr + 1, idrDue := r.idrDue && !idr }) s
  if again then t
  else modCtx c (fun x => { x with buffers := x.buffers.map fun i =>
    if i.grade = g ∧ i.frame.toNat = f.number then { i with readers := i.readers ++ [.encoder] } else i }) t

/-- The IDR request of a frame without a coded picture moves on (R290). -/
def deferKey (c : CtxId) (g : GradeId) (f : Frame) (s : State) : State :=
  modRun c g (fun r => { r with idrDue := r.idrDue || f.keys.getLsbD g.val }) s

/-- A repeat or skipped picture is counted (R283, R284). -/
def countSkipped (s : State) : State := modVc (fun v => { v with skipped := bump v.skipped }) s

/-- The picture of grade `g` of a frame whose results go live (R283, R284). -/
def startPicture (c : CtxId) (g : GradeId) (r : PassResult) (s : State) : State :=
  let f := r.frame
  let v := f.bank.encodes[g]
  let run := s.contexts[c].encodes[g]
  if !v.on then modRun c g (fun y => { coding := y.coding, held := y.held, hostSlot := y.hostSlot }) s
  else if r.record.flags.getLsbD 2 || encodeReason f.bank f.gradesOff g != 0 || v.coreSet.isEmpty then deferKey c g f s
  else if 4 ≤ slotsHeldBy s run then
    countSkipped (modRun c g (fun y => { y with idrDue := true }) s)
  else if r.grades.any fun i => i.grade == g then
    startCoding c g f (idrNow run v (sequenceKey v f.bank.grades[g]) (f.keys.getLsbD g.val)) false s
  else if run.started then countSkipped (startCoding c g f false true (deferKey c g f s))
  else deferKey c g f s

/-- Every picture of a frame whose results go live. -/
def startPictures (c : CtxId) (r : PassResult) (s : State) : State := forEach allGrades (fun g => startPicture c g r) s

/-! ## The cap and fill mode (R288, R289) -/

/-- Coding of a picture's rows so far. -/
structure RowState where
  /-- bytes committed by partition -/
  sizes : List (Nat × Nat) := []
  /-- CTUs left by partition after its last row -/
  left : List (Nat × Nat) := []
  /-- partitions in fill mode -/
  filled : List Nat := []
  /-- first fill row -/
  first : Option Nat := none
  /-- counter of the free values -/
  free : Nat

/-- The entry of a partition. -/
def ofPart (l : List (Nat × Nat)) (j default : Nat) : Nat := ((l.find? fun a => a.1 == j).map Prod.snd).getD default

/-- The entry of a partition replaced. -/
def setPart (l : List (Nat × Nat)) (j v : Nat) : List (Nat × Nat) := (j, v) :: l.filter fun a => a.1 != j

/-- The row check, and the row committed or filled (R289). A filled row's size is any up to f bytes a CTU (log 46). -/
def codeRow (cap ctus f : Nat) (a : RowState) (r : RowCode) : RowState :=
  let done := ofPart a.sizes r.partition 0
  let share := cap * r.ctus / ctus
  let row := ofPart a.left r.partition r.ctus - r.after
  let a := { a with left := setPart a.left r.partition r.after }
  if a.filled.contains r.partition || share < done + r.size + f * r.after then
    { a with
      sizes := setPart a.sizes r.partition (done + Config.freeValue a.free % (f * row + 1)), free := a.free + 1
      filled := if a.filled.contains r.partition then a.filled else r.partition :: a.filled
      first := a.first.or (some r.row) }
  else { a with sizes := setPart a.sizes r.partition (done + r.size) }

/-- Bytes of an access unit: its rows and its headers, any up to the reserve (R289, log 46); its first fill row; the
counter left. -/
def accessUnit (p : Coding) (rows : List RowCode) (free : Nat) : Nat × Option Nat × Nat :=
  let reserve := headerReserve p.cfg p.size.2
  let f := if p.idr || (p.cfg.shape = 0 && !p.isRepeat) then 8 else 2
  let a := rows.foldl (codeRow (p.cfg.cMax - reserve) (ctuCount p.cfg p.size.1 p.size.2) f) { free := free + 1 }
  ((a.sizes.map Prod.snd).sum + Config.freeValue free % (reserve + 1), a.first, a.free)

/-- The nominal budget b of one picture (R288): `rate` in kbit/s, the taking period in ps. -/
def nominal (s : State) (k rate : Nat) : Nat := rate * 1000 * k * s.tick.period / (8 * 10 ^ 12)

/-- The debt after a picture of `n` bytes (R288). -/
def debtAfter (mode : Nat) (b d n : Int) : Int :=
  if mode = 1 then max 0 (d + n - b) else if mode = 2 then max (-(4 * b)) (d + n - b) else d

/-- The target of the next picture in bytes (R288). -/
def target (s : State) (v : Encode) (k : Nat) (d : Int) : Int :=
  let b : Int := nominal s k v.rate
  let t := max (b - d / 4) (b / 4)
  if v.mode = 2 then min t (nominal s k v.peak) else t

/-- Bytes of a grade's picture buffer leave the encoder's hold (R180, R284). -/
def releaseImage (c : CtxId) (g : GradeId) (frame : Nat) (s : State) : State :=
  modCtx c (fun x => { x with buffers := x.buffers.map fun i =>
    if i.grade = g ∧ i.frame.toNat = frame then { i with readers := i.readers.erase .encoder } else i }) s

/-- The host copy of an access unit, after the 64 bytes of its slot the spec does not lay out (VC_SET_ENCODE, log 41). -/
def copyUnit (c : CtxId) (g : GradeId) (v : Encode) (bytes : List Byte) (s : State) : State :=
  if !v.hostCopy then s
  else if !s.hostUp then hostFailed s
  else
    let n := s.contexts[c].encodes[g].hostSlot
    let head := freeBytes s.free 64
    modRun c g (fun r => { r with hostSlot := (n + 1) % 16 })
      (writeHost (v.hostAddr.toNat + (v.cMax + 64) * n) (head ++ bytes) { s with free := s.free + 64 })

/-- The PICTURE record of an access unit (R237, R247). -/
def recordUnit (c : CtxId) (g : GradeId) (p : Coding) (bytes : List Byte) (s : State) : State :=
  match p.clip with
  | none => s
  | some id =>
    let (t, a) := appendRecord c id 5 p.frame (Config.recordBody 5 (g.val :: bytes.map BitVec.toNat)) s
    match (clipOf t c id).map fun k => k.cfg.target with
    | some (RecTarget.media m) => modRun c g (fun r => { r with held := r.held ++ [(m, a)] }) t
    | _ => t

/-- ENCODE_PICTURE_DONE: the oldest picture being coded is complete (R284, R288, R289). -/
def encodePictureDone (c : CtxId) (g : GradeId) (rows : List RowCode) (s : State) : State :=
  match s.contexts[c].encodes[g].coding with
  | [] => s
  | p :: rest =>
    let (n, fill, free) := accessUnit p rows s.free
    let bytes := freeBytes free n
    let b : Int := nominal s p.k p.cfg.rate
    let t := modRun c g (fun r => { r with
      coding := rest, held := r.held.filter fun a => s.media[a.1].outstanding.any fun u => match u with
        | .log x => x.addr == a.2
        | _ => false
      debt := debtAfter p.cfg.mode b r.debt n }) { s with free := free + n }
    let t := releaseImage c g p.frame t
    let p := if fill.isSome then { p with marks := setMark p.marks .budgetExhausted } else p
    let t := recordUnit c g p bytes (copyUnit c g p.cfg bytes t)
    match fill with
    | none => t
    | some r => post 0x0B81 (some c) (BitVec.ofNat 48 p.frame) (p.frame + 2 ^ 48 * g.val + 2 ^ 56 * (r % 2 ^ 8))
        (modVc (fun v => { v with exhausted := bump v.exhausted }) t)

/-- Proxy pictures of context `c` up to frame `n` are still being coded (R249 step 2). -/
def codingPending (s : State) (c : CtxId) (n : Nat) : Bool :=
  s.contexts[c].encodes.toList.any fun r => r.coding.any fun p => p.frame ≤ n

/-! ## The level signalled (R281) -/

/-- Levels of H.265 Annex A: level_idc, luma picture size, luma sample rate, Main and High tier bitrate in kbit/s (log 43). -/
def levels : List (Nat × Nat × Nat × Nat × Nat) :=
  [(30, 36864, 552960, 128, 128), (60, 122880, 3686400, 1500, 1500), (63, 245760, 7372800, 3000, 3000),
   (90, 552960, 16588800, 6000, 6000), (93, 983040, 33177600, 10000, 10000),
   (120, 2228224, 66846720, 12000, 30000), (123, 2228224, 133693440, 20000, 50000),
   (150, 8912896, 267386880, 25000, 100000), (153, 8912896, 534773760, 40000, 160000),
   (156, 8912896, 1069547520, 60000, 240000), (180, 35651584, 1069547520, 60000, 240000),
   (183, 35651584, 2139095040, 120000, 480000), (186, 35651584, 4278190080, 240000, 800000)]

/-- level_idc of an encode of `w × h` every `period` ps: the lowest level that holds it; under constant QP 6.2 (R281). -/
def levelIdc (v : Encode) (w h period : Nat) : Nat :=
  let peak := if v.mode = 2 then v.peak else v.rate
  if v.mode = 0 then 186
  else match levels.find? fun l => w * h ≤ l.2.1 && w * w ≤ 8 * l.2.1 && h * h ≤ 8 * l.2.1
      && w * h * 10 ^ 12 ≤ l.2.2.1 * period && peak ≤ l.2.2.2.2 with
    | some l => l.1
    | none => 186

/-! ## Decoding (R292 to R294) -/

/-- A session changed by `f`. -/
def modSession (i : Fin 16) (f : Session → Session) (s : State) : State :=
  modVc (fun v => { v with sessions := v.sessions.set i (v.sessions[i].map f) }) s

/-- The slot image of an output picture, filled (R294). -/
def slotImage (p : DecodedPicture) (result sequence : Nat) : List Byte :=
  image 64 [put 0 1 1, put 1 1 result, put 2 2 (if result = 0 then 0 else 2 ^ Mark.concealed.bit), (4, leInt 4 p.poc),
      put 8 2 p.width, put 10 2 p.height, put 12 1 p.chroma, put 13 1 p.depth, put 16 8 sequence, put 24 8 p.unit]
    ++ p.samples.flatMap fun v => leBytes 2 v.toNat

/-- Slot images written while the next slot's state byte is 0 (R294). -/
def writeSlots (i : Fin 16) : List (List Byte) → State → State
  | [], s => modSession i (fun x => { x with waiting := [] }) s
  | b :: rest, s =>
    match s.vc.sessions[i] with
    | none => s
    | some x =>
      let a := x.ring + x.slotSize * (x.written % x.slots)
      if !s.hostUp then hostFailed (modSession i (fun x => { x with waiting := b :: rest }) s)
      else if readCell s.hostMem a = 0 then
        writeSlots i rest (writeHost a b (modSession i (fun x => { x with written := x.written + 1 }) s))
      else modSession i (fun x => { x with waiting := b :: rest }) s

/-- A picture is output (R294). -/
def outputPicture (i : Fin 16) (p : DecodedPicture) (result : Nat) (s : State) : State :=
  match s.vc.sessions[i] with
  | none => s
  | some x =>
    let t := modSession i (fun x => { x with outputs := x.outputs + 1 }) s
    let t := if result = 0 then t else modVc (fun v => { v with concealed := bump v.concealed }) t
    writeSlots i (x.waiting ++ [slotImage p result (x.outputs + 1)]) t

/-- The submits whose access units are all consumed end (VC_DECODE_SUBMIT). -/
def endSubmits (before after : List AccessUnit) (s : State) : State :=
  let key := fun u : AccessUnit => (u.mb, u.tag)
  forEach ((before.map key).eraseDups.filter fun k => !(after.map key).contains k)
    (fun k => endBackground k.1 0x0B05 k.2 .ok 0) s

/-- The decoder has consumed every access unit up to one. -/
def consume (i : Fin 16) (unit : Nat) (s : State) : State :=
  match s.vc.sessions[i] with
  | none => s
  | some x =>
    let left := x.units.filter fun u => unit < u.index
    endSubmits x.units left (modSession i (fun x => { x with units := left, concealNext := false }) s)

/-- VC_DECODE_CONCEALED (R300). -/
def concealedEvent (i : Fin 16) (cause unit : Nat) (s : State) : State :=
  post 0x0B83 none 0 (i.val + 2 ^ 8 * cause + 2 ^ 16 * unit) s

/-- The picture exceeds the session's declared limits (R293). -/
def exceeds (x : Session) (p : DecodedPicture) : Bool :=
  p.unsupported || x.w < p.width || x.h < p.height || x.chroma < p.chroma || x.depth < p.depth

/-- DECODE_PICTURE_DONE (R293, R294). -/
def decodePictureDone (i : Fin 16) (p : DecodedPicture) (s : State) : State :=
  match s.vc.sessions[i] with
  | none => s
  | some x =>
    if x.core.isNone then s
    else if exceeds x p then concealedEvent i 4 p.unit (consume i p.unit s)
    else
      let bad := p.missingReference || p.sliceError || (p.inherits && !p.irap) || x.concealNext
      let t := when p.missingReference (concealedEvent i 1 p.unit) s
      let t := when p.sliceError (concealedEvent i 2 p.unit) t
      outputPicture i p (bit bad) (consume i p.unit t)

/-- DECODE_TMAX_EXPIRY: the picture is abandoned, concealed and output with result 2 (R292). -/
def decodeTmaxExpiry (i : Fin 16) (p : DecodedPicture) (s : State) : State :=
  match s.vc.sessions[i] with
  | none => s
  | some x =>
    if x.core.isNone then s
    else outputPicture i p 2 (consume i p.unit (concealedEvent i 3 p.unit
      (modVc (fun v => { v with abandoned := bump v.abandoned }) s)))

/-- DECODE_SLOT_FREE: the host has returned the next slot, and the waiting decoder writes it (R294). -/
def decodeSlotFree (i : Fin 16) (s : State) : State :=
  match s.vc.sessions[i] with
  | none => s
  | some x =>
    writeSlots i x.waiting (writeHost (x.ring + x.slotSize * (x.written % x.slots)) [0] s)

/-! ## Core faults (R299) -/

/-- The source of a core (R299). -/
def coreSource (k : Fin 8) : Nat := 0x40 + k.val

/-- The running pictures of an encode on a failed core are not produced (R299 step 2). -/
def dropPictures (c : CtxId) (g : GradeId) (k : Fin 8) (s : State) : State :=
  let r := s.contexts[c].encodes[g]
  let lost := r.coding.filter fun p => p.cfg.coreSet.contains k
  if lost.isEmpty && !s.contexts[c].live.encodes[g].coreSet.contains k then s
  else
    forEach lost (fun p => releaseImage c g p.frame)
      (modRun c g (fun r => { r with coding := r.coding.filter fun p => !p.cfg.coreSet.contains k, idrDue := true }) s)

/-- VC_CORE_RETIRED (R299 steps 1 to 3). -/
def vcCoreRetired (k : Fin 8) (s : State) : State :=
  if s.vc.retired.contains k then s
  else
    let t := modVc (fun v => { v with retired := k :: v.retired }) s
    let t := raise0 (coreSource k) t
    let t := forEach allCtx (fun c t => forEach allGrades (fun g => dropPictures c g k) t) t
    let t := forEach (List.finRange 16) (fun i t => modSession i (fun x =>
      if x.core = some k ∧ !x.units.isEmpty then { x with concealNext := true } else x) t) t
    post 0x0B80 none 0 (k.val + 2 ^ 8 * coreSource k) t

/-- An analysis on a retired core moves, or is suspended (R299 steps 4, 5). -/
def moveAnalysis (c : CtxId) (s : State) : State :=
  let b := s.contexts[c].live
  match b.analysisCore with
  | none => s
  | some k =>
    if !b.noise.temporal || !s.vc.retired.contains k then s
    else
      let n := analysisPick s c
      let t := modCtx c (fun x => { x with live := { x.live with analysisCore := n }, analysisLost := n.isNone }) s
      when n.isNone (streamSuspended (some c) (Config.openDetail 0x0B82 1) 1) t

/-- An encode on a retired core moves, or is suspended (R299 steps 4, 5). -/
def moveEncode (c : CtxId) (g : GradeId) (s : State) : State :=
  let v := s.contexts[c].live.encodes[g]
  if !v.on || !(v.coreSet.any fun k => s.vc.retired.contains k) then s
  else
    let n := encodeCores s c g v
    let t := modBank c (fun b => { b with encodes := b.encodes.set g { v with coreSet := n.getD [] } }) s
    when n.isNone (streamSuspended (some c) g.val 1) t

/-- A decode session on a retired core moves, or is suspended (R299 steps 4, 5). -/
def moveSession (i : Fin 16) (s : State) : State :=
  match s.vc.sessions[i] with
  | none => s
  | some x =>
    match x.core with
    | none => s
    | some k =>
      if !s.vc.retired.contains k then s
      else
        let t := modSession i (fun x => { x with core := none }) s
        let n := sessionCore t x
        when n.isNone (streamSuspended none i.val 1) (modSession i (fun x => { x with core := n }) t)

/-- At a hinge the work of retired cores moves: analysis, then encodes in context order, then sessions (R299). -/
def moveCores (s : State) : State :=
  if s.vc.retired.isEmpty then s
  else
    let t := forEach allCtx moveAnalysis s
    let t := forEach allCtx (fun c t => forEach allGrades (moveEncode c) t) t
    forEach (List.finRange 16) moveSession t

/-- VC_BLOCKED_WRITE: the write is discarded and the core's source raised (R292). -/
def vcBlockedWrite (k : Fin 8) (s : State) : State := raise0 (coreSource k) s

/-! ## Commands -/

/-- VCODEC is off (Commands, 13). -/
def coresOff (s : State) : Option Fail := if domainOn s 20 then none else some (wrong 5)

/-- The encode a VC_SET_ENCODE payload describes, without its cores. -/
def encodeOf (e : Entry) : Encode where
  on := arg e 2 1 == 1
  profile := arg e 3 1
  cores := arg e 4 1
  partition := arg e 5 1
  tileCols := arg e 6 1
  tileRows := arg e 7 1
  shape := arg e 8 1
  refs := arg e 9 1
  idrPeriod := arg e 10 2
  mode := arg e 12 1
  qpMin := arg e 13 1
  qpMax := arg e 14 1
  ctu := arg e 15 1
  rate := arg e 16 4
  peak := arg e 20 4
  cMax := arg e 24 4
  hostCopy := arg e 28 1 == 1
  hostAddr := BitVec.ofNat 64 (arg e 32 8)

/-- The encode with the cores chosen; without room, the first n, which the check then refuses (R285). -/
def placedEncode (e : Entry) (s : State) : Encode :=
  let v := encodeOf e
  { v with coreSet := if v.on then
      (encodeCores (projected s) (argCtx e) (argGrade e) v).getD ((List.finRange 8).take v.cores) else [] }

/-- The fields the partition rules read are valid on their own. -/
def partitionFields (e : Entry) : Bool :=
  1 ≤ arg e 4 1 && arg e 4 1 ≤ 8 && 1 ≤ arg e 7 1 && arg e 7 1 ≤ 8 && (arg e 15 1 == 32 || arg e 15 1 == 64)

/-- VC_SET_ENCODE, 0x0B01. -/
def vcSetEncodeSpec : Spec where
  opcode := 0x0B01
  len := .exact 48
  noInline := true
  bank := true
  fields := fun e s =>
    let v := encodeOf e
    let g := (shadow s (argCtx e)).grades[argGrade e]
    let rated := v.mode = 1 || v.mode = 2
    [ctxField, gradeField, range 2 1 0 1, ⟨3, 1, fun p => p ≤ 3 && profileOk p g⟩, range 4 1 1 8,
     ⟨5, 1, fun p => if v.cores = 1 then p == 0 else 1 ≤ p && p ≤ 3⟩,
     ⟨6, 1, fun n => if v.partition = 1 then 1 ≤ n && n ≤ 8 && (!partitionFields e || tilesOk v g.wo g.ho) else n == 1⟩,
     ⟨7, 1, fun n => if v.partition = 1 then 1 ≤ n && n ≤ 8 else n == 1⟩, range 8 1 0 2,
     ⟨9, 1, fun n => if v.shape = 0 then n == 0 else 1 ≤ n && n ≤ 4⟩, anyVal 10 2, range 12 1 0 2, range 13 1 0 51,
     ⟨14, 1, fun q => q ≤ 51 && (!rated || v.qpMin ≤ q)⟩, oneOf 15 1 [32, 64],
     ⟨16, 4, fun r => if rated then 1 ≤ r && r ≤ 800000 else r == 0⟩,
     ⟨20, 4, fun r => if v.mode = 2 then v.rate ≤ r && r ≤ 800000 else r == 0⟩,
     ⟨24, 4, fun n => minCap v g.wo g.ho ≤ n && n ≤ 2 ^ 24⟩, range 28 1 0 1, rsv 29 3,
     ⟨32, 8, fun a => if v.hostCopy then a % 4096 == 0 else a == 0⟩, rsv 40 8]
  states := fun e s => (freeFail s (argCtx e)).or (if (encodeOf e).on then coresOff s else none)
  tumbler := fun e s => budgetFail s [.encode (argCtx e) (argGrade e) (placedEncode e s)]
  touches := fun e _ => [argCtx e]
  effect := fun e s =>
    let v := placedEncode e s
    .arm s [.encode (argCtx e) (argGrade e) v] (some (argCtx e)) (maskOf 8 fun i => v.coreSet.any fun k => k.val == i)

/-- VC_KEY_PICTURE, 0x0B02. -/
def vcKeyPictureSpec : Spec where
  opcode := 0x0B02
  len := .exact 8
  bank := true
  fields := fun _ _ => [ctxField, oneOf 1 1 [0, 1, 2, 3, 15], rsv 2 6]
  states := fun e s => (freeFail s (argCtx e)).or (coresOff s)
  touches := fun e _ => [argCtx e]
  effect := fun e s =>
    .arm s [.keyPicture (argCtx e) (if arg e 1 1 = 15 then none else some (argGrade e))] (some (argCtx e))
      (Config.openDetail 0x0B02 1)

/-- VC_SET_VECTOR_EXPORT, 0x0B03. -/
def vcSetVectorExportSpec : Spec where
  opcode := 0x0B03
  len := .exact 16
  bank := true
  fields := fun _ _ => [ctxField, ⟨1, 1, fun n => n == 0 || (2 ≤ n && n ≤ 64)⟩, rsv 2 6, ⟨8, 8, fun a => a % 4096 == 0⟩]
  states := fun e s => (freeFail s (argCtx e)).or
    (if (shadow s (argCtx e)).noise.temporal then none else some (wrong 0xE))
  tumbler := fun e s => budgetFail s [change e]
  touches := fun e _ => [argCtx e]
  effect := fun e s => .arm s [change e] (some (argCtx e)) (Config.openDetail 0x0B03 1)
where
  /-- The export the payload describes. -/
  change (e : Entry) : Change :=
    .vecExport (argCtx e) (if arg e 1 1 = 0 then none else some (arg e 1 1, BitVec.ofNat 64 (arg e 8 8)))

/-- The session a payload names. -/
def argSession (e : Entry) : Fin 16 := ⟨arg e 0 1 % 16, Nat.mod_lt _ (by decide)⟩

/-- The session a VC_DECODE_OPEN payload describes, on the core Kongaord chooses; without room, core 0, which the check
then refuses. -/
def sessionOf (e : Entry) (s : State) : Session :=
  let x : Session := ⟨arg e 1 1, arg e 2 1, arg e 3 1, arg e 4 2, arg e 6 2, arg e 8 4, arg e 16 8, none, [], 0, 0, 0, [],
    false⟩
  { x with core := some ((sessionCore (projected s) x).getD 0) }

/-- VC_DECODE_OPEN, 0x0B04. -/
def vcDecodeOpenSpec : Spec where
  opcode := 0x0B04
  len := .exact 24
  fields := fun _ _ => [range 0 1 0 15, range 1 1 1 2, oneOf 2 1 [8, 10, 12], range 3 1 2 64, range 4 2 64 8192,
    range 6 2 64 4352, range 8 4 1 240000, rsv 12 4, ⟨16, 8, fun a => a % 4096 == 0⟩]
  states := fun e s => (coresOff s).or (if s.vc.sessions[argSession e].isSome then some (wrong 0xF) else none)
  resources := fun _ s => if s.vc.sessions.toList.all Option.isSome then some ⟨.noResource, 16⟩ else none
  tumbler := fun e s => budgetOf s (opened e s)
  flags := true
  effect := fun e s => .reply (opened e s) { detail := (sessionOf e s).slotSize }
where
  /-- The session is open. -/
  opened (e : Entry) (s : State) : State :=
    modVc (fun v => { v with sessions := v.sessions.set (argSession e) (some (sessionOf e s)) }) s

/-- The session is not open (VC_DECODE_SUBMIT, VC_DECODE_CLOSE). -/
def sessionClosed (e : Entry) (s : State) : Option Fail :=
  if s.vc.sessions[argSession e].isNone then some (wrong 0xF) else none

/-- The access units a VC_DECODE_SUBMIT payload lists, from an index on. -/
def unitsOfEntry (e : Entry) (first : Nat) : List AccessUnit :=
  (List.range (arg e 1 1)).map fun i =>
    ⟨first + i, e.mb, e.tag, arg e (8 + 16 * i) 8, arg e (16 + 16 * i) 4, (arg e (20 + 16 * i) 4).testBit 0⟩

/-- VC_DECODE_SUBMIT, 0x0B05. -/
def vcDecodeSubmitSpec : Spec where
  opcode := 0x0B05
  len := .counted fun p => 8 + 16 * fieldAt p 1 1
  noInline := true
  isBackground := true
  fields := fun e _ => [range 0 1 0 15, range 1 1 1 64, rsv 2 6] ++
    (List.range (arg e 1 1)).flatMap fun i => [anyVal (8 + 16 * i) 8, range (16 + 16 * i) 4 1 (2 ^ 24),
      range (20 + 16 * i) 4 0 1]
  states := fun e s => (coresOff s).or (sessionClosed e s)
  effect := fun e s =>
    let i := argSession e
    .background (modSession i (fun x => { x with
      units := x.units ++ unitsOfEntry e x.submitted, submitted := x.submitted + arg e 1 1 }) s) none
      (Config.openDetail 0x0B05 0)

/-- VC_DECODE_CLOSE, 0x0B06. -/
def vcDecodeCloseSpec : Spec where
  opcode := 0x0B06
  len := .exact 8
  fields := fun _ _ => [range 0 1 0 15, rsv 1 7]
  states := sessionClosed
  effect := fun e s =>
    let i := argSession e
    let units := (s.vc.sessions[i].map Session.units).getD []
    .reply (endSubmits units [] (modVc (fun v => { v with sessions := v.sessions.set i none }) s))
      { detail := Config.openDetail 0x0B06 0 }

/-- A core's admitted load in 0.01% of its limit. -/
def coreShare (s : State) (k : Fin 8) : Nat :=
  let t := projected s
  if coreLimit t k = 0 then 0 else 10000 * coreLoad t k / coreLimit t k

/-- The cores that analyse a context (VC_GET_STATUS). -/
def analysisMask (s : State) : Nat :=
  maskOf 8 fun i => allCtx.any fun c => counted s c && s.contexts[c].live.noise.temporal
    && s.contexts[c].live.analysisCore.any fun k => k.val == i

/-- VC_GET_STATUS, 0x0B07. -/
def vcGetStatusSpec : Spec where
  opcode := 0x0B07
  len := .exact 64
  noInline := true
  deadbolt := true
  fields := fun _ _ => [range 0 1 0 1, rsv 1 7]
  effect := fun e s =>
    let v := s.vc
    let t := if arg e 0 1 = 1 then modVc (fun v => { v with exhausted := 0, skipped := 0, concealed := 0, abandoned := 0 }) s
      else s
    .reply t { back := some (8, image 56 ([put 0 1 (maskOf 8 fun i => v.retired.any fun k => k.val == i),
      put 1 1 (analysisMask s), put 40 4 v.exhausted.toNat, put 44 4 v.skipped.toNat, put 48 4 v.concealed.toNat,
      put 52 4 v.abandoned.toNat] ++ (List.finRange 8).map fun k => put (8 + 4 * k.val) 4 (coreShare s k))) }

/-- VC_GET_ENCODE, 0x0B08. -/
def vcGetEncodeSpec : Spec where
  opcode := 0x0B08
  len := .exact 8
  deadbolt := true
  fields := fun _ _ => [ctxField, gradeField, rsv 2 6]
  states := fun e s => freeFail s (argCtx e)
  effect := fun e s =>
    let x := s.contexts[argCtx e]
    let v := x.live.encodes[argGrade e]
    let g := x.live.grades[argGrade e]
    let d := leNat (leInt 4 x.encodes[argGrade e].debt)
    .reply s { detail := d + 2 ^ 32 * (if v.on then levelIdc v g.wo g.ho (x.live.source.k * s.tick.period) else 0)
               ctx := ctxByte (some (argCtx e)) }

/-- VC_SET_ENCODE. -/
def execVcSetEncode (e : Entry) (s : State) : Host.Outcome State Fault Refusal := .next (runCommand vcSetEncodeSpec e s)
/-- VC_KEY_PICTURE. -/
def execVcKeyPicture (e : Entry) (s : State) : Host.Outcome State Fault Refusal := .next (runCommand vcKeyPictureSpec e s)
/-- VC_SET_VECTOR_EXPORT. -/
def execVcSetVectorExport (e : Entry) (s : State) : Host.Outcome State Fault Refusal :=
  .next (runCommand vcSetVectorExportSpec e s)
/-- VC_DECODE_OPEN. -/
def execVcDecodeOpen (e : Entry) (s : State) : Host.Outcome State Fault Refusal := .next (runCommand vcDecodeOpenSpec e s)
/-- VC_DECODE_SUBMIT. -/
def execVcDecodeSubmit (e : Entry) (s : State) : Host.Outcome State Fault Refusal := .next (runCommand vcDecodeSubmitSpec e s)
/-- VC_DECODE_CLOSE. -/
def execVcDecodeClose (e : Entry) (s : State) : Host.Outcome State Fault Refusal := .next (runCommand vcDecodeCloseSpec e s)
/-- VC_GET_STATUS. -/
def execVcGetStatus (e : Entry) (s : State) : Host.Outcome State Fault Refusal := .next (runCommand vcGetStatusSpec e s)
/-- VC_GET_ENCODE. -/
def execVcGetEncode (e : Entry) (s : State) : Host.Outcome State Fault Refusal := .next (runCommand vcGetEncodeSpec e s)
/-- ENCODE_PICTURE_DONE. -/
def execEncodePictureDone (c : CtxId) (g : GradeId) (rows : List RowCode) (s : State) :
    Host.Outcome State Fault Refusal := .next (encodePictureDone c g rows s)
/-- DECODE_PICTURE_DONE. -/
def execDecodePictureDone (i : Fin 16) (p : DecodedPicture) (s : State) : Host.Outcome State Fault Refusal :=
  .next (decodePictureDone i p s)
/-- DECODE_TMAX_EXPIRY. -/
def execDecodeTmaxExpiry (i : Fin 16) (p : DecodedPicture) (s : State) : Host.Outcome State Fault Refusal :=
  .next (decodeTmaxExpiry i p s)
/-- DECODE_SLOT_FREE. -/
def execDecodeSlotFree (i : Fin 16) (s : State) : Host.Outcome State Fault Refusal := .next (decodeSlotFree i s)
/-- VC_CORE_RETIRED. -/
def execVcCoreRetired (k : Fin 8) (s : State) : Host.Outcome State Fault Refusal := .next (vcCoreRetired k s)
/-- VC_BLOCKED_WRITE. -/
def execVcBlockedWrite (k : Fin 8) (s : State) : Host.Outcome State Fault Refusal := .next (vcBlockedWrite k s)

end Sys2Proof.Machine
end

