-- ==== Sys2Proof/Machine/Control.lean ====
section
/-!
DEFINITION. Control: the reset of one block (03 SYS_BLOCK_RESET), hung fabric ports (20 R420), and which contexts a block or a
domain serves (R30, R472).
-/

namespace Sys2Proof.Machine

/-- Block control changed by `f`. -/
def modControl (f : Control → Control) (s : State) : State := { s with control := f s.control }

/-! ## Who is served (R30, R472) -/

/-- The block that has number `b` serves context `c`'s live path. -/
def serves (s : State) (b : Nat) (c : CtxId) : Bool :=
  let k := s.contexts[c].live
  let clips := s.recs[c].clips
  if b ≤ 0x13 then (groupOf s k.source.port).any fun p => p.val + 0x10 == b
  else if b ≤ 0x21 then clips.any fun x => x.cfg.target == .media ⟨b % 2, Nat.mod_lt _ (by decide)⟩
  else if b ≤ 0x23 then k.streams.any fun x => x.2.ports.getLsbD (b - 0x22)
  else if b ≤ 0x33 then (k.binds[(⟨b % 4, Nat.mod_lt _ (by decide)⟩ : QuadId)]).isSome
  else if b ≤ 0x47 then
    (k.encodes.toList.any fun v => v.on && v.coreSet.any fun i => i.val + 0x40 == b)
      || (k.noise.temporal && k.analysisCore.any fun i => i.val + 0x40 == b)
  else if b = 0x48 then !clips.isEmpty
  else if b ≤ 0x53 then clips.any fun x => x.cfg.audio.getLsbD (b - 0x50)
  else if b ≤ 0x57 then clips.any fun x => x.cfg.triggers.getLsbD 1 && x.cfg.channel.val + 0x54 == b
  else if b ≤ 0x61 then k.split.isSome
  else false

/-- The admitted contexts a block serves, as a mask (SYS_BLOCK_RESET). -/
def servedMask (s : State) (b : Nat) : Nat := ctxMask (allCtx.filter fun c => admitted s c && serves s b c)

/-- The blocks of SYS_BLOCK_RESET. -/
def allBlocks : List Nat :=
  [0x10, 0x11, 0x12, 0x13, 0x20, 0x21, 0x22, 0x23, 0x30, 0x31, 0x32, 0x33, 0x40, 0x41, 0x42, 0x43, 0x44, 0x45, 0x46, 0x47, 0x48,
   0x50, 0x51, 0x52, 0x53, 0x54, 0x55, 0x56, 0x57, 0x60, 0x61, 0x70]

/-- The blocks of a power domain (R30). -/
def blocksOf (d : Fin 25) : List Nat := allBlocks.filter fun b => blockDomain b == d

/-! ## The reset of one block -/

/-- A sensor port: its bond brings up again from DETECT, open frames passed on as partly received (R111). -/
def resetPort (p : PortId) (s : State) : State :=
  let f := s.ports[p].first.getD p
  match s.ports[f].state with
  | .off => s
  | .loopback => setGroup f (fun q => { q with state := .off, loop := none }) s
  | _ => portDown f 0 s

/-- A generator: what it shows and what it locked to is gone; its raster, planes, counts and audio are kept. -/
def resetOutput (o : QuadId) (s : State) : State :=
  modOut o (fun y => { raster := y.raster, planes := y.planes, counts := y.counts, log := y.log, hpd := y.hpd,
                       groups := y.groups, channels := y.channels }) s

/-- A coding core: its pictures are lost, and its encodes go on with IDR pictures (R299). -/
def resetCore (k : Fin 8) (s : State) : State :=
  let t := modVc (fun v => { v with retired := v.retired.filter fun x => x != k }) s
  let t := forEach allCtx (fun c t => forEach allGrades (fun g => dropPictures c g k) t) t
  forEach (List.finRange 16) (fun i t => modSession i (fun x =>
    if x.core = some k ∧ !x.units.isEmpty then { x with concealNext := true } else x) t) t

/-- The compression engine: every engine is in service, and running host jobs start again (R230, R235). -/
def resetCompression (s : State) : State :=
  modCmp (fun x => { x with
    retiredRaw := [], retiredGeneral := [], retiredDecompress := []
    submits := x.submits.map fun u => { u with jobs := u.jobs.map fun j =>
      if j.result.isNone then { j with engine := none, ward := none } else j } })
    (forEach s.cmp.submits (fun u t => forEach u.jobs (fun j t => if j.result.isNone then releaseJob j t else t) t) s)

/-- An audio port: its FIFOs and fades are empty (R343 to R347). -/
def resetAudio (p : QuadId) (s : State) : State :=
  modAud p (fun y => { y with
    inFifo := [], outFifo := [], inFade := .good, outFade := .good, inLast := [], outLast := [], overrun := false
    underrun := false, tail := 0, goodFrames := 0, lastFrame := none }) s

/-- A position channel: it starts as when it is enabled (R356). -/
def resetChannel (q : QuadId) (s : State) : State :=
  modPos q (fun c => let c := { c with r := 0, p := 0, pulse := false, speed := 0, changes := [], positive := none, read := false }
                     if c.on then enablePos c else c) s

/-- A hasp port is OFF and brings its link up anew (R366). -/
def resetLink (p : Fin 2) (s : State) : State :=
  let was := s.hasp.ports[p].state
  when (was == .up) (postLink p) (modLink p (fun x => { x with state := .off, failed := false, neighbour := none }) s)

/-- The two-wire target waits for a START (R445). -/
def resetTwb (s : State) : State :=
  modTwb (fun w => { w with phase := .idle, snapshot := [], cmd := List.replicate 64 0, staged := [], refused := false }) s

/-- Block `b` is reset, and set up again from the live banks that use it (SYS_BLOCK_RESET). -/
def resetBlock (b : Nat) (s : State) : State :=
  let two : Fin 2 := ⟨b % 2, Nat.mod_lt _ (by decide)⟩
  let four : QuadId := ⟨b % 4, Nat.mod_lt _ (by decide)⟩
  if b ≤ 0x13 then resetPort four s
  else if b ≤ 0x21 then mediaGone 0 two (failMediaReads two s)
  else if b ≤ 0x23 then netLinkState two false s
  else if b ≤ 0x33 then resetOutput four s
  else if b ≤ 0x47 then resetCore ⟨b % 8, Nat.mod_lt _ (by decide)⟩ s
  else if b = 0x48 then resetCompression s
  else if b ≤ 0x53 then resetAudio four s
  else if b ≤ 0x57 then resetChannel four s
  else if b ≤ 0x61 then resetLink two s
  else resetTwb s

/-- A dead core's work moves to others (R299). -/
def retireDead (b : Nat) (s : State) : State :=
  if 0x40 ≤ b ∧ b ≤ 0x47 then modVc (fun v => { v with retired := ⟨b % 8, Nat.mod_lt _ (by decide)⟩ :: v.retired }) s else s

/-- The source that a block's failure raises (log 58). -/
def blockSource (b : Nat) : SourceId := src (Config.blockFault b)

/-- The next SYS_BLOCK_RESET that drains is taken off the list. -/
def dropDraining (s : State) : State := modControl (fun k => { k with draining := k.draining.drop 1 }) s

/-- BLOCK_DRAIN_DONE: the block is reset and back in service at the next hinge, or does not come out and stays fenced. -/
def blockDrainDone (drained : Nat) (cameOut : Bool) (s : State) : State :=
  match s.control.draining with
  | [] => s
  | x :: _ =>
    let t := resetBlock x.block (dropDraining s)
    if cameOut then
      endExecution x.mb { detail := drained } (modControl (fun k => { k with
        returning := x.block :: k.returning, dead := k.dead.filter fun b => b != x.block }) t)
    else
      let t := retireDead x.block (modControl (fun k => { k with dead := x.block :: k.dead }) t)
      endExecution x.mb { status := .hwFault, detail := (blockSource x.block).val } (raise0 (Config.blockFault x.block) t)

/-- BLOCK_QUIESCE_TIMEOUT: the block resumes service unreset. -/
def blockQuiesceTimeout (outstanding : Nat) (s : State) : State :=
  match s.control.draining with
  | [] => s
  | x :: _ => endExecution x.mb { status := .timeout, detail := outstanding } (dropDraining s)

/-- HUNG_PORT_RESPONSE: a request routed to a hung port completes after 1 ms with an error and poisoned data (R420). -/
def hungPortResponse (block : Nat) (r : MemReq) (s : State) : State :=
  if s.control.hung.contains block then emit (.hungAnswer r.requester r.addr.toNat) s else s

/-! ## Domains switched off (22 R437, R442; 20 R409) -/

/-- Function 1 as its reset leaves it: CC.EN 0, no queue, no host ward entry (R409). -/
def resetController (s : State) : State :=
  modStg (fun x => { x with cc := 0, aqa := 0, asq := 0, acq := 0, intMask := 0, msix := Vector.replicate 65 {}, pba := 0 })
    (nvmeCcDisable s)

/-- The PCIe endpoint is reset: link, MSI-X tables of both functions, NVMe controller; source 0x5A (R409). -/
def resetEndpoint (s : State) : State :=
  raise0 0x5A (resetController { s with hostUp := false
                                        bar0 := { s.bar0 with msix := Vector.replicate 32 {}, pba := 0 } })

/-- A sensor port whose domain is switched off. -/
def portOff (reason : Nat) (p : PortId) (s : State) : State :=
  if s.ports[p].state = .off then s
  else postPortState p (modPort p (fun q => { q with state := .off, reason := reason, loop := none, failed := [] }) (closeAll p s))

/-- What a domain loses when it is switched off (R437). -/
def loseDomain (d : Fin 25) (s : State) : State :=
  if h : 4 ≤ d.val ∧ d.val ≤ 7 then
    { s with luts := s.luts.set (⟨d.val - 4, by omega⟩ : RegionId) (Vector.replicate 16 {}) }
  else if h : 8 ≤ d.val ∧ d.val ≤ 11 then
    let m : StackId := ⟨d.val - 8, by omega⟩
    forgetStack m true (modStack m (fun x => { x with state := .off, retrain := [], segment := false }) s)
  else if d = 12 then portOff 10 1 (portOff 10 0 s)
  else if d = 13 then portOff 10 3 (portOff 10 2 s)
  else if d = 14 then resetEndpoint s
  else forEach (blocksOf d) resetBlock s

/-- A domain is switched off, with what it loses. -/
def domainOff (d : Fin 25) (s : State) : State :=
  if s.power.domains[d] = .off then s else setDomain d .off (loseDomain d s)

/-- Domains that a thermal trip switches off: all but AON, MGMT, IOD-CORE, PCIE and TIME-TWB (R442). -/
def trippedDomains : List (Fin 25) := [4, 5, 6, 7, 8, 9, 10, 11, 12, 13, 15, 16, 17, 18, 19, 20, 21, 22, 24]

/-- A thermal trip: the latch, source 0x5E with a detail and so deadbolt, and every other domain off without quiescing, so that
fabric ports may hang (R420, R442). -/
def tripWith (detail : Nat) (s : State) : State :=
  if s.boot.thermalLatch then s
  else
    let t := raise (src 0x5E) none 0 detail { s with boot := { s.boot with thermalLatch := true } }
    let hung := (trippedDomains.flatMap blocksOf).filter fun b => Config.hungAtTrip s.free b
    let t := modControl (fun k => { k with hung := hung ++ k.hung }) { t with free := t.free + 1 }
    forEach trippedDomains domainOff t

/-- SYS_BLOCK_RESET, 0x0104. -/
def sysBlockResetSpec : Spec where
  opcode := 0x0104
  len := .exact 8
  deadbolt := true
  fields := fun _ _ => [oneOf 0 1 allBlocks, range 1 1 0 1, range 2 2 1 100, rsv 4 4]
  states := fun e s =>
    let b := arg e 0 1
    firstFail [(!domainOn s (blockDomain b), wrong 5), (arg e 1 1 == 0 && servedMask s b != 0, wrong (servedMask s b))]
  effect := fun e s =>
    let b := arg e 0 1
    if s.control.hung.contains b then
      .reply (raise0 (Config.blockFault b) s) { status := .hwFault, detail := (blockSource b).val }
    else .execute (modControl (fun k => { k with draining := k.draining ++ [⟨e.mb, b⟩] }) s) none

/-- SYS_BLOCK_RESET. -/
def execSysBlockReset (e : Entry) (s : State) : Host.Outcome State Fault Refusal := .next (runCommand sysBlockResetSpec e s)
/-- BLOCK_DRAIN_DONE. -/
def execBlockDrainDone (drained : Nat) (cameOut : Bool) (s : State) : Host.Outcome State Fault Refusal :=
  .next (blockDrainDone drained cameOut s)
/-- BLOCK_QUIESCE_TIMEOUT. -/
def execBlockQuiesceTimeout (outstanding : Nat) (s : State) : Host.Outcome State Fault Refusal :=
  .next (blockQuiesceTimeout outstanding s)
/-- HUNG_PORT_RESPONSE. -/
def execHungPortResponse (block : Nat) (request : MemReq) (s : State) : Host.Outcome State Fault Refusal :=
  .next (hungPortResponse block request s)

end Sys2Proof.Machine
end

