-- ==== Sys2Proof/Machine/System.lean ====
section
/-!
DEFINITION. System: the registers of BAR0 and of function 1 (03 R63 to R68, 12 R256), the mailbox control rows, and SYS_NOP,
SYS_IDENTIFY and SYS_EVENT_MASK (03).
-/

namespace Sys2Proof.Machine

/-! ## Mailbox registers (R64, R66, R68) -/

/-- A mailbox whose registers PCIe may write: 0 to 3 and 7 (R66). -/
def hostMailbox (m : MbId) : Bool := m != 4 && m != 5 && m != 6

/-- The management domain is out of reset, so its registers can be written (R410). -/
def mgmtOn (s : State) : Bool := domainOn s 2

/-- The boot ROM serves mailboxes, without management ticks (R417, R419). -/
def romServes (s : State) : Bool := s.devState == 0 || s.devState == 3

/-- MB_CMD_TAIL_WRITE: the doorbell; a disabled mailbox ignores it (R66). -/
def mbCmdTailWrite (m : MbId) (v : BitVec 32) (s : State) : State :=
  if !mgmtOn s || !hostMailbox m || !s.mailboxes[m].enabled then s
  else
    let t := modMb m (fun b => { b with cmdTail := v.setWidth 6 }) s
    when (romServes s) (modMb m fun b => { b with tailSeen := v.setWidth 6, quota := 63 }) t

/-- MB_ENABLE: MBm_CTRL[0]; disabling drops the hold set this mailbox owns (R50, R68); enabling lets held
SYS_BACKGROUND_DONE entries out (R73). Mailboxes 0 to 3 stay disabled in recovery mode (R66). -/
def mbEnable (m : MbId) (on : Bool) (s : State) : State :=
  if !mgmtOn s || !hostMailbox m || (on && s.devState == 3 && m != 7) then s
  else if on then
    modMb m (fun b => flushRing s.tick.counter s.cmd.eventSeq { b with enabled := true }) s
  else modMb m (fun b => { b with enabled := false }) (dropHoldOf m s)

/-- A mailbox after its ring reset: indices 0, nothing untaken, executing commands post nothing, background ends go
unreported (R68, R73). -/
def ringReset (b : Mailbox) : Mailbox :=
  { b with
    cmdTail := 0, cmdHead := 0, cplHead := 0, cplTail := 0, evtHead := 0, evtTail := 0, tailSeen := 0, expected := []
    executing := b.executing.map fun x => { x with silent := true }
    background := b.background.map fun g => { g with report := false }
    heldEvents := [] }

/-- MB_RING_RESET: MBm_CTRL[1]; the bit clears at the next management tick, or at once while the boot ROM serves (R68). -/
def mbRingReset (m : MbId) (s : State) : State :=
  if !mgmtOn s || !hostMailbox m then s
  else modMb m (fun b => { ringReset b with resetting := !romServes s }) (dropHoldOf m s)

/-- MBm_CPL_HEAD and MBm_EVT_HEAD, which the host moves (R68). -/
def mbHeads (m : MbId) (f : Mailbox → Mailbox) (s : State) : State := if hostMailbox m then modMb m f s else s

/-- A write of MBm_CTRL (R64). -/
def mbCtrl (m : MbId) (v : BitVec 32) (s : State) : State :=
  when (v.getLsbD 1) (mbRingReset m) (when (v.getLsbD 0 != s.mailboxes[m].enabled) (mbEnable m (v.getLsbD 0)) s)

/-! ## Function 0 (R63, R64) -/

/-- TICK_LO_READ: the low half is read, and the high half latched (R64). -/
def tickLoRead (s : State) : State :=
  { s with bar0 := { s.bar0 with tickHi := (s.tick.counter >>> 32).setWidth 32, lastRead := s.tick.counter.setWidth 32 } }

/-- An MSI-X table entry with its word `i` written (R63). -/
def setMsix (i : Nat) (v : BitVec 32) (x : MsixEntry) : MsixEntry :=
  match i with
  | 0 => { x with addr := (x.addr &&& 0xFFFFFFFF00000000) ||| v.setWidth 64 }
  | 1 => { x with addr := (x.addr &&& 0xFFFFFFFF) ||| (v.setWidth 64 <<< 32) }
  | 2 => { x with data := v }
  | _ => { x with control := v &&& 1 }

/-- A word of function 0's MSI-X table; unmasking sends what is pending (R75). -/
def msixWrite (n : Nat) (v : BitVec 32) (s : State) : State :=
  let i : Fin 32 := ⟨n / 4 % 32, Nat.mod_lt _ (by decide)⟩
  let x := setMsix (n % 4) v s.bar0.msix[i]
  let t := { s with bar0 := { s.bar0 with msix := s.bar0.msix.set i x } }
  if x.control.getLsbD 0 || !t.bar0.pba.getLsbD i then t
  else when t.hostUp (emit (.msix i x.addr x.data)) { t with bar0 := { t.bar0 with pba := t.bar0.pba &&& ~~~BitVec.twoPow 32 i } }

/-- A register of mailbox `m` at offset `o` of its block (R64). -/
def mbWrite (m : MbId) (o : Nat) (v : BitVec 32) (s : State) : State :=
  match o with
  | 0x00 => mbCmdTailWrite m v s
  | 0x08 => mbHeads m (fun b => { b with cplHead := v.setWidth 6 }) s
  | 0x10 => mbHeads m (fun b => { b with evtHead := v.setWidth 7 }) s
  | 0x1C => mbCtrl m v s
  | _ => s

/-- A write of an aligned word of BAR0 (R64); an offset that cannot be written ignores it (R63). -/
def bar0Write (o : Nat) (v : BitVec 32) (s : State) : State :=
  if o = 0x100 then doorbellWrite v s
  else if o = 0x200 then { s with bar0 := { s.bar0 with intCause := s.bar0.intCause &&& ~~~v } }
  else if 0x1000 ≤ o ∧ o < 0x1800 then mbWrite ⟨(o - 0x1000) / 256 % 8, Nat.mod_lt _ (by decide)⟩ (o % 256) v s
  else if 0x3000 ≤ o ∧ o < 0x3200 then msixWrite ((o - 0x3000) / 4) v s
  else s

/-! ## Function 1 (12 R255 to R257) -/

/-- CC: its fields are stored, and a change of EN enables or disables the controller (R256, R257); a shutdown notification is
complete at once (log 34). -/
def ccWrite (v : BitVec 32) (s : State) : State :=
  let t := modStg (fun x => { x with cc := (v &&& 0x00FFFFF0) ||| (x.cc &&& 1)
                                     shst := if (v.toNat / 2 ^ 14) % 4 = 0 then x.shst else 2 }) s
  if v.getLsbD 0 && !ccEn s then nvmeCcEnable t
  else if !v.getLsbD 0 && ccEn s then nvmeCcDisable t
  else t

/-- A word of function 1's MSI-X table. -/
def nvmeMsixWrite (n : Nat) (v : BitVec 32) (s : State) : State :=
  let i : Fin 65 := ⟨n / 4 % 65, Nat.mod_lt _ (by decide)⟩
  let x := setMsix (n % 4) v s.stg.msix[i]
  let t := modStg (fun y => { y with msix := y.msix.set i x }) s
  if x.control.getLsbD 0 || !t.stg.pba.getLsbD i then t
  else when t.hostUp (emit (.nvmeMsix i x.addr x.data)) (modStg (fun y => { y with pba := y.pba &&& ~~~BitVec.twoPow 65 i }) t)

/-- A 64-bit register with its low or high word written. -/
def setHalf (high : Bool) (v : BitVec 32) (x : BitVec 64) : BitVec 64 :=
  if high then (x &&& 0xFFFFFFFF) ||| (v.setWidth 64 <<< 32) else (x &&& 0xFFFFFFFF00000000) ||| v.setWidth 64

/-- A write of an aligned word of function 1's BAR0 (R256). INTMS and INTMC are ignored with MSI-X (log 34). -/
def nvmeWrite (o : Nat) (v : BitVec 32) (s : State) : State :=
  if o = 0x14 then ccWrite v s
  else if o = 0x24 then modStg (fun x => { x with aqa := v &&& 0x0FFF0FFF }) s
  else if o = 0x28 ∨ o = 0x2C then modStg (fun x => { x with asq := setHalf (o == 0x2C) v x.asq &&& 0xFFFFFFFFFFFFF000 }) s
  else if o = 0x30 ∨ o = 0x34 then modStg (fun x => { x with acq := setHalf (o == 0x34) v x.acq &&& 0xFFFFFFFFFFFFF000 }) s
  else if 0x1000 ≤ o ∧ o < 0x1208 then
    if o % 8 = 0 then nvmeSqTail ((o - 0x1000) / 8) (v.toNat % 2 ^ 16) s else nvmeCqHead ((o - 0x1000) / 8) (v.toNat % 2 ^ 16) s
  else if 0x2000 ≤ o ∧ o < 0x2410 then nvmeMsixWrite ((o - 0x2000) / 4) v s
  else s

/-- REGISTER_WRITE: an access that is not an aligned 32-bit one is ignored (R63). -/
def registerWrite (function : Fin 2) (o size : Nat) (v : BitVec 32) (s : State) : State :=
  if !mgmtOn s || size ≠ 4 || o % 4 ≠ 0 then s
  else if function = 0 then bar0Write o v s
  else nvmeWrite o v s

/-! ## SYS_NOP, SYS_IDENTIFY, SYS_EVENT_MASK -/

/-- SYS_NOP, 0x0101. -/
def sysNopSpec : Spec where
  opcode := 0x0101
  len := .exact 0
  deadbolt := true
  recovery := true
  rom := true
  effect := fun _ s => .reply s { detail := s.tick.counter.toNat }

/-- The identity structure (SYS_IDENTIFY); the link's speed, the ROM's version and the build string are free (log 59). -/
def identity (s : State) : List Byte :=
  image 128 [put 0 2 0x9480, put 2 1 0xB1, put 3 1 (if isWorker s then 2 else if isManager s then 1 else 0), put 4 1 (ownPackage s),
    put 5 1 s.boot.strap, put 6 2 (cmdsetReg s).toNat, put 8 4 (fwVersionReg s).toNat, put 12 4 (Config.romVersion % 2 ^ 24),
    (16, serialBytes s), put 32 1 (if s.boot.strap = 1 then 8 else 16), put 33 1 (3 + Config.linkSpeed % 3),
    put 36 2 s.power.clocks[0], put 38 2 s.power.clocks[1],
    (40, allRegions.map fun r => BitVec.ofNat 8 (healthyUnits s r)), put 44 1 (bit s.mem.interleaved),
    put 45 1 s.boot.failedAtStep3, put 46 1 s.boot.retention.cause.toNat, (64, (List.range 16).map fun i => Config.buildByte i)]

/-- SYS_IDENTIFY, 0x0102. -/
def sysIdentifySpec : Spec where
  opcode := 0x0102
  len := .exact 128
  noInline := true
  deadbolt := true
  recovery := true
  rom := true
  effect := fun _ s => .reply s { detail := (devStateReg s).toNat, back := some (0, identity s) }

/-- SYS_EVENT_MASK, 0x0103: the issuing mailbox's own mask. -/
def sysEventMaskSpec : Spec where
  opcode := 0x0103
  len := .exact 8
  deadbolt := true
  fields := fun _ _ => [⟨0, 4, fun v => v % 2 == 0 && v < 2 ^ 20⟩, rsv 4 4]
  effect := fun e s =>
    .reply (modMb e.mb (fun b => { b with mask := BitVec.ofNat 32 (arg e 0 4) }) s) { detail := s.mailboxes[e.mb].mask.toNat }

/-- SYS_NOP. -/
def execSysNop (e : Entry) (s : State) : Host.Outcome State Fault Refusal := .next (runCommand sysNopSpec e s)
/-- SYS_IDENTIFY. -/
def execSysIdentify (e : Entry) (s : State) : Host.Outcome State Fault Refusal := .next (runCommand sysIdentifySpec e s)
/-- SYS_EVENT_MASK. -/
def execSysEventMask (e : Entry) (s : State) : Host.Outcome State Fault Refusal := .next (runCommand sysEventMaskSpec e s)
/-- MB_CMD_TAIL_WRITE. -/
def execMbCmdTailWrite (m : MbId) (value : BitVec 32) (s : State) : Host.Outcome State Fault Refusal :=
  .next (mbCmdTailWrite m value s)
/-- MB_ENABLE. -/
def execMbEnable (m : MbId) (on : Bool) (s : State) : Host.Outcome State Fault Refusal := .next (mbEnable m on s)
/-- MB_RING_RESET. -/
def execMbRingReset (m : MbId) (s : State) : Host.Outcome State Fault Refusal := .next (mbRingReset m s)
/-- TICK_LO_READ. -/
def execTickLoRead (s : State) : Host.Outcome State Fault Refusal := .next (tickLoRead s)
/-- REGISTER_WRITE. -/
def execRegisterWrite (function : Fin 2) (offset size : Nat) (value : BitVec 32) (s : State) : Host.Outcome State Fault Refusal :=
  .next (registerWrite function offset size value s)

end Sys2Proof.Machine
end

