-- ==== Sys2Proof/Machine/Faults.lean ====
section
/-!
DEFINITION. Faults: dead units and their spares (19 R396 to R400), re-striping (R398), the detection rows, what the collector
reports (R403), and the FLT_ commands.
-/

namespace Sys2Proof.Machine

/-- The collector changed by `f`. -/
def modCollector (f : Collector → Collector) (s : State) : State := { s with collector := f s.collector }

/-! ## Units (R396, R397, R399, R400) -/

/-- The unit develops frame `f` of context `c` now. -/
def runsOn (s : State) (c : CtxId) (u : UnitId) (f : Frame) : Bool :=
  f.phase == .developing && (unitsOf s { f.bank with excluded := s.contexts[c].live.excluded }).contains u

/-- The first context with a frame on the unit, and that frame's number (R403). -/
def affected (s : State) (u : UnitId) : Option (CtxId × Nat) :=
  allCtx.findSome? fun c => (s.contexts[c].frames.find? (runsOn s c u)).map fun f => (c, f.number)

/-- The frames that a spare completes for the unit carry UNIT_TAKEOVER (R397). -/
def markTakeover (u : UnitId) (s : State) : State :=
  forEach allCtx (fun c => modCtx c fun x => { x with frames := x.frames.map fun f => f.markIf (runsOn s c u f) .unitTakeover }) s

/-- The cluster once unit `i` is dead: its spare takes an active unit's place; without a spare the stripe stays uncovered; a
dead spare is lost (R396, R397). -/
def fence (i : Fin 9) (k : Cluster) : Cluster :=
  let k := { k with fenced := i :: k.fenced, injected := k.injected.filter fun x => x.1 != i }
  if k.spare = some i then { k with spare := none }
  else match k.spare with
    | some v => { k with slots := k.slots.map fun j => if j = i then v else j, spare := none }
    | none => { k with uncovered := i :: k.uncovered }

/-- The unit is declared dead: fenced, source 0x20 + region raised with the detail, FLT_TAKEOVER posted (R396). -/
def declareDead (u : UnitId) (detail : Nat) (s : State) : State :=
  let k := clusterOf s u.region u.cluster
  if k.fenced.contains u.index then s
  else
    let spare := if k.spare = some u.index then none else k.spare
    let who := if k.spare = some u.index then none else affected s u
    let frame := match who with | some x => x.2 | none => 0
    let t := modCluster u.region u.cluster (fence u.index) (if spare.isSome then markTakeover u s else s)
    let t := when spare.isSome (modCollector fun x => { x with takeovers := bump x.takeovers }) t
    let t := raise (src (0x20 + u.region.val)) (who.map Prod.fst) (BitVec.ofNat 48 frame) detail t
    let name := match spare with | some v => unitName { u with index := v } | none => 0xFF
    post 0x1181 (who.map Prod.fst) (BitVec.ofNat 48 frame) (unitName u + 2 ^ 8 * name + 2 ^ 16 * frame) t

/-- ROW_BLOCK_CHECK: an active unit's row-block ends; a failed check, or one that FLT_INJECT asked for, makes the unit dead
(R396). -/
def rowBlockCheck (u : UnitId) (r : UnitCheck) (s : State) : State :=
  let k := clusterOf s u.region u.cluster
  if !k.slots.contains u.index then s
  else match k.injected.find? fun x => x.1 == u.index with
    | some x => declareDead u x.2.toNat s
    | none => if r = .good then s else declareDead u (unitName u) s

/-- SPARE_SELF_TEST_FAIL: the cluster loses its spare (R396, R397). -/
def spareSelfTestFail (r : RegionId) (k : Fin 2) (s : State) : State :=
  match (clusterOf s r k).spare with
  | none => s
  | some i => declareDead ⟨r, k, i⟩ (unitName ⟨r, k, i⟩) s

/-- A request of a fenced unit is discarded and counted (R399). -/
def fencedActivity (r : RegionId) (detail : Nat) (s : State) : State :=
  raise (src (0x2C + r.val)) none 0 detail
    (modRegion r (fun x => { x with fencedNow := bump x.fencedNow }) (modCollector (fun x => { x with fenced := bump x.fenced }) s))

/-- FENCED_REQUEST. -/
def fencedRequest (u : UnitId) (s : State) : State :=
  if (clusterOf s u.region u.cluster).fenced.contains u.index then fencedActivity u.region (unitName u) s else s

/-- REINTEGRATION_TEST_DONE: a unit that passed is the spare from the next hinge on; one that failed stays fenced (R400). -/
def reintegrationTestDone (u : UnitId) (pass : Bool) (s : State) : State :=
  match (clusterOf s u.region u.cluster).testing with
  | none => s
  | some (i, m, tag) =>
    if i ≠ u.index then s
    else
      let t := modCluster u.region u.cluster (fun k => { k with testing := none, returning := if pass then some i else k.returning }) s
      if pass then endBackground m 0x1106 tag .ok 0 t else endBackground m 0x1106 tag .hwFault (0x20 + u.region.val) t

/-- A unit that passed its test becomes the cluster's spare (R400). -/
def returnUnit (k : Cluster) : Cluster :=
  match k.returning with
  | none => k
  | some i => { k with
      spare := some i, returning := none, fenced := k.fenced.filter fun j => j != i
      slots := k.slots.filter fun j => j != i, uncovered := k.uncovered.filter fun j => j != i }

/-- At a hinge: units that passed return, and discarded requests are reported (R399, R400). -/
def unitsHinge (s : State) : State :=
  forEach allRegions (fun r t =>
    let n := t.regions[r].fencedNow.toNat
    let t := when (n != 0) (post 0x1183 none 0 (r.val + 2 ^ 8 * n)) t
    modCluster r 1 returnUnit (modCluster r 0 returnUnit (modRegion r (fun x => { x with fencedNow := 0 }) t))) s

/-! ## Re-striping (R385, R398) -/

/-- The uncovered dead units of the regions a bank is placed on. -/
def uncoveredOf (s : State) (b : Bank) : List UnitId :=
  (regionsOf b).flatMap fun r => ([0, 1] : List (Fin 2)).flatMap fun k =>
    (clusterOf s r k).uncovered.map fun i => (⟨r, k, i⟩ : UnitId)

/-- A context on region `r` whose clusters there hold a dead unit and no spare. -/
def hurt (s : State) (r : RegionId) (c : CtxId) : Bool :=
  s.contexts[c].state != .free && s.contexts[c].live.regions.getLsbD r.val && (uncoveredOf s s.contexts[c].live).any fun u => u.region == r

/-- One context is re-striped over its healthy active units, or stopped, at hinge `h`; resource 1 decides (R398). -/
def restripe (h : Nat) (c : CtxId) (s : State) : State :=
  let dead := uncoveredOf s s.contexts[c].live
  let q := applyBank (.restripe c dead) (projected s)
  let fails := (loadsOf s q once [] 1).any Load.over || extraFail q 1
  let t := accept s
  let t := armAt h t.cmd.accepted.toNat [if fails then .stop c else .restripe c dead] t
  let n := firstFrameAt s c h
  post 0x1184 (some c) (BitVec.ofNat 48 n) (bit fails + 2 ^ 8 * (unitsOf q q.contexts[c].live).length + 2 ^ 16 * n) t

/-- The actions of sources 0x24 to 0x27 that have not been run, at a management tick (R385, R398). -/
def restripeDue (s : State) : State :=
  if inDeadbolt s then s
  else forEach allRegions (fun r t =>
    let a := src (0x24 + r.val)
    if !t.collector.acting.contains a || t.collector.striping.any fun x => x.1 == a then t
    else
      let h := reachable t
      modCollector (fun k => { k with striping := (a, h) :: k.striping }) (forEach (allCtx.filter (hurt t r)) (restripe h) t)) s

/-- The re-stripings of this hinge end (R385). -/
def endStriping (h : Nat) (k : Collector) : Collector :=
  { k with acting := k.acting.filter fun a => !(k.striping.any fun x => x.1 == a && x.2 ≤ h)
           striping := k.striping.filter fun x => h < x.2 }

/-! ## Reports (R393, R403) -/

/-- FLT_RAISED of one source: the raises since its previous one (R403). -/
def postRaised (x : SourceId × Byte) (s : State) : State :=
  let n := s.collector.since[x.1].toNat
  let e := { eventNow 0x1180 none 0 (x.1.val + 2 ^ 8 * severityOf s.collector x.1 + 2 ^ 16 * n) s with ctx := x.2 }
  let t := { s with cmd := { s.cmd with eventSeq := s.cmd.eventSeq + 1 }
                    collector := { s.collector with since := s.collector.since.set x.1 0 } }
  forEach [0, 1, 2, 3, 4, 5, 6, 7] (fun m t => when (wants m 0x1180 t.mailboxes[m]) (modMb m (deliver e)) t)
    (when (isWorker t) (emit (.relay e)) t)

/-- The FLT_RAISED events that are due. -/
def postDue (s : State) : State :=
  forEach s.collector.due postRaised (modCollector (fun k => { k with due := [] }) s)

/-- FLT_DEADBOLT from the deadbolt record (R393 step 6). -/
def postDeadbolt (s : State) : State :=
  match s.collector.deadbolt with
  | some x =>
    if s.collector.deadboltDue then
      post 0x1182 none 0 (x.source.val + 2 ^ 8 * (x.detail.toNat % 2 ^ 56)) (modCollector (fun k => { k with deadboltDue := false }) s)
    else s
  | none => s

/-! ## Detection rows (R384, R391, R402) -/

/-- COLLECTOR_PARITY_ERROR: source 0x00, the latch untrusted (R391). -/
def collectorParityError (s : State) : State := modCollector (fun k => { k with untrusted := true }) (raise0 0x00 s)

/-- LOCKSTEP_MISMATCH: source 0x08, or 0x09 within 1 s of the one before; Kongaord goes on from its retained state (R402). -/
def lockstepMismatch (s : State) : State :=
  let again := match s.collector.lockstepAt with | some v => decide (nowPs s - v ≤ 10 ^ 12) | none => false
  raise0 (if again then 0x09 else 0x08) (modCollector (fun k => { k with lockstepAt := some (nowPs s) }) s)

/-- SRAM_ECC_ERROR (R384). -/
def sramEccError (e : SramError) (s : State) : State :=
  match e with
  | .management => raise0 0x0A s
  | .correctedRate => raise0 0x0B s
  | .region r => raise (src (0x28 + r.val)) none 0 (regionName r) s
  | .memController => raise0 0x3D s
  | .compression => raise0 0x4B s

/-! ## Commands -/

/-- The field of a fault source: not reserved (R384). -/
def sourceField (off : Nat) : Field := ⟨off, 1, fun v => v ≤ 0x5F && !reservedSource (src v)⟩

/-- FLT_SET_SEVERITY, 0x1101. -/
def fltSetSeveritySpec : Spec where
  opcode := 0x1101
  len := .counted fun p => 8 + 2 * fieldAt p 0 1
  deadbolt := true
  fields := fun e _ => range 0 1 1 96 :: rsv 1 7 :: (List.range (arg e 0 1)).flatMap fun i =>
    [sourceField (8 + 2 * i), ⟨9 + 2 * i, 1, fun v => v ≤ 3 && (v == 3 || !fixedSeverity (src (arg e (8 + 2 * i) 1)))⟩]
  effect := fun e s =>
    let sev := (List.range (arg e 0 1)).foldl (fun (v : Vector Nat 96) i => v.set (src (arg e (8 + 2 * i) 1)) (arg e (9 + 2 * i) 1))
      s.collector.severity
    .reply (modCollector (fun k => { k with severity := sev }) s) {}

/-- A record as it is read (R388); none reads as zeros. -/
def faultRecordBytes (x : Option FaultRecord) : List Byte :=
  match x with
  | none => List.replicate 32 0
  | some x => image 32 [put 0 1 x.source.val, put 1 1 x.severity, put 2 1 (1 + 2 * bit x.fixed), put 4 4 x.count.toNat,
      put 8 8 x.tick.toNat, put 16 6 x.frame.toNat, put 22 1 x.ctx.toNat, put 24 8 x.detail.toNat]

/-- The structure of FLT_GET_STATUS. -/
def faultStatus (s : State) : List Byte :=
  let k := s.collector
  image 512 ([put 0 4 (legacyWord s).toNat,
    put 4 1 (bit k.latch.isSome + 2 * bit k.untrusted + 4 * bit (inDeadbolt s) + 8 * bit s.boot.thermalLatch + 16 * bit k.previous.isSome),
    put 5 1 (bit k.pinLevel + 2 * bit k.pulseEnable + 4 * bit (faultNAsserted s)),
    (8, faultRecordBytes k.latch), (40, faultRecordBytes k.deadbolt), (72, faultRecordBytes k.previous), put 104 4 k.takeovers.toNat,
    put 108 4 k.fenced.toNat,
    (112, allRegions.map fun r => BitVec.ofNat 8 (bit (clusterOf s r 0).spare.isSome + 2 * bit (clusterOf s r 1).spare.isSome)),
    (128, (k.counts.toList).flatMap fun n => leBytes 4 n.toNat)])

/-- FLT_GET_STATUS, 0x1102. -/
def fltGetStatusSpec : Spec where
  opcode := 0x1102
  len := .exact 512
  noInline := true
  deadbolt := true
  effect := fun _ s => .reply s { detail := (legacyWord s).toNat, back := some (0, faultStatus s) }

/-- FLT_CLEAR, 0x1103. -/
def fltClearSpec : Spec where
  opcode := 0x1103
  len := .exact 8
  deadbolt := true
  fields := fun _ _ => [range 0 1 0 7, rsv 1 3, ⟨4, 4, fun v => v < 2 ^ 29⟩]
  effect := fun e s =>
    let f := arg e 0 1
    let clear := fun k : Collector =>
      let k := if f.testBit 0 then { k with latch := none, overflow := false, untrusted := false } else k
      let k := if f.testBit 1 then { k with legacy := k.legacy &&& ~~~BitVec.ofNat 32 (arg e 4 4) } else k
      if f.testBit 2 then { k with counts := Vector.replicate 96 0, history := [], historyLost := 0 } else k
    .reply (modCollector clear s) { detail := (legacyWord s).toNat }

/-- FLT_SET_PIN, 0x1104: the detail carries the previous settings as FLT_GET_STATUS reports them. -/
def fltSetPinSpec : Spec where
  opcode := 0x1104
  len := .exact 8
  deadbolt := true
  fields := fun _ _ => [range 0 1 0 1, range 1 1 0 1, rsv 2 6]
  effect := fun e s =>
    let k := s.collector
    .reply (modCollector (fun k => { k with pinLevel := arg e 0 1 == 1, pulseEnable := arg e 1 1 == 1 }) s)
      { detail := bit k.pinLevel + 2 * bit k.pulseEnable }

/-- FLT_READ_HISTORY, 0x1105. -/
def fltReadHistorySpec : Spec where
  opcode := 0x1105
  len := .exact 2064
  noInline := true
  deadbolt := true
  fields := fun _ _ => [range 0 1 0 1]
  effect := fun e s =>
    let k := s.collector
    .reply (when (arg e 0 1 == 1) (modCollector fun k => { k with history := [], historyLost := 0 }) s)
      { detail := k.history.length
        back := some (8, leBytes 4 k.history.length ++ leBytes 4 k.historyLost.toNat ++ k.history.flatMap fun x => faultRecordBytes (some x)) }

/-- The unit a field names. -/
def argUnit (e : Entry) (off : Nat) : UnitId := (unitOfName (arg e off 1)).getD ⟨0, 0, 0⟩

/-- FLT_REINTEGRATE, 0x1106. -/
def fltReintegrateSpec : Spec where
  opcode := 0x1106
  len := .exact 8
  isBackground := true
  fields := fun _ _ => [⟨0, 1, fun v => (unitOfName v).isSome⟩, rsv 1 7]
  states := fun e s =>
    let u := argUnit e 0
    let k := clusterOf s u.region u.cluster
    firstFail [(!k.fenced.contains u.index, wrong 0x16), (k.spare.isSome, wrong 0x17), (!domainOn s (regionDomain u.region), wrong 5),
      (k.testing.isSome, ⟨.busyRetry, match k.testing with | some x => unitName { u with index := x.1 } | none => 0⟩)]
  effect := fun e s =>
    let u := argUnit e 0
    .background (modCluster u.region u.cluster (fun k => { k with testing := some (u.index, e.mb, e.tag) }) s) none 0

/-- The unit field of FLT_INJECT: a unit for sources 0x20 to 0x23, any name of R25 for 0x24 to 0x2F, in the source's region;
else 0. -/
def injectUnit (source v : Nat) : Bool :=
  if source < 0x20 ∨ 0x2F < source then v == 0
  else v / 32 % 4 == source % 4 &&
    ((unitOfName v).isSome || (0x24 ≤ source && ((v < 128 && v % 16 == 15) || (128 ≤ v && v % 32 == 0))))

/-- The detail written to the records: for sources 0x20 to 0x2F its low byte is the unit name (R388). -/
def injectDetail (e : Entry) : Nat :=
  let d := arg e 8 8
  if 0x20 ≤ arg e 0 1 ∧ arg e 0 1 ≤ 0x2F then d / 256 * 256 + arg e 1 1 else d

/-- A source raised as if its condition had occurred (FLT_INJECT). -/
def injectSource (e : Entry) (s : State) : State :=
  let n := arg e 0 1
  let d := injectDetail e
  let u := argUnit e 1
  let k := clusterOf s u.region u.cluster
  let t := raise (src n) none 0 d s
  if 0x20 ≤ n ∧ n ≤ 0x23 then
    if k.spare = some u.index then declareDead u d s
    else modCluster u.region u.cluster (fun k => { k with injected := (u.index, BitVec.ofNat 64 d) :: k.injected }) s
  else if 0x2C ≤ n ∧ n ≤ 0x2F then fencedActivity ⟨n % 4, Nat.mod_lt _ (by decide)⟩ d s
  else if n = 0x00 then modCollector (fun k => { k with untrusted := true }) t
  else if n = 0x08 then modCollector (fun k => { k with lockstepAt := some (nowPs s) }) t
  else if n = 0x0C then when (t.collector.acting.contains 0x0C) (modSec fun y => { y with down := true }) t
  else if n = 0x4F ∧ !s.collector.acting.contains 0x4F then
    modCollector (fun k => { k with acting := k.acting.filter fun a => a != 0x4F }) t
  else if n = 0x5E then tripWith d s
  else t

/-- FLT_INJECT, 0x1107: only under strap code 15 (R391). -/
def fltInjectSpec : Spec where
  opcode := 0x1107
  len := .exact 16
  permitted := fun _ s => s.boot.strap == 15
  fields := fun e _ => [sourceField 0, ⟨1, 1, injectUnit (arg e 0 1)⟩, rsv 2 6, anyVal 8 8]
  states := fun e s =>
    let u := argUnit e 1
    if 0x20 ≤ arg e 0 1 ∧ arg e 0 1 ≤ 0x23 ∧ (clusterOf s u.region u.cluster).fenced.contains u.index then some (wrong 0x1C) else none
  effect := fun e s => .reply (injectSource e s) {}

/-! ## Meanings -/

/-- ROW_BLOCK_CHECK. -/
def execRowBlockCheck (u : UnitId) (result : UnitCheck) (s : State) : Host.Outcome State Fault Refusal := .next (rowBlockCheck u result s)
/-- SPARE_SELF_TEST_FAIL. -/
def execSpareSelfTestFail (r : RegionId) (cluster : Fin 2) (s : State) : Host.Outcome State Fault Refusal :=
  .next (spareSelfTestFail r cluster s)
/-- FENCED_REQUEST. -/
def execFencedRequest (u : UnitId) (s : State) : Host.Outcome State Fault Refusal := .next (fencedRequest u s)
/-- REINTEGRATION_TEST_DONE. -/
def execReintegrationTestDone (u : UnitId) (pass : Bool) (s : State) : Host.Outcome State Fault Refusal :=
  .next (reintegrationTestDone u pass s)
/-- FAULT_N_PULSE_END: 256 AON clocks after the last raise (R390). -/
def execFaultNPulseEnd (s : State) : Host.Outcome State Fault Refusal := .next (modCollector (fun k => { k with pulse := false }) s)
/-- HEARTBEAT_STALL: source 0x07. -/
def execHeartbeatStall (s : State) : Host.Outcome State Fault Refusal := .next (raise0 0x07 s)
/-- LOCKSTEP_MISMATCH. -/
def execLockstepMismatch (s : State) : Host.Outcome State Fault Refusal := .next (lockstepMismatch s)
/-- PLL_LOCK_LOST: source 0x05. -/
def execPllLockLost (s : State) : Host.Outcome State Fault Refusal := .next (raise0 0x05 s)
/-- XTAL_OUT_OF_RANGE: source 0x04. -/
def execXtalOutOfRange (s : State) : Host.Outcome State Fault Refusal := .next (raise0 0x04 s)
/-- COLLECTOR_PARITY_ERROR. -/
def execCollectorParityError (s : State) : Host.Outcome State Fault Refusal := .next (collectorParityError s)
/-- SRAM_ECC_ERROR. -/
def execSramEccError (error : SramError) (s : State) : Host.Outcome State Fault Refusal := .next (sramEccError error s)
/-- HINGE_SEQUENCER_SELF_CHECK_FAILED: source 0x06. -/
def execHingeSequencerSelfCheckFailed (s : State) : Host.Outcome State Fault Refusal := .next (raise0 0x06 s)
/-- FLT_SET_SEVERITY. -/
def execFltSetSeverity (e : Entry) (s : State) : Host.Outcome State Fault Refusal := .next (runCommand fltSetSeveritySpec e s)
/-- FLT_GET_STATUS. -/
def execFltGetStatus (e : Entry) (s : State) : Host.Outcome State Fault Refusal := .next (runCommand fltGetStatusSpec e s)
/-- FLT_CLEAR. -/
def execFltClear (e : Entry) (s : State) : Host.Outcome State Fault Refusal := .next (runCommand fltClearSpec e s)
/-- FLT_SET_PIN. -/
def execFltSetPin (e : Entry) (s : State) : Host.Outcome State Fault Refusal := .next (runCommand fltSetPinSpec e s)
/-- FLT_READ_HISTORY. -/
def execFltReadHistory (e : Entry) (s : State) : Host.Outcome State Fault Refusal := .next (runCommand fltReadHistorySpec e s)
/-- FLT_REINTEGRATE. -/
def execFltReintegrate (e : Entry) (s : State) : Host.Outcome State Fault Refusal := .next (runCommand fltReintegrateSpec e s)
/-- FLT_INJECT. -/
def execFltInject (e : Entry) (s : State) : Host.Outcome State Fault Refusal := .next (runCommand fltInjectSpec e s)

end Sys2Proof.Machine
end

