-- ==== Sys2Proof/Machine/Power.lean ====
section
/-!
DEFINITION. Power: power domains, clocks and the ceiling (22 R436 to R439), thermal measurement and the trip (R440 to R443), PERST_N
and the endpoint's link (20 R409), and the PWR_ and THM_ commands.
-/

namespace Sys2Proof.Machine

/-! ## Who uses a domain (R30, R437) -/

/-- Domain `d` carries context `c`'s path under configuration `q` (R30). -/
def carries (q : State) (d : Fin 25) (c : CtxId) : Bool :=
  let b := q.contexts[c].live
  if h : 4 ≤ d.val ∧ d.val ≤ 7 then b.regions.getLsbD (d.val - 4)
  else if h : 8 ≤ d.val ∧ d.val ≤ 11 then
    let m : StackId := ⟨d.val - 8, by omega⟩
    q.mem.interleaved || homeStack q b == m || (stacked q).any fun x => x.1.ctx == some c && x.2 == m
  else if d = 14 then
    b.statHost.isSome || b.vecExport.isSome || b.encodes.toList.any (fun v => v.on && v.hostCopy)
      || q.recs[c].clips.any fun k => k.cfg.target == .host
  else (blocksOf d).any fun n => serves q n c

/-- The admitted contexts whose path a domain carries, in the live banks or as accepted so far. -/
def carriedMask (s : State) (d : Fin 25) : Nat :=
  let q := projected s
  ctxMask (allCtx.filter fun c => (admitted s c && carries s d c) || (admitted q c && carries q d c))

/-- A tick source that counts by the time base (R437). -/
def timedSource (n : Nat) : Bool := n == 3 || n == 5

/-- A user of the time base is active (R437). -/
def timeUsed (s : State) : Bool :=
  let q := projected s
  (allCtx.any fun c => s.contexts[c].state == .running || q.contexts[c].state == .running)
    || s.ptp.cfg.on || q.triggers.tt.toList.any (fun x => x.prog.on)
    || ([0, 1] : List (Fin 2)).any (streamOn q)
    || q.audio.ports.toList.any (fun y => y.running && match y.cfg with | some k => !k.slave | none => false)
    || s.pos.toList.any (fun x => x.on)
    || timedSource s.tick.live.source
    || (s.cmd.armed.map Armed.change ++ heldChanges s).any fun x => match x with
      | .tickSource v => timedSource v.source
      | _ => false

/-- The fabric-stop rule fails: HBMC0 goes OFF last of its die, HBMC2 too (R437). -/
def fabricStop (q : State) (d : Fin 25) : Bool :=
  let on := fun n : Fin 25 => q.power.domains[n] != .off
  (d == 8 && (on 4 || on 5 || on 9)) || (d == 10 && (on 6 || on 7 || on 11))

/-- Stack `m` holds an allocation, one of its own or its part of an interleaved one. -/
def stackHeld (q : State) (m : StackId) : Bool :=
  if q.mem.interleaved then allStacks.any fun k => stackTaken q k != 0 else stackTaken q m != 0

/-! ## PWR_SET_DOMAIN (R436, R437) -/

/-- The domain field. -/
def argDomain (e : Entry) : Fin 25 := ⟨arg e 0 1 % 25, Nat.mod_lt _ (by decide)⟩

/-- The calibration record in flash passes step 1 of R211. -/
def recordGood (s : State) : Bool :=
  let r := (List.range 8256).map fun i => readFlash s (recordAt + i)
  slice r 0 4 == [0x53, 0x5A, 0x4D, 0x54] && fieldAt r 4 2 == 1 && fieldAt r 6 2 == 0 && slice r 8 16 == serialBytes s
    && fieldAt r 28 4 == (crc32c (overlay r 28 (List.replicate 4 0))).toNat

/-- The wake time in µs (R436): none for a domain that is ON. -/
def wakeTime (s : State) (d : Fin 25) : Nat :=
  match (projected s).power.domains[d] with
  | .on => 0
  | was =>
    if 4 ≤ d.val ∧ d.val ≤ 7 then (if was = .retain then 20 else 2000)
    else if 8 ≤ d.val ∧ d.val ≤ 11 then (if recordGood s then 10000 else 410000)
    else 1000

/-- The states in which a domain may leave ON (R30, R437). -/
def leaveFail (s : State) (d : Fin 25) (v : Nat) : Option Fail :=
  let q := projected s
  firstFail [
    (carriedMask s d != 0, wrong (carriedMask s d)),
    ((if h : 8 ≤ d.val ∧ d.val ≤ 11 then stackHeld q ⟨d.val - 8, by omega⟩ || fabricStop q d else false), wrong 0x19),
    (d == 23 && v == 0 && timeUsed s, wrong 0x1B)]

/-- Resource 8 fails under the configuration that `f` makes of the one accepted so far (R439). -/
def powerFail (s t : State) (cs : List Change) : Option Fail :=
  if resourceOver ⟨s, projected s, t, cs⟩ 8 then some ⟨.overBudget, 8⟩ else none

/-- PWR_SET_DOMAIN, 0x1301. -/
def pwrSetDomainSpec : Spec where
  opcode := 0x1301
  len := .exact 8
  bank := true
  permitted := fun e s =>
    let d := arg e 0 1
    !(1 ≤ d && d ≤ 3) && !(d == 14 && e.mb != 4) && !(d == 24 && arg e 1 1 == 1 && standalone s)
      && !(d == 23 && arg e 1 1 == 0 && (e.mb == 4 || s.boot.strap == 12))
  fields := fun e _ => [range 0 1 4 24, ⟨1, 1, fun v => v ≤ 1 || (v == 2 && arg e 0 1 ≤ 7)⟩, rsv 2 6]
  states := fun e s => if arg e 1 1 = 1 then none else leaveFail s (argDomain e) (arg e 1 1)
  tumbler := fun e s =>
    let c : Change := .domain (argDomain e) (arg e 1 1)
    let q := projected s
    if arg e 1 1 = 1 ∨ (arg e 1 1 = 2 ∧ q.power.domains[argDomain e] = .off) then powerFail s (applyBank c q) [c] else none
  effect := fun e s =>
    .arm s [.domain (argDomain e) (arg e 1 1)] none (if arg e 1 1 = 1 then wakeTime s (argDomain e) else 0)

/-- A domain switch at its hinge (R437): OFF with what it loses, RETAIN, or waking; a stack that wakes trains (R211). -/
def switchDomain (d : Fin 25) (v : Nat) (s : State) : State :=
  if v = 0 then domainOff d s
  else if v = 2 then setDomain d .retain s
  else if s.power.domains[d] = .on then s
  else if h : 8 ≤ d.val ∧ d.val ≤ 11 then
    modStack ⟨d.val - 8, by omega⟩ (fun x => { x with state := .training }) (setDomain d .waking s)
  else setDomain d .waking s

/-- The time counter restarts at 0 s with the nominal increment, and TIME_STEPPED is posted (R437). -/
def restartTime (s : State) : State :=
  let t := stepTime (-(s.time.now : Int)) s
  { t with time := { t.time with now := 0, inc := 0x200000000 } }

/-- DOMAIN_WAKE_DONE: a woken domain reports ON (R436, R437); a stack's does so at MEM_TRAINED. -/
def domainWakeDone (d : Fin 25) (s : State) : State :=
  if s.power.domains[d] != .waking || (8 ≤ d.val && d.val ≤ 11) then s
  else setDomain d .on (when (d == 23) restartTime s)

/-! ## PWR_SET_CLOCK, PWR_SET_CEILING, PWR_GET_STATUS -/

/-- The die field. -/
def argDie (e : Entry) : Fin 2 := ⟨arg e 0 1 % 2, Nat.mod_lt _ (by decide)⟩

/-- The contexts placed on a region of a die (R22). -/
def placedMask (s : State) (die : Fin 2) : Nat :=
  ctxMask (allCtx.filter fun c => s.contexts[c].state != .free && allRegions.any fun r =>
    r.val / 2 == die.val && s.contexts[c].live.regions.getLsbD r.val)

/-- A die's clock set. -/
def setClock (die : Fin 2) (mhz : Nat) (s : State) : State :=
  { s with power := { s.power with clocks := s.power.clocks.set die mhz } }

/-- PWR_SET_CLOCK, 0x1302. -/
def pwrSetClockSpec : Spec where
  opcode := 0x1302
  len := .exact 8
  flags := true
  fields := fun _ _ => [range 0 1 0 1, rsv 1 1, oneOf 2 2 [600, 800, 1000], rsv 4 4]
  states := fun e s => if placedMask s (argDie e) = 0 then none else some (wrong (placedMask s (argDie e)))
  tumbler := fun e s =>
    if s.power.clocks[argDie e] < arg e 2 2 then powerFail s (projected (setClock (argDie e) (arg e 2 2) s)) [] else none
  effect := fun e s => .reply (setClock (argDie e) (arg e 2 2) s) { detail := s.power.clocks[argDie e] }

/-- The ceiling set. -/
def setCeiling (mw : Nat) (s : State) : State := { s with power := { s.power with ceiling := mw } }

/-- PWR_SET_CEILING, 0x1303. -/
def pwrSetCeilingSpec : Spec where
  opcode := 0x1303
  len := .exact 8
  fields := fun _ _ => [range 0 4 10000 200000, rsv 4 4]
  tumbler := fun e s => powerFail s (projected (setCeiling (arg e 0 4) s)) []
  effect := fun e s => .reply (setCeiling (arg e 0 4) s) { detail := estimate (withArmed s) }

/-- The state of a domain as PWR_GET_STATUS gives it. -/
def domainCode (s : State) (d : Fin 25) : Nat :=
  if h : 8 ≤ d.val ∧ d.val ≤ 11 then
    (if s.power.domains[d] == .on && s.mem.stks[(⟨d.val - 8, by omega⟩ : StackId)].state == .selfRefresh then 4
     else s.power.domains[d].code)
  else s.power.domains[d].code

/-- The structure of PWR_GET_STATUS; the memory demand is rounded up. -/
def powerStatus (s : State) : List Byte :=
  let q := withArmed s
  image 64 [(0, ((List.finRange 25).drop 1).map fun d => BitVec.ofNat 8 (domainCode s d)), put 24 2 s.power.clocks[0],
    put 26 2 s.power.clocks[1], put 28 4 s.power.ceiling, put 32 4 (estimate q), put 36 4 (estimate (projected s)),
    put 40 4 (ceilDiv (allTraffic q once) (1000000 * nano))]

/-- PWR_GET_STATUS, 0x1304. -/
def pwrGetStatusSpec : Spec where
  opcode := 0x1304
  len := .exact 64
  noInline := true
  deadbolt := true
  effect := fun _ s => .reply s { detail := estimate (withArmed s), back := some (0, powerStatus s) }

/-! ## Thermal measurement (R440 to R443) -/

/-- Thermal measurement changed by `f`. -/
def modThermal (f : Thermal → Thermal) (s : State) : State := { s with thermal := f s.thermal }

/-- A THM_WARNING (R444). -/
def thmWarning (kind threshold sensor : Nat) (max : Int) (s : State) : State :=
  post 0x1381 none 0 (kind + 2 ^ 8 * threshold + 2 ^ 16 * sensor + 2 ^ 24 * (max % 2 ^ 16).toNat) s

/-- A reading of one sensor in 0.125 °C: outside −40 to 150 °C it is invalid (R440). -/
def validReading (v : Int) : Option Int := if -320 ≤ v ∧ v ≤ 1200 then some v else none

/-- The sensors read; one that has become invalid is warned of once (R440). -/
def takeReadings (l : List Int) (s : State) : State :=
  let t := modThermal (fun x => { x with
    readings := Vector.ofFn fun i : Fin 14 => match l[i.val]? with
      | some v => validReading v
      | none => x.readings[i] }) s
  let bad := (List.finRange 14).filter fun i => (t.thermal.readings[i]).isNone
  let t := forEach (bad.filter fun i => !s.thermal.invalid.contains i.val) (fun i u => thmWarning 3 0 i.val (maxTemp t) u) t
  modThermal (fun x => { x with invalid := bad.map Fin.val }) t

/-- The thresholds in °C (R441). -/
def thresholds (x : Thermal) : List Nat := [x.w1, x.w2, 105]

/-- Threshold `k` of a sample with maximum `v` on sensor `i`: crossed, cleared, or neither (R441). -/
def thresholdStep (k : Fin 3) (v : Int) (i : Nat) (s : State) : State :=
  let th : Int := 8 * ((thresholds s.thermal).getD k.val 105 : Nat)
  if !s.thermal.crossed[k] && decide (th ≤ v) then
    let t := modThermal (fun x => { x with
      crossed := x.crossed.set k true, crossings := x.crossings.set k (bump x.crossings[k]) }) s
    asyncEvent 1 1 2 (thmWarning 0 (k.val + 1) i v (raiseVector 20 (raise0 (if k = 2 then 0x5D else 0x5C) t)))
  else if s.thermal.crossed[k] && decide (v ≤ th - 16) then
    thmWarning 1 (k.val + 1) i v (modThermal (fun x => { x with crossed := x.crossed.set k false }) s)
  else s

/-- The maximum lies within 5 °C below a threshold (R440). -/
def nearThreshold (x : Thermal) (v : Int) : Bool :=
  (thresholds x).any fun th => decide (8 * (th : Int) - 40 ≤ v) && decide (v < 8 * (th : Int))

/-- THERMAL_SAMPLE: Kongaord reads the sensors and compares the maximum (R440, R441). -/
def thermalSample (l : List Int) (s : State) : State :=
  if !s.kongaord then s
  else
    let t := takeReadings l s
    match hottest t.thermal.readings.toList.zipIdx with
    | none => t
    | some (v, i) =>
      let t := modThermal (fun x => { x with
        peak := some (match x.peak with | some p => max p v | none => v), fast := nearThreshold x v }) t
      forEach [0, 1, 2] (fun k u => thresholdStep k v i u) t

/-- THM_SET_THRESHOLDS, 0x1305. -/
def thmSetThresholdsSpec : Spec where
  opcode := 0x1305
  len := .exact 8
  fields := fun e _ => [range 0 1 60 104, range 1 1 (arg e 0 1) 104, rsv 2 6]
  effect := fun e s => .reply (modThermal (fun x => { x with w1 := arg e 0 1, w2 := arg e 1 1 }) s) {}

/-- Bytes 8 to 63 of THM_GET_STATUS. -/
def thermalStatus (s : State) : List Byte :=
  let x := s.thermal
  image 56 [(0, x.readings.toList.flatMap fun r => leInt 2 (r.getD (-32768))), (28, leInt 2 (maxTemp s)),
    put 30 1 (((hottest x.readings.toList.zipIdx).map Prod.snd).getD 0),
    put 31 1 (bit x.crossed[0] + 2 * bit x.crossed[1] + 4 * bit x.crossed[2] + 8 * bit x.fast + 16 * bit s.boot.thermalLatch),
    put 32 1 x.w1, put 33 1 x.w2, (34, leInt 2 (x.peak.getD (-32768))), put 36 4 x.crossings[0].toNat, put 40 4 x.crossings[1].toNat,
    put 44 4 x.crossings[2].toNat]

/-- THM_GET_STATUS, 0x1306. -/
def thmGetStatusSpec : Spec where
  opcode := 0x1306
  len := .exact 64
  noInline := true
  deadbolt := true
  fields := fun _ _ => [range 0 1 0 1, rsv 1 7]
  effect := fun e s =>
    .reply (if arg e 0 1 = 1 then modThermal (fun x => { x with crossings := Vector.replicate 3 0, peak := none }) s else s)
      { detail := (maxTemp s % 2 ^ 64).toNat, back := some (8, thermalStatus s) }

/-! ## The endpoint (20 R409) -/

/-- PERST_N: asserted, the endpoint is reset. -/
def perstChange (asserted : Bool) (s : State) : State := if asserted then resetEndpoint s else s

/-- ENDPOINT_LINK_DOWN: source 0x5A; the link is down, or an uncorrectable error was reported on it (R384, R409). -/
def endpointLinkDown (uncorrectable : Bool) (s : State) : State :=
  raise0 0x5A (if uncorrectable then s else { s with hostUp := false })

/-- ENDPOINT_LINK_UP: the link is up and the host has set Bus Master Enable (R409). -/
def endpointLinkUp (s : State) : State := if domainOn s 14 then { s with hostUp := true } else s

/-- PWR_SET_DOMAIN. -/
def execPwrSetDomain (e : Entry) (s : State) : Host.Outcome State Fault Refusal := .next (runCommand pwrSetDomainSpec e s)
/-- PWR_SET_CLOCK. -/
def execPwrSetClock (e : Entry) (s : State) : Host.Outcome State Fault Refusal := .next (runCommand pwrSetClockSpec e s)
/-- PWR_SET_CEILING. -/
def execPwrSetCeiling (e : Entry) (s : State) : Host.Outcome State Fault Refusal := .next (runCommand pwrSetCeilingSpec e s)
/-- PWR_GET_STATUS. -/
def execPwrGetStatus (e : Entry) (s : State) : Host.Outcome State Fault Refusal := .next (runCommand pwrGetStatusSpec e s)
/-- THM_SET_THRESHOLDS. -/
def execThmSetThresholds (e : Entry) (s : State) : Host.Outcome State Fault Refusal := .next (runCommand thmSetThresholdsSpec e s)
/-- THM_GET_STATUS. -/
def execThmGetStatus (e : Entry) (s : State) : Host.Outcome State Fault Refusal := .next (runCommand thmGetStatusSpec e s)
/-- DOMAIN_WAKE_DONE. -/
def execDomainWakeDone (d : Fin 25) (s : State) : Host.Outcome State Fault Refusal := .next (domainWakeDone d s)
/-- THERMAL_SAMPLE. -/
def execThermalSample (readings : List Int) (s : State) : Host.Outcome State Fault Refusal := .next (thermalSample readings s)
/-- THERMAL_TRIP. -/
def execThermalTrip (s : State) : Host.Outcome State Fault Refusal := .next (tripWith (Config.faultDetail 0x5E) s)
/-- SUPPLY_OUT_OF_RANGE: a core supply outside its range for more than 2 µs (R443). -/
def execSupplyOutOfRange (s : State) : Host.Outcome State Fault Refusal := .next (raise0 0x5F s)
/-- PERST_N. -/
def execPerstN (asserted : Bool) (s : State) : Host.Outcome State Fault Refusal := .next (perstChange asserted s)
/-- ENDPOINT_LINK_DOWN. -/
def execEndpointLinkDown (uncorrectable : Bool) (s : State) : Host.Outcome State Fault Refusal :=
  .next (endpointLinkDown uncorrectable s)
/-- ENDPOINT_LINK_UP. -/
def execEndpointLinkUp (s : State) : Host.Outcome State Fault Refusal := .next (endpointLinkUp s)

end Sys2Proof.Machine
end

