-- ==== Sys2Proof/Machine/Security.lean ====
section
/-!
DEFINITION. Security: image verification (21 R421 to R423), header records and the fuse floor (R426, R427),
attestation and certificate (R428 to R430), and the SEC_ commands.
-/

namespace Sys2Proof.Machine

/-! ## Images (R421 to R425) -/

/-- The fuse floor F (R426). -/
def fuseFloor (s : State) : Nat := match s.boot.fuses with | some f => f.floor | none => 0

/-- The maker key hash in fuses, 0 unprovisioned (R421). -/
def makerHash (s : State) : Nat := match s.boot.fuses with | some f => f.makerKeyHash.toNat | none => 0

/-- The device's serial number. -/
def serialOf (s : State) : Nat := match s.boot.fuses with | some f => f.serial.toNat | none => 0

/-- Bytes the two signatures take. -/
def signatureBytes : Nat := 2820

/-- The header's fixed fields, reserved fields and lengths are valid (R422, R423 step 2). -/
def imageHeaderOk (l : List Byte) : Bool :=
  let f := fieldAt l
  l.take 4 == [0x53, 0x5A, 0x46, 0x57] && f 4 2 == 1 && f 6 2 == 0 && f 13 1 == 0 && f 20 4 == 0 && f 136 120 == 0
    && f 12 1 ≤ 64 && 1 ≤ f 16 4 && f 16 4 ≤ 16771320 && l.length == 256 + f 16 4 + 2 * signatureBytes

/-- The keyway's result for an image, 1 when it verifies (R423). -/
def verifyImage (s : State) (l : List Byte) : Nat :=
  let f := fieldAt l
  let header := l.take 256
  let key := slice l 72 64
  let unprovisioned := makerHash s = 0
  let vendorAt := 256 + f 16 4
  if l.length < 256 + 2 * signatureBytes then 9
  else if !imageHeaderOk l then 2
  else if f 24 16 ≠ 0 ∧ f 24 16 ≠ serialOf s then 8
  else if f 12 1 < fuseFloor s then 7
  else if (if unprovisioned then leNat key != 0 else leNat (shake256 key) != makerHash s) then 5
  else if !Config.verifies [] header (slice l vendorAt signatureBytes) then 4
  else if !unprovisioned && !Config.verifies key header (slice l (vendorAt + signatureBytes) signatureBytes) then 6
  else if slice l 40 32 ≠ shake256 (slice l 256 (f 16 4)) then 3
  else 1

/-- What the keyway learns of a verified image (R422, R425). -/
def firmwareOf (l : List Byte) : FirmwareInfo where
  version := BitVec.ofNat 24 (fieldAt l 8 4)
  cmdset := BitVec.ofNat 16 (fieldAt l 14 2)
  security := fieldAt l 12 1
  measurement := BitVec.ofNat 256 (leNat (shake256 (l.take 256)))

/-- The image an entry's payload names, behind the payload's own bytes. -/
def imageArg (e : Entry) (off : Nat) : List Byte :=
  slice (e.data.drop (if entryLoc e = 0 then 0 else e.len.toNat)) 0 (arg e off 4)

/-! ## Header records (R427) -/

/-- A header record. -/
def headerRecord (preferred pending seq : Nat) : List Byte :=
  let b := image 28 [(0, [0x53, 0x5A, 0x4B, 0x48]), put 4 2 1, put 6 1 preferred, put 7 1 pending, put 8 8 seq]
  b ++ leBytes 4 (crc32c b).toNat

/-- A header record appended; a full block is erased first (R427). -/
def writeHeader (preferred pending : Nat) (s : State) : State :=
  let full := 2048 ≤ s.sec.headerCount
  let at_ := if full then 0 else s.sec.headerCount
  let seq := s.sec.headerSeq + 1
  let t := if full then eraseFlash 0 65536 s else s
  modSec (fun x => { x with preferred := preferred, pending := pending, headerSeq := seq, headerCount := at_ + 1 })
    (writeFlash (32 * at_) (headerRecord preferred pending seq) t)

/-- Flash address of an image slot (R418). -/
def slotAt (slot : Nat) : Nat := if slot = 0 then 0x00010000 else 0x02010000

/-! ## Rows -/

/-- An attestation response (R429), with the given leaf. -/
def attestation (s : State) (challenge : List Byte) (leaf : Nat) : List Byte :=
  let b := image 128 [(0, [0x53, 0x5A, 0x41, 0x54]), put 4 2 1, put 6 1 s.sec.running, put 7 1 (fuseFloor s), (8, challenge),
    (40, serialBytes s), (56, measurementBytes s), put 88 4 (fwVersionReg s).toNat, put 92 1 s.boot.strap,
    put 93 1 (bit (makerHash s != 0) + 2 * bit (inDeadbolt s)), put 96 8 s.tick.counter.toNat, (104, timeBytes (timeNow s)),
    put 120 8 leaf]
  b ++ xmss leaf b

/-- SECURITY_SIGN_DONE: the running signature ends; a seal goes on to step 7, an attestation is answered (R249, R430). -/
def securitySignDone (ok : Bool) (s : State) : State :=
  match s.sec.signing with
  | none => s
  | some x =>
    let t := modSec (fun y => { y with signing := none }) s
    let t := if !ok then failSignature x 0x0C t
      else
        let t := modSec (fun y => { y with made := bump y.made }) t
        match x with
        | .manifest c id _ => manifestSigned c id t
        | .attestation m tag kind loc challenge leaf =>
          endBackground m 0x1202 tag .ok 0 (writeLocation m kind loc 0 (attestation t challenge leaf) t)
    startSigning t

/-- SECURITY_ENGINE_FAULT: source 0x0C; the running signature fails; with its action the engine is reset and rechecked
(R384, R385). -/
def securityEngineFault (s : State) : State :=
  let idle := !s.collector.acting.contains 0x0C
  let t := raise0 0x0C s
  let t := match t.sec.signing with
    | none => t
    | some x => failSignature x 0x0C (modSec (fun y => { y with signing := none }) t)
  if idle && t.collector.acting.contains 0x0C then modSec (fun y => { y with down := true }) t else startSigning t

/-- SECURITY_SELF_CHECK_DONE: the engine is back and waiting seals resume; a second failure raises the source again
(R385). -/
def securitySelfCheckDone (ok : Bool) (s : State) : State :=
  if !s.sec.down then s
  else
    let t := { s with collector := { s.collector with acting := s.collector.acting.filter fun a => a != 0x0C } }
    if ok then startSigning (modSec (fun y => { y with down := false }) t) else raise0 0x0C t

/-- IMAGE_WRITE_DONE: the oldest image write ends; a failure leaves the slot erased (R423, SEC_IMAGE_WRITE). -/
def imageWriteDone (ok : Bool) (s : State) : State :=
  match s.sec.writes with
  | [] => s
  | w :: rest =>
    let t := eraseFlash (slotAt w.slot) 0x02000000 (modSec (fun y => { y with writes := rest }) s)
    if ok then
      let t := writeFlash (slotAt w.slot) w.image t
      let t := if w.prefer then writeHeader w.slot t.sec.pending t else t
      endBackground w.mb 0x1203 w.tag .ok 0 t
    else endBackground w.mb 0x1203 w.tag .hwFault 0x0F (raise0 0x0F t)

/-- SET_PREFERRED_DONE: result 1 verified, and the header record is written; any other is AUTH_FAIL (R427). -/
def setPreferredDone (result : Nat) (s : State) : State :=
  match s.sec.choosing with
  | [] => s
  | (m, tag, slot) :: rest =>
    let t := modSec (fun y => { y with choosing := rest }) s
    if result = 1 then endBackground m 0x1204 tag .ok 0 (writeHeader slot t.sec.pending t)
    else endBackground m 0x1204 tag .authFail result t

/-- The fuse floor is one higher. -/
def burnFuse (s : State) : State :=
  { s with boot := { s.boot with fuses := s.boot.fuses.map fun f => { f with floor := f.floor + 1 } } }

/-- FUSE_BURN_DONE: one fuse burnt; at the target the pending floor is cleared and the advance ends (R426, R435). -/
def fuseBurnDone (ok : Bool) (s : State) : State :=
  match s.sec.advancing with
  | none => s
  | some (m, tag, target, before) =>
    if !ok then endBackground m 0x1205 tag .hwFault 0 (modSec (fun y => { y with advancing := none }) s)
    else
      let t := burnFuse s
      if fuseFloor t < target then t
      else
        let t := writeHeader t.sec.preferred 0 (modSec (fun y => { y with advancing := none }) t)
        endBackground m 0x1205 tag .ok 0 (post 0x1280 none 0 (fuseFloor t + 2 ^ 8 * before) t)

/-! ## Commands -/

/-- The device certificate (R428); what manufacture fixes is free (log 37). -/
def certificate (s : State) : List Byte :=
  [(0, [0x53, 0x5A, 0x49, 0x43]), put 4 2 1, put 6 2 0x9480, (8, serialBytes s), put 24 1 0xB1, put 25 3 0,
    (104, List.replicate 24 0)].foldl (fun l (p : Nat × List Byte) => overlay l p.1 p.2)
    ((List.range 2948).map fun i => Config.certificateByte i)

/-- SEC_GET_CERTIFICATE, 0x1201. -/
def secGetCertificateSpec : Spec where
  opcode := 0x1201
  len := .exact 2948
  noInline := true
  deadbolt := true
  effect := fun _ s => .reply s { back := some (0, certificate s) }

/-- SEC_ATTEST, 0x1202. -/
def secAttestSpec : Spec where
  opcode := 0x1202
  len := .exact 10021
  noInline := true
  isBackground := true
  deadbolt := true
  fields := fun _ _ => [rsv 0 8, anyVal 8 32, rsv 40 9981]
  states := fun _ s => if s.sec.disabled then some (wrong 0x18) else none
  resources := fun _ s => if s.sec.nextLeaf < 2 ^ 40 then none else some ⟨.noResource, Config.openDetail 0x1202 0x8006⟩
  effect := fun e s =>
    .background (askSignature (.attestation e.mb e.tag (entryLoc e) e.loc.toNat (slice (payload e) 8 32)) s) none
      s.sec.nextLeaf

/-- SEC_IMAGE_WRITE, 0x1203. -/
def secImageWriteSpec : Spec where
  opcode := 0x1203
  len := .exact 16
  isBackground := true
  permitted := fun e s => arg e 0 1 != s.sec.running
  fields := fun _ _ => [range 0 1 0 1, range 1 1 0 1, rsv 2 2, range 4 4 5897 (2 ^ 24), ⟨8, 8, fun v => v % 8 == 0⟩]
  signature := fun e s =>
    if !s.hostUp then some ⟨.hwFault, 0x5B⟩
    else
      let r := verifyImage s (imageArg e 4)
      if r = 1 then none else some ⟨.authFail, r⟩
  effect := fun e s => .background (modSec (fun x => { x with
    writes := x.writes ++ [⟨e.mb, e.tag, arg e 0 1, arg e 1 1 == 1, imageArg e 4⟩] }) s) none (Config.openDetail 0x1203 0)

/-- SEC_SET_PREFERRED, 0x1204. -/
def secSetPreferredSpec : Spec where
  opcode := 0x1204
  len := .exact 8
  isBackground := true
  fields := fun _ _ => [range 0 1 0 1, rsv 1 7]
  effect := fun e s => .background (modSec (fun x => { x with choosing := x.choosing ++ [(e.mb, e.tag, arg e 0 1)] }) s) none
    (Config.openDetail 0x1204 0)

/-- The running image's security version. -/
def runningSecurity (s : State) : Nat := match s.boot.firmware with | some f => f.security | none => 0

/-- SEC_ROLLBACK_ADVANCE, 0x1205. -/
def secRollbackAdvanceSpec : Spec where
  opcode := 0x1205
  len := .exact 8
  isBackground := true
  fields := fun _ s => [⟨0, 1, fun v => fuseFloor s < v && v ≤ runningSecurity s⟩, rsv 1 7]
  states := fun _ s => if s.sec.advancing.isSome then some ⟨.busyRetry, Config.openDetail 0x1205 0x8005⟩ else none
  effect := fun e s =>
    let t := writeHeader s.sec.preferred (arg e 0 1) s
    .background (modSec (fun x => { x with advancing := some (e.mb, e.tag, arg e 0 1, fuseFloor s) }) t) none (fuseFloor s)

/-- SEC_GET_STATUS, 0x1206. -/
def secGetStatusSpec : Spec where
  opcode := 0x1206
  len := .exact 64
  noInline := true
  deadbolt := true
  effect := fun _ s =>
    let waiting := (s.sec.queue.filter fun x => !x.isSeal).length
    .reply s { detail := fuseFloor s, back := some (0, image 64 [put 0 1 s.sec.running, put 1 1 s.sec.preferred,
      put 2 1 (fuseFloor s), put 3 1 s.sec.pending, put 4 2 s.boot.slotA, put 6 2 s.boot.slotB,
      put 8 1 (bit (makerHash s != 0) + 2 * bit s.sec.disabled), put 16 8 s.sec.nextLeaf, put 24 8 s.sec.leafSeq,
      put 32 4 s.sec.made.toNat, put 36 4 waiting]) }

/-- SEC_GET_CERTIFICATE. -/
def execSecGetCertificate (e : Entry) (s : State) : Host.Outcome State Fault Refusal :=
  .next (runCommand secGetCertificateSpec e s)
/-- SEC_ATTEST. -/
def execSecAttest (e : Entry) (s : State) : Host.Outcome State Fault Refusal := .next (runCommand secAttestSpec e s)
/-- SEC_IMAGE_WRITE. -/
def execSecImageWrite (e : Entry) (s : State) : Host.Outcome State Fault Refusal := .next (runCommand secImageWriteSpec e s)
/-- SEC_SET_PREFERRED. -/
def execSecSetPreferred (e : Entry) (s : State) : Host.Outcome State Fault Refusal :=
  .next (runCommand secSetPreferredSpec e s)
/-- SEC_ROLLBACK_ADVANCE. -/
def execSecRollbackAdvance (e : Entry) (s : State) : Host.Outcome State Fault Refusal :=
  .next (runCommand secRollbackAdvanceSpec e s)
/-- SEC_GET_STATUS. -/
def execSecGetStatus (e : Entry) (s : State) : Host.Outcome State Fault Refusal := .next (runCommand secGetStatusSpec e s)
/-- SECURITY_SIGN_DONE. -/
def execSecuritySignDone (ok : Bool) (s : State) : Host.Outcome State Fault Refusal := .next (securitySignDone ok s)
/-- SECURITY_ENGINE_FAULT. -/
def execSecurityEngineFault (s : State) : Host.Outcome State Fault Refusal := .next (securityEngineFault s)
/-- SECURITY_SELF_CHECK_DONE. -/
def execSecuritySelfCheckDone (ok : Bool) (s : State) : Host.Outcome State Fault Refusal := .next (securitySelfCheckDone ok s)
/-- IMAGE_WRITE_DONE. -/
def execImageWriteDone (ok : Bool) (s : State) : Host.Outcome State Fault Refusal := .next (imageWriteDone ok s)
/-- SET_PREFERRED_DONE. -/
def execSetPreferredDone (result : Nat) (s : State) : Host.Outcome State Fault Refusal := .next (setPreferredDone result s)
/-- FUSE_BURN_DONE. -/
def execFuseBurnDone (ok : Bool) (s : State) : Host.Outcome State Fault Refusal := .next (fuseBurnDone ok s)

end Sys2Proof.Machine
end

