-- ==== Sys2Proof/Machine/Boot.lean ====
section
/-!
DEFINITION. Boot: reset sources and what they clear, the release order, strap, fuses, the keyway's start of Kongaord, recovery mode and
START_COMPLETE (20 R404 to R419, 21 R423 to R427), and SYS_RESET, SYS_RECOVERY_STATUS, SYS_FLASH and SYS_BOOT_IMAGE.
-/

namespace Sys2Proof.Machine

/-- Boot state changed by `f`. -/
def modBoot (f : Boot → Boot) (s : State) : State := { s with boot := f s.boot }

/-- The retention changed by `f`. -/
def modRetention (f : Retention → Retention) (s : State) : State :=
  modBoot (fun b => { b with retention := f b.retention }) s

/-! ## What a reset clears (R404, R405) -/

/-- The security engine after a reset: what stands in flash is kept, and leaves go on from the reserved limit (R405, R433). -/
def keptSecurity (x : Security) : Security :=
  { preferred := x.preferred, pending := x.pending, headerSeq := x.headerSeq, headerCount := x.headerCount, leafSeq := x.leafSeq
    leafCounts := x.leafCounts, limit := 1024 * x.leafSeq, nextLeaf := 1024 * x.leafSeq }

/-- The memory subsystem after a reset: contents undefined, hard repairs kept (R405, R209); `g` names the generation. -/
def keptMemory (g : Nat) (x : Mem) : Mem :=
  { stks := #v[{ repairs := x.stks[0].repairs }, { repairs := x.stks[1].repairs }, { repairs := x.stks[2].repairs },
      { repairs := x.stks[3].repairs }]
    undef := Vector.replicate 4 (some g), undefReserved := Vector.replicate 4 (some g) }

/-- Boot state after a reset asserted from any source; `aon` with the AON domain (R405, R407). -/
def keptBoot (aon : Bool) (b : Boot) : Boot :=
  { asserted := b.asserted, since := b.since, retention := if aon then {} else b.retention
    thermalLatch := !aon && b.thermalLatch, reading := b.reading, spread := b.spread, strap := b.strap, strapFault := b.strapFault
    twoWire := b.twoWire, failedAtStep3 := b.failedAtStep3 }

/-- The device in reset: everything cleared but what R405 keeps. -/
def cleared (aon : Bool) (s : State) : State :=
  { pending := s.pending, clk := s.clk, out := s.out, free := s.free + 1, hostMem := s.hostMem, flash := s.flash
    boot := keptBoot aon s.boot, sec := keptSecurity s.sec, mem := keptMemory s.free s.mem, tick := { slref := s.tick.slref }
    media := #v[{ volume := s.media[0].volume }, { volume := s.media[1].volume }] }

/-- A reset source that the device asserts itself and then drives RST_N low for (R404). -/
def ownReset (x : ResetSource) : Bool := x == .pinWatchdog || x == .pinCommand

/-- RESET_ASSERT: the device enters reset with the source's reach; during the stretch the pin is ignored (R404 to R406). -/
def resetAssert (x : ResetSource) (s : State) : State :=
  if x = .pinExternal ∧ s.boot.step = .stretch then s
  else if s.boot.asserted.contains x then s
  else
    let t := cleared (x == .aonPowerOn) s
    modBoot (fun b => { b with
      asserted := b.asserted ++ [x], since := if b.since.contains x then b.since else b.since ++ [x]
      drivesRstN := (b.asserted ++ [x]).any ownReset }) t

/-- The cause code of R404. -/
def resetCode : ResetSource → Nat
  | .aonPowerOn => 1 | .corePowerOn => 2 | .pinExternal => 3 | .pinWatchdog => 4 | .pinCommand => 5

/-- The last reset cause: the first in the table among the widest reach, bit 7 with more than one (R408). -/
def resetCause (l : List ResetSource) : Byte :=
  let first := l.foldl (fun m x => Min.min m (resetCode x)) 5
  BitVec.ofNat 8 (first + (if 1 < l.length then 128 else 0))

/-- RESET_RELEASE: the last release starts the stretch (R406, R408, R410 step 1). -/
def resetRelease (x : ResetSource) (s : State) : State :=
  if !s.boot.asserted.contains x then s
  else
    let t := modRetention (fun r => { r with cause := resetCause s.boot.since })
      (modBoot (fun b => { b with asserted := b.asserted.erase x }) s)
    if t.boot.asserted.isEmpty then modBoot (fun b => { b with step := .stretch, drivesRstN := true }) t
    else modBoot (fun b => { b with drivesRstN := b.asserted.any ownReset }) t

/-- STRETCH_END: RST_N is released; the start watchdog runs from here (R410 step 3, R416). -/
def stretchEnd (s : State) : State :=
  if s.boot.step = .stretch then
    modBoot (fun b => { b with step := .released, drivesRstN := false, failedAtStep3 := b.retention.failedStarts, watchdog := true }) s
  else s

/-- RST_N_CHECK: high, the order is complete and the two-wire address sampled; low, an external pin reset (R406, R414). -/
def rstNCheck (high twa1 twa0 : Bool) (s : State) : State :=
  if s.boot.step != .released then s
  else if high then
    modBoot (fun b => { b with step := .strap, since := [], twoWire := 0x58 + 2 * bit twa1 + bit twa0 }) s
  else resetAssert .pinExternal s

/-! ## Strap and fuses (R412 to R415) -/

/-- The strap code of a reading inside the bands (R412). -/
def strapOf (c : Nat) : Nat :=
  if c < 16 then 0 else if c < 32 then 1 else if c < 48 then 2 else if c < 160 then 3 + (c - 48) / 16
  else if c < 176 then 10 else if c < 192 then 11 else if c < 208 then 12 else if c < 224 then 13 else if c < 240 then 14 else 15

/-- The mean of the conversions, rounded, and their spread (R412, R413). -/
def strapReading (l : List Nat) : Nat × Nat :=
  let n := Max.max 1 l.length
  ((2 * l.sum + n) / (2 * n), l.foldl Max.max 0 - l.foldl Min.min (l.headD 0))

/-- A strap fault: short, open, spread above 8, or code 13 (R413). -/
def strapBad (c spread : Nat) : Bool := c ≤ 3 || 250 ≤ c || 8 < spread || strapOf c == 13

/-- STRAP_LATCH: the code is latched, 14 on a fault; fuse attempt 1 starts (R410 step 5). -/
def strapLatch (l : List Nat) (s : State) : State :=
  if s.boot.step != .strap then s
  else
    let (c, spread) := strapReading l
    modBoot (fun b => { b with
      step := .fuses 1, attempts := 1, reading := c, spread := spread, strapFault := strapBad c spread
      strap := if strapBad c spread then 14 else strapOf c }) s

/-- FUSE_LOAD_DONE: up to three attempts; a pass after a failure sets the fuse-retry flag (R415). -/
def fuseLoadDone (ok : Bool) (f : Fuses) (s : State) : State :=
  match s.boot.step with
  | .fuses n =>
    if ok then
      modRetention (fun r => { r with fuseRetry := r.fuseRetry || 1 < n })
        (modBoot (fun b => { b with fuses := some f, step := .locking }) s)
    else if n < 3 then modBoot (fun b => { b with step := .fuses (n + 1), attempts := n + 1 }) s
    else modBoot (fun b => { b with step := .locking }) s
  | _ => s

/-! ## The boot ROM (R410 step 7, R417, R419) -/

/-- The domains of a list put ON, without events. -/
def domainsOn (l : List (Fin 25)) (s : State) : State := forEach l (fun d => putDomain d .on) s

/-- Recovery mode for a reason (R417). -/
def enterRecovery (reason : Nat) (s : State) : State :=
  let t := modMb 4 (fun b => { b with enabled := true }) (domainsOn [2, 14, 23] s)
  setDevState 3 (modRetention (fun r => { r with forced := false })
    (modBoot (fun b => { b with step := .recovery, recovery := reason, watchdog := false }) t))

/-- The reason for recovery mode before any image is tried, in the order of R417. -/
def recoveryReason (b : Boot) : Option Nat :=
  if b.fuses.isNone then some 3
  else if b.strapFault then some 5
  else if b.strap = 14 then some 1
  else if b.retention.forced then some 6
  else if b.failedAtStep3 = 3 then some 2
  else none

/-- The ROM completes a burn whose target stands in the newest header record (R426). -/
def completeBurn (s : State) : State :=
  if fuseFloor s < s.sec.pending then
    writeHeader s.sec.preferred 0
      (modBoot (fun b => { b with fuses := b.fuses.map fun f => { f with floor := s.sec.pending } }) s)
  else s

/-- The ROM waits for its image: strap codes 3 to 11 (R416, R419). -/
def waitsForImage (s : State) : Bool := 3 ≤ s.boot.strap && s.boot.strap ≤ 11

/-- MGMT_RELEASE: the management domain is released, and the ROM enables the PCIe endpoint or enters recovery mode (R410 step 7,
R411, R417, R419). -/
def mgmtRelease (s : State) : State :=
  if s.boot.step != .locking then s
  else
    let t := domainsOn ([2] ++ (if s.boot.strap = 12 then [] else [14]) ++ (if isWorker s then [24] else [])) s
    let t := { t with collector := { t.collector with previous := s.boot.retention.prevDeadbolt } }
    match recoveryReason s.boot with
    | some r => enterRecovery r t
    | none => modBoot (fun b => { b with step := .keyway, watchdog := b.watchdog && !waitsForImage s }) (completeBurn t)

/-- The mailboxes that are served from the moment Kongaord runs: 4, and 5 on a worker (R66). -/
def enableBoxes (s : State) : State :=
  modMb 4 (fun b => { b with enabled := true }) (modMb 5 (fun b => { b with enabled := isWorker s }) s)

/-- The IOD is on and the stacks train, or, with the thermal latch set, only the domains of R442 stay (R410 step 8, R411). -/
def bringUp (s : State) : State :=
  let t := domainsOn [2, 3, 23] s
  if s.boot.thermalLatch then putDomain 24 .off t
  else forEach allStacks (fun m u => putDomain (stackDomain m) .waking (modStack m (fun x => { x with state := .training }) u)) t

/-- The fuse-retry flag is reported by source 0x01 and cleared (R415). -/
def reportRetry (s : State) : State :=
  if s.boot.retention.fuseRetry then modRetention (fun r => { r with fuseRetry := false }) (raise0 0x01 s) else s

/-- Kongaord runs from a verified image (R410 step 8, R411, R425). -/
def startKongaord (slot : Nat) (f : FirmwareInfo) (s : State) : State :=
  let t := { s with kongaord := true, sec := { s.sec with running := slot } }
  let t := modBoot (fun b => { b with firmware := some f, step := .starting, watchdog := true, recovery := 0 }) t
  reportRetry (setDevState (if s.boot.thermalLatch then 4 else 1) (bringUp (enableBoxes t)))

/-- Kongaord restarts through the keyway in deadbolt after a fault of the management processor (R393). -/
def restartKongaord (slot : Nat) (f : FirmwareInfo) (s : State) : State :=
  modBoot (fun b => { b with firmware := some f, step := .complete, watchdog := false })
    { s with kongaord := true, sec := { s.sec with running := slot } }

/-- Results of the slots as the ROM tries them: the preferred first, the other only when that fails (R423, R424). -/
def triedSlots (preferred a b : Nat) : Nat × Nat :=
  if preferred = 0 then (a, if a = 1 then 0 else b) else (if b = 1 then 0 else a, b)

/-- The slot that starts: the preferred one when it verified, else the other (R424). -/
def startSlot (preferred a b : Nat) : Option Nat :=
  if preferred = 0 then (if a = 1 then some 0 else if b = 1 then some 1 else none)
  else (if b = 1 then some 1 else if a = 1 then some 0 else none)

/-- IMAGE_VERIFY_DONE: the keyway has verified a flash slot, or an image that came over a hasp link (R419, R424); with a
management processor at fault it restarts Kongaord (R393). -/
def imageVerifyDone (a b : SlotResult) (f : FirmwareInfo) (s : State) : State :=
  if s.boot.step != .keyway then s
  else if s.devState = 4 then
    (match startSlot s.sec.preferred a b with
     | some n => restartKongaord (if isWorker s then 3 else if waitsForImage s then 2 else n) f s
     | none => s)
  else if isWorker s then (if a = 1 then startKongaord 3 f s else s)
  else if waitsForImage s then s
  else
    let r := triedSlots s.sec.preferred a b
    let t := modBoot (fun x => { x with slotA := r.1, slotB := r.2 }) s
    match startSlot s.sec.preferred a b with
    | none => enterRecovery 4 t
    | some n => when (n != s.sec.preferred) (raise0 0x0D) (startKongaord n f t)

/-! ## Start and watchdog (R410 step 9, R416, R436) -/

/-- The domains that are ON at START_COMPLETE (R436), or in deadbolt service after a thermal trip (R411). -/
def startDomains (s : State) : List (Fin 25) :=
  let rest : List (Fin 25) := if s.boot.thermalLatch then []
    else [4, 5, 6, 7, 12, 13, 15, 16, 17, 18, 19, 20, 21, 22] ++ (if standalone s then [] else [24])
  [1, 2, 3, 23] ++ (if s.boot.strap = 12 then [] else [14]) ++ rest

/-- The internal generator starts at T = 20 ms; hinge 0 falls one period later (R39). -/
def startGenerator (s : State) : State :=
  modTick (fun g => { g with running := true, lastAt := nowPs s, next := nowPs s + g.period }) s

/-- Under strap code 12 the endpoint is off (R436). -/
def endpointOff (s : State) : State :=
  if s.boot.strap = 12 then { putDomain 14 .off s with hostUp := false } else s

/-- START_COMPLETE: stacks still training have trained from their records, every domain is ON, and the generator starts; a worker
waits for its manager (R85, R370, R410 step 9, R436). -/
def startComplete (s : State) : State :=
  if s.boot.step != .starting || !s.kongaord then s
  else
    let t := forEach allStacks (fun m u => when (u.mem.stks[m].state == .training) (memTrained m true true true) u) s
    let t := endpointOff (domainsOn (startDomains s) t)
    if isWorker s && s.devState != 4 then modBoot (fun b => { b with step := .joining }) t
    else stgReady (announceStart (when (!isWorker s) startGenerator t))

/-- START_WATCHDOG_EXPIRY: a failed start is counted, and a pin reset asserted (R416). -/
def startWatchdogExpiry (s : State) : State :=
  if !s.boot.watchdog then s
  else resetAssert .pinWatchdog (modRetention (fun r => { r with failedStarts := Min.min 3 (r.failedStarts + 1) }) s)

/-- COMMAND_RESET_ASSERT: 1 ms after SYS_RESET (R404). -/
def commandResetAssert (s : State) : State := if s.boot.commandReset then resetAssert .pinCommand s else s

/-! ## The recovery commands -/

/-- Mailbox 7 in every state, 0 to 3 in normal running (20, Commands). -/
def recoveryMailbox (e : Entry) : Bool := e.mb == 7 || decide (e.mb.val ≤ 3)

/-- SYS_RESET, 0x0110. -/
def sysResetSpec : Spec where
  opcode := 0x0110
  len := .exact 8
  deadbolt := true
  recovery := true
  permitted := fun e _ => recoveryMailbox e
  fields := fun _ _ => [range 0 1 0 3, rsv 1 7]
  effect := fun e s =>
    .reply (modBoot (fun b => { b with commandReset := true }) (modRetention (fun r => { r with
      failedStarts := if (arg e 0 1).testBit 0 then 0 else r.failedStarts
      forced := r.forced || (arg e 0 1).testBit 1 }) s)) {}

/-- The structure of SYS_RECOVERY_STATUS. -/
def recoveryStatus (s : State) : List Byte :=
  let b := s.boot
  image 32 [put 0 1 b.recovery, put 1 1 b.reading, put 2 1 b.spread, put 3 1 b.attempts, put 4 1 b.failedAtStep3,
    put 5 1 b.retention.cause.toNat, put 6 1 (bit b.thermalLatch + 2 * bit b.reinitialised), put 8 2 b.slotA, put 10 2 b.slotB]

/-- SYS_RECOVERY_STATUS, 0x0111. -/
def sysRecoveryStatusSpec : Spec where
  opcode := 0x0111
  len := .exact 32
  noInline := true
  deadbolt := true
  recovery := true
  rom := true
  permitted := fun e _ => recoveryMailbox e
  effect := fun _ s => .reply s { detail := s.boot.recovery, back := some (0, recoveryStatus s) }

/-- The size of the boot flash (R418, log 60). -/
def flashSize : Nat := 2 ^ 27 + Config.flashExtra

/-- A range touches another. -/
def touchesRange (a n lo hi : Nat) : Bool := decide (a < hi) && decide (lo < a + n)

/-- SYS_FLASH may do this here: no write or erase of the leaf records, and none outside the maker area in normal running. -/
def flashPermitted (e : Entry) (s : State) : Bool :=
  let a := arg e 8 4
  let n := arg e 12 4
  arg e 0 1 == 0 || !(touchesRange a n 0x04020000 0x04040000 || (s.devState == 2 && decide (a < 0x04040000)))

/-- SYS_FLASH, 0x0112. -/
def sysFlashSpec : Spec where
  opcode := 0x0112
  len := .counted fun p => if fieldAt p 0 1 = 2 then 16 else 16 + fieldAt p 12 4
  noInlineWhen := fun e => arg e 0 1 == 0
  isBackground := true
  deadbolt := true
  recovery := true
  permitted := fun e s => recoveryMailbox e && flashPermitted e s
  fields := fun e _ => [range 0 1 0 2, rsv 1 7, ⟨8, 4, fun v => v < flashSize⟩,
    ⟨12, 4, fun n => 1 ≤ n && n ≤ (if entryLoc e = 1 then 2 ^ 20 else 2 ^ 24) - 16 && arg e 8 4 + n ≤ flashSize⟩]
  cross := fun e _ => if arg e 0 1 = 2 ∧ (arg e 8 4 % 65536 ≠ 0 ∨ arg e 12 4 % 65536 ≠ 0) then some 8 else none
  effect := fun e s =>
    let n := arg e 12 4
    let x : FlashOp := ⟨e.mb, e.tag, arg e 0 1, arg e 8 4, n, if arg e 0 1 = 1 then slice (payload e) 16 n else [], entryLoc e, e.loc.toNat⟩
    .background (modControl (fun k => { k with flash := k.flash ++ [x] }) s) none n

/-- A valid header record at place `i` of the first flash block (R427): preferred slot, pending floor and sequence. -/
def headerAt (s : State) (i : Nat) : Option (Nat × Nat × Nat) :=
  let r := (List.range 32).map fun k => readFlash s (32 * i + k)
  if slice r 0 4 == [0x53, 0x5A, 0x4B, 0x48] && fieldAt r 4 2 == 1 && fieldAt r 28 4 == (crc32c (r.take 28)).toNat then
    some (fieldAt r 6 1, fieldAt r 7 1, fieldAt r 8 8)
  else none

/-- The header records read anew: the valid one with the highest sequence counts (R427). -/
def rescanHeaders (s : State) : State :=
  let l := (List.range 2048).filterMap fun i => (headerAt s i).map fun h => (i + 1, h)
  let best := l.foldl (fun m x => match m with
    | none => some x
    | some y => if y.2.2.2 < x.2.2.2 then some x else some y) (none : Option (Nat × Nat × Nat × Nat))
  modSec (fun x => match best with
    | none => { x with preferred := 0, pending := 0, headerSeq := 0, headerCount := 0 }
    | some (_, p, f, q) => { x with preferred := p, pending := f, headerSeq := q, headerCount := l.foldl (fun m y => Max.max m y.1) 0 }) s

/-- Bytes done before the 256-byte page in which an operation failed (SYS_FLASH). -/
def beforePage (addr done : Nat) : Nat := (addr + done) / 256 * 256 - addr

/-- What an operation leaves in flash. -/
def flashEffect (x : FlashOp) (ok : Bool) (done : Nat) (s : State) : State :=
  let n := if ok then x.len else Min.min x.len (beforePage x.addr done)
  let t := if x.op = 1 then writeFlash x.addr (x.data.take n) s else if x.op = 2 then eraseFlash x.addr n s else s
  when (x.op != 0 && decide (x.addr < 65536)) rescanHeaders t

/-- FLASH_OP_DONE: the oldest SYS_FLASH ends (R418, SYS_FLASH); an error after start raises source 0x0F (R384). -/
def flashOpDone (ok : Bool) (done : Nat) (s : State) : State :=
  match s.control.flash with
  | [] => s
  | x :: rest =>
    let t := flashEffect x ok done (modControl (fun k => { k with flash := rest }) s)
    let t := when (ok && x.op == 0)
      (fun u => writeLocation x.mb x.kind x.loc 16 ((List.range x.len).map fun i => readFlash u (x.addr + i)) u) t
    if ok then endBackground x.mb 0x0112 x.tag .ok 0 t
    else if t.kongaord then endBackground x.mb 0x0112 x.tag .hwFault 0x0F (raise0 0x0F t)
    else endBackground x.mb 0x0112 x.tag .hwFault 0 t

/-- SYS_BOOT_IMAGE, 0x0113. -/
def sysBootImageSpec : Spec where
  opcode := 0x0113
  len := .upTo 1 (2 ^ 24)
  hostOnly := true
  rom := true
  recovery := true
  deadbolt := true
  permitted := fun _ s => s.devState == 0 || s.devState == 3
  signature := fun e s => if verifyImage s (payload e) = 1 then none else some ⟨.authFail, verifyImage s (payload e)⟩
  effect := fun e s => .reply (startKongaord 2 (firmwareOf (payload e)) s) {}

/-- SYS_RESET. -/
def execSysReset (e : Entry) (s : State) : Host.Outcome State Fault Refusal := .next (runCommand sysResetSpec e s)
/-- SYS_RECOVERY_STATUS. -/
def execSysRecoveryStatus (e : Entry) (s : State) : Host.Outcome State Fault Refusal := .next (runCommand sysRecoveryStatusSpec e s)
/-- SYS_FLASH. -/
def execSysFlash (e : Entry) (s : State) : Host.Outcome State Fault Refusal := .next (runCommand sysFlashSpec e s)
/-- SYS_BOOT_IMAGE. -/
def execSysBootImage (e : Entry) (s : State) : Host.Outcome State Fault Refusal := .next (runCommand sysBootImageSpec e s)
/-- COMMAND_RESET_ASSERT. -/
def execCommandResetAssert (s : State) : Host.Outcome State Fault Refusal := .next (commandResetAssert s)
/-- FLASH_OP_DONE. -/
def execFlashOpDone (ok : Bool) (programmed : Nat) (s : State) : Host.Outcome State Fault Refusal := .next (flashOpDone ok programmed s)
/-- RESET_ASSERT. -/
def execResetAssert (source : ResetSource) (s : State) : Host.Outcome State Fault Refusal := .next (resetAssert source s)
/-- RESET_RELEASE. -/
def execResetRelease (source : ResetSource) (s : State) : Host.Outcome State Fault Refusal := .next (resetRelease source s)
/-- STRETCH_END. -/
def execStretchEnd (s : State) : Host.Outcome State Fault Refusal := .next (stretchEnd s)
/-- RST_N_CHECK. -/
def execRstNCheck (high twa1 twa0 : Bool) (s : State) : Host.Outcome State Fault Refusal := .next (rstNCheck high twa1 twa0 s)
/-- STRAP_LATCH. -/
def execStrapLatch (conversions : List Nat) (s : State) : Host.Outcome State Fault Refusal := .next (strapLatch conversions s)
/-- FUSE_LOAD_DONE. -/
def execFuseLoadDone (crcOk : Bool) (fuses : Fuses) (s : State) : Host.Outcome State Fault Refusal := .next (fuseLoadDone crcOk fuses s)
/-- MGMT_RELEASE. -/
def execMgmtRelease (s : State) : Host.Outcome State Fault Refusal := .next (mgmtRelease s)
/-- IMAGE_VERIFY_DONE. -/
def execImageVerifyDone (a b : SlotResult) (firmware : FirmwareInfo) (s : State) : Host.Outcome State Fault Refusal :=
  .next (imageVerifyDone a b firmware s)
/-- START_COMPLETE. -/
def execStartComplete (s : State) : Host.Outcome State Fault Refusal := .next (startComplete s)
/-- START_WATCHDOG_EXPIRY. -/
def execStartWatchdogExpiry (s : State) : Host.Outcome State Fault Refusal := .next (startWatchdogExpiry s)

end Sys2Proof.Machine
end

