-- ==== Sys2Proof/Machine/Management.lean ====
section
/-!
DEFINITION. Management: the management tick of Kongaord (03 R75 to R78).
-/

namespace Sys2Proof.Machine

/-- The eight mailboxes in order. -/
def allMb : List MbId := [0, 1, 2, 3, 4, 5, 6, 7]

/-- Opcodes assigned, as first and last of each run (R84). -/
def opcodeRuns : List (Nat × Nat) :=
  [(0x0101, 0x0104), (0x0110, 0x0114), (0x0201, 0x0206), (0x0220, 0x0226), (0x0301, 0x0306), (0x0401, 0x040A), (0x0501, 0x0508),
   (0x0601, 0x0603), (0x0701, 0x0707), (0x0801, 0x0804), (0x0901, 0x0907), (0x0A01, 0x0A04), (0x0B01, 0x0B08), (0x0C01, 0x0C05),
   (0x0D01, 0x0D07), (0x0E01, 0x0E06), (0x0F01, 0x0F04), (0x1001, 0x1006), (0x1101, 0x1107), (0x1201, 0x1206), (0x1301, 0x1306)]

/-- An opcode is defined (R79 step 1). -/
def opcodeDefined (n : Nat) : Bool := opcodeRuns.any fun r => r.1 ≤ n && n ≤ r.2

/-- The entry at the head of mailbox 4 or 5 with an undefined opcode completes with UNKNOWN_OPCODE (R79, R80). -/
def rejectUnknown (m : MbId) (s : State) : State :=
  match s.mailboxes[m].expected.head? with
  | none => s
  | some (n, e) =>
    if opcodeDefined n || !canTake s m then s
    else finish e n s.mailboxes[m].cmdHead { status := .unknownOpcode } (takeCommand m s)

/-- Undefined opcodes at the heads of the rings that the device fills itself. -/
def rejectUnknowns (s : State) : State := forEach (List.replicate 8 ([4, 5] : List MbId)).flatten rejectUnknown s

/-- The vectors of a mailbox: completion, then event (R74). -/
def mailboxVectors (m : MbId) : Option (Fin 32) × Option (Fin 32) :=
  if h : m.val ≤ 3 then (some ⟨1 + m.val, by omega⟩, some ⟨5 + m.val, by omega⟩)
  else if m = 7 then (some 9, none)
  else (none, none)

/-- A vector when it exists. -/
def raiseSome (v : Option (Fin 32)) (s : State) : State := match v with | some v => raiseVector v s | none => s

/-- The mailbox vectors of what was written since they were last raised, each at most once (R74, R75). -/
def mailboxInterrupts (s : State) : State :=
  forEach allMb (fun m t =>
    let w := t.mailboxes[m].written
    let v := mailboxVectors m
    let t := modMb m (fun b => { b with written := (false, false) }) t
    if m = 7 then when (w.1 || w.2) (raiseSome v.1) t else when w.2 (raiseSome v.2) (when w.1 (raiseSome v.1) t)) s

/-- What Kongaord does with one mailbox: its ring reset is done, its tail is read, eight commands may be taken, and events that had
to wait are written while there is space (R68, R73, R76, R78). -/
def tickMailbox (tick : BitVec 64) (seq : BitVec 32) (b : Mailbox) : Mailbox :=
  flushRing tick seq { b with resetting := false, tailSeen := if b.enabled then b.cmdTail else b.tailSeen, quota := 8 }

/-- The work of a management tick that is no command's: reports, re-striping, seals, the servo's stamps, temperatures (R213, R249,
R326, R393, R398, R403). -/
def tickWork (hbmTemps : List Int) (s : State) : State :=
  reportTemps hbmTemps (readStamps (sealTick (codingPending s) (restripeDue (postDue (postDeadbolt s)))))

/-- MANAGEMENT_TICK: HEARTBEAT, the mailboxes and Kongaord's own work (R64, R75 to R78); the boot ROM raises only the vectors. -/
def managementTick (hbmTemps : List Int) (s : State) : State :=
  if !mgmtOn s then s
  else if !s.kongaord then (if romServes s then mailboxInterrupts (rejectUnknowns s) else s)
  else
    let t := { s with bar0 := { s.bar0 with heartbeat := s.bar0.heartbeat + 1 }, cmd := { s.cmd with rotation := s.cmd.rotation + 1 } }
    let t := tickWork hbmTemps t
    let t := forEach allMb (fun m u => modMb m (tickMailbox u.tick.counter u.cmd.eventSeq) u) t
    mailboxInterrupts (rejectUnknowns t)

/-- MANAGEMENT_TICK. -/
def execManagementTick (hbmTemps : List Int) (s : State) : Host.Outcome State Fault Refusal := .next (managementTick hbmTemps s)

end Sys2Proof.Machine
end

