-- ==== Sys2Proof/Machine/Hinge.lean ====
section
/-!
DEFINITION. Hinge: the guard and the hinge (02 R43 to R53): what a hinge makes live, the frames it takes, the development it
opens, and what each subsystem does at it.
-/

namespace Sys2Proof.Machine

/-! ## The guard (R44 step 1, R45, R46) -/

/-- The units whose stripes of a frame can have overrun: the uncovered dead ones, else all of them. -/
def overrunUnits (s : State) (f : Frame) : List UnitId :=
  let dead := uncoveredOf s f.bank
  if dead.isEmpty then unitsOf s f.bank else dead

/-- The unit that a TICK_OVERRUN names, any one of those (log 62). -/
def overrunUnit (s : State) (f : Frame) : UnitId :=
  let l := overrunUnits s f
  (l[Config.freeValue s.free % l.length]?).getD ⟨(homeRegion f.bank).getD 0, 0, 0⟩

/-- A frame whose development still runs at the guard of hinge `h` is aborted (R46). -/
def abortFrame (c : CtxId) (h : Nat) (f : Frame) (s : State) : State :=
  if s.devState = 4 then s
  else
    let u := overrunUnit s f
    let n := BitVec.ofNat 48 f.number
    let t := dropFrame c f h 0 { s with free := s.free + 1 }
    let t := modTick (fun g => { g with overruns := bump g.overruns }) t
    raise (src (0x24 + u.region.val)) (some c) n (unitName u)
      (post 0x0286 (some c) n (unitName u + 2 ^ 16 * f.number) t)

/-- Development of the interval that closes is aborted where it still runs (R46). -/
def abortDevelopment (h : Nat) (s : State) : State :=
  forEach allCtx (fun c t =>
    forEach (t.contexts[c].frames.filter fun f => f.phase == .developing) (abortFrame c h) t) s

/-- The doorbell words received so far are latched (R44 step 1). -/
def latchDoorbells (g : TickGen) : TickGen := { g with latched := g.queue, queue := [], guardOpen := true }

/-- The guard of hinge `h` opens (R44 steps 1 and 2, R127). -/
def openGuard (h : Nat) (badPass : BitVec 4) (s : State) : State :=
  let t := forEach allCtx (fun c => guardIntake c h) s
  let t := retrainGuard badPass (abortDevelopment h t)
  haspGuard (modTick latchDoorbells t)

/-- HINGE_GUARD_OPEN. -/
def hingeGuardOpen (badPass : BitVec 4) (s : State) : State :=
  if !s.tick.running || s.tick.guardOpen then s else openGuard (nextHinge s) badPass s

/-! ## Changes become live (R43, R49) -/

/-- CTX_START becomes live: a CONFIGURED context enters RUNNING, frame 0 next, with nothing of an earlier run (R118). -/
def startCtx (c : CtxId) (s : State) : State :=
  if s.contexts[c].state ≠ .configured then s
  else
    setCtxState c .running (modCtx c (fun x => { x with
      nextFrame := 0, lastFrame := 0, takings := [], floating := Vector.replicate 4 none, oldSlots := 0
      reference := none, lumas := [], field := none, triggerNext := none, keysNext := 0, marksNext := [] }) s)

/-- CTX_STOP becomes live: a RUNNING context enters STOPPING, and its clips end with reason 3 (R118, R251). -/
def stopCtx (c : CtxId) (h : Nat) (s : State) : State :=
  if s.contexts[c].state ≠ .running then s else stopClips c h 3 (setCtxState c .stopping s)

/-- The ring of a target that becomes live: empty slots, but for those a frozen clip pins (R241). -/
def newRing (c : CtxId) (v : RecCfg) (s : State) : State :=
  if v.target ≠ .ring then s
  else modRec c (fun r => { r with
    pointer := 0
    ring := (List.range (ringSlots s.contexts[c].live v)).map fun i => match r.ring[i]? with
      | some x => if x.pinned.isSome then x else {}
      | none => {} }) s

/-- A change becomes live at hinge `h`. -/
def goLive (h : Nat) (x : Change) (s : State) : State :=
  match x with
  | .start c => startCtx c s
  | .stop c => stopCtx c h s
  | .recTarget c v => newRing c v (applyBank x s)
  | .recStart c id => openClip c id.toNat h s
  | .recStop c reason => stopClips c h reason s
  | .tickSource v => switchSource h v s
  | .tickRate period => switchSource h { s.tick.live with period := period } s
  | .domain d v => switchDomain d v s
  | .hostEngines .. => settleJobs (applyBank x s)
  | .trigger k v => setTrigger k v s
  | _ => applyBank x s

/-- A change inserted by acceptance sequence, after those of its own. -/
def insertArmed (a : Armed) : List Armed → List Armed
  | [] => [a]
  | b :: l => if a.seq < b.seq then a :: b :: l else b :: insertArmed a l

/-- Armed changes in acceptance order (R49). -/
def inOrder (l : List Armed) : List Armed := l.foldl (fun r a => insertArmed a r) []

/-- A change still becomes live in deadbolt: STG_SET_RATES alone (R392, R394, log 57). -/
def liveInDeadbolt : Change → Bool
  | .rates .. => true
  | _ => false

/-- The changes that become live at hinge `h`, in order. -/
def dueAt (s : State) (h : Nat) : List Armed :=
  (inOrder (s.cmd.armed.filter fun a => a.hinge ≤ h)).filter fun a => s.devState != 4 || liveInDeadbolt a.change

/-- A change writes the bank of its context. -/
def writesBank : Change → Bool
  | .stop _ | .doubleFrame .. | .recStart .. | .recStop .. | .recTrigger _ | .keyPicture .. => false
  | _ => true

/-- The context's bank becomes live: each table, grade and encode is checked against it (R156, R163, R182, R291). -/
def checkBank (c : CtxId) (h : Nat) (s : State) : State := checkEncodes c (checkGrades c h (checkTables c h s))

/-- What follows the changes of a hinge for context `c`, which was as in `before`: slots of a new size (R122), the slots of a
port on which it entered RUNNING (R121). -/
def settleSlots (before : State) (c : CtxId) (s : State) : State :=
  let old := before.contexts[c]
  let new := s.contexts[c]
  if new.state ≠ .running then s
  else if old.state ≠ .running then allotSlots new.live.source.port s
  else if slotShape old.live.source ≠ slotShape new.live.source then modCtx c reshape s
  else returnOld c s

/-- Every change due at hinge `h` becomes live (R44 step 3, R49). -/
def applyDue (h : Nat) (s : State) : State :=
  let due := dueAt s h
  let t := { s with cmd := { s.cmd with armed := s.cmd.armed.filter fun a => decide (h < a.hinge) } }
  let t := forEach due (fun a => goLive h a.change) t
  let t := forEach allCtx (settleSlots s) (when (!inDeadbolt t) moveCores t)
  let touched := fun c : CtxId => due.any fun a => a.change.ctx == some c && writesBank a.change
  forEach (allCtx.filter fun c => touched c && t.contexts[c].state == .running) (fun c => checkBank c h) t

/-! ## Doorbell actions (R51 to R53, R62) -/

/-- The grades that a key-picture argument selects. -/
def keyGrades (arg : Nat) : List GradeId := if arg = 15 then allGrades else allGrades.filter fun g => g.val == arg

/-- A latched action applies to something: the armed ring, an enabled encode, the clip that records, a port that starts. -/
def applicable (s : State) (h : Nat) (d : Doorbell) : Bool :=
  let x := s.contexts[d.ctx]
  match d.action with
  | 1 => x.state == .running && ringArmed s d.ctx && triggerOn s d.ctx 2
  | 2 => x.state == .running && (keyGrades d.arg).any fun g => x.live.encodes[g].on
  | 3 => x.state == .running && s.recs[d.ctx].clips.any fun k => k.records h
  | _ => allAudio.any fun p => d.arg.testBit p.val && s.audio.ports[p].cfg.isSome && !s.audio.ports[p].running

/-- The ports of a start mask that do not start. -/
def idlePorts (s : State) (arg : Nat) : Nat :=
  maskOf 4 fun i => arg.testBit i && (allAudio.all fun p => p.val != i || s.audio.ports[p].cfg.isNone || s.audio.ports[p].running)

/-- The detail of TICK_DOORBELL (R62). -/
def doorbellDetail (s : State) (d : Doorbell) (applies : Bool) : Nat :=
  d.action + 2 ^ 4 * d.ctx.val + 2 ^ 8 * d.arg + 2 ^ 16 * d.seq.toNat + 2 ^ 32 * Min.min d.merged 255 + 2 ^ 40 * bit (!applies)
    + 2 ^ 44 * (if d.action = 4 then idlePorts s d.arg else 0)

/-- What a latched action does (R52). -/
def doorbellAct (d : Doorbell) (s : State) : State :=
  match d.action with
  | 1 => modCtx d.ctx (fun x => { x with triggerNext := some 3 }) s
  | 2 => forEach (keyGrades d.arg) (fun g => askKey d.ctx (some g)) s
  | 3 => modCtx d.ctx (fun x => { x with marksNext := x.marksNext ++ [BitVec.ofNat 8 d.arg] }) s
  | _ => startPorts (BitVec.ofNat 4 d.arg) s

/-- One latched word acts at hinge `h` and posts TICK_DOORBELL (R52, R53). -/
def doorbell (h : Nat) (d : Doorbell) (s : State) : State :=
  let ok := applicable s h d
  let audio := d.action == 4
  let frame := if audio || !ok then 0 else firstFrameAt s d.ctx h
  post 0x0284 (if audio then none else some d.ctx) (BitVec.ofNat 48 frame) (doorbellDetail s d ok) (when ok (doorbellAct d) s)

/-- The words lost in the interval that closes, once (R53). -/
def lostWords (s : State) : State :=
  let g := s.tick
  if g.lostNow = 0 && g.malformedNow = 0 then s
  else post 0x0285 none 0 (g.lostNow.toNat + 2 ^ 32 * g.malformedNow.toNat)
    (modTick (fun g => { g with lostNow := 0, malformedNow := 0 }) s)

/-- The latched words act; in deadbolt none does (R392). -/
def doorbells (h : Nat) (s : State) : State :=
  let t := modTick (fun g => { g with latched := [] }) s
  lostWords (if inDeadbolt s then t else forEach s.tick.latched (doorbell h) t)

/-! ## Frames taken and developed (R40, R129, R130) -/

/-- What waits for the context's next frame goes to the one taken at `h`: key pictures, record marks, bypassed grades (R52, R182,
R290). -/
def tagRequests (c : CtxId) (h : Nat) (s : State) : State :=
  let x := s.contexts[c]
  if x.frames.any fun f => f.tick == h then
    modCtx c (fun y => { modFrame h (fun f => { f with keys := x.keysNext, recordMarks := x.marksNext, gradesOff := x.gradesBypassed }) y with
      keysNext := 0, marksNext := [] }) s
  else s

/-- The context takes its frame of hinge `h`. -/
def take (h : Nat) (c : CtxId) (s : State) : State := tagRequests c h (tagFrame c h (takeFrame c h (timeNow s) s))

/-- A frame of the context holds a T1 buffer (R153). -/
def holdsTap (f : Frame) : Bool := f.tap && (f.phase == .developing || !f.chunksLeft.isEmpty)

/-- The T1 tap of a frame whose development starts: a buffer, or a skip (R153). -/
def startTap (c : CtxId) (h : Nat) (s : State) : State :=
  let x := s.contexts[c]
  match x.frames.find? fun f => f.tick == h with
  | none => s
  | some f =>
    if !f.bank.front.t1 then s
    else if ((framesInFlight x).filter holdsTap).length < 2 then modCtx c (modFrame h fun g => { g with tap := true }) s
    else modCtx c (fun x => { x with tapSkips := bump x.tapSkips }) s

/-- Development of one frame starts: version 0 of its record, its stripes, tap, records and chunks (R192, R153, R229, R241). -/
def startFrame (c : CtxId) (f : Frame) (s : State) : State :=
  let b := { f.bank with excluded := s.contexts[c].live.excluded }
  let t := startTap c f.tick (rewriteSlot c f s)
  let t := beginRecords c f t
  modCtx c (modFrame f.tick fun g => dealChunks (ownRows t f.bank) (f.clip.bind (clipOf t c)) { g with stripe := stripeOf t b }) t

/-- Development of the frames that landed in the interval before starts, the older first (R129, R130). -/
def develops (h : Nat) (c : CtxId) (s : State) : State :=
  let t := startDevelopment c h (dropMissing c h s)
  forEach (t.contexts[c].frames.filter fun f => f.phase == .developing) (startFrame c) t

/-! ## Results become live (R1, R44 step 5) -/

/-- The results of one frame become live: record, grade buffers, pictures, copies, senders and frame record (R192, R180, R284,
R303, R335, R247). -/
def resultLive (c : CtxId) (r : PassResult) (s : State) : State :=
  let (t, r) := mergeResult c r s
  let live := fun i : GradeImage =>
    if r.grades.any fun g => g.grade == i.grade && g.frame == i.frame then { i with live := true } else i
  let t := modCtx c (fun x => { x with buffers := x.buffers.map live }) (recordLive c r.record t)
  recordLiveFrame c r.frame (startSenders c r (startCopies c r (startPictures c r t)))

/-- The results of context `c` that are due at hinge `h`, the older first; vector 10 + c (R74). -/
def resultsLive (h : Nat) (c : CtxId) (s : State) : State :=
  let due := s.contexts[c].results.filter fun r => r.hinge ≤ h
  if due.isEmpty then s
  else
    let ended := due.map fun r => r.frame.tick
    let t := modCtx c (fun x => { x with
      results := x.results.filter fun r => decide (h < r.hinge), frames := x.frames.filter fun f => !ended.contains f.tick }) s
    raiseVector (10 + c.castLE (by decide)) (forEach due (resultLive c) t)

/-- A STOPPING context with no result pending becomes CONFIGURED, and its slots return (R118, R121). -/
def endStopping (c : CtxId) (s : State) : State :=
  let x := s.contexts[c]
  if x.state == .stopping && x.frames.isEmpty && x.results.isEmpty then
    allotSlots x.live.source.port (setCtxState c .configured (modCtx c (fun y => { y with oldSlots := 0 }) s))
  else s

/-! ## Counts of the interval -/

/-- CTX_UNCLAIMED for each port with unclaimed frames (R120); check-error lines count anew (R114). -/
def portsHinge (s : State) : State :=
  forEach allPorts (fun p t =>
    let n := t.ports[p].unclaimed.toNat
    modPort p (fun q => { q with unclaimed := 0, checksNow := 0 }) (when (n != 0) (post 0x02A2 none 0 (p.val + 2 ^ 8 * n)) t)) s

/-- What is counted per interval elsewhere starts anew: fault reports (R403), re-stripings (R385), paced bytes, late outputs. -/
def countsHinge (h : Nat) (s : State) : State :=
  let t := modCollector (fun k => { endStriping h k with seen := [] }) s
  let t := modStg (fun x => { x with hbmUsed := Vector.replicate 4 0, portUsed := Vector.replicate 2 0 }) t
  forEach allOutputs (fun o => modOut o fun y => { y with lateNow := false }) t

/-! ## The hinge (R44) -/

/-- Steps 3 and 4: the counter, the banks, the doorbells and the frames taken (R44). -/
def hingeStep3 (s : State) : State :=
  let t := hingeTick (modControl (fun k => { k with returning := [] }) s)
  let h := t.tick.counter.toNat
  let t := doorbells h (fullVolumes h (applyDue h t))
  forEach allCtx (take h) t

/-- Step 5: development starts, results become live, markers and vectors leave (R44). -/
def hingeStep5 (s : State) : State :=
  let h := s.tick.counter.toNat
  let t := forEach allCtx (develops h) s
  let t := forEach allCtx (resultsLive h) t
  let t := forEach allCtx (fun c => blackFrames c h) (forEach allCtx endStopping t)
  let t := posHinge (audioHinge h (recordHinge h t))
  let t := freeTables (unitsHinge (portsHinge t))
  countsHinge h (raiseVector 18 (haspHinge h (sendMarkers h t)))

/-- HINGE: the guard opens before it if it has not; then its steps (R44). -/
def hinge (s : State) : State := if !s.tick.running then s else hingeStep5 (hingeStep3 (hingeGuardOpen 0 s))

/-- HINGE. -/
def execHinge (s : State) : Host.Outcome State Fault Refusal := .next (hinge s)
/-- HINGE_GUARD_OPEN. -/
def execHingeGuardOpen (badPass : BitVec 4) (s : State) : Host.Outcome State Fault Refusal := .next (hingeGuardOpen badPass s)

end Sys2Proof.Machine
end

