-- ==== Sys2Proof/Machine/Clock.lean ====
section
/-!
DEFINITION. Clock: what one TIME clock of 2 ns does when no command waits (R323, R343, R345; log 2).
-/

namespace Sys2Proof.Machine

/-- The time counter moves on by its increment while TIME-TWB is on (R323, R437). -/
def advanceTime (s : State) : State :=
  if domainOn s 23 then { s with time := { s.time with now := s.time.now + s.time.inc } } else s

/-- One clock passes. -/
def clock (s : State) : State :=
  let t := advanceTime { s with clk := s.clk + 1 }
  if domainOn t 22 then audioClock t else t

end Sys2Proof.Machine
end

