-- ==== Sys2Proof/Machine/Raw.lean ====
section
/-!
DEFINITION. Raw: the RAW_ commands (06), but for the binding of per-pixel tables, which stands with the storage
target it reads.
-/

namespace Sys2Proof.Machine

/-- The capture field at offset 1. -/
def argCap (e : Entry) : Fin 4 := ⟨arg e 1 1 % 4, Nat.mod_lt _ (by decide)⟩

/-- The pool and the bytes a load for context `c` finds free in it. -/
def poolFree (s : State) (c : CtxId) : Nat :=
  let pool := poolOf s (shadow s c)
  poolSize pool - poolUsed s pool

/-- The states of a table load of `size` bytes: a FREE context, then BUSY_RETRY (R79 step 6, R154). -/
def loadStates (e : Entry) (s : State) (size : Nat) : Option Fail :=
  (freeFail s (argCtx e)).or
    (if size = 0 then none else (poolFail s (poolOf s (shadow s (argCtx e))) size).filter fun f => f.status == .busyRetry)

/-- The resources of a table load (R79 step 8, R154). -/
def loadResources (e : Entry) (s : State) (size : Nat) : Option Fail :=
  if size = 0 then none else poolFail s (poolOf s (shadow s (argCtx e))) size

/-- RAW_SET_CFA, 0x0401. -/
def rawSetCfaSpec : Spec where
  opcode := 0x0401
  len := .exact 72
  noInline := true
  bank := true
  fields := fun e _ => [ctxField, range 1 1 1 8, range 2 1 1 8, rsv 3 5] ++
    (List.range 64).map fun i => ⟨8 + i, 1, fun v =>
      if i / 8 < arg e 2 1 && i % 8 < arg e 1 1 then decide (v ≤ 7) else v == 0⟩
  states := fun e s => freeFail s (argCtx e)
  touches := fun e _ => [argCtx e]
  effect := fun e s => .arm s [.cfa (argCtx e) (arg e 1 1) (arg e 2 1)
    ((List.range 64).map fun i => arg e (8 + i) 1)] (some (argCtx e)) 0

/-- RAW_LOAD_LINEARISATION, 0x0402. -/
def rawLoadLinearisationSpec : Spec where
  opcode := 0x0402
  len := .exact 65544
  noInline := true
  bank := true
  fields := fun _ _ => [ctxField, range 1 1 0 3, rsv 2 6] ++
    (List.range 16384).map fun i => range (8 + 4 * i) 4 0 0xFFFFF
  states := fun e s => loadStates e s 65536
  resources := fun e s => loadResources e s 65536
  touches := fun e _ => [argCtx e]
  effect := fun e s =>
    let c := argCtx e
    let (t, v) := addTable (poolOf s (shadow s c)) 65536
      ((List.range 16384).map fun i => (arg e (8 + 4 * i) 4 : Int)) s
    .arm t [.lin c (argCap e) v] (some c) (poolFree t c)

/-- An optical-black range lies inside the configured width (R142). -/
def obInside (w start count : Nat) : Bool := start < w && start + count ≤ w

/-- RAW_SET_BLACK, 0x0403. -/
def rawSetBlackSpec : Spec where
  opcode := 0x0403
  len := .exact 32
  bank := true
  fields := fun e s =>
    let b := shadow s (argCtx e)
    let free := shadowState s (argCtx e) == .free
    let overlap := arg e 6 2 != 0 && arg e 10 2 != 0 && arg e 8 2 < arg e 4 2 + arg e 6 2
      && arg e 4 2 < arg e 8 2 + arg e 10 2
    [ctxField, range 1 1 0 3, ⟨2, 1, fun v => v ≤ 15 || v == 0xFF⟩, range 3 1 0 1,
     ⟨4, 2, fun v => free || obInside b.source.w v (arg e 6 2)⟩, range 6 2 0 256,
     ⟨8, 2, fun v => free || (obInside b.source.w v (arg e 10 2) && !overlap)⟩, range 10 2 0 256,
     range 12 2 0 4095, rsv 14 2] ++ (List.range 8).map fun c => range (16 + 2 * c) 2 0 16383
  states := fun e s => freeFail s (argCtx e)
  touches := fun e _ => [argCtx e]
  effect := fun e s =>
    let v : FrontCap := {
      alpha := arg e 2 1, rowNoise := arg e 3 1 == 1, ob0 := (arg e 4 2, arg e 6 2), ob1 := (arg e 8 2, arg e 10 2),
      pedestal := arg e 12 2,
      black := #v[arg e 16 2, arg e 18 2, arg e 20 2, arg e 22 2, arg e 24 2, arg e 26 2, arg e 28 2, arg e 30 2] }
    .arm s [.black (argCtx e) (argCap e) v] (some (argCtx e)) 0

/-- RAW_LOAD_COLUMN, 0x0404. -/
def rawLoadColumnSpec : Spec where
  opcode := 0x0404
  len := .counted fun p => 8 + 2 * fieldAt p 4 4
  noInline := true
  bank := true
  fields := fun _ _ => [ctxField, range 1 1 0 3, rsv 2 2, ⟨4, 4, fun v => v == 0 || (64 ≤ v && v ≤ 65532)⟩]
  states := fun e s => loadStates e s (2 * arg e 4 4)
  resources := fun e s => loadResources e s (2 * arg e 4 4)
  touches := fun e _ => [argCtx e]
  effect := fun e s =>
    let c := argCtx e
    let n := arg e 4 4
    if n = 0 then .arm s [.column c (argCap e) none] (some c) (poolFree s c)
    else
      let (t, v) := addTable (poolOf s (shadow s c)) (2 * n)
        ((List.range n).map fun i => signed 16 (arg e (8 + 2 * i) 2)) s
      .arm t [.column c (argCap e) (some v)] (some c) (poolFree t c)

/-- RAW_LOAD_DEFECTS, 0x0406. -/
def rawLoadDefectsSpec : Spec where
  opcode := 0x0406
  len := .counted fun p => 16 + 4 * fieldAt p 12 4
  noInline := true
  bank := true
  fields := fun e _ => [ctxField, range 1 1 0 1, rsv 2 2, range 4 4 0 2097151, range 8 4 0 2097151,
    range 12 4 0 (if arg e 1 1 = 1 then 1048576 else 0)] ++
    (List.range (arg e 12 4)).map fun i => ⟨16 + 4 * i, 4, fun v => i == 0 || decide (arg e (12 + 4 * i) 4 < v)⟩
  states := fun e s => loadStates e s (4 * arg e 12 4)
  resources := fun e s => loadResources e s (4 * arg e 12 4)
  touches := fun e _ => [argCtx e]
  effect := fun e s =>
    let c := argCtx e
    let n := arg e 12 4
    let hot := arg e 4 4
    let cold := arg e 8 4
    if arg e 1 1 = 0 then
      .arm s [.defects c hot cold none] (some c)
        (match (shadow s c).front.defects with | some v => tableLength s v | none => 0)
    else if n = 0 then .arm s [.defects c hot cold (some none)] (some c) 0
    else
      let (t, v) := addTable (poolOf s (shadow s c)) (4 * n) ((List.range n).map fun i => (arg e (16 + 4 * i) 4 : Int)) s
      .arm t [.defects c hot cold (some (some v))] (some c) n

/-- The shading mode of RAW_SET_SHADING. -/
def shadingMode (v : Nat) : Shading := if v = 1 then .grid else if v = 2 then .perPixel else .off

/-- RAW_SET_SHADING, 0x0407. -/
def rawSetShadingSpec : Spec where
  opcode := 0x0407
  len := .counted fun p => if fieldAt p 1 1 = 1 then 200216 else 8
  bank := true
  fields := fun _ _ => [ctxField, range 1 1 0 2, rsv 2 6]
  states := fun e s => (loadStates e s (if arg e 1 1 = 1 then 200208 else 0)).or
    (if arg e 1 1 = 2 && (shadow s (argCtx e)).front.flat.isNone then some (wrong 7) else none)
  resources := fun e s => loadResources e s (if arg e 1 1 = 1 then 200208 else 0)
  touches := fun e _ => [argCtx e]
  effect := fun e s =>
    let c := argCtx e
    let d := Config.openDetail 0x0407 0
    if arg e 1 1 = 1 then
      let (t, v) := addTable (poolOf s (shadow s c)) 200208
        ((List.range 100104).map fun i => (arg e (8 + 2 * i) 2 : Int)) s
      .arm t [.shading c .grid (some v)] (some c) d
    else .arm s [.shading c (shadingMode (arg e 1 1)) none] (some c) d

/-- RAW_SET_MERGE, 0x0408. -/
def rawSetMergeSpec : Spec where
  opcode := 0x0408
  len := .exact 64
  noInline := true
  bank := true
  fields := fun e _ => [ctxField, range 1 1 0 1, range 2 1 0 3, rsv 3 1, range 4 4 0 0x7FFFF, anyVal 8 1, rsv 9 7] ++
    (List.range 4).flatMap fun k => [range (16 + 12 * k) 4 1 0xFFFFFFFF, range (20 + 12 * k) 2 0 16383,
      range (22 + 12 * k) 2 (arg e (20 + 12 * k) 2 + 1) 16384, rsv (24 + 12 * k) 4]
  states := fun e s => freeFail s (argCtx e)
  touches := fun e _ => [argCtx e]
  effect := fun e s => .arm s [.merge (argCtx e) (arg e 1 1 == 1) ⟨arg e 2 1 % 4, Nat.mod_lt _ (by decide)⟩
    (arg e 4 4) (arg e 8 1)
    ((List.range 4).map fun k => (arg e (16 + 12 * k) 4, arg e (20 + 12 * k) 2, arg e (22 + 12 * k) 2))]
    (some (argCtx e)) 0

/-- RAW_SET_TAPS, 0x0409. -/
def rawSetTapsSpec : Spec where
  opcode := 0x0409
  len := .exact 8
  bank := true
  fields := fun _ _ => [ctxField, range 1 1 0 3, rsv 2 6]
  states := fun e s => freeFail s (argCtx e)
  tumbler := fun e s => budgetFail s [.taps (argCtx e) ((arg e 1 1).testBit 0) ((arg e 1 1).testBit 1)]
  touches := fun e _ => [argCtx e]
  effect := fun e s =>
    let t1 := (arg e 1 1).testBit 0
    let t2 := (arg e 1 1).testBit 1
    .arm s [.taps (argCtx e) t1 t2] (some (argCtx e)) (tapBytes (shadow s (argCtx e)) t1 t2)

/-- RAW_GET_STATUS, 0x040A. -/
def rawGetStatusSpec : Spec where
  opcode := 0x040A
  len := .exact 64
  noInline := true
  deadbolt := true
  fields := fun _ _ => [ctxField, rsv 1 7]
  states := fun e s => freeFail s (argCtx e)
  effect := fun e s =>
    let x := s.contexts[argCtx e]
    let f := x.front
    .reply s { ctx := ctxByte (some (argCtx e)), back := some (8, image 56 [put 0 6 f.frame.toNat,
      put 8 4 f.saturations, put 12 4 f.static, put 16 4 f.unrepaired, put 20 4 f.dynamic, put 24 4 f.knee,
      put 28 4 f.motion, put 32 4 f.l20, put 36 4 x.tapSkips.toNat, put 40 1 f.bypass.toNat]) }

/-- RAW_SET_CFA. -/
def execRawSetCfa (e : Entry) (s : State) : Host.Outcome State Fault Refusal := .next (runCommand rawSetCfaSpec e s)
/-- RAW_LOAD_LINEARISATION. -/
def execRawLoadLinearisation (e : Entry) (s : State) : Host.Outcome State Fault Refusal :=
  .next (runCommand rawLoadLinearisationSpec e s)
/-- RAW_SET_BLACK. -/
def execRawSetBlack (e : Entry) (s : State) : Host.Outcome State Fault Refusal := .next (runCommand rawSetBlackSpec e s)
/-- RAW_LOAD_COLUMN. -/
def execRawLoadColumn (e : Entry) (s : State) : Host.Outcome State Fault Refusal :=
  .next (runCommand rawLoadColumnSpec e s)
/-- RAW_LOAD_DEFECTS. -/
def execRawLoadDefects (e : Entry) (s : State) : Host.Outcome State Fault Refusal :=
  .next (runCommand rawLoadDefectsSpec e s)
/-- RAW_SET_SHADING. -/
def execRawSetShading (e : Entry) (s : State) : Host.Outcome State Fault Refusal :=
  .next (runCommand rawSetShadingSpec e s)
/-- RAW_SET_MERGE. -/
def execRawSetMerge (e : Entry) (s : State) : Host.Outcome State Fault Refusal := .next (runCommand rawSetMergeSpec e s)
/-- RAW_SET_TAPS. -/
def execRawSetTaps (e : Entry) (s : State) : Host.Outcome State Fault Refusal := .next (runCommand rawSetTapsSpec e s)
/-- RAW_GET_STATUS. -/
def execRawGetStatus (e : Entry) (s : State) : Host.Outcome State Fault Refusal :=
  .next (runCommand rawGetStatusSpec e s)

end Sys2Proof.Machine
end

