-- ==== Sys2Proof/Machine/Ticks.lean ====
section
/-!
DEFINITION. Ticks: the TICK_ commands (02) and the fast doorbell rows (R51, R52).
-/

namespace Sys2Proof.Machine

/-! ## Source and rate (R34 to R37, R60) -/

/-- The source a TICK_SET_SOURCE payload names. -/
def tickSourceOf (e : Entry) : TickSource :=
  { source := arg e 0 1, inst := arg e 1 1, falling := arg e 2 1 == 1, period := arg e 8 8, phase := arg e 16 8 }

/-- TICK_SET_SOURCE, 0x0201: the hinge it is armed for is the last of the old source (R60). -/
def tickSetSourceSpec : Spec where
  opcode := 0x0201
  len := .exact 24
  bank := true
  lag := 1
  permitted := fun e s => (arg e 0 1 == 7) == isWorker s
  fields := fun e _ =>
    let src := arg e 0 1
    [range 0 1 0 7, ⟨1, 1, fun v => if [1, 5, 6].contains src then v ≤ 3 else v == 0⟩,
     ⟨2, 1, fun v => if src = 2 ∨ src = 4 then v ≤ 1 else v == 0⟩, rsv 3 5, range 8 8 10000000 1000000000000,
     ⟨16, 8, fun v => v < arg e 8 8⟩]
  owners := fun _ s => if s.tick.state == .ratePending then some ⟨.conflict, 0xFF⟩ else none
  tumbler := fun e s => budgetFail s [.tickSource (tickSourceOf e)]
  effect := fun e s => .arm s [.tickSource (tickSourceOf e)] none 0

/-- TICK_RATE_CONFIRM, 0x0202. -/
def tickRateConfirmSpec : Spec where
  opcode := 0x0202
  len := .exact 8
  bank := true
  lag := 1
  cross := fun e s => if nearPeriod (arg e 0 8) (s.tick.rate.getD (measuredPeriod s.tick)) then none else some 0
  states := fun _ s => if s.tick.state == .ratePending then none else some (wrong s.tick.state.code)
  tumbler := fun _ s => budgetFail s [change s]
  effect := fun _ s => .arm s [change s] none 0
where
  /-- The measured period becomes the tick's (R60). -/
  change (s : State) : Change := .tickRate (s.tick.rate.getD s.tick.period)

/-! ## Queries (R53, R54) -/

/-- The structure of TICK_GET_STATE. -/
def tickState (s : State) : List Byte :=
  let g := s.tick
  image 64 [put 0 8 g.counter.toNat, put 8 1 g.state.code, put 9 1 g.live.source, put 10 1 g.live.inst, put 11 1 g.cause,
    put 12 4 g.glitches.toNat, put 16 8 g.live.period, put 24 8 (measuredPeriod g), (32, timeBytes g.lastTime),
    put 44 4 g.lost.toNat, put 48 4 g.overruns.toNat, put 52 4 g.malformed.toNat]

/-- TICK_GET_STATE, 0x0203. -/
def tickGetStateSpec : Spec where
  opcode := 0x0203
  len := .exact 64
  noInline := true
  deadbolt := true
  effect := fun _ s => .reply s { detail := s.tick.state.code, back := some (0, tickState s) }

/-- TICK_BUDGET_QUERY, 0x0204. -/
def tickBudgetQuerySpec : Spec where
  opcode := 0x0204
  len := .exact 208
  noInline := true
  deadbolt := true
  fields := fun _ _ => [range 0 1 0 1, rsv 1 15]
  effect := fun e s =>
    let q := if arg e 0 1 = 0 then withArmed s else projected s
    .reply s { back := some (16, (List.range 12).flatMap fun i => budgetEntry q (i + 1)) }

/-! ## The hold set (R50) -/

/-- The held commands. -/
def heldItems (s : State) : List Held := match s.cmd.hold with | some h => h.items | none => []

/-- The hold set cannot be used: it is empty, or another mailbox owns it. -/
def emptyFail (s : State) : Option Fail := if (heldItems s).isEmpty then some (wrong 0) else none

/-- The contexts the held commands name, in order. -/
def heldContexts (s : State) : List CtxId := allCtx.filter fun c => (heldItems s).any fun x => x.ctx == some c

/-- The whole set armed for hinge `h`, with TICK_ARMED for each context (TICK_ARM). -/
def armHeld (h : Nat) (s : State) : State :=
  let cs := heldContexts s
  let t := dropHold (forEach (heldItems s) (fun x => armAt h x.seq x.changes) s)
  forEach cs (fun c t => let n := firstFrameAt t c h; post 0x0283 (some c) (BitVec.ofNat 48 n) n t) t

/-- The hinge a TICK_ARM arms for: the one named, or the first that can be reached. -/
def armTarget (e : Entry) (s : State) : Nat := Max.max (arg e 0 8) (reachable s)

/-- TICK_ARM, 0x0205. -/
def tickArmSpec : Spec where
  opcode := 0x0205
  len := .exact 8
  fields := fun _ s => [range 0 8 0 (s.tick.counter.toNat + 2 ^ 32)]
  states := fun _ s => emptyFail s
  owners := fun e s => (otherOwner s e.mb).map fun o => ⟨.conflict, o.val⟩
  effect := fun e s =>
    let h := armTarget e s
    let late := if arg e 0 8 = 0 then s.tick.guardOpen else decide (arg e 0 8 < reachable s)
    .reply (armHeld h s) { status := if late then .okLate else .accepted, frame := h % 2 ^ 48 }

/-- TICK_DISCARD, 0x0206: from mailbox 7 it drops the set whatever mailbox owns it. -/
def tickDiscardSpec : Spec where
  opcode := 0x0206
  len := .exact 0
  states := fun _ s => emptyFail s
  owners := fun e s => if e.mb = 7 then none else (otherOwner s e.mb).map fun o => ⟨.conflict, o.val⟩
  effect := fun _ s => .reply (dropHold s) {}

/-! ## Commands and doorbell rows -/

/-- TICK_SET_SOURCE. -/
def execTickSetSource (e : Entry) (s : State) : Host.Outcome State Fault Refusal := .next (runCommand tickSetSourceSpec e s)
/-- TICK_RATE_CONFIRM. -/
def execTickRateConfirm (e : Entry) (s : State) : Host.Outcome State Fault Refusal := .next (runCommand tickRateConfirmSpec e s)
/-- TICK_GET_STATE. -/
def execTickGetState (e : Entry) (s : State) : Host.Outcome State Fault Refusal := .next (runCommand tickGetStateSpec e s)
/-- TICK_BUDGET_QUERY. -/
def execTickBudgetQuery (e : Entry) (s : State) : Host.Outcome State Fault Refusal := .next (runCommand tickBudgetQuerySpec e s)
/-- TICK_ARM. -/
def execTickArm (e : Entry) (s : State) : Host.Outcome State Fault Refusal := .next (runCommand tickArmSpec e s)
/-- TICK_DISCARD. -/
def execTickDiscard (e : Entry) (s : State) : Host.Outcome State Fault Refusal := .next (runCommand tickDiscardSpec e s)
/-- DOORBELL_TRIGGER: a word is written to the fast doorbell (R51 to R53). -/
def execDoorbellTrigger (word : BitVec 32) (s : State) : Host.Outcome State Fault Refusal := .next (doorbellWrite word s)
/-- DOORBELL_KEY_PICTURE: a word is written to the fast doorbell (R51 to R53). -/
def execDoorbellKeyPicture (word : BitVec 32) (s : State) : Host.Outcome State Fault Refusal := .next (doorbellWrite word s)
/-- DOORBELL_RECORD_MARK: a word is written to the fast doorbell (R51 to R53). -/
def execDoorbellRecordMark (word : BitVec 32) (s : State) : Host.Outcome State Fault Refusal := .next (doorbellWrite word s)
/-- DOORBELL_AUDIO_START_ARM: a word is written to the fast doorbell (R51 to R53). -/
def execDoorbellAudioStartArm (word : BitVec 32) (s : State) : Host.Outcome State Fault Refusal := .next (doorbellWrite word s)

end Sys2Proof.Machine
end

