-- ==== Sys2Proof/Machine/Dispatch.lean ====
section
/-!
DEFINITION. Dispatch: the meaning of each command, one arm per row of the command table.
-/

namespace Sys2Proof.Machine

-- The effect of a command on everything but the queue.
def exec (i : Instr) (s : State) : Host.Outcome State Fault Refusal :=
  match i with
  | .hinge => Sys2Proof.Machine.execHinge s
  | .hingeGuardOpen badPass => Sys2Proof.Machine.execHingeGuardOpen badPass s
  | .sourceEdge => Sys2Proof.Machine.execSourceEdge s
  | .sourceStop => Sys2Proof.Machine.execSourceStop s
  | .slrefLoss => Sys2Proof.Machine.execSlrefLoss s
  | .slrefReturn => Sys2Proof.Machine.execSlrefReturn s
  | .managementTick hbmTemps => Sys2Proof.Machine.execManagementTick hbmTemps s
  | .mbCmdTailWrite m value => Sys2Proof.Machine.execMbCmdTailWrite m value s
  | .mbEnable m on => Sys2Proof.Machine.execMbEnable m on s
  | .mbRingReset m => Sys2Proof.Machine.execMbRingReset m s
  | .tickLoRead => Sys2Proof.Machine.execTickLoRead s
  | .registerWrite function offset size value => Sys2Proof.Machine.execRegisterWrite function offset size value s
  | .doorbellTrigger word => Sys2Proof.Machine.execDoorbellTrigger word s
  | .doorbellKeyPicture word => Sys2Proof.Machine.execDoorbellKeyPicture word s
  | .doorbellRecordMark word => Sys2Proof.Machine.execDoorbellRecordMark word s
  | .doorbellAudioStartArm word => Sys2Proof.Machine.execDoorbellAudioStartArm word s
  | .tickSetSource e => Sys2Proof.Machine.execTickSetSource e s
  | .tickRateConfirm e => Sys2Proof.Machine.execTickRateConfirm e s
  | .tickGetState e => Sys2Proof.Machine.execTickGetState e s
  | .tickBudgetQuery e => Sys2Proof.Machine.execTickBudgetQuery e s
  | .tickArm e => Sys2Proof.Machine.execTickArm e s
  | .tickDiscard e => Sys2Proof.Machine.execTickDiscard e s
  | .sysNop e => Sys2Proof.Machine.execSysNop e s
  | .sysIdentify e => Sys2Proof.Machine.execSysIdentify e s
  | .sysEventMask e => Sys2Proof.Machine.execSysEventMask e s
  | .sysBlockReset e => Sys2Proof.Machine.execSysBlockReset e s
  | .blockDrainDone drained cameOut => Sys2Proof.Machine.execBlockDrainDone drained cameOut s
  | .blockQuiesceTimeout outstanding => Sys2Proof.Machine.execBlockQuiesceTimeout outstanding s
  | .hungPortResponse block request => Sys2Proof.Machine.execHungPortResponse block request s
  | .sysReset e => Sys2Proof.Machine.execSysReset e s
  | .commandResetAssert => Sys2Proof.Machine.execCommandResetAssert s
  | .sysRecoveryStatus e => Sys2Proof.Machine.execSysRecoveryStatus e s
  | .sysFlash e => Sys2Proof.Machine.execSysFlash e s
  | .flashOpDone ok programmed => Sys2Proof.Machine.execFlashOpDone ok programmed s
  | .sysBootImage e => Sys2Proof.Machine.execSysBootImage e s
  | .sysTwbConfig e => Sys2Proof.Machine.execSysTwbConfig e s
  | .ctxSetSource e => Sys2Proof.Machine.execCtxSetSource e s
  | .ctxSetPlacement e => Sys2Proof.Machine.execCtxSetPlacement e s
  | .ctxLandingConfig e => Sys2Proof.Machine.execCtxLandingConfig e s
  | .ctxStart e => Sys2Proof.Machine.execCtxStart e s
  | .ctxStop e => Sys2Proof.Machine.execCtxStop e s
  | .ctxTestPattern e => Sys2Proof.Machine.execCtxTestPattern e s
  | .ctxGetStatus e => Sys2Proof.Machine.execCtxGetStatus e s
  | .slPortConfig e => Sys2Proof.Machine.execSlPortConfig e s
  | .slPortStart e => Sys2Proof.Machine.execSlPortStart e s
  | .slPortStop e => Sys2Proof.Machine.execSlPortStop e s
  | .slGetStatus e => Sys2Proof.Machine.execSlGetStatus e s
  | .slRegAccess e => Sys2Proof.Machine.execSlRegAccess e s
  | .slLoopback e => Sys2Proof.Machine.execSlLoopback e s
  | .slBringupAdvance p => Sys2Proof.Machine.execSlBringupAdvance p s
  | .slBringupTimeout p => Sys2Proof.Machine.execSlBringupTimeout p s
  | .slBringupRepeat p => Sys2Proof.Machine.execSlBringupRepeat p s
  | .slCapsResend p => Sys2Proof.Machine.execSlCapsResend p s
  | .slCapsRx p caps => Sys2Proof.Machine.execSlCapsRx p caps s
  | .slAlignRx p column skews => Sys2Proof.Machine.execSlAlignRx p column skews s
  | .slFrameStartRx p column => Sys2Proof.Machine.execSlFrameStartRx p column s
  | .slFrameEndRx p column => Sys2Proof.Machine.execSlFrameEndRx p column s
  | .slLinePacketRx p columns => Sys2Proof.Machine.execSlLinePacketRx p columns s
  | .slRegRespRx p column => Sys2Proof.Machine.execSlRegRespRx p column s
  | .slRegTimeout p tag => Sys2Proof.Machine.execSlRegTimeout p tag s
  | .slLaneFailed p lane => Sys2Proof.Machine.execSlLaneFailed p lane s
  | .slLaneRejoined p lane => Sys2Proof.Machine.execSlLaneRejoined p lane s
  | .slPortDown p reason => Sys2Proof.Machine.execSlPortDown p reason s
  | .rawSetCfa e => Sys2Proof.Machine.execRawSetCfa e s
  | .rawLoadLinearisation e => Sys2Proof.Machine.execRawLoadLinearisation e s
  | .rawSetBlack e => Sys2Proof.Machine.execRawSetBlack e s
  | .rawLoadColumn e => Sys2Proof.Machine.execRawLoadColumn e s
  | .rawBindPixelTable e => Sys2Proof.Machine.execRawBindPixelTable e s
  | .rawLoadDefects e => Sys2Proof.Machine.execRawLoadDefects e s
  | .rawSetShading e => Sys2Proof.Machine.execRawSetShading e s
  | .rawSetMerge e => Sys2Proof.Machine.execRawSetMerge e s
  | .rawSetTaps e => Sys2Proof.Machine.execRawSetTaps e s
  | .rawGetStatus e => Sys2Proof.Machine.execRawGetStatus e s
  | .grdSetDevelop e => Sys2Proof.Machine.execGrdSetDevelop e s
  | .grdSetNoise e => Sys2Proof.Machine.execGrdSetNoise e s
  | .grdSetGrade e => Sys2Proof.Machine.execGrdSetGrade e s
  | .grdLoadGradeTables e => Sys2Proof.Machine.execGrdLoadGradeTables e s
  | .grdLoadScaler e => Sys2Proof.Machine.execGrdLoadScaler e s
  | .grdLoadLut e => Sys2Proof.Machine.execGrdLoadLut e s
  | .lutLoadDone slot ok => Sys2Proof.Machine.execLutLoadDone slot ok s
  | .grdFreeLut e => Sys2Proof.Machine.execGrdFreeLut e s
  | .grdGetStatus e => Sys2Proof.Machine.execGrdGetStatus e s
  | .rowBlockCheck u result => Sys2Proof.Machine.execRowBlockCheck u result s
  | .spareSelfTestFail r cluster => Sys2Proof.Machine.execSpareSelfTestFail r cluster s
  | .fencedRequest u => Sys2Proof.Machine.execFencedRequest u s
  | .developPassDone c takenOver => Sys2Proof.Machine.execDevelopPassDone c takenOver s
  | .motionFieldDone c => Sys2Proof.Machine.execMotionFieldDone c s
  | .statSetConfig e => Sys2Proof.Machine.execStatSetConfig e s
  | .statSetTarget e => Sys2Proof.Machine.execStatSetTarget e s
  | .statReadRecord e => Sys2Proof.Machine.execStatReadRecord e s
  | .statHostLate c => Sys2Proof.Machine.execStatHostLate c s
  | .memSetMode e => Sys2Proof.Machine.execMemSetMode e s
  | .memGetStatus e => Sys2Proof.Machine.execMemGetStatus e s
  | .memReadLog e => Sys2Proof.Machine.execMemReadLog e s
  | .memCalibrate e => Sys2Proof.Machine.execMemCalibrate e s
  | .memRetrain e => Sys2Proof.Machine.execMemRetrain e s
  | .memSetPolicy e => Sys2Proof.Machine.execMemSetPolicy e s
  | .memRepair e => Sys2Proof.Machine.execMemRepair e s
  | .repairDone ok => Sys2Proof.Machine.execRepairDone ok s
  | .memTrained stack recordOk bootOk fullOk => Sys2Proof.Machine.execMemTrained stack recordOk bootOk fullOk s
  | .memRequest request => Sys2Proof.Machine.execMemRequest request s
  | .memRequestIssue id ecc => Sys2Proof.Machine.execMemRequestIssue id ecc s
  | .scrubRead stack ecc => Sys2Proof.Machine.execScrubRead stack ecc s
  | .selfRefreshEntry stack => Sys2Proof.Machine.execSelfRefreshEntry stack s
  | .selfRefreshExit stack => Sys2Proof.Machine.execSelfRefreshExit stack s
  | .cmpSubmit e => Sys2Proof.Machine.execCmpSubmit e s
  | .cmpSetHostEngines e => Sys2Proof.Machine.execCmpSetHostEngines e s
  | .cmpCancel e => Sys2Proof.Machine.execCmpCancel e s
  | .cmpGetStatus e => Sys2Proof.Machine.execCmpGetStatus e s
  | .cmpJobDone m tag job outcome => Sys2Proof.Machine.execCmpJobDone m tag job outcome s
  | .chunkJobDone c chunk outcome => Sys2Proof.Machine.execChunkJobDone c chunk outcome s
  | .cmpEngineRetired cls index => Sys2Proof.Machine.execCmpEngineRetired cls index s
  | .recMedia e => Sys2Proof.Machine.execRecMedia e s
  | .mediaOpDone port ok volume => Sys2Proof.Machine.execMediaOpDone port ok volume s
  | .recSetTarget e => Sys2Proof.Machine.execRecSetTarget e s
  | .recStart e => Sys2Proof.Machine.execRecStart e s
  | .recStop e => Sys2Proof.Machine.execRecStop e s
  | .recTrigger e => Sys2Proof.Machine.execRecTrigger e s
  | .recRelease e => Sys2Proof.Machine.execRecRelease e s
  | .recGetStatus e => Sys2Proof.Machine.execRecGetStatus e s
  | .trigInEdge => Sys2Proof.Machine.execTrigInEdge s
  | .mediaCmdComplete port ok => Sys2Proof.Machine.execMediaCmdComplete port ok s
  | .mediaCmdTimeout port => Sys2Proof.Machine.execMediaCmdTimeout port s
  | .mediaLinkDown port => Sys2Proof.Machine.execMediaLinkDown port s
  | .leafReservationDone ok => Sys2Proof.Machine.execLeafReservationDone ok s
  | .securitySignDone ok => Sys2Proof.Machine.execSecuritySignDone ok s
  | .sealRetry c => Sys2Proof.Machine.execSealRetry c s
  | .directoryChange => Sys2Proof.Machine.execDirectoryChange s
  | .stgSetScratch e => Sys2Proof.Machine.execStgSetScratch e s
  | .stgSetRates e => Sys2Proof.Machine.execStgSetRates e s
  | .stgGetStatus e => Sys2Proof.Machine.execStgGetStatus e s
  | .stgReadErrorLog e => Sys2Proof.Machine.execStgReadErrorLog e s
  | .nvmeCcEnable => Sys2Proof.Machine.execNvmeCcEnable s
  | .nvmeCcDisable => Sys2Proof.Machine.execNvmeCcDisable s
  | .nvmeSqTailDoorbell q tail => Sys2Proof.Machine.execNvmeSqTailDoorbell q tail s
  | .createIoSubmissionQueue n => Sys2Proof.Machine.execCreateIoSubmissionQueue n s
  | .createIoCompletionQueue n => Sys2Proof.Machine.execCreateIoCompletionQueue n s
  | .deleteIoSubmissionQueue n => Sys2Proof.Machine.execDeleteIoSubmissionQueue n s
  | .deleteIoCompletionQueue n => Sys2Proof.Machine.execDeleteIoCompletionQueue n s
  | .getLogPage n => Sys2Proof.Machine.execGetLogPage n s
  | .identify n => Sys2Proof.Machine.execIdentify n s
  | .abort n => Sys2Proof.Machine.execAbort n s
  | .setFeatures n => Sys2Proof.Machine.execSetFeatures n s
  | .getFeatures n => Sys2Proof.Machine.execGetFeatures n s
  | .asynchronousEventRequest n => Sys2Proof.Machine.execAsynchronousEventRequest n s
  | .formatNvm n => Sys2Proof.Machine.execFormatNvm n s
  | .flush n => Sys2Proof.Machine.execFlush n s
  | .write n => Sys2Proof.Machine.execWrite n s
  | .read n => Sys2Proof.Machine.execRead n s
  | .writeZeroes n => Sys2Proof.Machine.execWriteZeroes n s
  | .datasetManagement n => Sys2Proof.Machine.execDatasetManagement n s
  | .wardEntryGranted user sourceOk => Sys2Proof.Machine.execWardEntryGranted user sourceOk s
  | .wardTimeout user => Sys2Proof.Machine.execWardTimeout user s
  | .controllerFatal cause => Sys2Proof.Machine.execControllerFatal cause s
  | .powerStateEntryDone => Sys2Proof.Machine.execPowerStateEntryDone s
  | .stgRateRelease => Sys2Proof.Machine.execStgRateRelease s
  | .perstN asserted => Sys2Proof.Machine.execPerstN asserted s
  | .endpointLinkDown uncorrectable => Sys2Proof.Machine.execEndpointLinkDown uncorrectable s
  | .vcSetEncode e => Sys2Proof.Machine.execVcSetEncode e s
  | .vcKeyPicture e => Sys2Proof.Machine.execVcKeyPicture e s
  | .vcSetVectorExport e => Sys2Proof.Machine.execVcSetVectorExport e s
  | .vcDecodeOpen e => Sys2Proof.Machine.execVcDecodeOpen e s
  | .vcDecodeSubmit e => Sys2Proof.Machine.execVcDecodeSubmit e s
  | .vcDecodeClose e => Sys2Proof.Machine.execVcDecodeClose e s
  | .vcGetStatus e => Sys2Proof.Machine.execVcGetStatus e s
  | .vcGetEncode e => Sys2Proof.Machine.execVcGetEncode e s
  | .encodePictureDone c g rows => Sys2Proof.Machine.execEncodePictureDone c g rows s
  | .decodePictureDone session picture => Sys2Proof.Machine.execDecodePictureDone session picture s
  | .decodeTmaxExpiry session picture => Sys2Proof.Machine.execDecodeTmaxExpiry session picture s
  | .decodeSlotFree session => Sys2Proof.Machine.execDecodeSlotFree session s
  | .vcCoreRetired core => Sys2Proof.Machine.execVcCoreRetired core s
  | .vcBlockedWrite core => Sys2Proof.Machine.execVcBlockedWrite core s
  | .outSetRaster e => Sys2Proof.Machine.execOutSetRaster e s
  | .outBind e => Sys2Proof.Machine.execOutBind e s
  | .outSetOverlay e => Sys2Proof.Machine.execOutSetOverlay e s
  | .outSetAudio e => Sys2Proof.Machine.execOutSetAudio e s
  | .outGetStatus e => Sys2Proof.Machine.execOutGetStatus e s
  | .scanCopyDone o => Sys2Proof.Machine.execScanCopyDone o s
  | .outputLatch o => Sys2Proof.Machine.execOutputLatch o s
  | .scanFifoUnderrun o => Sys2Proof.Machine.execScanFifoUnderrun o s
  | .genlockRefEdge o vertical => Sys2Proof.Machine.execGenlockRefEdge o vertical s
  | .genlockLost o => Sys2Proof.Machine.execGenlockLost o s
  | .vfTeEdge => Sys2Proof.Machine.execVfTeEdge s
  | .vfTeMissing => Sys2Proof.Machine.execVfTeMissing s
  | .hpdRise => Sys2Proof.Machine.execHpdRise s
  | .hpdDrop => Sys2Proof.Machine.execHpdDrop s
  | .dpTrainingDone lanes rate => Sys2Proof.Machine.execDpTrainingDone lanes rate s
  | .netPortConfig e => Sys2Proof.Machine.execNetPortConfig e s
  | .netSetStream e => Sys2Proof.Machine.execNetSetStream e s
  | .netGetStatus e => Sys2Proof.Machine.execNetGetStatus e s
  | .timeGetState e => Sys2Proof.Machine.execTimeGetState e s
  | .timeAdjust e => Sys2Proof.Machine.execTimeAdjust e s
  | .timeSetPtp e => Sys2Proof.Machine.execTimeSetPtp e s
  | .timeSetTrigger e => Sys2Proof.Machine.execTimeSetTrigger e s
  | .netLinkState port up => Sys2Proof.Machine.execNetLinkState port up s
  | .arpRequestRx port target sender senderMac => Sys2Proof.Machine.execArpRequestRx port target sender senderMac s
  | .ethFrameDropped port => Sys2Proof.Machine.execEthFrameDropped port s
  | .ptpAnnounceRx port announce => Sys2Proof.Machine.execPtpAnnounceRx port announce s
  | .ptpSyncRx port sync => Sys2Proof.Machine.execPtpSyncRx port sync s
  | .ptpDelayRespRx port sequence t4 => Sys2Proof.Machine.execPtpDelayRespRx port sequence t4 s
  | .ptpMessageTx port kind => Sys2Proof.Machine.execPtpMessageTx port kind s
  | .txStampCaptured port sequence raw => Sys2Proof.Machine.execTxStampCaptured port sequence raw s
  | .ptpMasterLost => Sys2Proof.Machine.execPtpMasterLost s
  | .timeTriggerFire t => Sys2Proof.Machine.execTimeTriggerFire t s
  | .streamPacketTx stream => Sys2Proof.Machine.execStreamPacketTx stream s
  | .audSetClock e => Sys2Proof.Machine.execAudSetClock e s
  | .audPortConfig e => Sys2Proof.Machine.execAudPortConfig e s
  | .audSetMask e => Sys2Proof.Machine.execAudSetMask e s
  | .audStart e => Sys2Proof.Machine.execAudStart e s
  | .audStop e => Sys2Proof.Machine.execAudStop e s
  | .audGetStatus e => Sys2Proof.Machine.execAudGetStatus e s
  | .audioStartInstant port firstFrame => Sys2Proof.Machine.execAudioStartInstant port firstFrame s
  | .audioFrame port samples => Sys2Proof.Machine.execAudioFrame port samples s
  | .audClockLost port => Sys2Proof.Machine.execAudClockLost port s
  | .audMclkLost => Sys2Proof.Machine.execAudMclkLost s
  | .posConfig e => Sys2Proof.Machine.execPosConfig e s
  | .posControl e => Sys2Proof.Machine.execPosControl e s
  | .posSetCompare e => Sys2Proof.Machine.execPosSetCompare e s
  | .posGetStatus e => Sys2Proof.Machine.execPosGetStatus e s
  | .posTransition q a b z => Sys2Proof.Machine.execPosTransition q a b z s
  | .ssiPoll q busy reading => Sys2Proof.Machine.execSsiPoll q busy reading s
  | .posStall q => Sys2Proof.Machine.execPosStall q s
  | .haspPortConfig e => Sys2Proof.Machine.execHaspPortConfig e s
  | .haspGetStatus e => Sys2Proof.Machine.execHaspGetStatus e s
  | .haspForward e => Sys2Proof.Machine.execHaspForward e s
  | .haspArm e => Sys2Proof.Machine.execHaspArm e s
  | .haspSetSplit e => Sys2Proof.Machine.execHaspSetSplit e s
  | .haspReadEvents e => Sys2Proof.Machine.execHaspReadEvents e s
  | .haspLinkAdvance port neighbour hopDelay => Sys2Proof.Machine.execHaspLinkAdvance port neighbour hopDelay s
  | .haspStateTimeout port => Sys2Proof.Machine.execHaspStateTimeout port s
  | .haspRetryTimer port => Sys2Proof.Machine.execHaspRetryTimer port s
  | .haspCalibration port roundTrip turnaround => Sys2Proof.Machine.execHaspCalibration port roundTrip turnaround s
  | .hingeBroadcastTx => Sys2Proof.Machine.execHingeBroadcastTx s
  | .hingeBroadcastRx port broadcast => Sys2Proof.Machine.execHingeBroadcastRx port broadcast s
  | .haspMessageRx port message => Sys2Proof.Machine.execHaspMessageRx port message s
  | .haspForwardCompletion w completion => Sys2Proof.Machine.execHaspForwardCompletion w completion s
  | .haspForwardTimeout w => Sys2Proof.Machine.execHaspForwardTimeout w s
  | .haspArmConfirm w => Sys2Proof.Machine.execHaspArmConfirm w s
  | .haspHeartbeatRx w heartbeat => Sys2Proof.Machine.execHaspHeartbeatRx w heartbeat s
  | .haspWorkerLost w => Sys2Proof.Machine.execHaspWorkerLost w s
  | .haspManagerLost => Sys2Proof.Machine.execHaspManagerLost s
  | .fltSetSeverity e => Sys2Proof.Machine.execFltSetSeverity e s
  | .fltGetStatus e => Sys2Proof.Machine.execFltGetStatus e s
  | .fltClear e => Sys2Proof.Machine.execFltClear e s
  | .fltSetPin e => Sys2Proof.Machine.execFltSetPin e s
  | .fltReadHistory e => Sys2Proof.Machine.execFltReadHistory e s
  | .fltReintegrate e => Sys2Proof.Machine.execFltReintegrate e s
  | .reintegrationTestDone u pass => Sys2Proof.Machine.execReintegrationTestDone u pass s
  | .fltInject e => Sys2Proof.Machine.execFltInject e s
  | .faultNPulseEnd => Sys2Proof.Machine.execFaultNPulseEnd s
  | .heartbeatStall => Sys2Proof.Machine.execHeartbeatStall s
  | .lockstepMismatch => Sys2Proof.Machine.execLockstepMismatch s
  | .pllLockLost => Sys2Proof.Machine.execPllLockLost s
  | .xtalOutOfRange => Sys2Proof.Machine.execXtalOutOfRange s
  | .collectorParityError => Sys2Proof.Machine.execCollectorParityError s
  | .secGetCertificate e => Sys2Proof.Machine.execSecGetCertificate e s
  | .secAttest e => Sys2Proof.Machine.execSecAttest e s
  | .secImageWrite e => Sys2Proof.Machine.execSecImageWrite e s
  | .secSetPreferred e => Sys2Proof.Machine.execSecSetPreferred e s
  | .secRollbackAdvance e => Sys2Proof.Machine.execSecRollbackAdvance e s
  | .secGetStatus e => Sys2Proof.Machine.execSecGetStatus e s
  | .imageWriteDone ok => Sys2Proof.Machine.execImageWriteDone ok s
  | .fuseBurnDone ok => Sys2Proof.Machine.execFuseBurnDone ok s
  | .pwrSetDomain e => Sys2Proof.Machine.execPwrSetDomain e s
  | .pwrSetClock e => Sys2Proof.Machine.execPwrSetClock e s
  | .pwrSetCeiling e => Sys2Proof.Machine.execPwrSetCeiling e s
  | .pwrGetStatus e => Sys2Proof.Machine.execPwrGetStatus e s
  | .thmSetThresholds e => Sys2Proof.Machine.execThmSetThresholds e s
  | .thmGetStatus e => Sys2Proof.Machine.execThmGetStatus e s
  | .domainWakeDone domain => Sys2Proof.Machine.execDomainWakeDone domain s
  | .thermalSample readings => Sys2Proof.Machine.execThermalSample readings s
  | .thermalTrip => Sys2Proof.Machine.execThermalTrip s
  | .supplyOutOfRange => Sys2Proof.Machine.execSupplyOutOfRange s
  | .resetAssert source => Sys2Proof.Machine.execResetAssert source s
  | .resetRelease source => Sys2Proof.Machine.execResetRelease source s
  | .stretchEnd => Sys2Proof.Machine.execStretchEnd s
  | .rstNCheck high twa1 twa0 => Sys2Proof.Machine.execRstNCheck high twa1 twa0 s
  | .strapLatch conversions => Sys2Proof.Machine.execStrapLatch conversions s
  | .fuseLoadDone crcOk fuses => Sys2Proof.Machine.execFuseLoadDone crcOk fuses s
  | .mgmtRelease => Sys2Proof.Machine.execMgmtRelease s
  | .imageVerifyDone a b firmware => Sys2Proof.Machine.execImageVerifyDone a b firmware s
  | .startComplete => Sys2Proof.Machine.execStartComplete s
  | .startWatchdogExpiry => Sys2Proof.Machine.execStartWatchdogExpiry s
  | .twbReadSnapshot => Sys2Proof.Machine.execTwbReadSnapshot s
  | .twbSubmit => Sys2Proof.Machine.execTwbSubmit s
  | .twbAckCompletion => Sys2Proof.Machine.execTwbAckCompletion s
  | .twbEventAdvance => Sys2Proof.Machine.execTwbEventAdvance s
  | .twbApbaseCommit value => Sys2Proof.Machine.execTwbApbaseCommit value s
  | .twbApertureWrite index value => Sys2Proof.Machine.execTwbApertureWrite index value s
  | .twbStartStop start => Sys2Proof.Machine.execTwbStartStop start s
  | .twbSclTimeout => Sys2Proof.Machine.execTwbSclTimeout s
  | .loopbackCheckerLock p lane locked errors => Sys2Proof.Machine.execLoopbackCheckerLock p lane locked errors s
  | .twbByteCommit write value => Sys2Proof.Machine.execTwbByteCommit write value s
  | .setPreferredDone result => Sys2Proof.Machine.execSetPreferredDone result s
  | .endpointLinkUp => Sys2Proof.Machine.execEndpointLinkUp s
  | .sramEccError error => Sys2Proof.Machine.execSramEccError error s
  | .hingeSequencerSelfCheckFailed => Sys2Proof.Machine.execHingeSequencerSelfCheckFailed s
  | .securityEngineFault => Sys2Proof.Machine.execSecurityEngineFault s
  | .securitySelfCheckDone ok => Sys2Proof.Machine.execSecuritySelfCheckDone ok s
  | .nvmePowerStateExit => Sys2Proof.Machine.execNvmePowerStateExit s
  | .comparePulseEnd q => Sys2Proof.Machine.execComparePulseEnd q s
  | .timeTriggerPulseEnd t => Sys2Proof.Machine.execTimeTriggerPulseEnd t s

end Sys2Proof.Machine
end

