-- ==== Sys2Proof/Machine/Step.lean ====
section
/-!
DEFINITION. Step: the block takes the command at the front of its queue; on an empty queue one clock passes (log 2).
-/

namespace Sys2Proof.Machine

/-- One step: the front command's effect on the state with the rest of the queue, or one clock. -/
def step (s : State) : Host.Outcome State Fault Refusal :=
  match s.pending with
  | [] => .next (clock s)
  | c :: rest => exec c { s with pending := rest }

/-- The state with the command a table word spells at the front of its queue; unchanged where the word spells none. -/
def State.withFetchWord (s : State) (nbits w : Nat) : State :=
  match decodeTableWord nbits w with
  | some c => { s with pending := c :: s.pending }
  | none => s

end Sys2Proof.Machine
end

