-- ==== Sys2Proof/Safety.lean ====
section
/-!
DEFINITION. Safety: the terms in which claims about the block are stated: what a command answers, when a mailbox command is accepted
(R79), how its completion shows (R68, R71), what it leaves beside the mailboxes, and the invariants of a state.
-/

namespace Sys2Proof

open Sys2Proof.Machine

/-- Command `c` answers a next state, and `P` holds of it. -/
def Answers (c : Instr) (s : State) (P : State → Prop) : Prop := ∃ t, exec c s = .next t ∧ P t

/-- Kongaord (or the boot ROM) takes entry `e` now and it passes every step of validation (R68, R77, R79). -/
structure Accepts (sp : Spec) (e : Entry) (s : State) : Prop where
  /-- the mailbox is served, holds an entry and has a free completion slot -/
  taken : canTake s e.mb = true
  /-- the entry is the one that stands next in a ring the device itself fills -/
  delivered : asDelivered sp e s = true
  /-- no step of validation fails -/
  valid : validate sp e (takeCommand e.mb s) = none

/-- The completion entry that `t` holds where the completion tail of `e`'s mailbox pointed in `s` (R68). -/
def posted (e : Entry) (s t : State) : Completion :=
  t.mailboxes[e.mb].cpl[s.mailboxes[e.mb].cplTail.toNat]'(by have := s.mailboxes[e.mb].cplTail.isLt; omega)

/-- `t` with everything that taking and completing a mailbox command writes put back as `s` has it: the mailboxes, the acceptance
state, host memory, the two-wire window and what was sent. -/
def beside (s t : State) : State :=
  { t with mailboxes := s.mailboxes, cmd := s.cmd, hostMem := s.hostMem, twb := s.twb, out := s.out }

/-- Bytes stand at offset `off` of the payload location that `e` names (R70), and every other byte of it is as `u` has it. -/
def Returned (e : Entry) (off : Nat) (bytes : List Byte) (u t : State) : Prop :=
  (entryLoc e = 1 → readCells t.mailboxes[e.mb].arena (e.loc.toNat + off) bytes.length = bytes
    ∧ ∀ a, a < e.loc.toNat + off ∨ e.loc.toNat + off + bytes.length ≤ a →
      readCell t.mailboxes[e.mb].arena a = readCell u.mailboxes[e.mb].arena a)
    ∧ (entryLoc e = 2 → readCells t.hostMem (e.loc.toNat + off) bytes.length = bytes
      ∧ ∀ a, a < e.loc.toNat + off ∨ e.loc.toNat + off + bytes.length ≤ a → readCell t.hostMem a = readCell u.hostMem a)

/-- `t` is `u` with one thing done more: entry `e` of opcode `op`, taken from `s`, is answered with `r` (R68, R70, R71). -/
structure Completed (op : Nat) (e : Entry) (r : Reply) (s u t : State) : Prop where
  /-- the completion entry: the tag, the status and the rest of `r`, the slot the entry occupied, and the sequence of an
  accepted command -/
  entry : posted e u t = { tag := e.tag, status := r.status.code, opcode := BitVec.ofNat 16 op, frame := BitVec.ofNat 48 r.frame,
                           ctx := r.ctx, slot := s.mailboxes[e.mb].cmdHead.setWidth 8, detail := BitVec.ofNat 64 r.detail,
                           seq := if r.status.good then t.cmd.accepted else 0 }
  /-- the mailbox: the completion stands at the tail, which moves past it -/
  own : t.mailboxes[e.mb] = { pushCpl (posted e u t) u.mailboxes[e.mb] with arena := t.mailboxes[e.mb].arena }
  /-- no other mailbox changes -/
  others : ∀ m : MbId, m ≠ e.mb → t.mailboxes[m] = u.mailboxes[m]
  /-- the acceptance sequence goes up for an accepted command alone -/
  cmd : t.cmd = { u.cmd with accepted := if r.status.good then nextSeq u.cmd.accepted else u.cmd.accepted }
  /-- mailbox 4's completion also stands in the two-wire window (R453) -/
  twb : t.twb = if e.mb = 4 then { u.twb with cpl := (posted e u t).bytes, busy := false, valid := true } else u.twb
  /-- mailbox 5's completion also goes back to the manager (R372); nothing else is sent -/
  out : ∃ b, t.out = if e.mb = 5 then .forwarded (posted e u t) b :: u.out else u.out
  /-- without a payload to return, and at another kind of location, the arena is as it was -/
  arena : r.back = none ∨ entryLoc e ≠ 1 → t.mailboxes[e.mb].arena = u.mailboxes[e.mb].arena
  /-- and so is host memory -/
  host : r.back = none ∨ entryLoc e ≠ 2 → t.hostMem = u.hostMem
  /-- a payload returned stands at its location, over memories in canonical form -/
  returned : ∀ off bytes, r.back = some (off, bytes) → Memory.wf u.mailboxes[e.mb].arena = true → Memory.wf u.hostMem = true →
    Returned e off bytes u t
  /-- everything else is as it was -/
  rest : beside u t = u

/-- `t` is `u` with one thing done more: the bank command `e` of opcode `op`, taken from `s`, has its changes `cs`, and the
double-frame flags they bring, armed for the first hinge they can reach, or held with HOLD (R48, R50, R130). -/
def Banked (op : Nat) (e : Entry) (cs : List Change) (c : Option CtxId) (detail lag : Nat) (s u t : State) : Prop :=
  let seq := (nextSeq u.cmd.accepted).toNat
  let armed := armAt (reachable u) seq (withFlags u cs) u
  (holds e = true → Completed op e ⟨.accepted, detail, 2 ^ 48 - 1, ctxByte c, none⟩ s (holdMore e.mb ⟨withFlags u cs, c, seq⟩ u) t)
    ∧ (holds e = false → Completed op e ⟨if u.tick.guardOpen then .okLate else .accepted, detail,
        match c with
        | some c => firstFrameAt armed c (reachable u)
        | none => (reachable u + lag) % 2 ^ 48, ctxByte c, none⟩ s armed t)

/-- As `Completed`, for a command that changes at once what the double-frame flags use: the flags that change are armed too (R130). -/
def Flagged (op : Nat) (e : Entry) (r : Reply) (s u t : State) : Prop := ∃ v, Completed op e r s u v ∧ t = armFlags v

/-- `t` is `u` with one thing done more: the background command `e` of opcode `op`, taken from `s`, stands in its mailbox's list, to
end later, and is answered OK (R82). -/
def Begun (op : Nat) (e : Entry) (c : Option CtxId) (detail : Nat) (s u t : State) : Prop :=
  Completed op e { detail := detail, ctx := ctxByte c } s
    (modMb e.mb (fun b => { b with background := b.background ++ [⟨e.tag, BitVec.ofNat 16 op, ctxByte c, true⟩] }) u) t

/-- `u` with the command `e` of opcode `op`, taken from `s`, accepted and in execution in its mailbox, which takes no other until it
completes (R77, R82). -/
def inExecution (op : Nat) (e : Entry) (c : Option CtxId) (s u : State) : State :=
  modMb e.mb (fun b => { b with executing := some ⟨e.tag, BitVec.ofNat 16 op, s.mailboxes[e.mb].cmdHead.setWidth 8, ctxByte c,
    nextSeq u.cmd.accepted, false⟩ }) { u with cmd := { u.cmd with accepted := nextSeq u.cmd.accepted } }

/-! ## The mailbox commands -/

/-- The rules and the entry of a mailbox command; none for HASP_ARM, whose command may end in the step that takes it, and for the
rows that are no mailbox commands. -/
def mailboxCommand (c : Instr) : Option (Spec × Entry) :=
  match c with
  | .tickSetSource e => some (tickSetSourceSpec, e)
  | .tickRateConfirm e => some (tickRateConfirmSpec, e)
  | .tickGetState e => some (tickGetStateSpec, e)
  | .tickBudgetQuery e => some (tickBudgetQuerySpec, e)
  | .tickArm e => some (tickArmSpec, e)
  | .tickDiscard e => some (tickDiscardSpec, e)
  | .sysNop e => some (sysNopSpec, e)
  | .sysIdentify e => some (sysIdentifySpec, e)
  | .sysEventMask e => some (sysEventMaskSpec, e)
  | .sysBlockReset e => some (sysBlockResetSpec, e)
  | .sysReset e => some (sysResetSpec, e)
  | .sysRecoveryStatus e => some (sysRecoveryStatusSpec, e)
  | .sysFlash e => some (sysFlashSpec, e)
  | .sysBootImage e => some (sysBootImageSpec, e)
  | .sysTwbConfig e => some (sysTwbConfigSpec, e)
  | .ctxSetSource e => some (ctxSetSourceSpec, e)
  | .ctxSetPlacement e => some (ctxSetPlacementSpec, e)
  | .ctxLandingConfig e => some (ctxLandingConfigSpec, e)
  | .ctxStart e => some (ctxStartSpec, e)
  | .ctxStop e => some (ctxStopSpec, e)
  | .ctxTestPattern e => some (ctxTestPatternSpec, e)
  | .ctxGetStatus e => some (ctxGetStatusSpec, e)
  | .slPortConfig e => some (slPortConfigSpec, e)
  | .slPortStart e => some (slPortStartSpec, e)
  | .slPortStop e => some (slPortStopSpec, e)
  | .slGetStatus e => some (slGetStatusSpec, e)
  | .slRegAccess e => some (slRegAccessSpec, e)
  | .slLoopback e => some (slLoopbackSpec, e)
  | .rawSetCfa e => some (rawSetCfaSpec, e)
  | .rawLoadLinearisation e => some (rawLoadLinearisationSpec, e)
  | .rawSetBlack e => some (rawSetBlackSpec, e)
  | .rawLoadColumn e => some (rawLoadColumnSpec, e)
  | .rawBindPixelTable e => some (rawBindPixelTableSpec, e)
  | .rawLoadDefects e => some (rawLoadDefectsSpec, e)
  | .rawSetShading e => some (rawSetShadingSpec, e)
  | .rawSetMerge e => some (rawSetMergeSpec, e)
  | .rawSetTaps e => some (rawSetTapsSpec, e)
  | .rawGetStatus e => some (rawGetStatusSpec, e)
  | .grdSetDevelop e => some (grdSetDevelopSpec, e)
  | .grdSetNoise e => some (grdSetNoiseSpec, e)
  | .grdSetGrade e => some (grdSetGradeSpec, e)
  | .grdLoadGradeTables e => some (grdLoadGradeTablesSpec, e)
  | .grdLoadScaler e => some (grdLoadScalerSpec, e)
  | .grdLoadLut e => some (grdLoadLutSpec, e)
  | .grdFreeLut e => some (grdFreeLutSpec, e)
  | .grdGetStatus e => some (grdGetStatusSpec, e)
  | .statSetConfig e => some (statSetConfigSpec, e)
  | .statSetTarget e => some (statSetTargetSpec, e)
  | .statReadRecord e => some (statReadRecordSpec, e)
  | .memSetMode e => some (memSetModeSpec, e)
  | .memGetStatus e => some (memGetStatusSpec, e)
  | .memReadLog e => some (memReadLogSpec, e)
  | .memCalibrate e => some (memCalibrateSpec, e)
  | .memRetrain e => some (memRetrainSpec, e)
  | .memSetPolicy e => some (memSetPolicySpec, e)
  | .memRepair e => some (memRepairSpec, e)
  | .cmpSubmit e => some (cmpSubmitSpec, e)
  | .cmpSetHostEngines e => some (cmpSetHostEnginesSpec, e)
  | .cmpCancel e => some (cmpCancelSpec, e)
  | .cmpGetStatus e => some (cmpGetStatusSpec, e)
  | .recMedia e => some (recMediaSpec, e)
  | .recSetTarget e => some (recSetTargetSpec, e)
  | .recStart e => some (recStartSpec, e)
  | .recStop e => some (recStopSpec, e)
  | .recTrigger e => some (recTriggerSpec, e)
  | .recRelease e => some (recReleaseSpec, e)
  | .recGetStatus e => some (recGetStatusSpec, e)
  | .stgSetScratch e => some (stgSetScratchSpec, e)
  | .stgSetRates e => some (stgSetRatesSpec, e)
  | .stgGetStatus e => some (stgGetStatusSpec, e)
  | .stgReadErrorLog e => some (stgReadErrorLogSpec, e)
  | .vcSetEncode e => some (vcSetEncodeSpec, e)
  | .vcKeyPicture e => some (vcKeyPictureSpec, e)
  | .vcSetVectorExport e => some (vcSetVectorExportSpec, e)
  | .vcDecodeOpen e => some (vcDecodeOpenSpec, e)
  | .vcDecodeSubmit e => some (vcDecodeSubmitSpec, e)
  | .vcDecodeClose e => some (vcDecodeCloseSpec, e)
  | .vcGetStatus e => some (vcGetStatusSpec, e)
  | .vcGetEncode e => some (vcGetEncodeSpec, e)
  | .outSetRaster e => some (outSetRasterSpec, e)
  | .outBind e => some (outBindSpec, e)
  | .outSetOverlay e => some (outSetOverlaySpec, e)
  | .outSetAudio e => some (outSetAudioSpec, e)
  | .outGetStatus e => some (outGetStatusSpec, e)
  | .netPortConfig e => some (netPortConfigSpec, e)
  | .netSetStream e => some (netSetStreamSpec, e)
  | .netGetStatus e => some (netGetStatusSpec, e)
  | .timeGetState e => some (timeGetStateSpec, e)
  | .timeAdjust e => some (timeAdjustSpec, e)
  | .timeSetPtp e => some (timeSetPtpSpec, e)
  | .timeSetTrigger e => some (timeSetTriggerSpec, e)
  | .audSetClock e => some (audSetClockSpec, e)
  | .audPortConfig e => some (audPortConfigSpec, e)
  | .audSetMask e => some (audSetMaskSpec, e)
  | .audStart e => some (audStartSpec, e)
  | .audStop e => some (audStopSpec, e)
  | .audGetStatus e => some (audGetStatusSpec, e)
  | .posConfig e => some (posConfigSpec, e)
  | .posControl e => some (posControlSpec, e)
  | .posSetCompare e => some (posSetCompareSpec, e)
  | .posGetStatus e => some (posGetStatusSpec, e)
  | .haspPortConfig e => some (haspPortConfigSpec, e)
  | .haspGetStatus e => some (haspGetStatusSpec, e)
  | .haspForward e => some (haspForwardSpec, e)
  | .haspSetSplit e => some (haspSetSplitSpec, e)
  | .haspReadEvents e => some (haspReadEventsSpec, e)
  | .fltSetSeverity e => some (fltSetSeveritySpec, e)
  | .fltGetStatus e => some (fltGetStatusSpec, e)
  | .fltClear e => some (fltClearSpec, e)
  | .fltSetPin e => some (fltSetPinSpec, e)
  | .fltReadHistory e => some (fltReadHistorySpec, e)
  | .fltReintegrate e => some (fltReintegrateSpec, e)
  | .fltInject e => some (fltInjectSpec, e)
  | .secGetCertificate e => some (secGetCertificateSpec, e)
  | .secAttest e => some (secAttestSpec, e)
  | .secImageWrite e => some (secImageWriteSpec, e)
  | .secSetPreferred e => some (secSetPreferredSpec, e)
  | .secRollbackAdvance e => some (secRollbackAdvanceSpec, e)
  | .secGetStatus e => some (secGetStatusSpec, e)
  | .pwrSetDomain e => some (pwrSetDomainSpec, e)
  | .pwrSetClock e => some (pwrSetClockSpec, e)
  | .pwrSetCeiling e => some (pwrSetCeilingSpec, e)
  | .pwrGetStatus e => some (pwrGetStatusSpec, e)
  | .thmSetThresholds e => some (thmSetThresholdsSpec, e)
  | .thmGetStatus e => some (thmGetStatusSpec, e)
  | _ => none

/-! ## Invariants -/

/-- Every sparse memory of the device is in canonical form: HBM, the boot flash, namespace 2, the eight arenas and host memory. -/
def Canonical (s : State) : Prop :=
  Memory.wf s.mem.hbm = true ∧ Memory.wf s.flash = true ∧ Memory.wf s.ns2 = true ∧ Memory.wf s.hostMem = true
    ∧ ∀ m : MbId, Memory.wf s.mailboxes[m].arena = true

end Sys2Proof
end

