-- ==== Sys2Proof/Certificates/Slice0/Obligations.lean ====
section
/-!
DEFINITION. Obligations: the statements about the block, for the provers. Each docstring names what it formalises.
-/

open Sys2Proof Sys2Proof.Machine

/-! ## The step, reset and the whole machine -/

/-- The command at the front of the queue is what a step runs, on the state with the rest of the queue (the block's form; R68). -/
def Obligations.StepRunsFrontCommand : Prop :=
  ∀ (c : Instr) (rest : List Instr) (s : State), s.pending = c :: rest → step s = exec c { s with pending := rest }

/-- On an empty queue one clock of 2 ns passes (log 2): the clock count goes up and no command appears; while AUDIO-POS is off nothing beside
the time counter changes, and that moves by its increment while TIME-TWB is on (R323). -/
def Obligations.IdleStepIsOneClock : Prop :=
  ∀ s : State, s.pending = [] → ∃ t, step s = .next t ∧ t.pending = [] ∧ t.clk = s.clk + 1 ∧ t.tick.counter = s.tick.counter
    ∧ (domainOn s 22 = false →
      { t with clk := s.clk, time := s.time } = s ∧ t.time.inc = s.time.inc
        ∧ t.time.now = if domainOn s 23 then s.time.now + s.time.inc else s.time.now)

/-- What the spec states for reset: the registers of R64, the tick counter (R39), the internal generator at 20 ms, every mailbox disabled,
every context FREE, every sensor port OFF, no hold set, no latched fault, AON power-on asserted (R404). -/
def Obligations.ResetLeaves : Prop :=
  let s := State.reset
  s.pending = [] ∧ s.tick.counter = 0 ∧ s.tick.running = false ∧ s.tick.live.source = 0 ∧ s.tick.period = 20000000000
    ∧ s.bar0.tickHi = 0 ∧ s.bar0.heartbeat = 0 ∧ s.bar0.intCause = 0 ∧ cmdsetReg s = 0 ∧ fwVersionReg s = 0 ∧ deviceIdReg = 0x00B19480
    ∧ s.devState = 0 ∧ s.kongaord = false ∧ s.cmd.armed = [] ∧ s.cmd.hold = none ∧ s.cmd.accepted = 0 ∧ s.cmd.eventSeq = 0
    ∧ (∀ m : MbId, s.mailboxes[m].enabled = false ∧ s.mailboxes[m].cmdTail = 0 ∧ s.mailboxes[m].cmdHead = 0
        ∧ s.mailboxes[m].cplHead = 0 ∧ s.mailboxes[m].cplTail = 0 ∧ s.mailboxes[m].evtHead = 0 ∧ s.mailboxes[m].evtTail = 0
        ∧ s.mailboxes[m].evtLost = 0)
    ∧ (∀ c : CtxId, s.contexts[c].state = .free) ∧ (∀ p : PortId, s.ports[p].state = .off ∧ s.ports[p].cfg = none)
    ∧ s.collector.latch = none ∧ s.collector.legacy = 0 ∧ s.collector.history = [] ∧ s.boot.asserted = [.aonPowerOn]
    ∧ s.power.ceiling = 160000

/-- Every memory of the device is in canonical form at reset. -/
def Obligations.ResetIsCanonical : Prop :=
  Canonical State.reset

/-- Whatever is at the front of the queue, a step keeps every memory of the device in canonical form: addresses rising, no byte listed that
equals what an unlisted address reads as (log 10). -/
def Obligations.StepKeepsCanonicalMemory : Prop :=
  ∀ s t : State, Canonical s → step s = .next t → Canonical t

/-- A step takes one command from the front of the queue and puts none in: the queue is first in, first out, and no command's effect touches
it (log 118). -/
def Obligations.QueueIsFirstInFirstOut : Prop :=
  ∀ (c : Instr) (rest : List Instr) (s t : State), s.pending = c :: rest → step s = .next t → t.pending = rest

/-- The tick counter moves at hinges alone: any command but a hinge, the broadcast that joins a worker (R370) and the four resets leaves it,
and the count of hinges, as they were (R39). -/
def Obligations.TickCounterMovesAtHingesAlone : Prop :=
  ∀ (c : Instr) (s t : State), exec c s = .next t →
    (match c with
      | .hinge | .hingeBroadcastRx .. | .resetAssert _ | .rstNCheck .. | .startWatchdogExpiry | .commandResetAssert => True
      | _ => t.tick.counter = s.tick.counter ∧ t.tick.hinges = s.tick.hinges)

/-- Deadbolt is left by a reset alone: every command but the four resets, and the release of the management domain that only a reset leads to,
leaves DEV_STATE at 0x4 (R392). HEARTBEAT goes up by one at a management tick while Kongaord runs, and, but for the resets, nothing else
changes it (R64); the strap code changes at its latch alone, resets included (R410 step 5). -/
def Obligations.FewCommandsLeaveDeadboltOrMoveTheStrap : Prop :=
  (∀ (c : Instr) (s t : State), s.devState = 4 → exec c s = .next t →
     (match c with
       | .resetAssert _ | .rstNCheck .. | .startWatchdogExpiry | .commandResetAssert | .mgmtRelease => True
       | _ => t.devState = 4))
  ∧ ((∀ (temps : List Int) (s : State), domainOn s 2 = true → s.kongaord = true →
       Answers (.managementTick temps) s fun t => t.bar0.heartbeat = s.bar0.heartbeat + 1)
     ∧ ∀ (c : Instr) (s t : State), exec c s = .next t →
       (match c with
         | .resetAssert _ | .rstNCheck .. | .startWatchdogExpiry | .commandResetAssert => t.boot.strap = s.boot.strap
         | .managementTick _ => t.boot.strap = s.boot.strap
         | .strapLatch _ => t.bar0.heartbeat = s.bar0.heartbeat
         | _ => t.boot.strap = s.boot.strap ∧ t.bar0.heartbeat = s.bar0.heartbeat))

/-! ## The mailboxes -/

/-- Kongaord takes a command only from a mailbox that is served, holds an entry and has a free completion slot, and whose last command is not
still in execution (R68, R76, R77); until then the command stays in its ring and changes nothing. Taking a command moves the head of its
ring past it and uses one of the eight takings of the management tick (R68, R78). -/
def Obligations.UntakenCommandsAndTheHead : Prop :=
  (∀ (c : Instr) (sp : Spec) (e : Entry) (s : State), mailboxCommand c = some (sp, e) →
     (served s e.mb = false ∨ s.mailboxes[e.mb].cmdHead = s.mailboxes[e.mb].tailSeen ∨ cplFull s.mailboxes[e.mb] = true
       ∨ s.mailboxes[e.mb].executing.isSome = true) → exec c s = .next s)
  ∧ (∀ (m : MbId) (s : State), (takeCommand m s).mailboxes[m].cmdHead = s.mailboxes[m].cmdHead + 1
       ∧ (takeCommand m s).mailboxes[m].quota = s.mailboxes[m].quota - 1
       ∧ { takeCommand m s with mailboxes := s.mailboxes } = s ∧ ∀ n : MbId, n ≠ m → (takeCommand m s).mailboxes[n] = s.mailboxes[n])

/-- A command that fails a step of validation is taken and answered with that step's status and detail, and nothing else changes: no part of
it is applied (R79); only a failed fetch from host memory also raises source 0x5B. -/
def Obligations.RejectedCommandIsAnsweredAndNotApplied : Prop :=
  ∀ (c : Instr) (sp : Spec) (e : Entry) (s : State) (f : Fail), mailboxCommand c = some (sp, e) → canTake s e.mb = true →
    asDelivered sp e s = true → validate sp e (takeCommand e.mb s) = some f →
    Answers c s (Completed sp.opcode e ⟨f.status, f.detail, 0, 0xFF, none⟩ s
      (if f.status = .hwFault then raise0 0x5B (takeCommand e.mb s) else takeCommand e.mb s))

/-- The steps of validation stand in the order of R79, and the first that fails decides. A command flagged HOLD that changes no bank, one with
location 3, one with a reserved flag, and one that returns a payload inline fail at the flags field, with OUT_OF_RANGE, detail 0x1_0004,
once the length is valid (R70, R79). In deadbolt only the commands of R394 pass the state step; every other fails there, WRONG_STATE,
detail 4, if nothing failed before (R83, R392). -/
def Obligations.ValidationOrder : Prop :=
  (∀ (sp : Spec) (e : Entry) (s : State),
     (permits sp e s = false → validate sp e s = some ⟨.notPermitted, s.devState⟩)
     ∧ (permits sp e s = true → lengthFail sp e ≠ none → validate sp e s = lengthFail sp e)
     ∧ (permits sp e s = true → lengthFail sp e = none →
       (headerFail sp e ≠ none → validate sp e s = headerFail sp e)
       ∧ (headerFail sp e = none →
         (fetchFail e s ≠ none → validate sp e s = some ⟨.hwFault, 0x5B⟩)
         ∧ (fetchFail e s = none →
           (fieldFail sp e s ≠ none → validate sp e s = fieldFail sp e s)
           ∧ (fieldFail sp e s = none →
             (stateFail sp e s ≠ none → validate sp e s = stateFail sp e s)
             ∧ (stateFail sp e s = none →
               (ownerFail sp e s ≠ none → validate sp e s = ownerFail sp e s)
               ∧ (ownerFail sp e s = none →
                 (resourceFail sp e s ≠ none → validate sp e s = resourceFail sp e s)
                 ∧ (resourceFail sp e s = none →
                   (sp.tumbler e s ≠ none → validate sp e s = sp.tumbler e s)
                   ∧ (sp.tumbler e s = none → validate sp e s = sp.signature e s)))))))))
  ∧ (∀ (sp : Spec) (e : Entry) (s : State), permits sp e s = true → lengthFail sp e = none →
       (holds e = true ∧ sp.bank = false) ∨ entryLoc e = 3 ∨ 8 ≤ e.flags.toNat ∨ (sp.noInline = true ∧ entryLoc e = 0) →
       validate sp e s = some ⟨.outOfRange, 0x10004⟩)
  ∧ (∀ (sp : Spec) (e : Entry) (s : State), s.devState = 4 → sp.deadbolt = false → sp.deadboltWhen e = false →
       permits sp e s = true → lengthFail sp e = none → headerFail sp e = none → fetchFail e s = none → fieldFail sp e s = none →
       validate sp e s = some ⟨.wrongState, 4⟩)

/-- An event goes to every enabled mailbox whose mask has its group's bit (R73), into the slot at the event tail, with the next event
sequence, the tick counter, and the code, context, frame and detail given (R72); a full ring discards it and counts it; no other mailbox
changes. -/
def Obligations.EventReachesTheMailboxesThatWantIt : Prop :=
  ∀ (code : Nat) (c : Option CtxId) (frame : BitVec 48) (detail : Nat) (s : State),
    let t := post code c frame detail s
    let x : EventEntry := ⟨BitVec.ofNat 16 code, ctxByte c, s.cmd.eventSeq + 1, s.tick.counter, frame, BitVec.ofNat 64 detail⟩
    t.cmd = { s.cmd with eventSeq := s.cmd.eventSeq + 1 } ∧ beside s t = s ∧ t.hostMem = s.hostMem ∧ t.twb = s.twb
    ∧ ∀ m : MbId, let b := s.mailboxes[m]
      (wants m code b = false → t.mailboxes[m] = b)
      ∧ (wants m code b = true → b.lostSince = 0 → b.heldEvents = [] → evtFull b = false → t.mailboxes[m] = pushEvt x b)
      ∧ (wants m code b = true → evtFull b = true →
        t.mailboxes[m] = { b with evtLost := bump b.evtLost, lostSince := b.lostSince + 1 })

/-- A host's writes of the mailbox registers (R64, R66, R68): the tail is a doorbell, a disabled mailbox ignores it, and the boot ROM sees it
at once; MBm_CTRL[0] enables and disables, dropping the mailbox's own hold set; MBm_CTRL[1] puts all six indices at 0, drops every untaken
command and what a background command still owes, silences the one in execution, and clears within a management tick. A read of TICK_LO
answers the low half of the tick counter and latches the high half (R64). Writes of BAR0 (R63, R64): INT_CAUSE is cleared by the bits
written; the fast doorbell takes the word; MBm_CPL_HEAD and MBm_EVT_HEAD move; an access of another size, or not aligned, is ignored. -/
def Obligations.RegisterAccessesOfTheHost : Prop :=
  (∀ (m : MbId) (v : BitVec 32) (s : State), mgmtOn s = true →
     (hostMailbox m = true → s.mailboxes[m].enabled = true → Answers (.mbCmdTailWrite m v) s fun t =>
       t.mailboxes[m].cmdTail = v.setWidth 6 ∧ t.mailboxes[m].tailSeen = (if romServes s then v.setWidth 6 else s.mailboxes[m].tailSeen)
         ∧ { t with mailboxes := s.mailboxes } = s ∧ ∀ n : MbId, n ≠ m → t.mailboxes[n] = s.mailboxes[n])
     ∧ (hostMailbox m = true → s.mailboxes[m].enabled = false → exec (.mbCmdTailWrite m v) s = .next s)
     ∧ (hostMailbox m = false → exec (.mbCmdTailWrite m v) s = .next s ∧ exec (.mbEnable m true) s = .next s
         ∧ exec (.mbEnable m false) s = .next s ∧ exec (.mbRingReset m) s = .next s)
     ∧ (hostMailbox m = true → (s.devState ≠ 3 ∨ m = 7) → Answers (.mbEnable m true) s fun t =>
       t.mailboxes[m].enabled = true ∧ { t with mailboxes := s.mailboxes } = s ∧ ∀ n : MbId, n ≠ m → t.mailboxes[n] = s.mailboxes[n])
     ∧ (hostMailbox m = true → Answers (.mbEnable m false) s fun t =>
       t.mailboxes[m] = { s.mailboxes[m] with enabled := false }
         ∧ t.cmd.hold = (match s.cmd.hold with
           | some h => if h.owner = m then none else some h
           | none => none)
         ∧ { t with mailboxes := s.mailboxes, cmd := s.cmd } = s ∧ ∀ n : MbId, n ≠ m → t.mailboxes[n] = s.mailboxes[n])
     ∧ (hostMailbox m = true → Answers (.mbRingReset m) s fun t =>
       let b := t.mailboxes[m]
       b.cmdHead = 0 ∧ b.cmdTail = 0 ∧ b.cplHead = 0 ∧ b.cplTail = 0 ∧ b.evtHead = 0 ∧ b.evtTail = 0 ∧ b.heldEvents = []
         ∧ (∀ x ∈ b.executing, x.silent = true) ∧ (∀ g ∈ b.background, g.report = false) ∧ b.resetting = !romServes s
         ∧ b.enabled = s.mailboxes[m].enabled ∧ b.mask = s.mailboxes[m].mask ∧ (∀ h, t.cmd.hold = some h → h.owner ≠ m)
         ∧ { t with mailboxes := s.mailboxes, cmd := s.cmd } = s ∧ ∀ n : MbId, n ≠ m → t.mailboxes[n] = s.mailboxes[n]))
  ∧ ((∀ s : State, Answers .tickLoRead s fun t =>
       t.bar0.tickHi = s.tick.counter.extractLsb' 32 32 ∧ t.bar0.lastRead = s.tick.counter.extractLsb' 0 32
         ∧ { t with bar0 := s.bar0 } = s ∧ { t.bar0 with tickHi := s.bar0.tickHi, lastRead := s.bar0.lastRead } = s.bar0)
     ∧ ∀ (f : Fin 2) (o size : Nat) (v : BitVec 32) (s : State),
       (size ≠ 4 ∨ o % 4 ≠ 0 → exec (.registerWrite f o size v) s = .next s)
       ∧ (mgmtOn s = true →
         exec (.registerWrite 0 0x200 4 v) s = .next { s with bar0 := { s.bar0 with intCause := s.bar0.intCause &&& ~~~v } }
         ∧ exec (.registerWrite 0 0x100 4 v) s = exec (.doorbellTrigger v) s
         ∧ ∀ m : MbId, exec (.registerWrite 0 (0x1000 + 256 * m.val) 4 v) s = exec (.mbCmdTailWrite m v) s
           ∧ (hostMailbox m = true → Answers (.registerWrite 0 (0x1008 + 256 * m.val) 4 v) s fun t =>
             t = { s with mailboxes := s.mailboxes.set m { s.mailboxes[m] with cplHead := v.setWidth 6 } })
           ∧ (hostMailbox m = true → Answers (.registerWrite 0 (0x1010 + 256 * m.val) 4 v) s fun t =>
             t = { s with mailboxes := s.mailboxes.set m { s.mailboxes[m] with evtHead := v.setWidth 7 } })))

/-! ## The tick -/

/-- The words of the fast doorbell (R51, R53): a malformed word is lost and counted twice over; a word that matches a queued one in action,
context and argument is merged into it; a word that meets a full queue of 16 is lost; any other joins the queue. -/
def Obligations.DoorbellWords : Prop :=
  ∀ (mk : BitVec 32 → Instr) (w : BitVec 32) (s : State),
    (mk = .doorbellTrigger ∨ mk = .doorbellKeyPicture ∨ mk = .doorbellRecordMark ∨ mk = .doorbellAudioStartArm) →
    let a := w.toNat % 16
    let g := s.tick
    let d : Doorbell := ⟨a, if a = 4 then 0 else ⟨w.toNat / 16 % 8, Nat.mod_lt _ (by decide)⟩, w.toNat / 256 % 256, w.extractLsb' 16 16, 0⟩
    let same := fun q : Doorbell => q.action = d.action ∧ q.ctx = d.ctx ∧ q.arg = d.arg
    (a = 0 ∨ 4 < a ∨ w.getLsbD 7 = true →
      exec (mk w) s = .next { s with tick := { g with lost := bump g.lost, malformed := bump g.malformed, malformedNow := bump g.malformedNow } })
    ∧ (1 ≤ a → a ≤ 4 → w.getLsbD 7 = false →
      ((∃ q ∈ g.queue, same q) → exec (mk w) s = .next { s with tick := { g with
          queue := g.queue.map fun q => if same q then { q with merged := q.merged + 1 } else q } })
      ∧ ((∀ q ∈ g.queue, ¬ same q) → 16 ≤ g.queue.length →
        exec (mk w) s = .next { s with tick := { g with lost := bump g.lost, lostNow := bump g.lostNow } })
      ∧ ((∀ q ∈ g.queue, ¬ same q) → g.queue.length < 16 →
        exec (mk w) s = .next { s with tick := { g with queue := g.queue ++ [d] } }))

/-- A hinge counts (R39): hinge 0 leaves the counter, every later one adds one; the guard is shut again. The guard opens before it and latches
the doorbell words (R44 step 1); while the generator does not run, or the guard stands open, nothing happens. A management tick while
Kongaord runs raises HEARTBEAT by one, reads the command tail of every enabled mailbox, and starts the rotation one mailbox further (R64,
R76, R78); without Kongaord, and unless the boot ROM serves, nothing happens. -/
def Obligations.HingesGuardsAndTicks : Prop :=
  (∀ (bad : BitVec 4) (s : State),
     (s.tick.running = true → Answers .hinge s fun t =>
       t.tick.counter = (if s.tick.hinges = 0 then s.tick.counter else s.tick.counter + 1) ∧ t.tick.hinges = s.tick.hinges + 1)
     ∧ (s.tick.running = false → exec .hinge s = .next s ∧ exec (.hingeGuardOpen bad) s = .next s)
     ∧ (s.tick.running = true → s.tick.guardOpen = false → Answers (.hingeGuardOpen bad) s fun t =>
       t.tick.guardOpen = true ∧ t.tick.queue = [] ∧ t.tick.counter = s.tick.counter ∧ t.tick.hinges = s.tick.hinges)
     ∧ (s.tick.guardOpen = true → exec (.hingeGuardOpen bad) s = .next s))
  ∧ (∀ (temps : List Int) (s : State),
       (mgmtOn s = true → s.kongaord = true → Answers (.managementTick temps) s fun t =>
         t.bar0.heartbeat = s.bar0.heartbeat + 1)
       ∧ (mgmtOn s = false ∨ (s.kongaord = false ∧ romServes s = false) → exec (.managementTick temps) s = .next s))

/-- A source edge (R36, R57): less than half a period after the last one it is a glitch, ignored and counted; an accepted edge while locked
moves the coming hinge by the phase error, at most 0.1% of the period, and the period becomes the mean of the last eight; an edge further
off is not applied and begins holdover, cause 2. The source stops while locked: holdover with cause 1, and TICK_HOLDOVER (R57). SLREF is
lost: holdover with cause 3 whatever the source, and every port that is not off, looped back or shut by a broken bond returns to DETECT
(R57, R61). SLREF is back: no state but the generator's own changes, and relocking starts only after eight agreeing periods (R59). -/
def Obligations.TickSources : Prop :=
  (∀ s : State, let g := s.tick
     let now := nowPs s
     (g.running = false ∨ g.live.source = 0 ∨ g.live.source = 7 → exec .sourceEdge s = .next s)
     ∧ (g.running = true → g.live.source ≠ 0 → g.live.source ≠ 7 →
       (∀ e, g.lastEdge = some e → 2 * (now - e) < g.period →
         exec .sourceEdge s = .next { s with tick := { g with glitches := bump g.glitches } })
       ∧ ((∀ e, g.lastEdge = some e → ¬ 2 * (now - e) < g.period) → g.switch = none → g.state = .locked →
         (1000 * (hingeError g (now + g.live.phase)).natAbs ≤ g.period →
           exec .sourceEdge s = .next { s with tick := { g with
             lastEdge := some now, edges := (now :: g.edges).take 9
             next := g.next + clampInt (-(g.period / 1000 : Nat)) (g.period / 1000 : Nat) (hingeError g (now + g.live.phase))
             period := if (periodsOf ((now :: g.edges).take 9)).length = 8 then (periodsOf ((now :: g.edges).take 9)).sum / 8 else g.period } })
         ∧ (g.period < 1000 * (hingeError g (now + g.live.phase)).natAbs → Answers .sourceEdge s fun t =>
           t.tick.state = .holdover ∧ t.tick.cause = 2 ∧ t.tick.next = g.next ∧ t.tick.period = g.period
             ∧ t.cmd.eventSeq = s.cmd.eventSeq + 1 ∧ beside s { t with tick := s.tick, contexts := s.contexts } = s))))
  ∧ (∀ s : State, let g := s.tick
       (g.running = true → g.live.source ≠ 0 → g.live.source ≠ 7 → g.switch = none → g.state = .locked → Answers .sourceStop s fun t =>
         t.tick.state = .holdover ∧ t.tick.cause = 1 ∧ t.tick.heldHinges = 0 ∧ t.cmd.eventSeq = s.cmd.eventSeq + 1
           ∧ beside s { t with tick := s.tick, contexts := s.contexts } = s)
       ∧ (g.running = false ∨ g.live.source = 0 ∨ g.live.source = 7 → exec .sourceStop s = .next s)
       ∧ (g.running = true → g.state = .locked → Answers .slrefLoss s fun t =>
         t.tick.slref = false ∧ t.tick.state = .holdover ∧ t.tick.cause = 3 ∧ t.tick.period = g.period ∧ t.tick.next = g.next)
       ∧ (Answers .slrefReturn s fun t => t.tick.slref = true ∧ { t with tick := s.tick } = s
           ∧ t.tick.next = g.next ∧ (g.agreeing < 8 → t.tick.state = g.state)))

/-- The commands of the tick that answer at once (02 commands): TICK_GET_STATE returns the structure with the counter, state, source and
counts; TICK_BUDGET_QUERY the worst instance of each of the twelve resources; TICK_DISCARD drops the hold set and nothing else.
TICK_SET_SOURCE and TICK_RATE_CONFIRM are bank commands whose completion names the hinge after the one they are armed for (R60); the first
arms the source named, the second the period measured. At that hinge the period is the new one; the internal generator goes on from the
hinge itself, an external source waits for its own edges. TICK_ARM arms every held change for the hinge named, or the first that can be
reached when that is past, and drops the hold set (R50); one TICK_ARMED is posted for each context the held commands name. -/
def Obligations.TickCommands : Prop :=
  (∀ (e : Entry) (s : State), let u := takeCommand e.mb s
     (Accepts tickGetStateSpec e s → Answers (.tickGetState e) s
       (Completed 0x0203 e { detail := s.tick.state.code, back := some (0, tickState s) } s u))
     ∧ (Accepts tickBudgetQuerySpec e s → Answers (.tickBudgetQuery e) s
       (Completed 0x0204 e { back := some (16, (List.range 12).flatMap fun i =>
         budgetEntry (if arg e 0 1 = 0 then withArmed u else projected u) (i + 1)) } s u))
     ∧ (Accepts tickDiscardSpec e s → Answers (.tickDiscard e) s
       (Completed 0x0206 e {} s { u with cmd := { u.cmd with hold := none } })))
  ∧ ((∀ (e : Entry) (s : State), let u := takeCommand e.mb s
       (Accepts tickSetSourceSpec e s → Answers (.tickSetSource e) s (Banked 0x0201 e [.tickSource
         { source := arg e 0 1, inst := arg e 1 1, falling := arg e 2 1 == 1, period := arg e 8 8, phase := arg e 16 8 }] none 0 1 s u))
       ∧ (Accepts tickRateConfirmSpec e s → s.tick.state = .ratePending ∧
         Answers (.tickRateConfirm e) s (Banked 0x0202 e [.tickRate (s.tick.rate.getD s.tick.period)] none 0 1 s u)))
     ∧ ∀ (h : Nat) (v : TickSource) (s : State),
       goLive h (.tickSource v) s = { s with tick := { s.tick with
         live := v, period := v.period, edges := [], lastEdge := none, rate := none
         next := if v.source = 0 then s.tick.lastAt + v.period else s.tick.next
         state := if v.source = 0 then (if s.tick.slref then .locked else .holdover) else s.tick.state
         cause := if v.source = 0 then (if s.tick.slref then 0 else 3) else s.tick.cause
         switch := if v.source = 0 then none else some ⟨h, v⟩ } }
       ∧ ∀ p : Nat, goLive h (.tickRate p) s = goLive h (.tickSource { s.tick.live with period := p }) s)
  ∧ (∀ (e : Entry) (s : State), Accepts tickArmSpec e s →
       let h := Max.max (arg e 0 8) (reachable s)
       ∃ w : State, Answers (.tickArm e) s
           (Completed 0x0205 e ⟨if (if arg e 0 8 = 0 then s.tick.guardOpen else decide (arg e 0 8 < reachable s)) then .okLate else .accepted,
             0, h % 2 ^ 48, 0xFF, none⟩ s w)
         ∧ w.cmd.hold = none
         ∧ w.cmd.armed = s.cmd.armed ++ ((heldItems s).flatMap fun x => x.changes.map fun y => ⟨h, x.seq, y⟩)
         ∧ w.cmd.eventSeq = s.cmd.eventSeq + BitVec.ofNat 32 (heldContexts s).length
         ∧ beside s w = s)

/-! ## The fault path -/

/-- A raise counts its source and enters the history; at severity 0 it does nothing more; at 1 to 3 its legacy bit is set and the first such
raise is latched until it is cleared, and a later one sets the overflow (R386 to R389); at severity 3 the device enters deadbolt (R392). A
reserved source, and any raise while the management domain is off, does nothing. -/
def Obligations.RaisedFaultsAreRecorded : Prop :=
  ∀ (src : SourceId) (c : Option CtxId) (frame : BitVec 48) (detail : Nat) (s : State),
    let t := raise src c frame detail s
    let k := s.collector
    (reservedSource src = true ∨ domainOn s 2 = false → t = s)
    ∧ (reservedSource src = false → domainOn s 2 = true →
      (severityOf k src = 0 → t.collector.counts = k.counts.set src (bump k.counts[src]) ∧ t.collector.latch = k.latch
        ∧ t.collector.legacy = k.legacy ∧ { t with collector := k } = s)
      ∧ ((severityOf k src = 1 ∨ severityOf k src = 2) → t.collector.counts = k.counts.set src (bump k.counts[src])
        ∧ t.collector.latch = k.latch.or (some (faultRecord src c frame detail s))
        ∧ t.collector.legacy = k.legacy ||| BitVec.twoPow 32 (legacyBit src)
        ∧ t.collector.overflow = (k.overflow || k.latch.isSome) ∧ { t with collector := k, bar0 := s.bar0, out := s.out } = s)
      ∧ (severityOf k src = 3 → t.devState = 4))

/-- Entering deadbolt keeps the record that led to it, drops every armed and held change and every queued doorbell word, empties the frames in
flight and the clips of every context, and leaves the tick counter alone (R392, R393); in deadbolt it does nothing. -/
def Obligations.DeadboltEntry : Prop :=
  ∀ (x : FaultRecord) (s : State), let t := enterDeadbolt x s
    (s.devState = 4 → t = s)
    ∧ (s.devState ≠ 4 → t.devState = 4 ∧ t.collector.deadbolt = some x ∧ t.cmd.armed = [] ∧ t.cmd.hold = none ∧ t.tick.queue = []
      ∧ t.tick.counter = s.tick.counter ∧ t.boot.retention.prevDeadbolt = some x
      ∧ t.kongaord = (s.kongaord && !processorFault x.source)
      ∧ ∀ c : CtxId, t.contexts[c].frames = [] ∧ t.contexts[c].results = [] ∧ t.recs[c].clips = [])

/-- A background command ends once: it leaves its mailbox's list, and SYS_BACKGROUND_DONE goes to that mailbox alone, whatever its mask, with
the tag, status, opcode and detail (R73, R82); an operation that a ring reset silenced ends unreported. -/
def Obligations.BackgroundCommandEndsOnce : Prop :=
  ∀ (m : MbId) (op : Nat) (tag : BitVec 16) (st : Status) (detail : Nat) (s : State), let b := s.mailboxes[m]
    let t := endBackground m op tag st detail s
    let x : EventEntry := ⟨0x0182, 0xFF, s.cmd.eventSeq + 1, s.tick.counter, 0,
      BitVec.ofNat 64 (tag.toNat + 2 ^ 16 * st.code.toNat + 2 ^ 32 * op + 2 ^ 48 * (detail % 2 ^ 16))⟩
    ((∀ g ∈ b.background, ¬ (g.tag = tag ∧ g.opcode.toNat = op)) → t = s)
    ∧ (∀ g rest, b.background = g :: rest → g.tag = tag → g.opcode.toNat = op → t.mailboxes[m].background = rest
      ∧ t.cmd = { s.cmd with eventSeq := s.cmd.eventSeq + 1 } ∧ beside s t = s ∧ t.out = s.out
      ∧ (∀ n : MbId, n ≠ m → t.mailboxes[n] = s.mailboxes[n])
      ∧ (g.report = false → t.mailboxes[m] = { b with background := rest })
      ∧ (g.report = true → b.enabled = true → b.lostSince = 0 → b.heldEvents = [] → evtFull b = false →
        t.mailboxes[m] = pushEvt { x with ctx := g.ctx } { b with background := rest })
      ∧ (g.report = true → b.enabled = false → t.mailboxes[m].heldEvents = b.heldEvents ++ [{ x with ctx := g.ctx }]
        ∧ t.mailboxes[m].evtTail = b.evtTail))

/-- The first-source latch (R387): empty from reset; the first raise at severity 1 to 3 fills it and raises vector 19; a later one sets the
overflow and leaves the latch as it is; one at severity 0 leaves both; FLT_CLEAR of the latch empties it. (Raises reach the collector
while the management domain is powered.) -/
def Obligations.FirstSourceLatch : Prop :=
  State.reset.collector.latch = none
  ∧ (∀ (x : SourceId) (c : Option CtxId) (frame : BitVec 48) (detail : Nat) (s : State), reservedSource x = false → domainOn s 2 = true →
      let t := raise x c frame detail s
      (severityOf s.collector x = 0 → t.collector.latch = s.collector.latch ∧ t.collector.overflow = s.collector.overflow)
      ∧ (severityOf s.collector x ≠ 0 → s.collector.latch = none → t.collector.latch = some (faultRecord x c frame detail s)
        ∧ t.collector.overflow = s.collector.overflow ∧ t.bar0.intCause.getLsbD 19 = true)
      ∧ (severityOf s.collector x ≠ 0 → ∀ y, s.collector.latch = some y → t.collector.latch = some y ∧ t.collector.overflow = true))
  ∧ ∀ (e : Entry) (s : State), Accepts fltClearSpec e s → (arg e 0 1).testBit 0 = true →
      Answers (.fltClear e) s fun t => t.collector.latch = none ∧ t.collector.overflow = false

/-! ## The system commands -/

/-- SYS_NOP answers the tick counter, SYS_IDENTIFY DEV_STATE and the identity, SYS_EVENT_MASK the mask it replaces in its own mailbox,
SYS_TWB_CONFIG the filter it replaces, SYS_RECOVERY_STATUS the recovery structure; none of them changes anything else (03, 20 and 23
commands). -/
def Obligations.SystemQueries : Prop :=
  ∀ (e : Entry) (s : State), let u := takeCommand e.mb s
    (Accepts sysNopSpec e s → Answers (.sysNop e) s (Completed 0x0101 e { detail := s.tick.counter.toNat } s u))
    ∧ (Accepts sysIdentifySpec e s → Answers (.sysIdentify e) s
      (Completed 0x0102 e { detail := (devStateReg s).toNat, back := some (0, identity u) } s u))
    ∧ (Accepts sysEventMaskSpec e s → Answers (.sysEventMask e) s (Completed 0x0103 e { detail := u.mailboxes[e.mb].mask.toNat } s
      (modMb e.mb (fun b => { b with mask := BitVec.ofNat 32 (arg e 0 4) }) u)))
    ∧ (Accepts sysTwbConfigSpec e s → Answers (.sysTwbConfig e) s (Completed 0x0114 e { detail := s.twb.filterNext } s
      { u with twb := { u.twb with filterNext := arg e 0 1 } }))
    ∧ (Accepts sysRecoveryStatusSpec e s → Answers (.sysRecoveryStatus e) s
      (Completed 0x0111 e { detail := s.boot.recovery, back := some (0, recoveryStatus s) } s u))

/-- SYS_BLOCK_RESET drains its block, in execution until the drain ends; behind a hung port it completes with HW_FAULT (R420). The oldest
drain that ends resets its block and answers with the contexts drained, in service again at the next hinge; a block that does not come out
is fenced and answered HW_FAULT; one that cannot be quiesced resumes, unreset, with TIMEOUT. A request that the fabric routes to a hung
port completes after 1 ms with an error and poisoned data; another block's request is not touched (R420). -/
def Obligations.BlockResetsAndHungPorts : Prop :=
  ((∀ (e : Entry) (s : State), let u := takeCommand e.mb s
     let b := arg e 0 1
     Accepts sysBlockResetSpec e s →
     (s.control.hung.contains b = true → Answers (.sysBlockReset e) s (Completed 0x0104 e
       { status := .hwFault, detail := (src (Config.blockFault b)).val } s (raise0 (Config.blockFault b) u)))
     ∧ (s.control.hung.contains b = false → exec (.sysBlockReset e) s = .next (inExecution 0x0104 e none s
       { u with control := { u.control with draining := u.control.draining ++ [⟨e.mb, b⟩] } })))
   ∧ ∀ (n : Nat) (s : State) (x : BlockReset) (rest : List BlockReset), s.control.draining = x :: rest →
     let u := { s with control := { s.control with draining := rest } }
     let r := resetBlock x.block u
     exec (.blockDrainDone n true) s = .next (endExecution x.mb { detail := n } { r with control := { r.control with
         returning := x.block :: r.control.returning, dead := r.control.dead.filter fun b => b != x.block } })
     ∧ exec (.blockDrainDone n false) s = .next (endExecution x.mb { status := .hwFault, detail := (src (Config.blockFault x.block)).val }
         (raise0 (Config.blockFault x.block) (retireDead x.block
           { r with control := { r.control with dead := x.block :: r.control.dead } })))
     ∧ exec (.blockQuiesceTimeout n) s = .next (endExecution x.mb { status := .timeout, detail := n } u))
  ∧ (∀ (b : Nat) (r : MemReq) (s : State),
       exec (.hungPortResponse b r) s =
         .next (if s.control.hung.contains b then { s with out := .hungAnswer r.requester r.addr.toNat :: s.out } else s))

/-- SYS_RESET asks for a command reset, clearing the failed-start count and setting the forced-recovery flag as its bits say; 1 ms later the
reset asserts, with cause 0x05 (R404); SYS_FLASH queues one flash operation as a background command; SYS_BOOT_IMAGE starts Kongaord from
the image it brings (R419). The oldest flash operation that ends writes, erases or returns its bytes, and a failure while Kongaord runs
raises source 0x0F. A reset source that asserts puts every register of the management domain at its reset value, the boot flash and the
volumes of the drives are kept, the always-on retention and the thermal latch fall only with AON power-on, and SLREF is what it was (R404,
R405). An external low during the stretch is ignored (R406), and so is a source that stands asserted. The start watchdog counts a failed
start, at most 3, and asserts its own source (R416). -/
def Obligations.RecoveryAndResets : Prop :=
  ((∀ (e : Entry) (s : State), let u := takeCommand e.mb s
     (Accepts sysResetSpec e s → Answers (.sysReset e) s (Completed 0x0110 e {} s { u with boot := { u.boot with
       commandReset := true
       retention := { u.boot.retention with
         failedStarts := if (arg e 0 1).testBit 0 then 0 else u.boot.retention.failedStarts
         forced := u.boot.retention.forced || (arg e 0 1).testBit 1 } } }))
     ∧ (Accepts sysFlashSpec e s → Answers (.sysFlash e) s (Begun 0x0112 e none (arg e 12 4) s { u with control := { u.control with
       flash := u.control.flash ++ [⟨e.mb, e.tag, arg e 0 1, arg e 8 4, arg e 12 4,
         if arg e 0 1 = 1 then slice (payload e) 16 (arg e 12 4) else [], entryLoc e, e.loc.toNat⟩] } }))
     ∧ (Accepts sysBootImageSpec e s → verifyImage s (payload e) = 1 ∧
       Answers (.sysBootImage e) s (Completed 0x0113 e {} s (startKongaord 2 (firmwareOf (payload e)) u))))
   ∧ (∀ s : State, exec .commandResetAssert s = if s.boot.commandReset then exec (.resetAssert .pinCommand) s else .next s)
   ∧ ∀ (ok : Bool) (n : Nat) (s : State) (x : FlashOp) (rest : List FlashOp), s.control.flash = x :: rest →
     let u := { s with control := { s.control with flash := rest } }
     (x.op = 0 → ok = true → x.kind = 1 → exec (.flashOpDone ok n) s = .next (endBackground x.mb 0x0112 x.tag .ok 0
         (writeArena x.mb (x.loc + 16) ((List.range x.len).map fun i => readFlash s (x.addr + i)) u)))
     ∧ (x.op = 0 → ok = true → x.kind ≠ 1 → s.hostUp = true → exec (.flashOpDone ok n) s = .next (endBackground x.mb 0x0112 x.tag .ok 0
         (writeHost (x.loc + 16) ((List.range x.len).map fun i => readFlash s (x.addr + i)) u)))
     ∧ (x.op = 1 → ok = true → 65536 ≤ x.addr → exec (.flashOpDone ok n) s = .next (endBackground x.mb 0x0112 x.tag .ok 0
         { u with flash := writeCells s.flash x.addr ((x.data.take x.len).map fun b => b ^^^ Config.erasedByte) }))
     ∧ (x.op = 2 → ok = true → 65536 ≤ x.addr → exec (.flashOpDone ok n) s = .next (endBackground x.mb 0x0112 x.tag .ok 0
         { u with flash := s.flash.filter fun c => c.1 < x.addr || x.addr + x.len ≤ c.1 }))
     ∧ (ok = false → s.kongaord = true → ∃ w, exec (.flashOpDone ok n) s = .next (endBackground x.mb 0x0112 x.tag .hwFault 0x0F (raise0 0x0F w))
         ∧ beside s { w with flash := s.flash, sec := s.sec, control := s.control } = s))
  ∧ (∀ (x : ResetSource) (s : State),
       (¬ (x = .pinExternal ∧ s.boot.step = .stretch) → s.boot.asserted.contains x = false → Answers (.resetAssert x) s fun t =>
         t.boot.asserted = s.boot.asserted ++ [x] ∧ t.devState = 0 ∧ t.kongaord = false ∧ t.cmd = {} ∧ t.bar0 = {} ∧ t.collector = {}
           ∧ t.mailboxes = State.reset.mailboxes ∧ t.contexts = State.reset.contexts ∧ t.ports = State.reset.ports
           ∧ t.power = State.reset.power ∧ t.tick = { slref := s.tick.slref } ∧ t.boot.step = State.reset.boot.step
           ∧ t.boot.thermalLatch = (x != .aonPowerOn && s.boot.thermalLatch)
           ∧ t.boot.retention = (if x = .aonPowerOn then {} else s.boot.retention)
           ∧ t.flash = s.flash ∧ t.hostMem = s.hostMem ∧ t.pending = s.pending
           ∧ (∀ p : Fin 2, t.media[p].volume = s.media[p].volume))
       ∧ ((x = .pinExternal ∧ s.boot.step = .stretch) ∨ s.boot.asserted.contains x = true → exec (.resetAssert x) s = .next s)
       ∧ (s.boot.watchdog = true → exec .startWatchdogExpiry s = exec (.resetAssert .pinWatchdog) { s with boot := { s.boot with
           retention := { s.boot.retention with failedStarts := Min.min 3 (s.boot.retention.failedStarts + 1) } } })
       ∧ (s.boot.watchdog = false → exec .startWatchdogExpiry s = .next s))

/-! ## Reset and start -/

/-- The last release of the reset sources starts the stretch and writes the cause: the first in the table, bit 7 with more than one (R406,
R408); the stretch's end releases RST_N, shows the failed-start count as it stands and starts the watchdog (R410 step 3, R416); the check
of RST_N completes the order and samples the two-wire address, or asserts an external reset (R406, R414). The strap code is latched from
the mean of the conversions, 14 on a fault (R412, R413), and the first fuse load starts; of at most three loads, the first that passes its
check gives the fuses, and sets the retry flag when it is not the first (R415). The management domain's release enters recovery mode for
the first reason that applies (R417), with mailbox 4 served and DEV_STATE 0x3, or starts the keyway. The keyway starts the preferred slot
when it verifies, else the other, which raises source 0x0D; with neither it enters recovery mode, reason 4 (R424); a worker starts the
image its manager sent. Kongaord runs from the image that starts, in DEV_STATE 0x1, or in deadbolt under the thermal latch, with mailbox 4
served, and 5 on a worker (R66, R410 step 8, R411). START_COMPLETE then ends the start: on a manager or a standalone package the internal
generator runs, and DEV_STATE is 0x2 unless the device is in deadbolt; a worker waits for its manager (R85, R370). -/
def Obligations.StartUp : Prop :=
  (∀ (x : ResetSource) (s : State),
     (s.boot.asserted = [x] → exec (.resetRelease x) s = .next { s with boot := { s.boot with
       asserted := [], step := .stretch, drivesRstN := true, retention := { s.boot.retention with cause := resetCause s.boot.since } } })
     ∧ (s.boot.asserted.contains x = false → exec (.resetRelease x) s = .next s)
     ∧ (s.boot.asserted.contains x = true → s.boot.asserted.erase x ≠ [] → Answers (.resetRelease x) s fun t =>
       t.boot.step = s.boot.step ∧ t.boot.asserted = s.boot.asserted.erase x ∧ { t with boot := s.boot } = s)
     ∧ (s.boot.step = .stretch → exec .stretchEnd s = .next { s with boot := { s.boot with
       step := .released, drivesRstN := false, failedAtStep3 := s.boot.retention.failedStarts, watchdog := true } })
     ∧ ∀ a b : Bool, (s.boot.step = .released → exec (.rstNCheck true a b) s = .next { s with boot := { s.boot with
         step := .strap, since := [], twoWire := 0x58 + 2 * bit a + bit b } }
         ∧ exec (.rstNCheck false a b) s = exec (.resetAssert .pinExternal) s)
       ∧ (s.boot.step ≠ .released → exec (.rstNCheck true a b) s = .next s ∧ exec (.rstNCheck false a b) s = .next s))
  ∧ (∀ (l : List Nat) (f : Fuses) (s : State),
       (s.boot.step = .strap → let c := (strapReading l).1
         let bad := c ≤ 3 ∨ 250 ≤ c ∨ 8 < (strapReading l).2 ∨ strapOf c = 13
         Answers (.strapLatch l) s fun t => t.boot.step = .fuses 1 ∧ t.boot.attempts = 1 ∧ t.boot.reading = c
           ∧ t.boot.spread = (strapReading l).2 ∧ (bad → t.boot.strap = 14 ∧ t.boot.strapFault = true)
           ∧ (¬ bad → t.boot.strap = strapOf c ∧ t.boot.strapFault = false) ∧ { t with boot := s.boot } = s)
       ∧ (s.boot.step ≠ .strap → exec (.strapLatch l) s = .next s)
       ∧ (∀ n, s.boot.step = .fuses n →
         exec (.fuseLoadDone true f) s = .next { s with boot := { s.boot with fuses := some f, step := .locking, retention :=
           { s.boot.retention with fuseRetry := s.boot.retention.fuseRetry || decide (1 < n) } } }
         ∧ (n < 3 → exec (.fuseLoadDone false f) s = .next { s with boot := { s.boot with step := .fuses (n + 1), attempts := n + 1 } })
         ∧ (3 ≤ n → exec (.fuseLoadDone false f) s = .next { s with boot := { s.boot with step := .locking } })))
  ∧ ((∀ s : State, s.boot.step = .locking →
       (∀ r, recoveryReason s.boot = some r → Answers .mgmtRelease s fun t => t.devState = 3 ∧ t.boot.recovery = r ∧ t.boot.step = .recovery
         ∧ t.mailboxes[(4 : MbId)].enabled = true ∧ t.boot.retention.forced = false ∧ t.boot.watchdog = false)
       ∧ (recoveryReason s.boot = none → Answers .mgmtRelease s fun t => t.boot.step = .keyway ∧ t.devState = s.devState
         ∧ t.boot.watchdog = (s.boot.watchdog && !(decide (3 ≤ s.boot.strap) && decide (s.boot.strap ≤ 11)))))
     ∧ (∀ s : State, s.boot.step ≠ .locking → exec .mgmtRelease s = .next s)
     ∧ ∀ (a b : SlotResult) (f : FirmwareInfo) (s : State), s.boot.step = .keyway → s.devState ≠ 4 →
       let u := { s with boot := { s.boot with slotA := (triedSlots s.sec.preferred a b).1, slotB := (triedSlots s.sec.preferred a b).2 } }
       (isWorker s = true → a = 1 → exec (.imageVerifyDone a b f) s = .next (startKongaord 3 f s))
       ∧ (isWorker s = true → a ≠ 1 → exec (.imageVerifyDone a b f) s = .next s)
       ∧ (isWorker s = false → waitsForImage s = false →
         (s.sec.preferred = 0 → a = 1 → exec (.imageVerifyDone a b f) s = .next (startKongaord 0 f u))
         ∧ (s.sec.preferred = 0 → a ≠ 1 → b = 1 → exec (.imageVerifyDone a b f) s = .next (raise0 0x0D (startKongaord 1 f u)))
         ∧ (s.sec.preferred = 1 → b = 1 → exec (.imageVerifyDone a b f) s = .next (startKongaord 1 f u))
         ∧ (s.sec.preferred = 1 → b ≠ 1 → a = 1 → exec (.imageVerifyDone a b f) s = .next (raise0 0x0D (startKongaord 0 f u)))
         ∧ (a ≠ 1 → b ≠ 1 → Answers (.imageVerifyDone a b f) s fun t => t.devState = 3 ∧ t.boot.recovery = 4 ∧ t.boot.step = .recovery)))
  ∧ ((∀ (n : Nat) (f : FirmwareInfo) (s : State), s.boot.retention.fuseRetry = false → let t := startKongaord n f s
       t.kongaord = true ∧ t.sec.running = n ∧ t.boot.firmware = some f ∧ t.boot.step = .starting ∧ t.boot.watchdog = true
         ∧ t.boot.recovery = 0 ∧ t.devState = (if s.boot.thermalLatch then 4 else 1) ∧ t.mailboxes[(4 : MbId)].enabled = true
         ∧ t.mailboxes[(5 : MbId)].enabled = isWorker s)
     ∧ ∀ s : State,
       (s.boot.step = .starting → s.kongaord = true → isWorker s = false → Answers .startComplete s fun t =>
         t.boot.step = .complete ∧ t.boot.watchdog = false ∧ (t.devState = 2 ∨ t.devState = 4))
       ∧ (s.boot.step = .starting → s.kongaord = true → isWorker s = true → s.devState ≠ 4 → Answers .startComplete s fun t =>
         t.boot.step = .joining)
       ∧ (s.boot.step ≠ .starting ∨ s.kongaord = false → exec .startComplete s = .next s))

/-! ## The two-wire target -/

/-- Transactions on the two-wire bus (R445, R447, R448, R450): a START waits for an address, with the filter that now applies, a STOP ends;
the device's own address is acknowledged, for a read with a copy of the whole window, and any other is not; a byte after it is the
pointer; a byte written commits at the pointer; a byte read comes from the copy; an SCL timeout releases SDA and waits for a START; while
the target is off nothing happens. Mailbox 4 through the window (R451, R453): DOORBELL 0x01 hands CMD over, unless a command or an
unacknowledged completion stands there or the mailbox is not served, which refuses it; DOORBELL 0x02 acknowledges the completion and frees
its slot; EVTNEXT moves past one event, if there is any; each leaves the pointer behind its byte. The aperture (R451, R452): a valid base,
a multiple of 64 up to 1 MiB less 64, takes effect with its last byte, and any other is ignored; a byte written in the aperture goes to
mailbox 4's arena at the base plus its index, and to no other byte of it. -/
def Obligations.TwoWireBus : Prop :=
  (∀ (w : Bool) (v : Byte) (s : State), let b := s.twb
     (twbOn s = false → exec (.twbByteCommit w v) s = .next s ∧ exec (.twbStartStop w) s = .next s ∧ exec .twbSclTimeout s = .next s
       ∧ exec .twbReadSnapshot s = .next s)
     ∧ (twbOn s = true →
       exec (.twbStartStop true) s = .next { s with twb := { b with phase := .address, filter := b.filterNext } }
       ∧ exec (.twbStartStop false) s = .next { s with twb := { b with phase := .idle } }
       ∧ exec .twbSclTimeout s = .next { s with twb := { b with phase := .idle }, out := .twbRelease :: s.out }
       ∧ exec .twbReadSnapshot s = .next { s with twb := { b with phase := .read, snapshot := twbWindow s } }
       ∧ (b.phase = .address → v.toNat / 2 ≠ s.boot.twoWire →
         exec (.twbByteCommit w v) s = .next { s with twb := { b with phase := .idle }, out := .twbAck false :: s.out })
       ∧ (b.phase = .address → v.toNat / 2 = s.boot.twoWire → v.getLsbD 0 = true → exec (.twbByteCommit w v) s =
         .next { s with twb := { b with phase := .read, snapshot := twbWindow s }, out := .twbAck true :: s.out })
       ∧ (b.phase = .address → v.toNat / 2 = s.boot.twoWire → v.getLsbD 0 = false → exec (.twbByteCommit w v) s =
         .next { s with twb := { b with phase := .pointer }, out := .twbAck true :: s.out })
       ∧ (b.phase = .pointer → exec (.twbByteCommit true v) s =
         .next { s with twb := { b with phase := .write, pointer := v }, out := .twbAck true :: s.out })
       ∧ (b.phase = .write → exec (.twbByteCommit true v) s = .next (emit (.twbAck true) (commitAt b.pointer v s)))
       ∧ (b.phase = .read → exec (.twbByteCommit false v) s =
         .next { s with twb := { b with pointer := b.pointer + 1 }, out := .twbByte (b.snapshot.getD b.pointer.toNat 0) :: s.out })))
  ∧ (∀ s : State, twbOn s = true → let b := s.mailboxes[(4 : MbId)]
       (s.twb.busy = true ∨ s.twb.valid = true ∨ served s 4 = false → exec .twbSubmit s = .next { s with twb := { s.twb with
         refused := true, pointer := 0x81 } })
       ∧ (s.twb.busy = false → s.twb.valid = false → served s 4 = true → exec .twbSubmit s = .next { s with
         twb := { s.twb with busy := true, refused := false, pointer := 0x81 }
         mailboxes := s.mailboxes.set 4 { b with
           expected := b.expected ++ [(fieldAt s.twb.cmd 0 2, entryOf 4 s.twb.cmd [])], cmdTail := b.cmdTail + 1 } })
       ∧ (s.twb.valid = true → exec .twbAckCompletion s = .next { s with twb := { s.twb with valid := false, pointer := 0x81 }
                                                                         mailboxes := s.mailboxes.set 4 { b with cplHead := b.cplTail } })
       ∧ (s.twb.valid = false → exec .twbAckCompletion s = .next { s with twb := { s.twb with pointer := 0x81 } })
       ∧ (b.evtHead ≠ b.evtTail → exec .twbEventAdvance s = .next { s with twb := { s.twb with pointer := 0xF1 }
                                                                           mailboxes := s.mailboxes.set 4 { b with evtHead := b.evtHead + 1 } })
       ∧ (b.evtHead = b.evtTail → exec .twbEventAdvance s = .next { s with twb := { s.twb with pointer := 0xF1 } }))
  ∧ (∀ s : State, twbOn s = true →
       (∀ v : BitVec 32, Answers (.twbApbaseCommit v) s fun t =>
         t.twb.apbase = (if v.toNat % 64 = 0 ∧ v.toNat ≤ 2 ^ 20 - 64 then v.toNat else s.twb.apbase) ∧ t.twb.staged = []
           ∧ { t with twb := s.twb } = s)
       ∧ ∀ (i : Fin 64) (v : Byte), Memory.wf s.mailboxes[(4 : MbId)].arena = true → Answers (.twbApertureWrite i v) s fun t =>
         readCell t.mailboxes[(4 : MbId)].arena (s.twb.apbase + i.val) = v
           ∧ (∀ a, a ≠ s.twb.apbase + i.val →
             readCell t.mailboxes[(4 : MbId)].arena a = readCell s.mailboxes[(4 : MbId)].arena a)
           ∧ { t with twb := s.twb, mailboxes := s.mailboxes } = s
           ∧ ∀ m : MbId, m ≠ 4 → t.mailboxes[m] = s.mailboxes[m])

/-! ## The banks and the contexts -/

/-- The changes that become live at a hinge are all that are armed for it, in the order of acceptance, so that of two that write the same
field the one accepted later wins (R49). A change of a bank writes the field it names, of the context it names, and nothing else; a change
of a front end, a grade or a capture its own part alone. -/
def Obligations.BankChangesWriteTheirOwnField : Prop :=
  (∀ (h : Nat) (s : State), s.devState ≠ 4 → (∀ a, a ∈ dueAt s h ↔ a ∈ s.cmd.armed ∧ a.hinge ≤ h)
    ∧ (dueAt s h).Pairwise fun a b => a.seq ≤ b.seq)
  ∧ (∀ (h : Nat) (c : CtxId) (s : State), let x := s.contexts[c]
       let bank := fun b : Bank => { s with contexts := s.contexts.set c { x with live := b } }
       let f := x.live.front
       (∀ v, goLive h (.source c v) s = bank { x.live with source := v })
       ∧ (∀ n k, goLive h (.pattern c n k) s = bank { x.live with pattern := n, patternCode := k })
       ∧ (∀ v, goLive h (.develop c v) s = bank { x.live with develop := v })
       ∧ (∀ v k, goLive h (.noise c v k) s = bank { x.live with noise := v, analysisCore := k })
       ∧ (∀ v, goLive h (.stat c v) s = bank { x.live with stat := v })
       ∧ (∀ v, goLive h (.statHost c v) s = bank { x.live with statHost := v })
       ∧ (∀ g v, goLive h (.encode c g v) s = bank { x.live with encodes := x.live.encodes.set g v })
       ∧ (∀ v, goLive h (.vecExport c v) s = bank { x.live with vecExport := v })
       ∧ (∀ v, goLive h (.split c v) s = bank { x.live with split := v })
       ∧ (∀ a b k, goLive h (.cfa c a b k) s = bank { x.live with front := { f with pw := a, ph := b, cells := k } })
       ∧ (∀ b, goLive h (.flat c b) s = bank { x.live with front := { f with flat := b } })
       ∧ (∀ a b, goLive h (.taps c a b) s = bank { x.live with front := { f with t1 := a, t2 := b } })
       ∧ (∀ k v, goLive h (.lin c k v) s = bank { x.live with front := { f with caps := f.caps.set k { f.caps[k] with lin := some v } } })
       ∧ (∀ k v, goLive h (.column c k v) s = bank { x.live with front := { f with caps := f.caps.set k { f.caps[k] with column := v } } })
       ∧ (∀ k b, goLive h (.dark c k b) s = bank { x.live with front := { f with caps := f.caps.set k { f.caps[k] with dark := b } } })
       ∧ ∀ g taps, goLive h (.scaler c g taps) s =
         bank { x.live with grades := x.live.grades.set g { x.live.grades[g] with scaler := some taps } })

/-- CTX_SET_SOURCE, for a context that runs or with HOLD, arms the source; else it writes the source at once. Either way a FREE context
becomes SOURCED (R118, R119). CTX_SET_PLACEMENT writes the regions at once, with no unit excluded, and makes a SOURCED context CONFIGURED;
CTX_LANDING_CONFIG sets the port's ring. Their details: slots once running, stripe width, contexts with a third slot. CTX_START, CTX_STOP
and CTX_TEST_PATTERN arm their change; CTX_GET_STATUS answers the state and the counts, and clears the counts when asked. At its hinge a
start makes a CONFIGURED context RUNNING with frame 0 next and nothing of an earlier run, a stop makes a RUNNING context STOPPING and
leaves any other as it is (R118). -/
def Obligations.ContextCommands : Prop :=
  (∀ (e : Entry) (s : State), let u := takeCommand e.mb s
     let c := argCtx e
     let v : Source := { port := ⟨arg e 1 1 % 4, Nat.mod_lt _ (by decide)⟩, byMode := arg e 2 1 == 1, modeId := arg e 3 1
                         mask := BitVec.ofNat 4 (arg e 4 1), k := arg e 6 2, phase := arg e 8 2, w := arg e 10 2, h := arg e 12 2
                         emb := arg e 14 1 }
     let bank := fun b : Bank => { u with contexts := u.contexts.set c { u.contexts[c] with live := b } }
     let first := fun w : State => if s.contexts[c].state = .free then setCtxState c .sourced w else w
     (Accepts ctxSetSourceSpec e s → s.contexts[c].state = .running ∨ holds e = true →
       Answers (.ctxSetSource e) s (Banked 0x0220 e [.source c v] (some c) (slotsOnce (setSource c v (projected u)) c) 0 s (first u)))
     ∧ (Accepts ctxSetSourceSpec e s → s.contexts[c].state ≠ .running → holds e = false →
       Answers (.ctxSetSource e) s (Flagged 0x0220 e { ctx := ctxByte (some c), detail := slotsOnce (setSource c v (projected u)) c } s
         (if s.contexts[c].state = .free then setCtxState c .sourced (bank { u.contexts[c].live with source := v })
          else bank { u.contexts[c].live with source := v })))
     ∧ (Accepts ctxSetPlacementSpec e s →
       let w := bank { u.contexts[c].live with regions := BitVec.ofNat 4 (arg e 1 1), excluded := [] }
       let t := if s.contexts[c].state = .sourced then setCtxState c .configured w else w
       Answers (.ctxSetPlacement e) s
         (Flagged 0x0221 e { ctx := ctxByte (some c), detail := stripeOf t t.contexts[c].live } s t))
     ∧ (Accepts ctxLandingConfigSpec e s →
       let p : PortId := ⟨arg e 0 1 % 4, Nat.mod_lt _ (by decide)⟩
       let t := { u with ports := u.ports.set p { u.ports[p] with ring := arg e 8 8 } }
       Answers (.ctxLandingConfig e) s
         (Completed 0x0222 e { detail := (thirdSlots (projected t) p fun _ => true).length } s t)))
  ∧ ((∀ (e : Entry) (s : State), let u := takeCommand e.mb s
       let c := argCtx e
       (Accepts ctxStartSpec e s → s.contexts[c].state = .configured ∧
         Answers (.ctxStart e) s (Banked 0x0223 e [.start c] (some c) 0 0 s u))
       ∧ (Accepts ctxStopSpec e s → s.contexts[c].state = .running ∧ Answers (.ctxStop e) s (Banked 0x0224 e [.stop c] (some c) 0 0 s u))
       ∧ (Accepts ctxTestPatternSpec e s →
         Answers (.ctxTestPattern e) s (Banked 0x0225 e [.pattern c (arg e 1 1) (arg e 2 2)] (some c) 0 0 s u))
       ∧ (Accepts ctxGetStatusSpec e s → Answers (.ctxGetStatus e) s (Completed 0x0226 e
           { ctx := ctxByte (some c), detail := s.contexts[c].state.code, back := some (8, ctxStatus s.contexts[c]) } s
           (if arg e 1 1 = 1 then { u with contexts := u.contexts.set c { u.contexts[c] with counts := {} } } else u))))
     ∧ ∀ (h : Nat) (c : CtxId) (s : State),
       (s.contexts[c].state = .configured → let t := goLive h (.start c) s
         t.contexts[c].state = .running ∧ t.contexts[c].nextFrame = 0 ∧ t.contexts[c].lastFrame = 0 ∧ t.contexts[c].takings = []
           ∧ t.contexts[c].live = s.contexts[c].live ∧ beside s { t with contexts := s.contexts } = s
           ∧ ∀ d : CtxId, d ≠ c → t.contexts[d] = s.contexts[d])
       ∧ (s.contexts[c].state ≠ .configured → goLive h (.start c) s = s)
       ∧ (s.contexts[c].state = .running → goLive h (.stop c) s = stopClips c h 3 (setCtxState c .stopping s))
       ∧ (s.contexts[c].state ≠ .running → goLive h (.stop c) s = s))

/-! ## The sensor link -/

/-- The descrambler inverts the scrambler (R91): when every scrambled bit is d(n) XOR s(n-39) XOR s(n-58), earlier bits being those the lane
carried before, the descrambled word is d, whatever came before. -/
def Obligations.DescramblerInvertsTheScrambler : Prop :=
  ∀ (hdr : BitVec 2) (d sent : BitVec 64) (prev : BitVec 58),
    (let s := fun n : Nat => if n < 58 then prev.getLsbD n else sent.getLsbD (n - 58)
     ∀ n < 64, sent.getLsbD n = (d.getLsbD n ^^ (s (n + 19) ^^ s n))) →
    descramble ⟨hdr, sent, prev⟩ = d

/-- The commands of a sensor port (04 commands): SL_PORT_CONFIG dissolves the bonds it touches and configures every port of the group;
SL_PORT_START puts the bond in DETECT with no attempt counted; SL_PORT_STOP puts it in OFF, reason 10, its open frames passed on, and
posts SL_PORT_STATE unless it was off; SL_GET_STATUS answers, and clears the counters when asked; SL_REG_ACCESS sends its message under
the next tag and stays in execution; SL_LOOPBACK enters or leaves a loopback. -/
def Obligations.SensorPortCommands : Prop :=
  ∀ (e : Entry) (s : State), let u := takeCommand e.mb s
    let p := argPort e
    let q := u.ports[p]
    (Accepts slPortConfigSpec e s →
      let g := group (arg e 1 1) p
      let cfg : PortCfg := { bond := arg e 1 1, lanes := arg e 2 1, rate := arg e 3 1, parity := arg e 4 1 == 1
                             ownRef := arg e 5 1 == 1, markers := arg e 6 1 == 1, threshold := arg e 8 2 }
      Answers (.slPortConfig e) s (Completed 0x0301 e {} s
        (forEach g (fun q => modPort q fun x => { x with cfg := some cfg, first := some p })
          (forEach (affectedPorts s g) (fun q => modPort q fun x => { x with cfg := none, first := none }) u))))
    ∧ (Accepts slPortStartSpec e s → s.ports[p].state = .off ∧ Answers (.slPortStart e) s (Completed 0x0302 e {} s
        (forEach (groupOf s p) (fun q => modPort q fun x => { x with state := .detect, attempts := 0, reason := 0 }) u)))
    ∧ (Accepts slPortStopSpec e s →
      let t := setGroup p (fun q => { q with state := .off, reason := 10, loop := none, failed := [] }) (closeAll p u)
      Answers (.slPortStop e) s (Completed 0x0303 e {} s (if s.ports[p].state = .off then t else postPortState p t)))
    ∧ (Accepts slGetStatusSpec e s → Answers (.slGetStatus e) s (Completed 0x0304 e { back := some (8, portStatus s.ports[p]) } s
        (if arg e 1 1 = 1 then { u with ports := u.ports.set p (clearPort q) } else u)))
    ∧ (Accepts slRegAccessSpec e s → s.ports[p].state = .active ∧
      let m := regMessage (arg e 1 1 == 1) q.nextTag (arg e 2 2) (arg e 4 2)
      exec (.slRegAccess e) s = .next (inExecution 0x0305 e none s { u with
        ports := u.ports.set p { q with tags := q.tags ++ [⟨q.nextTag, e.mb, m, false⟩], nextTag := q.nextTag + 1 }
        out := .backChannel p true m :: u.out }))
    ∧ (Accepts slLoopbackSpec e s →
      let x := if arg e 1 1 = 0 then { q with state := .off, loop := none }
        else { q with state := .loopback, loop := some ⟨arg e 1 1, arg e 2 1, arg e 3 1, arg e 4 1⟩ }
      Answers (.slLoopback e) s (Completed 0x0306 e {} s { u with ports := u.ports.set p x }))

/-- Bring-up (R110, R111): the whole bond goes on from state to state while SLREF is present and its blocks are in service; a timeout on the
bond's first port counts an attempt and returns to DETECT with the state as reason, or, with the eighth, goes to OFF and posts
SL_PORT_STATE; BRINGUP is repeated with the action of the state on every port of the bond; the device's CAPS message is sent again in CAPS
alone. The sensor's capability structure is kept; when it passes the checks of R112 the bond is ACTIVE, with SL_PORT_STATE, else the
attempt fails with reason 6. An ALIGN column in BLOCK_LOCK measures every lane in use, and a spread above 2,048 UI fails the attempt with
reason 4 (R97). -/
def Obligations.BringUpAndAlignment : Prop :=
  (∀ (p : PortId) (g : PortCfg) (s : State), s.ports[p].cfg = some g → s.ports[p].first = some p → let q := s.ports[p]
     let all := fun f : Port → Port => forEach (groupOf s p) (fun i => modPort i f) s
     (s.tick.slref = true → (∀ i ∈ groupOf s p, blockDown s (0x10 + i.val) = false) →
       (q.state = .detect → exec (.slBringupAdvance p) s = .next (all fun x => { x with state := .train }))
       ∧ (q.state = .train → exec (.slBringupAdvance p) s = .next (all fun x => { x with state := .bitLock }))
       ∧ (q.state = .bitLock → exec (.slBringupAdvance p) s = .next (all fun x => { x with state := .blockLock }))
       ∧ (q.state = .blockLock → exec (.slBringupAdvance p) s = .next (sendCaps p (all fun x => { x with
           state := .caps
           lanes := mapLanes (fun i l => if (usedLanes g).contains i.val then { l with locked := true } else l) x.lanes }))))
     ∧ (s.tick.slref = false → exec (.slBringupAdvance p) s = .next s)
     ∧ (1 ≤ q.state.code → q.state.code ≤ 5 → q.attempts + 1 < 8 → exec (.slBringupTimeout p) s =
       .next (all fun x => { x with state := .detect, attempts := q.attempts + 1, reason := q.state.code, failed := [] }))
     ∧ (1 ≤ q.state.code → q.state.code ≤ 5 → 8 ≤ q.attempts + 1 → exec (.slBringupTimeout p) s =
       .next (postPortState p (all fun x => { x with state := .off, attempts := q.attempts + 1, reason := q.state.code, failed := [] })))
     ∧ (s.tick.slref = true → (q.state = .detect ∨ q.state = .train ∨ q.state = .bitLock) → exec (.slBringupRepeat p) s =
       .next (forEach (groupOf s p) (fun i => emit (.backChannel i true (bringupBlock g 1))) s))
     ∧ (s.tick.slref = true → q.state = .blockLock → exec (.slBringupRepeat p) s =
       .next (forEach (groupOf s p) (fun i => emit (.backChannel i true (bringupBlock g 2))) s))
     ∧ (q.state = .caps → exec (.slCapsResend p) s = .next (sendCaps p s))
     ∧ (q.state ≠ .caps → exec (.slCapsResend p) s = .next s))
  ∧ (∀ (p : PortId) (g : PortCfg) (s : State), s.ports[p].cfg = some g →
       (∀ caps : List Byte, s.ports[p].state = .caps → s.ports[p].first = some p →
         let t := { s with ports := s.ports.set p { s.ports[p] with caps := some (slice caps 0 32) } }
         (capsOk g caps = true → exec (.slCapsRx p caps) s = .next (postPortState p
           (forEach (groupOf t p) (fun i => modPort i fun q => { q with state := .active, reason := 0 }) t)))
         ∧ (capsOk g caps = false → exec (.slCapsRx p caps) s = .next (failAttempt p 6 t)))
       ∧ ∀ (c : Column) (k : Skews), s.ports[p].state = .blockLock →
         let vs := k.map fun x => x.2.2
         let t := eachLane g (groupOf s p) k (fun v l => { l with skew := BitVec.ofNat 16 (v.getD l.skew.toNat) }) s
         exec (.slAlignRx p c k) s = .next
           (if 2048 < vs.foldl max 0 - vs.foldl min (vs.foldl max 0) then failAttempt p 4 t else t))

/-- Columns received on an ACTIVE port (R92 to R98): a FRAME_START counts a frame and opens it on its stream, a FRAME_END of the open frame's
count closes it, a REG_RESP answers the access that waits for its tag; another column than the one expected, but for IDLE, is a control
error. On a port that is not ACTIVE nothing is received. A line packet of good columns (R99 to R104): the line is counted, with the blocks
that parity rebuilt, and goes to intake; with a failed payload check it counts a payload error, and a bad header a header error; rebuilt
data marks its frame once. -/
def Obligations.ColumnsAndLines : Prop :=
  (∀ (p : PortId) (c : Column) (b : List Byte) (s : State), let u := countHeaders s (groupOf s p) c
     (activePort s p = false → exec (.slFrameStartRx p c) s = .next s ∧ exec (.slFrameEndRx p c) s = .next s
       ∧ exec (.slRegRespRx p c) s = .next s ∧ exec (.slLinePacketRx p [c]) s = .next s)
     ∧ (activePort s p = true → columnIsData c = some false → controlContent (failedLanes s (groupOf s p)) c = some b →
       (fieldAt b 0 1 = 0x33 → u.devState ≠ 4 → exec (.slFrameStartRx p c) s = .next (openFrame p (streamOf b)
         (BitVec.ofNat 16 (fieldAt b 2 2)) (some (fieldAt b 4 1)) (modPort p (fun q => { q with frames := bump q.frames }) u)))
       ∧ (fieldAt b 0 1 = 0x4B → (∃ o, u.ports[p].opened[streamOf b] = some o ∧ o.count.toNat = fieldAt b 2 2) →
         exec (.slFrameEndRx p c) s = .next (closeOpen p (streamOf b) u))
       ∧ (fieldAt b 0 1 = 0x78 → ∀ r, (u.ports[p].tags.find? fun r => r.tag.toNat == fieldAt b 1 1) = some r →
         exec (.slRegRespRx p c) s = .next (endExecution r.mb { detail := fieldAt b 4 2 + 2 ^ 16 * (fieldAt b 6 1 % 2) }
           (modPort p (fun q => { q with tags := q.tags.erase r }) u)))
       ∧ (fieldAt b 0 1 ≠ 0x33 → fieldAt b 0 1 ≠ 0x1E → exec (.slFrameStartRx p c) s = .next (controlError p u))
       ∧ (fieldAt b 0 1 = 0x1E → exec (.slFrameStartRx p c) s = .next u))
     ∧ (activePort s p = true → columnIsData c ≠ some false → exec (.slFrameStartRx p c) s = .next (controlError p u)
       ∧ exec (.slLinePacketRx p [c]) s = .next (controlError p u)))
  ∧ (∀ (p : PortId) (start : Column) (rest : List Column) (b : List Byte) (s : State), activePort s p = true →
       columnIsData start = some false → controlContent (failedLanes s (groupOf s p)) start = some b → fieldAt b 0 1 = 0x55 →
       (∀ c ∈ rest, columnIsData c = some true) →
       let parity := (s.ports[p].cfg.map PortCfg.parity).getD false
       let words := rest.map (columnWords parity (failedLanes s (groupOf s p)))
       let n := (words.map Prod.snd).sum
       let u := modPort p (fun q => { q with lines := bump q.lines, rebuilt := bumpBy q.rebuilt n })
         (forEach (start :: rest) (fun c t => countHeaders t (groupOf s p) c) s)
       ∀ l, readPacket (words.flatMap Prod.fst) (n != 0) = .line l →
         let v := if l.checkErr then modPort p (fun q => { q with payloadErrors := bump q.payloadErrors }) (checkError p u) else u
         exec (.slLinePacketRx p (start :: rest)) s =
           .next (if l.rebuilt then noteRebuilt p l.stream (intakeLine p l v) else intakeLine p l v))

/-- Lanes and ports (R105, R109, R111, R113): a lane that fails on an ACTIVE port is noted, loses lock, raises source 0x10 + p and is
reported; a second data lane, or one without parity, also raises source 0x14 + p and takes the port down, reason 7; a failed lane rejoins
with its event; an ACTIVE port that goes down raises source 0x14 + p; a register access unanswered is sent once more, then completes with
TIMEOUT; the device's loopback checker counts bit errors and losses. -/
def Obligations.LanesAndPorts : Prop :=
  ∀ (p : PortId) (lane : Fin 17) (s : State), let q := s.ports[p]
    (∀ g, q.cfg = some g → q.state = .active → lane ∉ q.failed →
      let t := post 0x0381 none 0 (p.val + 2 ^ 8 * lane.val) (raise0 (0x10 + p.val) (modPort p (fun q => { q with
        failed := q.failed ++ [lane] }) (modLane p lane (fun l => { l with lockLosses := bump l.lockLosses, locked := false }) s)))
      exec (.slLaneFailed p lane) s = .next
        (if lane.val < 16 && (2 ≤ (t.ports[p].failed.filter fun l => l.val < 16).length || !g.parity) then
          portDown (firstOf s p) 7 (raise0 (0x14 + p.val) t) else t))
    ∧ (q.state ≠ .active → exec (.slLaneFailed p lane) s = .next s)
    ∧ (lane ∈ q.failed → exec (.slLaneRejoined p lane) s = .next (post 0x0382 none 0 (p.val + 2 ^ 8 * lane.val)
        (modPort p (fun q => { q with failed := q.failed.erase lane }) (modLane p lane (fun l => { l with locked := true }) s))))
    ∧ (lane ∉ q.failed → exec (.slLaneRejoined p lane) s = .next s)
    ∧ (s.ports[firstOf s p].state = .active → ∀ r : PortDownReason, exec (.slPortDown p r) s = .next (portDown (firstOf s p)
        (match r with | .secondLane => 7 | .signalLost => 8 | .bondPartner => s.ports[firstOf s p].reason) (raise0 (0x14 + p.val) s)))
    ∧ (∀ (tag : Byte) (r : RegTag), (q.tags.find? fun x => x.tag == tag) = some r →
      (r.resent = false → exec (.slRegTimeout p tag) s = .next { s with
        out := .backChannel p true r.message :: s.out
        ports := s.ports.set p { q with tags := q.tags.map fun x => if x = r then { x with resent := true } else x } })
      ∧ (r.resent = true → exec (.slRegTimeout p tag) s = .next (endExecution r.mb
        { status := .timeout, detail := Config.openDetail 0x0305 0x800C }
        { s with ports := s.ports.set p { q with tags := q.tags.erase r, regTimeouts := bump q.regTimeouts } })))
    ∧ ∀ (l : Loopback) (locked : Bool) (n : Nat), q.loop = some l →
      ((l.mode = 1 ∨ l.mode = 2) → exec (.loopbackCheckerLock p lane locked n) s = .next { s with ports := s.ports.set p { q with
        lanes := q.lanes.set lane { q.lanes[lane] with
          bitErrors := bumpBy q.lanes[lane].bitErrors n
          checkerLosses := if locked then q.lanes[lane].checkerLosses else bump q.lanes[lane].checkerLosses } } })
      ∧ (l.mode = 3 → exec (.loopbackCheckerLock p lane locked n) s = .next s)

/-! ## Front end, grades and statistics -/

/-- The RAW_ commands without a table (06 commands): each arms the change that its payload spells, for its context; RAW_GET_STATUS answers
with the counts of the last developed frame. The RAW_ commands that load a table (R154): each table goes into the pool of the context's
stack under the next version number, and the change that selects it is armed; an empty column or defect table selects none, and thresholds
alone keep the table. -/
def Obligations.FrontEndCommands : Prop :=
  (∀ (e : Entry) (s : State), let u := takeCommand e.mb s
     let c := argCtx e
     let cap : Fin 4 := ⟨arg e 1 1 % 4, Nat.mod_lt _ (by decide)⟩
     (Accepts rawSetCfaSpec e s → Answers (.rawSetCfa e) s (Banked 0x0401 e
         [.cfa c (arg e 1 1) (arg e 2 1) ((List.range 64).map fun i => arg e (8 + i) 1)] (some c) 0 0 s u))
     ∧ (Accepts rawSetBlackSpec e s → Answers (.rawSetBlack e) s (Banked 0x0403 e [.black c cap {
         alpha := arg e 2 1, rowNoise := arg e 3 1 == 1, ob0 := (arg e 4 2, arg e 6 2), ob1 := (arg e 8 2, arg e 10 2)
         pedestal := arg e 12 2
         black := #v[arg e 16 2, arg e 18 2, arg e 20 2, arg e 22 2, arg e 24 2, arg e 26 2, arg e 28 2, arg e 30 2] }] (some c) 0 0 s u))
     ∧ (Accepts rawBindPixelTableSpec e s →
       let b : Option PixelBind := if arg e 3 1 = 1 then some ⟨arg e 4 2, arg e 8 4, arg e 12 4, arg e 16 8⟩ else none
       Answers (.rawBindPixelTable e) s (Banked 0x0405 e [if arg e 2 1 = 1 then .flat c b else .dark c cap b] (some c)
         (if arg e 3 1 = 1 then ceilDiv (2 * arg e 8 4 * arg e 12 4) 4096 else 0) 0 s u))
     ∧ (Accepts rawSetMergeSpec e s → Answers (.rawSetMerge e) s (Banked 0x0408 e
         [.merge c (arg e 1 1 == 1) ⟨arg e 2 1 % 4, Nat.mod_lt _ (by decide)⟩ (arg e 4 4) (arg e 8 1)
           ((List.range 4).map fun k => (arg e (16 + 12 * k) 4, arg e (20 + 12 * k) 2, arg e (22 + 12 * k) 2))] (some c) 0 0 s u))
     ∧ (Accepts rawSetTapsSpec e s → Answers (.rawSetTaps e) s (Banked 0x0409 e
         [.taps c ((arg e 1 1).testBit 0) ((arg e 1 1).testBit 1)] (some c)
         (tapBytes (shadow u c) ((arg e 1 1).testBit 0) ((arg e 1 1).testBit 1)) 0 s u))
     ∧ (Accepts rawGetStatusSpec e s → let f := s.contexts[c].front
       Answers (.rawGetStatus e) s (Completed 0x040A e { ctx := ctxByte (some c), back := some (8, image 56 [
         put 0 6 f.frame.toNat, put 8 4 f.saturations, put 12 4 f.static, put 16 4 f.unrepaired, put 20 4 f.dynamic, put 24 4 f.knee,
         put 28 4 f.motion, put 32 4 f.l20, put 36 4 s.contexts[c].tapSkips.toNat, put 40 1 f.bypass.toNat]) } s u)))
  ∧ (∀ (e : Entry) (s : State), let u := takeCommand e.mb s
       let c := argCtx e
       let cap : Fin 4 := ⟨arg e 1 1 % 4, Nat.mod_lt _ (by decide)⟩
       let v := u.tableCount + 1
       let load := fun (size : Nat) (l : List Int) => { u with tables := u.tables ++ [⟨v, poolOf u (shadow u c), size, l⟩], tableCount := v }
       (Accepts rawLoadLinearisationSpec e s →
         let t := load 65536 ((List.range 16384).map fun i => (arg e (8 + 4 * i) 4 : Int))
         Answers (.rawLoadLinearisation e) s (Banked 0x0402 e [.lin c cap v] (some c) (poolFree t c) 0 s t))
       ∧ (Accepts rawLoadColumnSpec e s → arg e 4 4 = 0 →
         Answers (.rawLoadColumn e) s (Banked 0x0404 e [.column c cap none] (some c) (poolFree u c) 0 s u))
       ∧ (Accepts rawLoadColumnSpec e s → arg e 4 4 ≠ 0 →
         let t := load (2 * arg e 4 4) ((List.range (arg e 4 4)).map fun i => signed 16 (arg e (8 + 2 * i) 2))
         Answers (.rawLoadColumn e) s (Banked 0x0404 e [.column c cap (some v)] (some c) (poolFree t c) 0 s t))
       ∧ (Accepts rawLoadDefectsSpec e s → arg e 1 1 = 0 → ∃ d, Answers (.rawLoadDefects e) s
           (Banked 0x0406 e [.defects c (arg e 4 4) (arg e 8 4) none] (some c) d 0 s u))
       ∧ (Accepts rawLoadDefectsSpec e s → arg e 1 1 ≠ 0 → arg e 12 4 = 0 →
         Answers (.rawLoadDefects e) s (Banked 0x0406 e [.defects c (arg e 4 4) (arg e 8 4) (some none)] (some c) 0 0 s u))
       ∧ (Accepts rawLoadDefectsSpec e s → arg e 1 1 ≠ 0 → arg e 12 4 ≠ 0 →
         Answers (.rawLoadDefects e) s (Banked 0x0406 e [.defects c (arg e 4 4) (arg e 8 4) (some (some v))] (some c) (arg e 12 4) 0 s
           (load (4 * arg e 12 4) ((List.range (arg e 12 4)).map fun i => (arg e (16 + 4 * i) 4 : Int)))))
       ∧ (Accepts rawSetShadingSpec e s → arg e 1 1 = 1 → Answers (.rawSetShading e) s (Banked 0x0407 e
           [.shading c .grid (some v)] (some c) (Config.openDetail 0x0407 0) 0 s
           (load 200208 ((List.range 100104).map fun i => (arg e (8 + 2 * i) 2 : Int)))))
       ∧ (Accepts rawSetShadingSpec e s → arg e 1 1 ≠ 1 → Answers (.rawSetShading e) s (Banked 0x0407 e
           [.shading c (if arg e 1 1 = 2 then .perPixel else .off) none] (some c) (Config.openDetail 0x0407 0) 0 s u)))

/-- The GRD_ commands of a bank (07 commands): each arms the change that its payload spells, for its context and grade; a grade's tables are
changed only where the payload brings them; temporal noise reduction gets a core that analyses the context (R295). LUT slots (R182):
GRD_LOAD_LUT puts the slot of each region of its mask in LOADING and is numbered, a background command; GRD_FREE_LUT makes them FREE. The
oldest load of a slot ends READY with its number and entries in each of its regions, or leaves them FREE, HW_FAULT; with host memory out
of reach that raises source 0x5B. -/
def Obligations.GradeCommands : Prop :=
  (∀ (e : Entry) (s : State), let u := takeCommand e.mb s
     let c := argCtx e
     let g : GradeId := ⟨arg e 1 1 % 4, Nat.mod_lt _ (by decide)⟩
     let w := fun off => BitVec.ofNat 32 (arg e off 4)
     (Accepts grdSetDevelopSpec e s → Answers (.grdSetDevelop e) s (Banked 0x0501 e [.develop c {
         method := arg e 1 1, tau := arg e 2 2, map := #v[arg e 4 1, arg e 5 1, arg e 6 1, arg e 7 1]
         matrix := #v[w 8, w 12, w 16, w 20, w 24, w 28, w 32, w 36, w 40, w 44, w 48, w 52]
         wb := #v[w 56, w 60, w 64], exposure := w 68, luma := #v[w 72, w 76, w 80], space := arg e 84 1 }] (some c) 0 0 s u))
     ∧ (Accepts grdSetNoiseSpec e s → ∃ core, (core.isSome = (noiseOf e).temporal) ∧ Answers (.grdSetNoise e) s (Banked 0x0502 e
         [.noise c (noiseOf e) core] (some c) (temporalBytes (shadow u c) (noiseOf e)) 0 s u))
     ∧ (Accepts grdSetGradeSpec e s → Answers (.grdSetGrade e) s (Banked 0x0503 e [.grade c g (gradeOf e)] (some c)
         (if arg e 2 1 = 1 then 2 * alloc (gradeSize (gradeOf e)) else 0) 0 s u))
     ∧ (Accepts grdLoadGradeTablesSpec e s → Answers (.grdLoadGradeTables e) s (Banked 0x0504 e [.gradeTables c g
         (if (arg e 2 1).testBit 0 then some ((List.range 12288).map fun i => arg e (8 + 2 * i) 2) else none)
         (if (arg e 2 1).testBit 1 then some ((List.range 12291).map fun i => w (24584 + 4 * i)) else none)] (some c) 0 0 s u))
     ∧ (Accepts grdLoadScalerSpec e s → Answers (.grdLoadScaler e) s (Banked 0x0505 e
         [.scaler c g ((List.range 1024).map fun i => signed 16 (arg e (8 + 2 * i) 2))] (some c) 0 0 s u))
     ∧ (Accepts grdGetStatusSpec e s → ∃ back, Answers (.grdGetStatus e) s (Completed 0x0508 e { ctx := ctxByte (some c), back := some (8, back) } s u)
         ∧ back.length = 120))
  ∧ ((∀ (e : Entry) (s : State), let u := takeCommand e.mb s
       let slot : Fin 16 := ⟨arg e 1 1 % 16, Nat.mod_lt _ (by decide)⟩
       let n := (s.lutCount % 2 ^ 32 + 1) % 2 ^ 32
       (Accepts grdLoadLutSpec e s →
         let t := modLuts (maskRegions e) slot (fun x => { x with state := .loading }) u
         Answers (.grdLoadLut e) s (Begun 0x0506 e none n s { t with
           lutCount := n
           lutLoads := t.lutLoads ++ [⟨e.mb, e.tag, BitVec.ofNat 4 (arg e 0 1), slot, n,
             (List.range 823875).map fun i => arg e (16 + 2 * i) 2⟩] }))
       ∧ (Accepts grdFreeLutSpec e s → Answers (.grdFreeLut e) s (Completed 0x0507 e { detail := Config.openDetail 0x0507 0 } s
           (modLuts (maskRegions e) slot (fun _ => {}) u))))
     ∧ ∀ (slot : Fin 16) (l : LutLoad) (s : State), (s.lutLoads.find? fun x => x.slot == slot) = some l →
       let rs := allRegions.filter fun r => l.regions.getLsbD r.val
       let t := { s with lutLoads := s.lutLoads.erase l }
       exec (.lutLoadDone slot true) s = .next (endBackground l.mb 0x0506 l.tag .ok 0
         (modLuts rs slot (fun _ => { state := .ready, load := l.load, entries := l.entries }) t))
       ∧ (s.hostUp = true → exec (.lutLoadDone slot false) s = .next (endBackground l.mb 0x0506 l.tag .hwFault 0 (modLuts rs slot (fun _ => {}) t)))
       ∧ (s.hostUp = false → exec (.lutLoadDone slot false) s =
         .next (endBackground l.mb 0x0506 l.tag .hwFault 0x5B (raise0 0x5B (modLuts rs slot (fun _ => {}) t)))))

/-- The STAT_ commands (08 commands): the configuration and the host ring are armed; STAT_READ_RECORD answers with the live record that its
frame field names and its length. A late host copy is posted, counted, at most 0xFFFF, and reported (R193, R196). Development of a
context's oldest developing frame ends (R129, R192): its result becomes live at the next hinge, with the frame developed and marked when a
spare took over; the results that waited stay, and other contexts are not touched. A frame with a stripe that no unit covers is never
completed (R397). The motion analysis of a context with temporal noise reduction ends with the field between the interval's frame and the
one two before it (R295, R297); a context without it, or without such a pair, is not touched. -/
def Obligations.StatisticsAndPassEnds : Prop :=
  ((∀ (e : Entry) (s : State), let u := takeCommand e.mb s
     let c := argCtx e
     (Accepts statSetConfigSpec e s → Answers (.statSetConfig e) s (Banked 0x0601 e [.stat c {
         hist := (arg e 1 1).testBit 0, zones := (arg e 1 1).testBit 1, histTap := arg e 2 1, zoneTap := arg e 3 1
         log2 := arg e 4 1 == 1, zx := arg e 5 1, zy := arg e 6 1, focus := arg e 7 1, lo := BitVec.ofNat 32 (arg e 8 4)
         hi := BitVec.ofNat 32 (arg e 12 4), clip := BitVec.ofNat 32 (arg e 16 4), gain := BitVec.ofNat 32 (arg e 20 4)
         coring := BitVec.ofNat 32 (arg e 24 4), x0 := arg e 28 2, y0 := arg e 30 2, w := arg e 32 2, h := arg e 34 2 }] (some c) 0 0 s u))
     ∧ (Accepts statSetTargetSpec e s → Answers (.statSetTarget e) s (Banked 0x0602 e
         [.statHost c (if arg e 1 1 = 1 then some (BitVec.ofNat 64 (arg e 8 8)) else none)] (some c) 0 0 s u))
     ∧ (Accepts statReadRecordSpec e s → ∃ r, r ∈ s.contexts[c].records
         ∧ (arg e 2 6 ≠ 2 ^ 48 - 1 → r.frame.toNat = arg e 2 6) ∧ Answers (.statReadRecord e) s (Completed 0x0603 e
         { detail := r.length, ctx := ctxByte (some c), back := some (0, r.bytes) } s u)))
   ∧ ∀ (c : CtxId) (r : StatRecord) (rest : List StatRecord) (a : BitVec 64) (s : State), s.contexts[c].hostDue = r :: rest →
     r.host = some a → s.hostUp = true →
     let n := Min.min (s.contexts[c].hostLate + 1) 0xFFFF
     exec (.statHostLate c) s = .next (post 0x0680 (some c) r.frame (r.frame.toNat + 2 ^ 48 * n)
       (modCtx c (fun x => { x with hostDue := rest, hostLate := n }) (writeHost (a.toNat + 147456 * (r.frame.toNat % 16)) r.bytes s))))
  ∧ (∀ (c : CtxId) (tk : Bool) (f : Frame) (s : State), developing s c = some f →
       (stripeLost s c f = true → exec (.developPassDone c tk) s = .next s)
       ∧ (stripeLost s c f = false → f.bank.statHost = none ∨ s.hostUp = true → Answers (.developPassDone c tk) s fun t =>
         (∃ r, t.contexts[c].results = s.contexts[c].results ++ [r] ∧ r.hinge = nextHinge s ∧ r.frame.tick = f.tick
           ∧ r.frame.number = f.number ∧ r.frame.phase = .developed ∧ r.record.frame = BitVec.ofNat 48 f.number)
         ∧ (∀ d : CtxId, d ≠ c → t.contexts[d] = s.contexts[d]) ∧ { t with contexts := s.contexts, free := s.free, hostMem := s.hostMem } = s))
  ∧ (∀ (c : CtxId) (s : State), let x := s.contexts[c]
       (x.live.noise.temporal = false ∨ x.live.analysisCore = none ∨ analysisPair s x = none → exec (.motionFieldDone c) s = .next s)
       ∧ ∀ cur ref, x.live.noise.temporal = true → x.live.analysisCore ≠ none → analysisPair s x = some (cur, ref) →
         x.live.vecExport = none ∨ s.hostUp = true → Answers (.motionFieldDone c) s fun t =>
           t.contexts[c].field = some (searchField cur ref cur.tick) ∧ t.contexts[c].frames = x.frames
             ∧ (∀ d : CtxId, d ≠ c → t.contexts[d] = s.contexts[d]) ∧ { t with contexts := s.contexts, hostMem := s.hostMem } = s)

/-! ## Units and faults -/

/-- Units (R396, R397, R399, R400): an active unit whose row-block check fails is declared dead, as is a spare whose self-test fails; a unit
already fenced is not declared again; a good check changes nothing; an injected failure dies with its own detail; a request of a fenced
unit is discarded and counted; a reintegration test that passes makes the unit return at the next hinge, one that fails leaves it fenced.
A dead active unit is fenced; its cluster's spare takes its place, or its stripe stays uncovered without one; a dead spare is lost and
uncovers nothing; the order of the other units stays (R396, R397). -/
def Obligations.UnitsAndTheirReplacement : Prop :=
  (∀ (u : UnitId) (s : State), let k := clusterOf s u.region u.cluster
     (k.slots.contains u.index = true → (∀ x ∈ k.injected, x.1 ≠ u.index) →
       exec (.rowBlockCheck u .good) s = .next s
       ∧ ∀ r, r ≠ UnitCheck.good → exec (.rowBlockCheck u r) s = .next (declareDead u (unitName u) s))
     ∧ (k.slots.contains u.index = true → ∀ x, (k.injected.find? fun x => x.1 == u.index) = some x → ∀ r,
       exec (.rowBlockCheck u r) s = .next (declareDead u x.2.toNat s))
     ∧ (k.slots.contains u.index = false → ∀ r, exec (.rowBlockCheck u r) s = .next s)
     ∧ (k.spare = some u.index → exec (.spareSelfTestFail u.region u.cluster) s = .next (declareDead u (unitName u) s))
     ∧ (k.spare = none → exec (.spareSelfTestFail u.region u.cluster) s = .next s)
     ∧ (k.fenced.contains u.index = true → ∀ d, declareDead u d s = s)
     ∧ (k.fenced.contains u.index = true → exec (.fencedRequest u) s = .next (raise (src (0x2C + u.region.val)) none 0 (unitName u)
       (modRegion u.region (fun x => { x with fencedNow := bump x.fencedNow })
         { s with collector := { s.collector with fenced := bump s.collector.fenced } })))
     ∧ (k.fenced.contains u.index = false → exec (.fencedRequest u) s = .next s)
     ∧ ∀ m tag, k.testing = some (u.index, m, tag) →
       exec (.reintegrationTestDone u true) s = .next (endBackground m 0x1106 tag .ok 0
         (modCluster u.region u.cluster (fun k => { k with testing := none, returning := some u.index }) s))
       ∧ exec (.reintegrationTestDone u false) s = .next (endBackground m 0x1106 tag .hwFault (0x20 + u.region.val)
         (modCluster u.region u.cluster (fun k => { k with testing := none }) s)))
  ∧ (∀ (i : Fin 9) (k : Cluster), let t := fence i k
       t.fenced = i :: k.fenced ∧ t.spare = none ∧ t.slots.length = k.slots.length
         ∧ (k.spare = some i → t.slots = k.slots ∧ t.uncovered = k.uncovered)
         ∧ (∀ v, k.spare = some v → v ≠ i → i ∉ t.slots ∧ t.uncovered = k.uncovered ∧ (i ∈ k.slots → v ∈ t.slots)
           ∧ ∀ j ∈ k.slots, j ≠ i → j ∈ t.slots)
         ∧ (k.spare = none → t.slots = k.slots ∧ t.uncovered = i :: k.uncovered))

/-- What the device detects raises its source (R384, R391, R402): the heartbeat 0x07, the PLLs 0x05, the crystal 0x04, the hinge sequencer
0x06, the supplies 0x5F, the memories of regions 0x28 to 0x2B and of the other dies their own; a parity error of the collector raises 0x00
and leaves its records untrusted; a lockstep mismatch raises 0x08, or 0x09 within 1 s of the one before; the end of a pulse ends it alone.
The FLT_ commands (19 commands): severities are set source by source; FLT_GET_STATUS answers the legacy word and the status; FLT_CLEAR
clears the latch, the legacy bits and the counts and history as its bits say, answering the word as it was; FLT_SET_PIN sets the pin and
answers the setting before; FLT_READ_HISTORY answers the records, oldest first, and clears them when asked; FLT_REINTEGRATE starts the
unit's test, a background command; FLT_INJECT raises. -/
def Obligations.DetectionsAndFaultCommands : Prop :=
  (∀ s : State,
     exec .heartbeatStall s = .next (raise0 0x07 s) ∧ exec .pllLockLost s = .next (raise0 0x05 s)
       ∧ exec .xtalOutOfRange s = .next (raise0 0x04 s) ∧ exec .hingeSequencerSelfCheckFailed s = .next (raise0 0x06 s)
       ∧ exec .supplyOutOfRange s = .next (raise0 0x5F s)
       ∧ exec (.sramEccError .management) s = .next (raise0 0x0A s) ∧ exec (.sramEccError .correctedRate) s = .next (raise0 0x0B s)
       ∧ exec (.sramEccError .memController) s = .next (raise0 0x3D s) ∧ exec (.sramEccError .compression) s = .next (raise0 0x4B s)
       ∧ (∀ r, exec (.sramEccError (.region r)) s = .next (raise (src (0x28 + r.val)) none 0 (regionName r) s))
       ∧ (let t := raise0 0x00 s
          exec .collectorParityError s = .next { t with collector := { t.collector with untrusted := true } })
       ∧ (let u := { s with collector := { s.collector with lockstepAt := some (nowPs s) } }
          ((∀ v, s.collector.lockstepAt = some v → 10 ^ 12 < nowPs s - v) → exec .lockstepMismatch s = .next (raise0 0x08 u))
          ∧ ∀ v, s.collector.lockstepAt = some v → nowPs s - v ≤ 10 ^ 12 → exec .lockstepMismatch s = .next (raise0 0x09 u))
       ∧ exec .faultNPulseEnd s = .next { s with collector := { s.collector with pulse := false } })
  ∧ (∀ (e : Entry) (s : State), let u := takeCommand e.mb s
       let k := u.collector
       (Accepts fltSetSeveritySpec e s → Answers (.fltSetSeverity e) s (Completed 0x1101 e {} s { u with collector := { k with
           severity := (List.range (arg e 0 1)).foldl (fun (v : Vector Nat 96) i =>
             v.set (src (arg e (8 + 2 * i) 1)) (arg e (9 + 2 * i) 1)) k.severity } }))
       ∧ (Accepts fltGetStatusSpec e s → Answers (.fltGetStatus e) s (Completed 0x1102 e
           { detail := (legacyWord s).toNat, back := some (0, faultStatus u) } s u))
       ∧ (Accepts fltClearSpec e s → let f := arg e 0 1
         Answers (.fltClear e) s fun t => ∃ w, Completed 0x1103 e { detail := (legacyWord s).toNat } s w t
           ∧ { w with collector := k } = u
           ∧ w.collector.latch = (if f.testBit 0 then none else k.latch) ∧ w.collector.overflow = (!f.testBit 0 && k.overflow)
           ∧ w.collector.untrusted = (!f.testBit 0 && k.untrusted)
           ∧ w.collector.legacy = (if f.testBit 1 then k.legacy &&& ~~~BitVec.ofNat 32 (arg e 4 4) else k.legacy)
           ∧ w.collector.counts = (if f.testBit 2 then Vector.replicate 96 0 else k.counts)
           ∧ w.collector.history = (if f.testBit 2 then [] else k.history) ∧ w.collector.severity = k.severity)
       ∧ (Accepts fltSetPinSpec e s → Answers (.fltSetPin e) s (Completed 0x1104 e
           { detail := bit s.collector.pinLevel + 2 * bit s.collector.pulseEnable } s
           { u with collector := { k with pinLevel := arg e 0 1 == 1, pulseEnable := arg e 1 1 == 1 } }))
       ∧ (Accepts fltReadHistorySpec e s →
         let back := leBytes 4 k.history.length ++ leBytes 4 k.historyLost.toNat ++ k.history.flatMap fun x => faultRecordBytes (some x)
         Answers (.fltReadHistory e) s (Completed 0x1105 e { detail := k.history.length, back := some (8, back) } s
           (if arg e 0 1 = 1 then { u with collector := { k with history := [], historyLost := 0 } } else u)))
       ∧ (Accepts fltReintegrateSpec e s → let x := argUnit e 0
         Answers (.fltReintegrate e) s (Begun 0x1106 e none 0 s
           (modCluster x.region x.cluster (fun y => { y with testing := some (x.index, e.mb, e.tag) }) u)))
       ∧ (Accepts fltInjectSpec e s → Answers (.fltInject e) s (Completed 0x1107 e {} s (injectSource e u))
           ∧ (0x30 ≤ arg e 0 1 → arg e 0 1 ≠ 0x4F → arg e 0 1 ≠ 0x5E →
             injectSource e u = raise (src (arg e 0 1)) none 0 (arg e 8 8) u)))

/-! ## Memory -/

/-- The MEM_ commands (09 commands): MEM_SET_MODE, with every context FREE, sets the interleave and, when it changes, loses what the stacks
and namespace 2 held; MEM_GET_STATUS and MEM_READ_LOG answer, and clear counters or log when asked; MEM_CALIBRATE starts training of the
stacks named; MEM_RETRAIN schedules a pass of one pseudo-channel or of all, answering the guards it waits for; MEM_SET_POLICY sets the
policy; MEM_REPAIR starts the repair of a row. -/
def Obligations.MemoryCommands : Prop :=
  ∀ (e : Entry) (s : State), let u := takeCommand e.mb s
    let m : StackId := ⟨arg e 0 1 % 4, Nat.mod_lt _ (by decide)⟩
    let x := u.mem.stks[m]
    (Accepts memSetModeSpec e s → (∀ c : CtxId, s.contexts[c].state = .free) ∧
      let t := forEach allRegions (fun i => forgetStack i false) u
      Answers (.memSetMode e) s (Completed 0x0701 e {} s
        (if bit u.mem.interleaved = arg e 0 1 then u
         else { t with mem := { t.mem with interleaved := arg e 0 1 == 1 }, ns2 := [] })))
    ∧ (Accepts memGetStatusSpec e s →
      let body := allRegions.flatMap fun i => stackStatus u.mem.stks[i] (u.mem.candidates.filter fun r => r.1 / 32 == i.val).length
      Answers (.memGetStatus e) s (Completed 0x0702 e
        { detail := bit u.mem.interleaved, back := some (8, List.replicate 8 0 ++ body) } s
        (if arg e 0 1 = 1 then forEach allRegions (fun i => modStack i fun x => { x with
          corrected := 0, uncorrectable := 0, peak := 0, entries := 0, passes := 0, failures := 0 }) u else u)))
    ∧ (Accepts memReadLogSpec e s →
      let n := u.mem.log.length
      let bytes := leBytes 4 n ++ leBytes 4 u.mem.lost.toNat ++ u.mem.log.flatMap MemLogEntry.bytes
      Answers (.memReadLog e) s (Completed 0x0703 e { detail := n, back := some (8, bytes) } s
        (if arg e 0 1 = 1 then { u with mem := { u.mem with log := [] } } else u)))
    ∧ (Accepts memCalibrateSpec e s →
      let named := allRegions.filter fun i => (arg e 0 1).testBit i.val
      Answers (.memCalibrate e) s (Begun 0x0704 e none (Config.openDetail 0x0704 0) s
        (forEach named (fun i => modStack i fun x => { x with state := .training }) { u with mem := { u.mem with
          calibration := u.mem.calibration ++ [⟨e.mb, e.tag, named, named, arg e 1 1 == 1, false⟩] } })))
    ∧ (Accepts memRetrainSpec e s → s.mem.stks[m].state ≠ .selfRefresh ∧
      let due := (List.range 32).filter fun i => x.retrain.contains i || arg e 1 1 == 0xFF || i == arg e 1 1
      let ahead := if arg e 1 1 = 0xFF then due.length else (due.filter fun i => i ≤ arg e 1 1).length
      Answers (.memRetrain e) s (Completed 0x0705 e { detail := 2 * ahead - bit x.segment } s
        { u with mem := { u.mem with stks := u.mem.stks.set m { x with retrain := due } } }))
    ∧ (Accepts memSetPolicySpec e s → Answers (.memSetPolicy e) s (Completed 0x0706 e {} s { u with mem := { u.mem with
        selfRefresh := BitVec.ofNat 4 (arg e 0 1), threshold := arg e 4 4, candidate := arg e 8 2 } }))
    ∧ (Accepts memRepairSpec e s → (∀ c : CtxId, s.contexts[c].state = .free) ∧
      Answers (.memRepair e) s (Begun 0x0707 e none (Config.openDetail 0x0707 0) s { u with mem := { u.mem with
        repairing := u.mem.repairing ++ [⟨e.mb, e.tag, m, arg e 1 1, arg e 2 1, arg e 4 2⟩] } }))

/-- Requests (R31, R201 to R205): one that lies within a 1 KiB piece enters its stack's queue, or is answered with an error outside the map or
in a failed stack; a queued read that nothing blocks leaves the queue and is answered with the bytes HBM holds; such a write is answered
and every byte of HBM reads as written or as before; a blocked piece, and one of a stack that does not run, stays. -/
def Obligations.MemoryRequests : Prop :=
  (∀ (r : MemReq) (s : State), 0 < r.len → r.addr.toNat % 1024 + r.len ≤ 1024 →
    let p : MemPiece := { id := s.mem.nextId, requester := r.requester, write := r.write, addr := r.addr.toNat, len := r.len
                          data := slice r.data 0 r.len, ctx := r.ctx }
    let u := { s with mem := { s.mem with nextId := s.mem.nextId + 1 } }
    (r.addr.toNat < mapTop → s.mem.stks[(locOf s r.addr.toNat).stack].failed = false →
      exec (.memRequest r) s = .next (enqueue p u))
    ∧ ((mapTop ≤ r.addr.toNat ∨ s.mem.stks[(locOf s r.addr.toNat).stack].failed = true) →
      exec (.memRequest r) s = .next (refuseRequest p u)))
  ∧ ∀ (id : Nat) (p : MemPiece) (s : State), (s.mem.queue.find? fun q => q.id == id) = some p →
    (blocked s p = true → ∀ x, exec (.memRequestIssue id x) s = .next s)
    ∧ (s.mem.stks[(locOf s p.addr).stack].state ≠ .running → ∀ x, exec (.memRequestIssue id x) s = .next s)
    ∧ (blocked s p = false → s.mem.stks[(locOf s p.addr).stack].state = .running → s.mem.poison = [] →
      (p.write = false → exec (.memRequestIssue id .clean) s =
        .next (emit (.memory p.requester p.addr false ((List.range p.len).map fun i => readHbm s (p.addr + i))) (dequeue p s)))
      ∧ (p.write = true → Memory.wf s.mem.hbm = true → p.data.length = p.len → p.addr + p.len ≤ mapTop →
        Answers (.memRequestIssue id .clean) s fun t =>
          t.out = .memory p.requester p.addr false [] :: s.out
          ∧ (∀ i, i < p.len → readHbm t (p.addr + i) = p.data.getD i 0)
          ∧ (∀ a, a < mapTop → (a < p.addr ∨ p.addr + p.len ≤ a) → readHbm t a = readHbm s a)
          ∧ { t with mem := s.mem, out := s.out } = s))

/-- The stacks on their own (R206, R209 to R212, R215): the scrub goes on by one piece in a running stack; a stack in training runs when it
trained from its record, or in full, with MEM_TRAINED telling the path and the reason, and is off and failed, raising 0x38 + m, when the
training failed; a repair that ends well clears its row and counts its bank repaired; self-refresh is entered and left on its conditions,
and by a stack in no other state. -/
def Obligations.StacksOnTheirOwn : Prop :=
  ∀ (m : StackId) (s : State), let x := s.mem.stks[m]
    (x.state = .running → exec (.scrubRead m .clean) s =
      .next (modStack m (fun y => { y with scrub := (y.scrub + 1) % (36 * 2 ^ 20) }) s))
    ∧ (x.state ≠ .running → ∀ c, exec (.scrubRead m c) s = .next s)
    ∧ (x.state = .training → s.mem.calibration = [] →
      (∀ full, exec (.memTrained m true true full) s = .next (post 0x0781 none 0 m.val (setDomain (stackDomain m) .on
        (modStack m (fun y => { y with state := .running, path := 0 }) s))))
      ∧ (∀ r b, (r && b) = false → exec (.memTrained m r b true) s =
        .next (post 0x0781 none 0 (m.val + 2 ^ 8 + 2 ^ 16 * (if r then 2 else 1)) (setDomain (stackDomain m) .on
          (modStack m (fun y => { y with state := .running, path := 1, passTemp := y.temp }) s))))
      ∧ (∀ r b, (r && b) = false → exec (.memTrained m r b false) s =
        .next (post 0x0781 none 0 (m.val + 2 ^ 8 + 2 ^ 16 * 3) (setDomain (stackDomain m) .off (forgetStack m true
          (raise0 (0x38 + m.val) (modStack m (fun y => { y with state := .off, failed := true, path := 1, passTemp := y.temp }) s)))))))
    ∧ (x.state ≠ .training → s.mem.calibration = [] → ∀ r b f, exec (.memTrained m r b f) s = .next s)
    ∧ (s.mem.repairing = [] → ∀ ok, exec (.repairDone ok) s = .next s)
    ∧ (∀ r rest, s.mem.repairing = r :: rest → exec (.repairDone false) s =
      .next (endBackground r.mb 0x0707 r.tag .hwFault 0 { s with mem := { s.mem with repairing := rest } })
      ∧ Answers (.repairDone true) s fun t =>
        t.mem.repairing = rest ∧ t.mem.stks[r.stack].repairs = s.mem.stks[r.stack].repairs ++ [(r.pc, r.bank / 4)]
          ∧ t.mem.candidates = s.mem.candidates.filter fun n => n != (32 * r.stack.val + r.pc, r.bank, r.row))
    ∧ (x.state = .running → s.mem.selfRefresh.getLsbD m.val = true → tolerates s m = true → queuedAt s m = [] → x.retrain = [] →
      (∀ r ∈ s.mem.repairing, r.stack ≠ m) → exec (.selfRefreshEntry m) s =
        .next (modStack m (fun y => { y with state := .selfRefresh, entries := bump y.entries }) s))
    ∧ (x.state ≠ .running ∨ tolerates s m = false ∨ queuedAt s m ≠ [] → exec (.selfRefreshEntry m) s = .next s)
    ∧ (x.state = .selfRefresh → (queuedAt s m ≠ [] ∨ tolerates s m = false) → exec (.selfRefreshExit m) s =
        .next (modStack m (fun y => { y with state := .running }) s))
    ∧ (x.state ≠ .selfRefresh → exec (.selfRefreshExit m) s = .next s)

/-! ## Compression -/

/-- The CMP_ commands (10 commands): CMP_SUBMIT starts its jobs, a background command; CMP_SET_HOST_ENGINES arms at once, or stays in
execution while a host job runs on an engine it gives back; CMP_CANCEL ends the jobs that wait with ABORTED and answers how many;
CMP_GET_STATUS answers and clears counters when asked. Host jobs and raw-pack chunks end (R229, R231 to R235, R240): a job's output goes
to its destination and its result is kept until the submit ends; a failed engine is retired for good, with its source and
CMP_ENGINE_RETIRED; a chunk that fits its room is recorded and leaves its frame's list, one that does not is a chunk gap; nothing changes
for a job or a chunk that does not run. -/
def Obligations.CompressionCommandsAndJobs : Prop :=
  (∀ (e : Entry) (s : State), let u := takeCommand e.mb s
     let n := arg e 0 1
     (Accepts cmpSubmitSpec e s → s.cmp.submits.length < 4 ∧
       let jobs := (List.range n).map fun i => ({ desc := slice (payload e) (16 + 64 * i) 64 } : CmpJob)
       Answers (.cmpSubmit e) s (Begun 0x0801 e none n s (startJobs { u with cmp := { u.cmp with
         submits := u.cmp.submits ++ [⟨e.mb, e.tag, entryLoc e, e.loc.toNat, jobs⟩] } })))
     ∧ (Accepts cmpSetHostEnginesSpec e s → s.cmp.changing = none ∧
       let t := { u with cmp := { u.cmp with changing := some ⟨e.mb, holds e, n, arg e 1 1⟩ } }
       (leavingBusy t = false → Answers (.cmpSetHostEngines e) s
         (Banked 0x0802 e [.hostEngines n (arg e 1 1)] none (dealtLanes u n) 0 s u))
       ∧ (leavingBusy t = true → exec (.cmpSetHostEngines e) s = .next (inExecution 0x0802 e none s t)))
     ∧ (Accepts cmpCancelSpec e s →
       let tag := BitVec.ofNat 16 (arg e 0 2)
       let own := fun x : CmpSubmit => x.mb == e.mb && x.tag == tag
       let waiting := ((u.cmp.submits.filter own).map fun x => (x.jobs.filter CmpJob.waits).length).sum
       let abort := fun j : CmpJob => if j.waits then { j with result := some (resultRecord j { result := .aborted }) } else j
       s.cmp.submits.any own = true ∧ Answers (.cmpCancel e) s (Completed 0x0803 e { detail := waiting } s
         (settleJobs { u with cmp := { u.cmp with
           completed := bumpBy u.cmp.completed waiting
           submits := u.cmp.submits.map fun x => if own x then { x with jobs := x.jobs.map abort } else x } })))
     ∧ (Accepts cmpGetStatusSpec e s →
       let k := u.cmp
       let bits := fun l : List Nat => maskOf 32 l.contains
       let body := (image 64 ([put 8 4 (bits k.retiredRaw), put 12 1 (bits k.retiredGeneral), put 13 1 (bits k.retiredDecompress),
         put 14 1 k.hostRaw, put 15 1 k.hostGeneral, put 48 4 k.outSpace.toNat, put 52 4 k.memErr.toNat, put 56 4 k.completed.toNat]
         ++ allCtx.map fun c => put (16 + 4 * c.val) 4 k.late[c].toNat)).drop 8
       Answers (.cmpGetStatus e) s (Completed 0x0804 e { back := some (8, body) } s
         (if n = 1 then { u with cmp := { u.cmp with late := Vector.replicate 8 0, outSpace := 0, memErr := 0, completed := 0 } }
          else u))))
  ∧ ((∀ (m : MbId) (tag : BitVec 16) (i : Nat) (x : JobEnd) (s : State),
       (runningJob s m tag i = none → exec (.cmpJobDone m tag i x) s = .next s)
       ∧ ∀ j, runningJob s m tag i = some j → x.engineFault = false → x.poisoned = false →
         let o := runJob j.desc x.source
         let f := fieldAt j.desc
         let fin := fun t : State => settleJobs (releaseJob j (modJob m tag i (fun j => { j with result := some (resultRecord j o) })
           { t with cmp := { t.cmp with completed := bump t.cmp.completed } }))
         (o.result ≠ .done → exec (.cmpJobDone m tag i x) s = .next (fin s))
         ∧ (o.result = .done → f 5 1 ≠ 0 → exec (.cmpJobDone m tag i x) s = .next (fin (writeNs2 (f 24 8) o.output s)))
         ∧ (o.result = .done → f 5 1 = 0 → s.hostUp = true →
           exec (.cmpJobDone m tag i x) s = .next (fin (writeHost (f 24 8) o.output s))))
     ∧ (∀ (cls : EngineClass) (i : Nat) (s : State), i < engineCount cls → i ∉ retiredOf s.cmp cls →
       (s.cmp.submits = [] → exec (.cmpEngineRetired cls i) s = .next (settleJobs (retireEngine cls i s)))
         ∧ retiredOf (retireEngine cls i s).cmp cls = retiredOf s.cmp cls ++ [i])
     ∧ (∀ (cls : EngineClass) (i : Nat) (s : State), i ∈ retiredOf s.cmp cls → exec (.cmpEngineRetired cls i) s = .next s)
     ∧ ∀ (c : CtxId) (i : Nat) (x : JobEnd) (s : State),
       (chunkFrame s.contexts[c] i = none → exec (.chunkJobDone c i x) s = .next s)
       ∧ ∀ f, chunkFrame s.contexts[c] i = some f →
         (x.engineFault = true → exec (.chunkJobDone c i x) s = .next (retireEngine .rawLane x.engine s))
         ∧ ∀ k, x.engineFault = false → x.poisoned = false → f.clip.bind (clipOf s c) = some k →
           (s.contexts[c].slotReaders.all fun g => g.number != f.number) = true →
           let left := f.chunksLeft.filter fun n => n != i
           let body := rawChunk (chunkHead k.id f (tileAt f i)) (tileSamples k.cfg.t1 f (tileAt f i))
           let room := Min.min (packBound (tileAt f i)) (chunkRoom s c k f)
           let outcome := fun (g : Frame) (t : State) => modCtx c (modInFlight f.number fun _ => g) t
           (room < body.length → exec (.chunkJobDone c i x) s = .next (outcome { f with chunksLeft := left, gap := 1 }
             { s with cmp := { s.cmp with outSpace := bump s.cmp.outSpace }
                      recs := s.recs.set c { s.recs[c] with
                        gaps := bump s.recs[c].gaps, gapsNow := (s.recs[c].gapsNow.1 + 1, f.number) } }))
           ∧ (body.length ≤ room → exec (.chunkJobDone c i x) s = .next (outcome { f with
             chunksLeft := left, chunksDone := f.chunksDone + 1, records := f.records + 1
             staged := f.staged + recordSize body.length } (appendRecord c k.id 2 f.number body s).1)))

/-- Raw pack loses nothing (R223, R225): for samples of 14 bits, in tiles of any width and any CFA period, every zigzag value fits 14 bits, so
its high plane holds 0 to 63, and the values restore the samples. -/
def Obligations.RawPackLosesNothing : Prop :=
  ∀ (pw ph w : Nat) (samples : List Nat), 0 < pw → 0 < ph → 0 < w → (∀ v ∈ samples, v < 16384) →
    (∀ z ∈ tileZigzag pw ph w samples, z < 16384) ∧ restoreTile pw ph w (tileZigzag pw ph w samples) = samples

/-! ## Recording -/

/-- The REC_ commands (11 commands): REC_MEDIA starts its operation on the port, a background command that answers the free log in MiB;
REC_SET_TARGET, REC_START, with the next clip id, and REC_TRIGGER are armed or held; REC_STOP notes its tag at the clip and arms its stop;
REC_RELEASE unpins the clip's slots and takes it from the view; REC_GET_STATUS answers. -/
def Obligations.RecordingCommands : Prop :=
  ∀ (e : Entry) (s : State), let u := takeCommand e.mb s
    let c := argCtx e
    (Accepts recMediaSpec e s → s.media[argMedia e].op = none ∧
      let p := argMedia e
      let free := match u.media[p].volume with | some v => (v.capacity - v.append) / 2 ^ 20 | none => 0
      Answers (.recMedia e) s (Begun 0x0901 e none free s
        { u with media := u.media.set p { u.media[p] with op := some (arg e 1 1, e.mb, e.tag) } }))
    ∧ (Accepts recSetTargetSpec e s → let k := recCfgOf e
      Answers (.recSetTarget e) s (Banked 0x0902 e [.recTarget c k] (some c)
        (if k.target = .ring then ringSlots (shadow u c) k else 0) 0 s u))
    ∧ (Accepts recStartSpec e s → clipOpen s c = false ∧ let id := newClipId u c
      Answers (.recStart e) s (Banked 0x0903 e [.recStart c (BitVec.ofNat 64 id)] (some c) id 0 s
        { u with clipCount := u.clipCount + 1 }))
    ∧ (Accepts recStopSpec e s → ∃ k, openClipOf u c = some k ∧ let h := reachable u
      Answers (.recStop e) s (Begun 0x0904 e (some c) (firstFrameAt u c h) s
        (armAt h (nextSeq u.cmd.accepted).toNat [.recStop c 0] (modClip c k.id (fun k => { k with stop := some (e.mb, e.tag) }) u))))
    ∧ (Accepts recTriggerSpec e s → ringArmed s c = true ∧
      Answers (.recTrigger e) s (Banked 0x0905 e [.recTrigger c] (some c) (Config.openDetail 0x0905 1) 0 s u))
    ∧ (Accepts recReleaseSpec e s → let id := arg e 0 8
      let t := forEach allCtx (fun c => modRec c fun r => { r with
        ring := r.ring.map fun x => if x.pinned = some id then {} else x }) u
      Answers (.recRelease e) s (Completed 0x0906 e { detail := Config.openDetail 0x0906 0 } s
        { t with stg := { t.stg with view := t.stg.view.filter fun x => !(x.id == id && x.source == 0) } }))
    ∧ (Accepts recGetStatusSpec e s → let r := u.recs[c]
      let body := (image 64 [put 8 1 (recState r), put 16 8 r.lastClip, put 24 4 r.frames.toNat, put 28 4 r.gaps.toNat,
        put 32 4 r.ignored.toNat, put 36 4 (freeSlots r), put 40 8 (mediaFree u u.contexts[c].live.recording)]).drop 8
      Answers (.recGetStatus e) s (Completed 0x0907 e
        { detail := Config.openDetail 0x0907 0, ctx := BitVec.ofNat 8 c.val, back := some (8, body) } s u))

/-- Media ports (R245, R246, R253): a volume is formatted and unmounted, or the operation ends with HW_FAULT; the oldest drive command ends: a
Write that succeeds is in the log, one that fails raises 0x4E; a link that goes down or a command unanswered raises 0x4C + p and leaves no
volume mounted and no command outstanding. Triggers and seals (R243, R249, R266, R385, R430 to R432): TRIG_IN triggers every ring that
listens at the frame taken last, and a later trigger of the same ring is counted alone; a leaf reserved makes its block's leaves usable,
in both copies; a signature that succeeds is counted and its manifest goes on, one that fails ends or retries its seal; a failed seal asks
once more; the directory follows the clip view. -/
def Obligations.MediaTriggersAndSeals : Prop :=
  (∀ (p : Fin 2) (s : State), let x := s.media[p]
     (∀ op m tag i, x.op = some (op, m, tag) → let t := { s with media := s.media.set p { x with op := none } }
       exec (.mediaOpDone p false i) s = .next (endBackground m 0x0901 tag .hwFault 0 t)
       ∧ (op = 1 → exec (.mediaOpDone p true i) s = .next (armFlags (endBackground m 0x0901 tag .ok 0
         (modMedia p (fun x => { x with volume := some ⟨i.lbaSize, i.capacity, i.rate, i.volumeId, 1, 2 ^ 21, 0, 0, [], []⟩ })
           (dropView p t)))))
       ∧ (op = 2 → x.mounted = true → exec (.mediaOpDone p true i) s = .next (armFlags (endBackground m 0x0901 tag .ok 0
         (mediaState p 0 0 (dropView p (modMedia p (fun x => { x with mounted := false }) t)))))))
     ∧ (x.op = none → ∀ i, exec (.mediaOpDone p false i) s = .next { s with media := s.media.set p { x with op := none } })
     ∧ (x.outstanding = [] → ∀ ok, exec (.mediaCmdComplete p ok) s = .next s)
     ∧ (∀ r rest, x.outstanding = .log r :: rest → let t := { s with media := s.media.set p { x with outstanding := rest } }
       exec (.mediaCmdComplete p true) s = .next (modVolume p (fun v => { v with log := v.log ++ [r] }) t)
       ∧ (findClip s r.clip = none → exec (.mediaCmdComplete p false) s = .next (raise0 0x4E t)))
     ∧ (x.outstanding = [] → exec (.mediaCmdTimeout p) s = .next s)
     ∧ (x.outstanding ≠ [] → exec (.mediaCmdTimeout p) s = exec (.mediaLinkDown p) s)
     ∧ ((∀ q ∈ x.outstanding, ∀ id, q ≠ .read id) → clipsOn s p = [] →
       let t := modMedia p (fun x => { x with outstanding := [], mounted := false }) (raise0 (0x4C + p.val) s)
       exec (.mediaLinkDown p) s = .next (if x.mounted then mediaState p 2 (0x4C + p.val) (dropView p t) else t)))
  ∧ (∀ s : State,
       ((∀ c : CtxId, s.contexts[c].takings = []) → exec .trigInEdge s = .next s)
       ∧ (∀ c n k, (∀ d : CtxId, d ≠ c → s.contexts[d].takings = []) → s.contexts[c].takings.head?.map Prod.snd = some n →
         s.recs[c].clips = [k] → k.cfg.target = .ring → k.cfg.triggers.getLsbD 0 = true → k.stage = none →
         (k.trigger = none → exec .trigInEdge s = .next (post 0x0981 (some c) (BitVec.ofNat 48 n.toNat) n.toNat
           (modClip c k.id (fun k => { k with trigger := some (n.toNat, 0) }) s)))
         ∧ (k.trigger ≠ none → exec .trigInEdge s = .next (modRec c (fun r => { r with ignored := bump r.ignored }) s)))
       ∧ (∀ x, ((served21 s.sec.queue).find? fun x => s.sec.limit ≤ x.leaf) = some x → s.sec.reserving = true →
         let k := x.leaf / 1024
         let t := { s with sec := { s.sec with reserving := false } }
         exec (.leafReservationDone true) s = .next (startSigning (modSec (fun y => { y with leafSeq := k + 1, limit := 1024 * (k + 1) })
           (appendLeaf 1 (leafRecord k) (appendLeaf 0 (leafRecord k) t))))
         ∧ exec (.leafReservationDone false) s = .next (startSigning (failSignature x 0x0E
           (modSec (fun y => { y with queue := y.queue.filter fun z => z != x }) (raise0 0x0E t)))))
       ∧ (s.sec.reserving = false → ∀ ok, exec (.leafReservationDone ok) s = .next s)
       ∧ (s.sec.signing = none → ∀ ok, exec (.securitySignDone ok) s = .next s)
       ∧ (∀ x, s.sec.signing = some x → exec (.securitySignDone false) s =
         .next (startSigning (failSignature x 0x0C { s with sec := { s.sec with signing := none } })))
       ∧ (∀ c id l, s.sec.signing = some (.manifest c id l) → exec (.securitySignDone true) s =
         .next (startSigning (manifestSigned c id { s with sec := { s.sec with signing := none, made := bump s.sec.made } })))
       ∧ (∀ c k, (s.recs[c].clips.find? fun k => k.stage == some .failed) = some k → canSign s = true →
         exec (.sealRetry c) s = .next (askSignature (.manifest c k.id)
           (modClip c k.id (fun k => { k with stage := some .signing, leaf := s.sec.nextLeaf })
             (modClip c k.id (fun k => { k with retried := true }) s))))
       ∧ (∀ c, (∀ k ∈ s.recs[c].clips, k.stage ≠ some .failed) → exec (.sealRetry c) s = .next s)
       ∧ (directoryDue s = false → exec .directoryChange s = .next s)
       ∧ (directoryDue s = true → s.stg.ward = [] → wardFrontEnd s = [] → Answers .directoryChange s fun t =>
         ∃ v, { v with stg := s.stg } = s ∧ v.stg.view = s.stg.view ∧ v.stg.directory = s.stg.directory
           ∧ t = releaseWard s.stg.wardNext (syncDirectory v)))

/-! ## Storage -/

/-- The STG_ commands (12 commands): STG_SET_SCRATCH gives namespace 2 its size and place, reading as zero, and arms the flags it changes;
STG_SET_RATES is armed or held; STG_GET_STATUS and STG_READ_ERROR_LOG answer, the first clearing counters when asked. The NVMe controller
(R256, R257, R273, R277, R278, R409): CC.EN set puts the admin queues in place and rebuilds the directory; cleared, it resets the
controller; a tail doorbell moves the tail of a queue the controller serves; a fatal condition sets CFS and raises 0x58 once, as does a
host command that holds its entry over 1 s; a low power state is reached when nothing executes and left for the last operational one;
PERST_N resets the endpoint; link loss and return show as they should. -/
def Obligations.StorageCommandsAndController : Prop :=
  (∀ (e : Entry) (s : State), let u := takeCommand e.mb s
     let x := u.stg
     (Accepts stgSetScratchSpec e s → ccEn s = false ∧
       Answers (.stgSetScratch e) s (Flagged 0x0A01 e { detail := arg e 8 8 / 4096 } s { u with
         ns2 := [], stg := { x with scratchStack := ⟨arg e 0 1 % 4, Nat.mod_lt _ (by decide)⟩, scratch := arg e 8 8 } }))
     ∧ (Accepts stgSetRatesSpec e s → Answers (.stgSetRates e) s (Banked 0x0A02 e
         [.rates [arg e 0 4, arg e 4 4, arg e 8 4, arg e 12 4] [arg e 16 4, arg e 20 4]] none 0 0 s u))
     ∧ (Accepts stgGetStatusSpec e s →
       let body := (image 64 [put 8 1 x.power, put 9 1 (x.sqs.filter fun q => q.id != 0).length,
         put 10 2 (wardShared u + (wardFrontEnd u).length), put 12 4 (executing12 u), put 16 8 x.generation, put 24 4 x.leftOut,
         put 28 4 x.wardWaits.toNat, put 32 4 x.refused.toNat, put 36 4 x.readErrors.toNat, put 40 4 x.fatals.toNat]).drop 8
       Answers (.stgGetStatus e) s (Completed 0x0A03 e
         { detail := bit x.rdy + 2 * bit (x.cfs || s.devState == 3) + 4 * x.shst, back := some (8, body) } s
         (if arg e 0 1 = 1 then { u with stg := { x with wardWaits := 0, refused := 0, readErrors := 0, fatals := 0 } } else u)))
     ∧ (Accepts stgReadErrorLogSpec e s → Answers (.stgReadErrorLog e) s (Completed 0x0A04 e { detail := x.errors.length, back := some (0,
         image 16 [put 0 4 x.errors.length, put 4 4 x.fatal] ++ slice (x.errors.flatMap NvmeError.bytes) 0 4096) } s u)))
  ∧ (∀ s : State,
       (ccEn s = false → exec .nvmeCcEnable s = .next (stgReady (rebuildDirectory (modStg (fun x => { x with
           cc := x.cc ||| 1, sqs := [(adminQueues s.stg).1], cqs := [(adminQueues s.stg).2] }) s))))
       ∧ (ccEn s = true → s.stg.rdy = false →
         (s.stg.suspect = false → s.boot.step = .complete →
           stgReady s = stgState { s with stg := { s.stg with rdy := true, cfs := false } })
         ∧ ((s.stg.suspect = true ∨ s.boot.step ≠ .complete) → stgReady s = s))
       ∧ (ccEn s = true → exec .nvmeCcEnable s = .next s)
       ∧ (ccEn s = true → exec .nvmeCcDisable s = .next (stgState (modStg (fun x => { x with
           cc := x.cc &&& ~~~1, rdy := false, cfs := x.suspect, shst := 0, sqs := [], cqs := [], aers := [], asyncDue := []
           asyncMasked := [], entering := none, power := 0, lastPower := 0, fatal := 0, arbitration := 0, coalescing := 0
           vectorCd := [], asyncCfg := 0 }) (dropHostWork s))))
       ∧ (ccEn s = false → exec .nvmeCcDisable s = .next s)
       ∧ (∀ (q : Fin 65) tail, stgUp s = true → exec (.nvmeSqTailDoorbell q tail) s = .next { s with stg := { s.stg with
           sqs := s.stg.sqs.map fun y => if y.id = q.val ∧ tail < y.size then { y with tail := tail } else y } })
       ∧ (∀ (q : Fin 65) tail, stgUp s = false → exec (.nvmeSqTailDoorbell q tail) s = .next s)
       ∧ (∀ x : FatalCause, let n := match x with | .queueState => 1 | .wardTable => 2
         (s.stg.cfs = false → ccEn s = true → exec (.controllerFatal x) s = .next (stgState (raise0 0x58 (dropHostWork
           { s with stg := { s.stg with cfs := true, fatal := n, fatals := bump s.stg.fatals } }))))
         ∧ (s.stg.cfs = true → exec (.controllerFatal x) s = .next s))
       ∧ (∀ id w k n, wardOf s id = some w → w.user = .host k n → w.taken = true → s.stg.cfs = false → ccEn s = true →
         exec (.wardTimeout id) s = .next (stgState (raise0 0x58 (dropHostWork
           { s with stg := { s.stg with cfs := true, fatal := 3, fatals := bump s.stg.fatals } }))))
       ∧ (∀ id, wardOf s id = none → exec (.wardTimeout id) s = .next s)
       ∧ (∀ p n, s.stg.entering = some (p, n) →
         (executing12 s = 0 → exec .powerStateEntryDone s = .next (endNvme n 0 0 0 (stgState { s with stg := { s.stg with
           entering := none, power := p, lastPower := if p < 2 then p else s.stg.lastPower } })))
         ∧ (executing12 s ≠ 0 → exec .powerStateEntryDone s = .next s))
       ∧ (s.stg.power = 2 → s.stg.waking ≠ [] → exec .nvmePowerStateExit s = .next (s.stg.waking.foldl (fun t w => runIo w.1 w.2 t)
           (stgState { s with stg := { s.stg with power := s.stg.lastPower, waking := [] } })))
       ∧ (s.stg.waking = [] → exec .nvmePowerStateExit s = .next s)
       ∧ (s.stg.ward = [] → exec .stgRateRelease s = .next s)
       ∧ (∀ w n, s.stg.ward = [w] → w.waits = 2 → w.user = .host .zeroes n → w.left = 0 → (∃ m, pacePool n s = .hbm m) →
         exec .stgRateRelease s = .next (finishIo w.id .zeroes n true (paceUse (pacePool n s) 0 s)))
       ∧ exec (.perstN true) s = .next (raise0 0x5A (resetController { s with
           hostUp := false, bar0 := { s.bar0 with msix := Vector.replicate 32 {}, pba := 0 } }))
       ∧ exec (.perstN false) s = .next s
       ∧ exec (.endpointLinkDown true) s = .next (raise0 0x5A s)
       ∧ exec (.endpointLinkDown false) s = .next (raise0 0x5A { s with hostUp := false })
       ∧ (domainOn s 14 = true → exec .endpointLinkUp s = .next { s with hostUp := true })
       ∧ (domainOn s 14 = false → exec .endpointLinkUp s = .next s))

/-- Admin commands (R258, R259, R275 to R278): fetched from the admin queue, they create and delete queues, answer pages and features, keep
requests for events and end with the status of R272. A command that is not at the head of the admin queue changes nothing. An ended
command's completion entry stands at its completion queue's tail. -/
def Obligations.NvmeAdminCommands : Prop :=
  ∀ (n : NvmeCmd) (s : State), let u := fetchNvme n s
    let id := n.cdw10.toNat % 2 ^ 16
    let size := n.cdw10.toNat / 2 ^ 16 + 1
    let base := (n.pages.headD 0).toNat
    let cq := n.cdw11.toNat / 2 ^ 16
    let free := fun l : List Nat => id ≠ 0 ∧ id ≤ 64 ∧ id ∉ l ∧ 2 ≤ size ∧ size ≤ 1024 ∧ n.cdw11.getLsbD 0 = true ∧ base % 4096 = 0
    (n.sq = 0 → fetchable n s = true →
      (free (s.stg.sqs.map SubQueue.id) → cq ≠ 0 → cq ∈ s.stg.cqs.map CplQueue.id → exec (.createIoSubmissionQueue n) s =
        .next (endNvme n 0 0 0 (modStg (fun x => { x with sqs := x.sqs ++
          [{ id := id, size := size, base := base, cq := cq, cls := n.cdw11.toNat / 2 % 4 }] }) u)))
      ∧ (free (s.stg.cqs.map CplQueue.id) → cq ≤ 64 → exec (.createIoCompletionQueue n) s =
        .next (endNvme n 0 0 0 (modStg (fun x => { x with cqs := x.cqs ++
          [{ id := id, size := size, base := base, vector := if n.cdw11.getLsbD 1 then some cq else none }] }) u)))
      ∧ (id ≠ 0 → id ∈ s.stg.sqs.map SubQueue.id → s.stg.ward = [] → s.stg.waking = [] → exec (.deleteIoSubmissionQueue n) s =
        .next (endNvme n 0 0 0 (modStg (fun x => { x with sqs := x.sqs.filter fun q => q.id != id }) u)))
      ∧ (id ≠ 0 → id ∈ s.stg.cqs.map CplQueue.id → (∀ q ∈ s.stg.sqs, q.cq ≠ id) → exec (.deleteIoCompletionQueue n) s =
        .next (endNvme n 0 0 0 (modStg (fun x => { x with
          cqs := x.cqs.filter fun q => q.id != id, heldCpl := x.heldCpl.filter fun h => h.1 != id }) u)))
      ∧ (id ≠ 0 → id ∈ s.stg.cqs.map CplQueue.id → (∃ q ∈ s.stg.sqs, q.cq = id) →
        exec (.deleteIoCompletionQueue n) s = .next (endNvme n 0x10C 0 0 u))
      ∧ (n.cdw10.toNat % 256 = 0xC0 → ∀ page, logPage u 0xC0 = some page → n.cdw12 = 0 → n.cdw13 = 0 →
        let len := 4 * (n.cdw10.toNat / 2 ^ 16 + 2 ^ 16 * (n.cdw11.toNat % 2 ^ 16) + 1)
        exec (.getLogPage n) s = .next (answerNvme n (slice page 0 (Min.min len page.length))
          (modStg (fun x => { x with asyncMasked := x.asyncMasked.filter fun k => k != 7 }) u)))
      ∧ (logPage u (n.cdw10.toNat % 256) = none → exec (.getLogPage n) s = .next (endNvme n 0x109 0 0 u))
      ∧ (n.cdw10.toNat % 256 = 1 → exec (.identify n) s = .next (answerNvme n identifyController u))
      ∧ (n.cdw10.toNat % 256 = 0 → namespaceSize u n.nsid.toNat = none → exec (.identify n) s = .next (endNvme n 0x00B 0 0 u))
      ∧ exec (.abort n) s = .next (endNvme n 0 1 0 u)
      ∧ (n.cdw10.toNat % 256 = 1 → exec (.setFeatures n) s =
          .next (endNvme n 0 0 0 (modStg (fun x => { x with arbitration := n.cdw11 }) u))
        ∧ exec (.getFeatures n) s = .next (endNvme n 0 s.stg.arbitration.toNat 0 u))
      ∧ (n.cdw10.toNat % 256 = 7 → exec (.setFeatures n) s = .next (endNvme n 0 0x003F003F 0 u)
        ∧ exec (.getFeatures n) s = .next (endNvme n 0 0x003F003F 0 u))
      ∧ (n.cdw10.toNat % 256 = 2 → s.stg.power < n.cdw11.toNat % 32 → n.cdw11.toNat % 32 ≤ 2 → exec (.setFeatures n) s =
          .next (modStg (fun x => { x with entering := some (n.cdw11.toNat % 32, n) }) u))
      ∧ (s.stg.asyncDue = [] → s.stg.aers.length < 4 → exec (.asynchronousEventRequest n) s =
          .next (modStg (fun x => { x with aers := x.aers ++ [n] }) u))
      ∧ (s.stg.asyncDue = [] → 4 ≤ s.stg.aers.length → exec (.asynchronousEventRequest n) s = .next (endNvme n 0x105 0 0 u))
      ∧ (n.nsid = 1 → exec (.formatNvm n) s = .next (endNvme n 0x020 0 0 u))
      ∧ (n.nsid = 2 → s.stg.ward = [] → wardFrontEnd s = [] → ioStatus .format n u = 0 → ∃ v, { v with stg := s.stg } = s
        ∧ exec (.formatNvm n) s = .next (endNvme n 0 0 0 (zeroNs2 0 (4096 * (s.stg.scratch / 4096)) v))))
    ∧ (n.sq ≠ 0 ∨ fetchable n s = false → ∀ c ∈ [Instr.createIoSubmissionQueue n, .createIoCompletionQueue n,
        .deleteIoSubmissionQueue n, .deleteIoCompletionQueue n, .getLogPage n, .identify n, .abort n, .setFeatures n,
        .getFeatures n, .asynchronousEventRequest n, .formatNvm n], exec c s = .next s)
    ∧ ∀ dw0 q c, stgUp s = true → s.hostUp = true → s.stg.heldCpl = [] → (s.stg.sqs.find? fun q => q.id == n.sq.val) = some q →
      (s.stg.cqs.find? fun c => c.id == q.cq) = some c → cqFull c = false →
      (endNvme n 0 dw0 0 s).hostMem = (writeHost (c.base + 16 * c.tail) (image 16 [put 0 4 dw0, put 8 2 q.head, put 10 2 q.id,
        put 12 2 n.cid.toNat, put 14 2 (bit c.phase)]) s).hostMem

/-- I/O commands of namespace 2 (R262, R267 to R272): with no entry held and the tick's rate left, a Read answers with the bytes the namespace
holds, a Write stores its data, Write Zeroes, a deallocation and a format zero their LBAs, each with no other effect on the namespace, and
each then ends with status 0; a Flush ends at once. A write to namespace 1 ends Namespace Is Write Protected, and in power state 2 the
command waits. -/
def Obligations.NvmeNamespaces : Prop :=
  ∀ (n : NvmeCmd) (s : State), n.sq ≠ 0 → fetchable n s = true → let u := fetchNvme n s
    let lba := n.cdw10.toNat + 2 ^ 32 * n.cdw11.toNat
    let count := n.cdw12.toNat % 2 ^ 16 + 1
    let alone := fun v : State => { v with stg := s.stg } = s
    (n.nsid = 1 → exec (.flush n) s = .next (endNvme n 0 0 0 u))
    ∧ (namespaceSize s n.nsid.toNat = none → n.nsid ≠ BitVec.allOnes 32 → exec (.flush n) s = .next (endNvme n 0x00B 0 0 u))
    ∧ (s.stg.power ≠ 2 → n.nsid = 1 → exec (.write n) s = .next (endNvme n 0x020 0 0 u)
      ∧ exec (.writeZeroes n) s = .next (endNvme n 0x020 0 0 u) ∧ exec (.datasetManagement n) s = .next (endNvme n 0x020 0 0 u))
    ∧ (s.stg.power = 2 → exec (.read n) s = .next (modStg (fun x => { x with waking := x.waking ++ [(.read, n)] }) u))
    ∧ (s.stg.power ≠ 2 → s.stg.ward = [] → wardFrontEnd s = [] → n.nsid = 2 → n.hostOk = true → s.hostUp = true →
      4096 * 512 ≤ paceLeft (pacePool n s) s →
      (ioStatus .read n u = 0 → ∃ v, alone v
        ∧ exec (.read n) s = .next (endNvme n 0 0 0 (writePages n.pages (readCells s.ns2 (4096 * lba) (4096 * count)) v)))
      ∧ (ioStatus .write n u = 0 → ∃ v, alone v
        ∧ exec (.write n) s = .next (endNvme n 0 0 0 { v with
            ns2 := writeCells s.ns2 (4096 * lba) (slice n.data 0 (4096 * count)) }))
      ∧ (ioStatus .zeroes n u = 0 → ∃ v, alone v
        ∧ exec (.writeZeroes n) s = .next (endNvme n 0 0 0 (zeroNs2 (4096 * lba) (4096 * count) v)))
      ∧ (ioStatus .deallocate n u = 0 → ∃ v, alone v ∧ exec (.datasetManagement n) s =
          .next (endNvme n 0 0 0 (forEach (ioRanges .deallocate n u) (fun r => zeroNs2 (4096 * r.lba) (4096 * r.count)) v))))
    ∧ ∀ id w, wardOf s id = some w → (w.waits ≠ 0 → ∀ ok, exec (.wardEntryGranted id ok) s = .next s)
      ∧ (wardReady s id = true → w.waits = 0 → w.user = .directory → ∀ ok, exec (.wardEntryGranted id ok) s =
        .next (releaseWard id (syncDirectory s)))

/-! ## Video coding -/

/-- The VC_ commands (13 commands): VC_SET_ENCODE, with the cores Kongaord places, VC_KEY_PICTURE and VC_SET_VECTOR_EXPORT are armed or held;
VC_DECODE_OPEN opens a closed session and arms the flags, VC_DECODE_SUBMIT hands it access units, a background command, VC_DECODE_CLOSE
ends their submits and closes it; VC_GET_STATUS and VC_GET_ENCODE answer. Coding and decoding (R284, R289, R292 to R294, R299): the oldest
picture being coded ends, its buffer let go; a decoded picture within the session's limits is output, one beyond them is reported and its
units consumed, one past its time limit is concealed; a freed slot lets the decoder write on; a failed core is retired once, with its
source and event, and codes no picture any more; a write outside a core's windows raises its source alone. -/
def Obligations.VideoCodingAndDecoding : Prop :=
  (∀ (e : Entry) (s : State), let u := takeCommand e.mb s
     let c := argCtx e
     let g := argGrade e
     let i := argSession e
     let v := u.vc
     (Accepts vcSetEncodeSpec e s → let x := placedEncode e u
       Answers (.vcSetEncode e) s (Banked 0x0B01 e [.encode c g x] (some c) (maskOf 8 fun i => x.coreSet.any fun k => k.val == i) 0 s u))
     ∧ (Accepts vcKeyPictureSpec e s → Answers (.vcKeyPicture e) s (Banked 0x0B02 e
         [.keyPicture c (if arg e 1 1 = 15 then none else some g)] (some c) (Config.openDetail 0x0B02 1) 0 s u))
     ∧ (Accepts vcSetVectorExportSpec e s → Answers (.vcSetVectorExport e) s (Banked 0x0B03 e
         [.vecExport c (if arg e 1 1 = 0 then none else some (arg e 1 1, BitVec.ofNat 64 (arg e 8 8)))] (some c)
         (Config.openDetail 0x0B03 1) 0 s u))
     ∧ (Accepts vcDecodeOpenSpec e s → s.vc.sessions[i] = none ∧ let x := sessionOf e u
       Answers (.vcDecodeOpen e) s (Flagged 0x0B04 e { detail := x.slotSize } s
         { u with vc := { v with sessions := v.sessions.set i (some x) } }))
     ∧ (Accepts vcDecodeSubmitSpec e s → ∃ x, s.vc.sessions[i] = some x ∧
       Answers (.vcDecodeSubmit e) s (Begun 0x0B05 e none (Config.openDetail 0x0B05 0) s { u with vc := { v with
         sessions := v.sessions.set i (some { x with
           units := x.units ++ unitsOfEntry e x.submitted, submitted := x.submitted + arg e 1 1 }) } }))
     ∧ (Accepts vcDecodeCloseSpec e s → ∃ x, s.vc.sessions[i] = some x ∧
       Answers (.vcDecodeClose e) s (Completed 0x0B06 e { detail := Config.openDetail 0x0B06 0 } s
         (endSubmits x.units [] { u with vc := { v with sessions := v.sessions.set i none } })))
     ∧ (Accepts vcGetStatusSpec e s →
       let body := image 56 ([put 0 1 (maskOf 8 fun i => v.retired.any fun k => k.val == i), put 1 1 (analysisMask u),
         put 40 4 v.exhausted.toNat, put 44 4 v.skipped.toNat, put 48 4 v.concealed.toNat, put 52 4 v.abandoned.toNat]
         ++ (List.finRange 8).map fun k => put (8 + 4 * k.val) 4 (coreShare u k))
       Answers (.vcGetStatus e) s (Completed 0x0B07 e { back := some (8, body) } s
         (if arg e 0 1 = 1 then { u with vc := { v with exhausted := 0, skipped := 0, concealed := 0, abandoned := 0 } } else u)))
     ∧ (Accepts vcGetEncodeSpec e s →
       let x := u.contexts[c]
       let level := if x.live.encodes[g].on then
         levelIdc x.live.encodes[g] x.live.grades[g].wo x.live.grades[g].ho (x.live.source.k * u.tick.period) else 0
       Answers (.vcGetEncode e) s (Completed 0x0B08 e
         { detail := leNat (leInt 4 x.encodes[g].debt) + 2 ^ 32 * level, ctx := BitVec.ofNat 8 c.val } s u)))
  ∧ (∀ (s : State),
       (∀ (c : CtxId) (g : GradeId) rows, s.contexts[c].encodes[g].coding = [] → exec (.encodePictureDone c g rows) s = .next s)
       ∧ (∀ (c : CtxId) (g : GradeId) rows p rest, s.contexts[c].encodes[g].coding = p :: rest → s.contexts[c].encodes[g].held = [] →
         p.cfg.hostCopy = false → p.clip = none → let x := accessUnit p rows s.free
         let t := releaseImage c g p.frame (modRun c g (fun r => { r with
           coding := rest, debt := debtAfter p.cfg.mode (nominal s p.k p.cfg.rate) r.debt x.1 }) { s with free := x.2.2 + x.1 })
         exec (.encodePictureDone c g rows) s = .next (match x.2.1 with
           | none => t
           | some row => post 0x0B81 (some c) (BitVec.ofNat 48 p.frame) (p.frame + 2 ^ 48 * g.val + 2 ^ 56 * (row % 2 ^ 8))
               { t with vc := { t.vc with exhausted := bump t.vc.exhausted } }))
       ∧ (∀ (i : Fin 16) (p : DecodedPicture) x, s.vc.sessions[i] = some x →
         (x.core = none → exec (.decodePictureDone i p) s = .next s ∧ exec (.decodeTmaxExpiry i p) s = .next s)
         ∧ (x.core ≠ none → exceeds x p = true → exec (.decodePictureDone i p) s = .next (concealedEvent i 4 p.unit (consume i p.unit s)))
         ∧ (x.core ≠ none → exceeds x p = false → p.missingReference = false → p.sliceError = false →
           exec (.decodePictureDone i p) s = .next (outputPicture i p (bit (p.inherits && !p.irap || x.concealNext)) (consume i p.unit s)))
         ∧ (x.core ≠ none → exec (.decodeTmaxExpiry i p) s = .next (outputPicture i p 2 (consume i p.unit
           (post 0x0B83 none 0 (i.val + 2 ^ 8 * 3 + 2 ^ 16 * p.unit) { s with vc := { s.vc with abandoned := bump s.vc.abandoned } }))))
         ∧ (x.waiting = [] → exec (.decodeSlotFree i) s =
           .next (writeHost (x.ring + x.slotSize * (x.written % x.slots)) [0] s)))
       ∧ (∀ (i : Fin 16) p, s.vc.sessions[i] = none → exec (.decodePictureDone i p) s = .next s
         ∧ exec (.decodeTmaxExpiry i p) s = .next s ∧ exec (.decodeSlotFree i) s = .next s)
       ∧ (∀ k : Fin 8, (k ∈ s.vc.retired → exec (.vcCoreRetired k) s = .next s)
         ∧ (k ∉ s.vc.retired → Answers (.vcCoreRetired k) s fun t => t.vc.retired = k :: s.vc.retired
           ∧ (∀ (c : CtxId) (g : GradeId), ∀ p ∈ t.contexts[c].encodes[g].coding, k ∉ p.cfg.coreSet)
           ∧ ∃ v, t = post 0x0B80 none 0 (k.val + 2 ^ 8 * (0x40 + k.val)) v)
         ∧ exec (.vcBlockedWrite k) s = .next (raise0 (0x40 + k.val) s)))

/-! ## Outputs -/

/-- The OUT_ commands (14 commands): OUT_SET_RASTER, OUT_BIND, which takes the output from the bank it is bound in, OUT_SET_OVERLAY and
OUT_SET_AUDIO are armed or held; OUT_GET_STATUS answers, and clears the counters when asked. -/
def Obligations.OutputCommands : Prop :=
  ∀ (e : Entry) (s : State), let u := takeCommand e.mb s
    let o := argOut e
    let was := ((boundTo (projected u) o).map Prod.fst).toList
    let c : CtxId := ⟨arg e 2 1 % 8, Nat.mod_lt _ (by decide)⟩
    let g : GradeId := ⟨arg e 1 1 % 4, Nat.mod_lt _ (by decide)⟩
    (Accepts outSetRasterSpec e s → Answers (.outSetRaster e) s (Banked 0x0C01 e
        [.raster o (if arg e 1 1 = 1 then some (rasterOf e) else none)] none 0 0 s u))
    ∧ (Accepts outBindSpec e s → arg e 1 1 = 0xFF → Answers (.outBind e) s (Banked 0x0C02 e
        (was.map fun c => .bind o c none) was.head? 0 0 s u))
    ∧ (Accepts outBindSpec e s → arg e 1 1 ≠ 0xFF → Answers (.outBind e) s (Banked 0x0C02 e
        (((was.filter fun d => d != c).map fun d => .bind o d none) ++ [.bind o c (some ⟨g, arg e 4 2, arg e 6 2⟩)]) (some c)
        (ceilDiv (gradeSize (shadow u c).grades[g]) 32) 0 s u))
    ∧ (Accepts outSetOverlaySpec e s → Answers (.outSetOverlay e) s (Banked 0x0C03 e [.overlay o (arg e 1 1 == 1)
        { on := arg e 2 1 == 1, col := arg e 4 2, row := arg e 6 2, w := arg e 8 2, h := arg e 10 2, pitch := arg e 12 4
          addr := arg e 16 8 }] was.head? 0 0 s u))
    ∧ (Accepts outSetAudioSpec e s → Answers (.outSetAudio e) s (Banked 0x0C04 e [.outAudio o (BitVec.ofNat 4 (arg e 1 1))
        ((List.range 16).map fun i => BitVec.ofNat 16 (arg e (8 + 2 * i) 2))] none 0 0 s u))
    ∧ (Accepts outGetStatusSpec e s → let y := u.outputs[o]
      let n := y.counts
      let body := image 56 [put 0 4 n.frames.toNat, put 4 4 n.repeats.toNat, put 8 4 n.drops.toNat, put 12 4 n.late.toNat,
        put 16 4 n.underruns.toNat, put 20 4 n.freezes.toNat, put 24 4 n.losses.toNat, put 28 1 (y.lanes + 16 * y.rate)]
        ++ slice (y.log.flatMap OutLog.bytes) 0 256
      Answers (.outGetStatus e) s (Completed 0x0C05 e { detail := outState o y, back := some (8, body) } s
        (if arg e 1 1 = 1 then { u with outputs := u.outputs.set o { y with counts := {} } } else u)))

/-- Scan-out (R303 to R306, R313): a finished copy is the output's newest committed frame, in place of one no latch took, and its grade buffer
loses the reader; a latch takes that frame, or shows the current one again, and logs it first of 16, with nothing else than outputs,
events and what is sent changed; an underrun is counted, marks the frame's log entry and raises 0x50; an output without a raster does
nothing. References of the outputs (R310 to R312): lines count to the next vertical edge; a vertical edge that comes first is not good;
losing the reference free-runs the generator, raising 0x51; a VF_TE edge restarts TG3's frame unless it comes too soon, three good ones
end its free run, three missing start it; HPD, its loss and the end of training set TG2's link, with the event when it cannot carry the
raster. -/
def Obligations.ScanOutAndReferences : Prop :=
  (∀ (o : QuadId) (s : State), let y := s.outputs[o]
     (y.copying = [] → exec (.scanCopyDone o) s = .next s)
     ∧ (∀ x rest, y.copying = x :: rest → Answers (.scanCopyDone o) s fun t =>
       t.outputs[o].ready = some x ∧ t.outputs[o].copying = rest ∧ t.outputs[o].shown = y.shown
         ∧ (∀ old, y.ready = some old → t.outputs[o].counts.drops = if old.late then y.counts.drops else bump y.counts.drops)
         ∧ { t with outputs := s.outputs, contexts := s.contexts } = s ∧ ∀ d : CtxId, d ≠ x.ctx → t.contexts[d] = s.contexts[d])
     ∧ (∀ r, y.raster = some r → blockDown s (0x30 + o.val) = false → Answers (.outputLatch o) s fun t =>
       t.outputs[o].ready = none ∧ t.outputs[o].shown = (if y.ready.isSome then y.ready else y.shown)
         ∧ t.outputs[o].counts.frames = bump y.counts.frames ∧ t.outputs[o].log.tail = y.log.take 15
         ∧ (∀ q : QuadId, q ≠ o → t.outputs[q] = s.outputs[q]) ∧ beside s { t with outputs := s.outputs } = s)
     ∧ (blockDown s (0x30 + o.val) = true → exec (.outputLatch o) s = .next s)
     ∧ (y.raster.isSome = true → exec (.scanFifoUnderrun o) s = .next (raise0 0x50 { s with
         out := .borderLine o :: s.out
         outputs := s.outputs.set o { y with
           counts := { y.counts with underruns := bump y.counts.underruns }
           log := (y.log.take 1).map (fun l => { l with flags := l.flags ||| 16#16 }) ++ y.log.drop 1 } }))
     ∧ (y.raster = none → exec (.outputLatch o) s = .next s ∧ exec (.scanFifoUnderrun o) s = .next s))
  ∧ (∀ (s : State),
       (∀ (o : QuadId) r, s.outputs[o].raster = some r → o.val < 2 → r.sync = 1 → let y := s.outputs[o]
         exec (.genlockRefEdge o false) s = .next { s with outputs := s.outputs.set o { y with refH := y.refH + 1 } }
         ∧ (y.lastV = none → exec (.genlockRefEdge o true) s =
           .next { s with outputs := s.outputs.set o { y with goodV := 0, refH := 0, lastV := some (nowPs s) } })
         ∧ (∀ v, y.lastV = some v → agrees (nowPs s - v) (framePeriod o r) = true → y.refH = sdiLines r.code → 7 ≤ y.goodV →
           y.genlock = .lost → exec (.genlockRefEdge o true) s = .next (post 0x0C82 none 0 (o.val + 2 ^ 8 * 2) { s with
             outputs := s.outputs.set o { y with goodV := 8, refH := 0, lastV := some (nowPs s), genlock := .relocking } }))
         ∧ (y.genlock ≠ .lost → exec (.genlockLost o) s = .next (post 0x0C82 none 0 (o.val + 2 ^ 8) (raise0 0x51 { s with
             outputs := s.outputs.set o { y with
               genlock := .lost, goodV := 0, lastV := none, counts := { y.counts with losses := bump y.counts.losses } } })))
         ∧ (y.genlock = .lost → exec (.genlockLost o) s = .next s))
       ∧ (∀ (o : QuadId), 2 ≤ o.val ∨ s.outputs[o].raster = none →
         exec (.genlockLost o) s = .next s ∧ ∀ v, exec (.genlockRefEdge o v) s = .next s)
       ∧ (∀ r, s.outputs[(3 : QuadId)].raster = some r → r.sync = 2 → let y := s.outputs[(3 : QuadId)]
         let put := fun y' : Output => { s with outputs := s.outputs.set (3 : QuadId) y' }
         (y.teFree = false → (∀ v, y.lastTe = some v → 1000 * r.period < 10 * (nowPs s - v)) →
           exec .vfTeEdge s = .next (sendPicture 3 (put { y with lastTe := some (nowPs s), teMissing := 0 })))
         ∧ (∀ v, y.teFree = false → y.lastTe = some v → 10 * (nowPs s - v) ≤ 1000 * r.period → exec .vfTeEdge s = .next s)
         ∧ (∀ v, y.teFree = true → y.lastTe = some v → 10 * (nowPs s - v - 1000 * r.period).natAbs ≤ 1000 * r.period → y.teGood = 2 →
           exec .vfTeEdge s = .next (post 0x0C83 none 0 0 (put { y with
             lastTe := some (nowPs s), teGood := 3, teFree := false, teMissing := 0 })))
         ∧ (y.teFree = false → y.teMissing < 2 → exec .vfTeMissing s = .next (put { y with teMissing := y.teMissing + 1 }))
         ∧ (y.teFree = false → 2 ≤ y.teMissing → exec .vfTeMissing s = .next (post 0x0C83 none 0 1 (put { y with
             teMissing := 0, teGood := 0, teFree := true, counts := { y.counts with losses := bump y.counts.losses } })))
         ∧ (y.teFree = true → exec .vfTeMissing s = .next s))
       ∧ (let y := s.outputs[(2 : QuadId)]
         (domainOn s 18 = true → exec .hpdRise s = .next { s with outputs := s.outputs.set (2 : QuadId) { y with hpd := true } })
         ∧ (domainOn s 18 = false → exec .hpdRise s = .next s)
         ∧ exec .hpdDrop s = .next { s with outputs := s.outputs.set (2 : QuadId) { y with hpd := false, lanes := 0, rate := 0 } }
         ∧ (y.hpd = false → ∀ n r, exec (.dpTrainingDone n r) s = .next s)
         ∧ ∀ (n : Nat) (r : Fin 5), y.hpd = true → 0 < n → r ≠ 0 → let y' : Output := { y with lanes := n, rate := r.val }
           let t := { s with outputs := s.outputs.set (2 : QuadId) y' }
           (∀ v, y.raster = some v → linkCarries y' v = true → exec (.dpTrainingDone n r) s = .next t)
           ∧ (∀ v, y.raster = some v → linkCarries y' v = false → exec (.dpTrainingDone n r) s = .next (post 0x0C84 none 0 (n + 2 ^ 4 * r.val) t))
           ∧ (y.raster = none → exec (.dpTrainingDone n r) s = .next t)))

/-! ## Network and time -/

/-- The NET_ and TIME_ commands (15 commands): NET_PORT_CONFIG configures a port, and turned off it loses its link; NET_SET_STREAM and
TIME_SET_TRIGGER are armed or held; NET_GET_STATUS and TIME_GET_STATE answer, the first clearing its counters when asked; TIME_ADJUST sets
the increment, or steps the counter by, or to, what it says; TIME_SET_PTP sets the configuration. -/
def Obligations.NetworkAndTimeCommands : Prop :=
  ∀ (e : Entry) (s : State), let u := takeCommand e.mb s
    let p := argEth e
    let x := u.net.ports[p]
    (Accepts netPortConfigSpec e s →
      let x' : EthPort := { x with
        mode := arg e 1 1, fec := arg e 2 1, autoneg := arg e 3 1, addr := arg e 4 4, prefixLen := arg e 8 1
        ingress := signed 32 (arg e 12 4), egress := signed 32 (arg e 16 4), asymmetry := signed 32 (arg e 20 4) }
      let t := { u with net := { u.net with ports := u.net.ports.set p x' } }
      Answers (.netPortConfig e) s (Completed 0x0D01 e {} s (if arg e 1 1 = 0 then netLinkState p false t else t)))
    ∧ (Accepts netSetStreamSpec e s → let v := streamOfEntry e
      (arg e 1 1 = 0 → Answers (.netSetStream e) s (Banked 0x0D02 e [.stream (argStream e) {}] (streamOwner u (argStream e)) 0 0 s u))
      ∧ (arg e 1 1 = 2 → Answers (.netSetStream e) s
        (Banked 0x0D02 e [.stream (argStream e) v] none (Config.openDetail 0x0D02 0) 0 s u))
      ∧ ((arg e 1 1 = 1 ∨ arg e 1 1 = 3) → let c : CtxId := ⟨arg e 3 1 % 8, Nat.mod_lt _ (by decide)⟩
        Answers (.netSetStream e) s (Banked 0x0D02 e [.stream (argStream e) v] (some c)
          (frameWireBits v (streamGrade (shadow u c) v)) 0 s u)))
    ∧ (Accepts netGetStatusSpec e s →
      let body := image 56 [put 0 1 (bit x.up), put 1 1 x.mode, put 4 4 x.corrected.toNat, put 8 4 x.uncorrectable.toNat,
        put 12 8 x.sent.toNat, put 20 4 x.ptpReceived.toNat, put 24 4 x.dropped.toNat, put 28 4 x.stampsLost.toNat,
        put 32 4 x.overflows.toNat, put 36 4 x.notSent.toNat]
      let x' : EthPort := { x with corrected := 0, uncorrectable := 0, sent := 0, ptpReceived := 0, dropped := 0
                                   stampsLost := 0, overflows := 0, notSent := 0 }
      Answers (.netGetStatus e) s (Completed 0x0D03 e { detail := bit x.up, back := some (8, body) } s
        (if arg e 1 1 = 1 then { u with net := { u.net with ports := u.net.ports.set p x' } } else u)))
    ∧ (Accepts timeGetStateSpec e s → let y := u.ptp
      let held := match y.heldAt with | some v => ((nowPs u - v) / 1000000000).toNat | none => y.heldMs
      let body := image 64 [(0, timeBytes (timeNow u)), put 10 1 y.servo.code, put 11 1 (if y.cfg.on then y.active.val else 0xFF),
        put 16 8 u.time.inc, (24, leInt 8 y.offset), (32, leInt 4 y.delay),
        put 36 8 (match y.master with | some m => m.identity.toNat | none => 0), put 44 4 y.steps.toNat, put 48 4 held,
        put 52 4 u.triggers.firings.toNat]
      Answers (.timeGetState e) s (Completed 0x0D04 e { detail := y.servo.code, back := some (0, body) } s u))
    ∧ (Accepts timeAdjustSpec e s → s.ptp.cfg.on = false
      ∧ (arg e 0 1 = 0 → Answers (.timeAdjust e) s (Completed 0x0D05 e {} s { u with time := { u.time with inc := arg e 8 8 } }))
      ∧ (arg e 0 1 = 1 → Answers (.timeAdjust e) s (Completed 0x0D05 e {} s (stepTime (signed 64 (arg e 8 8) * 2 ^ 32) u)))
      ∧ (arg e 0 1 = 2 → Answers (.timeAdjust e) s (Completed 0x0D05 e {} s
        (stepTime (((arg e 8 8 * 1000000000 + arg e 16 4) * 2 ^ 32 : Nat) - (s.time.now : Int)) u))))
    ∧ (Accepts timeSetPtpSpec e s → Answers (.timeSetPtp e) s (Completed 0x0D06 e {} s (setPtp (ptpCfgOf e) u)))
    ∧ (Accepts timeSetTriggerSpec e s → Answers (.timeSetTrigger e) s (Banked 0x0D07 e [.trigger (argTrigger e)
        ⟨arg e 1 1 == 1, arg e 2 1 == 1, arg e 4 4, arg e 8 6 * 1000000000 + arg e 16 4, arg e 24 8⟩] none 0 0 s u))

/-- Ethernet ports, senders and triggers (R321, R322, R331, R333 to R335): a link lost raises 0x52 + p; a request for the port's address is
answered; a dropped frame is counted; a sender's next packet leaves on the ports with link, the last one lets the grade buffer go; nothing
waits, nothing leaves; a trigger fires at its instant and its pulse ends. PTP (R325 to R330): every message received counts, and one the
clock has no use for does nothing else; a better master is selected in ACQUIRING; a Sync of the master is stamped with the port's latency;
an exchange that completes gives the offset and the delay; the port's queue holds 16 stamps; a slave sends its requests in sequence; a
master lost without a backup starts HOLDOVER and raises 0x54. -/
def Obligations.PortsSendersTriggersAndPtp : Prop :=
  (∀ s : State,
     (∀ p : Fin 2, let x := s.net.ports[p]
       let put := fun y : EthPort => { s with net := { s.net with ports := s.net.ports.set p y } }
       (x.up = true → exec (.netLinkState p false) s =
         .next (post 0x0D80 none 0 (p.val + 2 ^ 12 * x.mode) (raise0 (0x52 + p.val) (put { x with up := false }))))
       ∧ (x.up = false → x.mode ≠ 0 → blockDown s (0x22 + p.val) = false → exec (.netLinkState p true) s =
         .next (post 0x0D80 none 0 (p.val + 2 ^ 8 + 2 ^ 12 * x.mode) (put { x with up := true })))
       ∧ exec (.netLinkState p x.up) s = .next s
       ∧ (∀ target sender mac, (x.up = true → target.toNat = x.addr →
           exec (.arpRequestRx p target sender mac) s = .next (emit (.arp p sender mac) (put { x with sent := bump x.sent })))
         ∧ (target.toNat ≠ x.addr → exec (.arpRequestRx p target sender mac) s = .next s))
       ∧ exec (.ethFrameDropped p) s = .next (put { x with dropped := bump x.dropped }))
     ∧ (∀ i : Fin 24, let x := s.net.senders[i]
       (∀ j rest, x.jobs = j :: rest → j.stream.kind = 1 →
         let send := fun last => sendOn j.stream (fun p => .packet p i last x.seq (videoClock j.time)
           (j.video (inDeadbolt s) x.seq j.next)) s
         (j.next + 1 < j.packets → exec (.streamPacketTx i) s = .next (modSender i (fun y => { y with
           seq := x.seq + 1, jobs := { j with next := j.next + 1 } :: y.jobs.drop 1 }) (send false)))
         ∧ (j.packets ≤ j.next + 1 → exec (.streamPacketTx i) s = .next (modCtx j.ctx (fun c => { c with
           buffers := c.buffers.map fun k =>
             if k.frame.toNat = j.frame then { k with readers := k.readers.erase (.sender i) } else k })
           (modSender i (fun y => { y with seq := x.seq + 1, jobs := y.jobs.drop 1 }) (send true)))))
       ∧ (x.jobs = [] → (x.audio.kind ≠ 2 ∨ x.samples.length < audioPacket x.audio) → exec (.streamPacketTx i) s = .next s))
     ∧ ∀ k : QuadId, let x := s.triggers.tt[k]
       (∀ n, x.prog.on = true → x.next = some n → exec (.timeTriggerFire k) s = .next { s with triggers :=
         { s.triggers with
           firings := bump s.triggers.firings
           tt := s.triggers.tt.set k { x with
             pulse := true, low := x.prog.low, next := if x.prog.period = 0 then none else some (n + x.prog.period) } } })
       ∧ ((x.prog.on = false ∨ x.next = none) → exec (.timeTriggerFire k) s = .next s)
       ∧ exec (.timeTriggerPulseEnd k) s = .next { s with triggers := { s.triggers with
           tt := s.triggers.tt.set k { x with pulse := false } } })
  ∧ (∀ (p : Fin 2) (s : State), let y := s.ptp
       let x := s.net.ports[p]
       let u := { s with net := { s.net with ports := s.net.ports.set p { x with ptpReceived := bump x.ptpReceived } } }
       (∀ a : Announce, ((ptpPort y.cfg p = false ∨ a.domain ≠ y.cfg.domain) → exec (.ptpAnnounceRx p a) s = .next u)
         ∧ (ptpPort y.cfg p = true → a.domain = y.cfg.domain → y.cfg.capable = false → y.master = none → p = y.cfg.primary →
           exec (.ptpAnnounceRx p a) s = .next (setServo .acquiring false { u with ptp := { y with
             heard := y.heard.set p (some (a, nowPs s)), active := p, master := some a, sync := none, responses := []
             good := 0, bad := 0 } })))
       ∧ (∀ m : PtpSync, ((y.cfg.on = false ∨ p ≠ y.active ∨ y.master = none) → exec (.ptpSyncRx p m) s = .next u)
         ∧ (y.cfg.on = true → p = y.active → y.master ≠ none → y.servo ≠ .locked → exec (.ptpSyncRx p m) s =
           .next { u with ptp := { y with sync := some (m.sequence, m.t1, (((m.raw : Int) - x.ingress) * 65536 / 1000).toNat) } }))
       ∧ (∀ q t4, ((y.cfg.on = false ∨ p ≠ y.active ∨ y.master = none) → exec (.ptpDelayRespRx p q t4) s = .next u)
         ∧ (y.cfg.on = true → p = y.active → y.master ≠ none →
           ((y.stamps.find? fun z => z.1 == q) = none → exec (.ptpDelayRespRx p q t4) s =
             .next { u with ptp := { y with responses := y.responses ++ [(q, t4)] } })
           ∧ ∀ t1 t2 t3 n, y.stamps.find? (fun z => z.1 == q) = some (q, t3) → y.sync = some (n, t1, t2) →
             let a : Int := (t2 : Int) - t1
             let b : Int := (t4 : Int) - t3
             let o := (a - b) * 1000 / 2 ^ 17 - x.asymmetry
             exec (.ptpDelayRespRx p q t4) s = .next (servoStep o { u with ptp := { y with
               stamps := y.stamps.erase (q, t3), offset := o, delay := (a + b) / 2 ^ 17 } })))
       ∧ (ptpPort y.cfg p = true → x.up = true →
         exec (.ptpMessageTx p .igmp) s = .next (sendPtp p .igmp 0 0 s)
         ∧ (p = y.active → y.master ≠ none → exec (.ptpMessageTx p .delayReq) s = .next (sendPtp p .delayReq y.sequences.1 0
           { s with ptp := { y with sequences := (y.sequences.1 + 1, y.sequences.2) } })))
       ∧ (x.up = false → ∀ k, exec (.ptpMessageTx p k) s = .next s)
       ∧ (∀ q raw, let put := fun z : EthPort => { s with net := { s.net with ports := s.net.ports.set p z } }
         (x.overflow = true → exec (.txStampCaptured p q raw) s = .next (put { x with stampsLost := bump x.stampsLost }))
         ∧ (x.overflow = false → 16 ≤ x.stamps.length → exec (.txStampCaptured p q raw) s = .next (post 0x0D84 none 0 p.val (put { x with
             overflow := true, stampsLost := bump x.stampsLost, overflows := bump x.overflows })))
         ∧ (x.overflow = false → x.stamps.length < 16 → exec (.txStampCaptured p q raw) s = .next (put { x with
             stamps := x.stamps ++ [(q, (((raw : Int) + x.egress) * 65536 / 1000).toNat)] })))
       ∧ ((y.cfg.on = false ∨ y.master = none) → exec .ptpMasterLost s = .next s)
       ∧ (y.cfg.on = true → y.master ≠ none → y.cfg.backup = none → s.tick.live.source ≠ 3 → exec .ptpMasterLost s =
         .next (raise0 0x54 (setServo .holdover false { s with
           time := { s.time with inc := frozenInc s }
           ptp := { y with master := none, sync := none, responses := [], good := 0, bad := 0 } }))))

/-! ## Audio and position -/

/-- The AUD_ and POS_ commands (16 and 17 commands): AUD_SET_CLOCK, AUD_PORT_CONFIG, POS_CONFIG and POS_CONTROL act at once; AUD_SET_MASK, a
held AUD_START and POS_SET_COMPARE are banked, an AUD_START for a hinge is armed for it or the first one it can reach, one for a time
waits for it; AUD_STOP answers the ports it stops; AUD_GET_STATUS and POS_GET_STATUS answer, and clear when asked. -/
def Obligations.AudioAndPositionCommands : Prop :=
  ∀ (e : Entry) (s : State), let u := takeCommand e.mb s
    let p := argAudio e
    let y := u.audio.ports[p]
    let q := argChannel e
    let c := u.pos[q]
    (Accepts audSetClockSpec e s → (∀ p : QuadId, s.audio.ports[p].running = false) ∧
      Answers (.audSetClock e) s (Completed 0x0E01 e {} s { u with audio := { u.audio with external := arg e 0 1 == 1 } }))
    ∧ (Accepts audPortConfigSpec e s → let k := audioCfgOf e
      Answers (.audPortConfig e) s (Completed 0x0E02 e { detail := audioHz k.rate * k.slots * k.slotWidth } s
        { u with audio := { u.audio with ports := u.audio.ports.set p { y with cfg := some k, tail := 0 } } }))
    ∧ (Accepts audSetMaskSpec e s → Answers (.audSetMask e) s (Banked 0x0E03 e
        [.audioMask p (BitVec.ofNat 16 (arg e 2 2)) (BitVec.ofNat 16 (arg e 4 2))] none 0 0 s u))
    ∧ (Accepts audStartSpec e s → let mask := BitVec.ofNat 4 (arg e 0 1)
      let h := Max.max (arg e 8 8) (reachable u)
      (arg e 1 1 = 1 → Answers (.audStart e) s (Completed 0x0E04 e { detail := Config.openDetail 0x0E04 0 } s
        (forEach (maskPorts e) (fun p => modAud p fun y => { y with
          startAt := some (arg e 8 8 * 1000000000 + arg e 16 4) }) u)))
      ∧ (arg e 1 1 ≠ 1 → holds e = true → Answers (.audStart e) s
        (Banked 0x0E04 e [.audioStart mask] none (Config.openDetail 0x0E04 1) 0 s u))
      ∧ (arg e 1 1 ≠ 1 → holds e = false → Answers (.audStart e) s (Completed 0x0E04 e
        { status := if arg e 8 8 = 0 ∨ arg e 8 8 < reachable u then .okLate else .accepted, frame := h % 2 ^ 48
          detail := Config.openDetail 0x0E04 1 } s (armAt h (nextSeq u.cmd.accepted).toNat [.audioStart mask] u))))
    ∧ (Accepts audStopSpec e s → Answers (.audStop e) s (Completed 0x0E05 e
        { detail := maskOf 4 fun i => (maskPorts e).any fun p => p.val == i && u.audio.ports[p].running } s
        (forEach (maskPorts e) stopPort u)))
    ∧ (Accepts audGetStatusSpec e s →
      let body := image 24 [put 0 1 (audioState y), put 4 4 y.overruns.toNat, put 8 4 y.underruns.toNat, put 12 4 y.losses.toNat,
        put 16 4 y.discarded.toNat, put 20 4 y.measured]
      let y' : AudioPort := { y with overruns := 0, underruns := 0, losses := 0, discarded := 0 }
      Answers (.audGetStatus e) s (Completed 0x0E06 e { detail := audioState y, back := some (8, body) } s
        (if arg e 1 1 = 1 then { u with audio := { u.audio with ports := u.audio.ports.set p y' } } else u)))
    ∧ (Accepts posConfigSpec e s → s.pos[q].on = false ∧ let k := posCfgOf e
      Answers (.posConfig e) s (Completed 0x0F01 e {} s { u with
        pos := u.pos.set q { c with cfg := k, r := reducePos k.modulus c.r, p := reducePos k.modulus c.p } }))
    ∧ (Accepts posControlSpec e s →
      let c' : PosChannel := if arg e 1 1 = 0 then { c with on := false } else if arg e 1 1 = 1 then (if c.on then c else enablePos c)
        else setPos (if c.cfg.modulus = 0 then signed 32 (arg e 4 4) else arg e 4 4) c
      Answers (.posControl e) s (Completed 0x0F02 e { detail := (c'.p % 2 ^ 64).toNat } s { u with pos := u.pos.set q c' }))
    ∧ (Accepts posSetCompareSpec e s → Answers (.posSetCompare e) s (Banked 0x0F03 e [.compare q ⟨arg e 1 1 == 1, arg e 4 4,
        (List.range (arg e 2 2)).map (compareEntry c.cfg e)⟩] none (arg e 2 2) 0 s u))
    ∧ (Accepts posGetStatusSpec e s →
      let body := image 56 [(0, leInt 4 c.p), put 4 4 c.speed.toNat, (8, c.errors.toList.flatMap fun n => leBytes 4 n.toNat),
        put 28 4 c.compares.toNat, put 32 4 c.lost.toNat] ++ slice (c.samples.flatMap PosSample.bytes) 0 8192
      let c' : PosChannel := { c with errors := Vector.replicate 5 0, compares := 0, lost := 0, samples := [] }
      Answers (.posGetStatus e) s (Completed 0x0F04 e { detail := c.samples.length, back := some (8, body) } s
        (if arg e 1 1 = 1 then { u with pos := u.pos.set q c' } else u)))

/-- Audio ports (R343 to R346): a frame of a running port with its clock enters the input FIFO and one leaves on DOUT, silent for a port that
monitors none; the start instant ends the wait for it and reports its offset; a slave without LRCK, or every running port without the
external clock in use, loses its clock, raising 0x55, once; a stopped port takes no frame. Position channels (R352, R355, R358, R360,
R361): an SSI reading sets the position first and is followed then, and a busy sensor is a frame error; a disabled channel only keeps the
levels; a stall clears the speed, and a compare pulse ends alone. A channel's position follows its count with one count of backlash
(R356), without a modulus and within the limits of its words: p moves the whole way up to the count, and down to one above it. -/
def Obligations.AudioPortsAndPositionChannels : Prop :=
  (∀ (p : QuadId) (s : State), let y := s.audio.ports[p]
     (∀ k f, y.cfg = some k → blockDown s (0x50 + p.val) = false → y.running = true → y.awaiting = none → y.lost = false →
       y.overrun = false → fifoFill y < 256 → k.monitor = none → Answers (.audioFrame p f) s fun t =>
         (∃ x, t.audio.ports[p].inFifo = y.inFifo ++ [(false, x)])
         ∧ t.out = .dout p (List.replicate k.slots 0) :: s.out ∧ (∀ q : QuadId, q ≠ p → t.audio.ports[q] = s.audio.ports[q])
         ∧ { t with audio := s.audio, out := s.out } = s)
     ∧ (y.cfg = none ∨ blockDown s (0x50 + p.val) = true ∨ (y.running = false ∧ y.tail = 0) →
       ∀ f, exec (.audioFrame p f) s = .next s)
     ∧ (∀ v n, y.startAt = none → y.awaiting = some v → exec (.audioStartInstant p n) s = .next (post 0x0E81 none 0 (p.val + 2 ^ 8 * n)
         { s with audio := { s.audio with ports := s.audio.ports.set p { y with awaiting := none, startAt := none, started := v + n } } }))
     ∧ (y.startAt = none → y.awaiting = none → ∀ n, exec (.audioStartInstant p n) s = .next s)
     ∧ (let lose := fun (q : QuadId) (t : State) => post 0x0E80 none 0 (q.val + 2 ^ 8) (raise0 0x55 (modAud q (fun z => { z with
           lost := true, goodFrames := 0, lastFrame := none, inFade := disrupt z.inLast z.inFade, losses := bump z.losses
           synthAt := nowPs s }) t))
       (∀ k, y.cfg = some k → k.slave = true → y.running = true → y.lost = false → exec (.audClockLost p) s = .next (lose p s))
       ∧ (∀ k, y.cfg = some k → (k.slave = false ∨ y.running = false ∨ y.lost = true) → exec (.audClockLost p) s = .next s)
       ∧ (s.audio.external = true → y.running = true → y.lost = false → (∀ q : QuadId, q ≠ p → s.audio.ports[q].running = false) →
         exec .audMclkLost s = .next (lose p s))
       ∧ (s.audio.external = false → exec .audMclkLost s = .next s)))
  ∧ (∀ (q : QuadId) (s : State), let c := s.pos[q]
       let put := fun x : PosChannel => { s with pos := s.pos.set q x }
       (blockDown s (0x54 + q.val) = false →
         (c.on = false → ∀ a b z, exec (.posTransition q a b z) s = .next (put { c with pins := (a, b, z) }))
         ∧ (c.on = true → c.cfg.mode = 3 → ∀ x : BitVec 32, let v := x.toNat % 2 ^ c.cfg.bits
           let r : Int := (if c.cfg.gray then fromGray v else v : Nat)
           exec (.ssiPoll q true x) s = .next (posError q 4 (timeNow s) s)
           ∧ (c.read = false → exec (.ssiPoll q false x) s = .next (put { c with
               r := reducePos c.cfg.modulus r, p := reducePos c.cfg.modulus r, read := true, stamp := timeNow s }))
           ∧ (c.read = true → exec (.ssiPoll q false x) s = .next (follow q r (timeNow s) s))))
       ∧ (c.on = false ∨ c.cfg.mode ≠ 3 → ∀ b x, exec (.ssiPoll q b x) s = .next s)
       ∧ (c.on = true → exec (.posStall q) s = .next (put { c with speed := 0 }))
       ∧ (c.on = false → exec (.posStall q) s = .next s)
       ∧ exec (.comparePulseEnd q) s = .next (put { c with pulse := false }))
  ∧ (∀ (q : QuadId) (r : Int) (stamp : Nat) (s : State), let c := s.pos[q]
       c.cfg.modulus = 0 → - 2 ^ 31 ≤ r → r < 2 ^ 31 → - 2 ^ 31 ≤ c.p → c.p < 2 ^ 31 →
       let t := follow q r stamp s
       t.pos[q].r = r ∧ (c.p < r → t.pos[q].p = r) ∧ (r ≤ c.p → c.p ≤ r + 1 → t.pos[q].p = c.p ∧ t.pos[q].speed = c.speed)
         ∧ (r + 1 < c.p → t.pos[q].p = r + 1) ∧ ∀ x : QuadId, x ≠ q → t.pos[x] = s.pos[x])

/-- Quadrature and Hall codes (R353, R354). The code (A, B) stepping 00, 01, 11, 10, 00 counts one positive, the reverse negative, and the
direction flag exchanges the two; both changing is a phase error, which leaves the raw position and is reported, kind 1. A step between
adjacent places of 1, 3, 2, 6, 4, 5, 1 counts one; one of two or three places is a jump: the position holds, the new code is the
reference, and kind 3 is reported; 0 and 7 hold the position and the last valid code, and are reported, kind 2, at each entry; the last
valid code again counts nothing. -/
def Obligations.QuadratureAndHallCodesCount : Prop :=
  ∀ (q : QuadId) (s : State), let c := s.pos[q]
    c.on = true → blockDown s (0x54 + q.val) = false → ∀ a b z : Bool,
    let stamp := timeNow s - 10 * (c.cfg.filter + 1)
    let sign : Int := if c.cfg.invert then -1 else 1
    let put := fun x : PosChannel => { s with pos := s.pos.set q x }
    let counts := fun (n : Int) (t : State) => t.pos[q].r = reducePos c.cfg.modulus (c.r + n)
    (c.cfg.mode = 1 → (z && !c.pins.2.2 && bit a + 2 * bit b == c.cfg.gate) = false →
      let forward := fun v w : Bool × Bool => (v, w) ∈ [((false, false), (false, true)), ((false, true), (true, true)),
        ((true, true), (true, false)), ((true, false), (false, false))]
      (forward (c.pins.1, c.pins.2.1) (a, b) → Answers (.posTransition q a b z) s (counts sign))
      ∧ (forward (a, b) (c.pins.1, c.pins.2.1) → Answers (.posTransition q a b z) s (counts (-sign)))
      ∧ (a ≠ c.pins.1 → b ≠ c.pins.2.1 → Answers (.posTransition q a b z) s fun t =>
        t = posError q 1 stamp (put { c with pins := (a, b, z) }) ∧ t.pos[q].r = c.r))
    ∧ (c.cfg.mode = 2 → let n := 4 * bit a + 2 * bit b + bit z
      let forward := fun v w : Nat => (v, w) ∈ [(1, 3), (3, 2), (2, 6), (6, 4), (4, 5), (5, 1)]
      ((n = 0 ∨ n = 7) → Answers (.posTransition q a b z) s fun t =>
        t = posError q 2 stamp (put { c with pins := (a, b, z) }) ∧ t.pos[q].r = c.r ∧ t.pos[q].hall = c.hall)
      ∧ ∀ m, c.hall = some m → 1 ≤ m → m ≤ 6 → n ≠ 0 → n ≠ 7 →
        (forward m n → Answers (.posTransition q a b z) s fun t => counts sign t ∧ t.pos[q].hall = some n)
        ∧ (forward n m → Answers (.posTransition q a b z) s fun t => counts (-sign) t ∧ t.pos[q].hall = some n)
        ∧ (n = m → exec (.posTransition q a b z) s = .next (put { c with pins := (a, b, z) }))
        ∧ (n ≠ m → ¬ forward m n → ¬ forward n m → Answers (.posTransition q a b z) s fun t =>
          t = posError q 3 stamp (put { c with pins := (a, b, z), hall := some n }) ∧ t.pos[q].r = c.r ∧ t.pos[q].hall = some n))

/-! ## Hasp -/

/-- The HASP_ commands (18 commands): HASP_PORT_CONFIG enables a port or turns it off; HASP_GET_STATUS and HASP_READ_EVENTS answer, the first
clearing counters when asked, the second emptying the relay ring; HASP_SET_SPLIT is armed or held and told to the workers it concerns;
HASP_FORWARD sends the command and stays in execution; HASP_ARM asks every worker named and stays in execution, or, with none, ends in the
same step. -/
def Obligations.HaspCommands : Prop :=
  ∀ (e : Entry) (s : State), let u := takeCommand e.mb s
    let x := u.hasp
    let p : Fin 2 := ⟨arg e 0 1 % 2, Nat.mod_lt _ (by decide)⟩
    let w : Fin 8 := ⟨arg e 0 1 % 8, Nat.mod_lt _ (by decide)⟩
    (Accepts haspPortConfigSpec e s →
      let y : HaspPort := { x.ports[p] with enabled := arg e 1 1 == 1, asymmetry := signed 32 (arg e 4 4) }
      let put := fun y : HaspPort => { u with hasp := { x with ports := x.ports.set p y } }
      (arg e 1 1 = 1 → Answers (.haspPortConfig e) s (Completed 0x1001 e {} s (put y)))
      ∧ (arg e 1 1 = 0 → x.ports[p].state ≠ .up → Answers (.haspPortConfig e) s (Completed 0x1001 e {} s
        (put { y with state := .off, failed := false, neighbour := none })))
      ∧ (arg e 1 1 = 0 → x.ports[p].state = .up → Answers (.haspPortConfig e) s (Completed 0x1001 e {} s
        (modLink p (fun x => { x with state := .off, failed := false, neighbour := none }) (postLink p (put { y with state := .off }))))))
    ∧ (Accepts haspGetStatusSpec e s →
      let port := fun p : Fin 2 => image 8 [put 0 1 x.ports[p].state.code, put 1 1 (x.ports[p].neighbour.getD 0xFF),
        (4, leInt 4 x.ports[p].hop)]
      let body := port 0 ++ port 1 ++ image 40 [put 0 4 x.crcFailures.toNat, put 4 4 x.resends.toNat, put 8 4 x.missed.toNat,
        put 12 4 x.lead, put 16 1 (bit ((upPorts u).length == 2))]
      Answers (.haspGetStatus e) s (Completed 0x1002 e { detail := joinedMask u, back := some (8, body) } s
        (if arg e 0 1 = 1 then { u with hasp := { x with crcFailures := 0, resends := 0, missed := 0 } } else u)))
    ∧ (Accepts haspForwardSpec e s → s.hasp.workers[w].forward = none ∧ exec (.haspForward e) s =
        .next (inExecution 0x1003 e none s (sendParts 6 w.val 0 0 ((payload e).drop 8)
          { u with hasp := { x with workers := x.workers.set w { x.workers[w] with forward := some { entry := e } } } })))
    ∧ (Accepts haspArmSpec e s →
      let mask := arg e 0 1
      let target := if arg e 8 8 = 0 then meetable u 0 else arg e 8 8
      let named := (List.finRange 8).filter fun w => w.val != 0 && mask.testBit w.val
      let a : ArmRun := ⟨e.mb, mask, target, x.armId + 1, named⟩
      let t := inExecution 0x1004 e none s (forEach named (fun w => sendHasp 6 w.val target (3 + 2 ^ 32 * a.id) [])
        { u with hasp := { x with armId := a.id, arm := some a } })
      (named ≠ [] → exec (.haspArm e) s = .next t) ∧ (named = [] → exec (.haspArm e) s = .next (finishArm a t)))
    ∧ (Accepts haspSetSplitSpec e s →
      let k := splitOf (payload e)
      let was := match (shadow u (argCtx e)).split with | some k => bandWorkers k | none => []
      let now := match k with | some k => bandWorkers k | none => []
      Answers (.haspSetSplit e) s (Banked 0x1005 e [.split (argCtx e) k] (some (argCtx e)) (Config.openDetail 0x1005 1) 0 s
        (forEach (was ++ now).eraseDups (fun w => sendHasp 6 w 0 6 (payload e)) u)))
    ∧ (Accepts haspReadEventsSpec e s → let y := x.workers[w]
      Answers (.haspReadEvents e) s (Completed 0x1006 e
        { detail := y.relay.length, back := some (4, leBytes 4 y.lost.toNat ++ y.relay.flatMap EventEntry.bytes) } s
        { u with hasp := { x with workers := x.workers.set w { y with relay := [] } } }))

/-- Links and messages (R364 to R371): an enabled port of a chain goes from state to state, to UP with the hop delay, refuses its own index,
falls back to TRAIN when its state times out and trains again at the retry timer; a calibration measures the hop anew; the manager's
broadcast leaves every UP port; a worker that has joined places the hinge of a broadcast once; a bad message is counted, one for another
package goes on. Workers and the manager (R372 to R374, R380, R381, HASP_FORWARD, HASP_ARM): a worker's completion ends the forwarded
command with the same status, frame, context and detail, its payload at offset 72; unanswered, it ends with TIMEOUT; the last confirmation
ends HASP_ARM, an earlier one only counts; a heartbeat is kept and lets a worker join; a lost worker has not joined any more, and a lost
manager puts the worker in holdover with cause 5. -/
def Obligations.HaspLinksWorkersAndManager : Prop :=
  (∀ (p : Fin 2) (s : State), let x := s.hasp.ports[p]
     let q : Fin 2 := if p = 0 then 1 else 0
     let put := fun y : HaspPort => { s with hasp := { s.hasp with ports := s.hasp.ports.set p y } }
     (x.enabled = true → x.failed = false → blockDown s (0x60 + p.val) = false → ∀ (n : Fin 8) hop,
       (x.state = .off → standalone s = false → exec (.haspLinkAdvance p n hop) s = .next (put { x with state := .train }))
       ∧ (x.state = .train → exec (.haspLinkAdvance p n hop) s = .next (put { x with state := .align }))
       ∧ (x.state = .align → n.val ≠ ownPackage s →
         exec (.haspLinkAdvance p n hop) s = .next (put { x with state := .calibrate, neighbour := some n.val }))
       ∧ (x.state = .align → n.val = ownPackage s → exec (.haspLinkAdvance p n hop) s =
         .next (post 0x1081 none 0 (n.val + 2 ^ 8 + 2 ^ 16 * 3) (put { x with state := .train, failed := true })))
       ∧ (x.state = .calibrate → exec (.haspLinkAdvance p n hop) s = .next (post 0x1080 none 0
           (p.val + 2 ^ 8 * 4 + 2 ^ 16 * x.neighbour.getD 0xFF) (put { x with state := .up, hop := hop }))))
     ∧ (x.enabled = false ∨ x.failed = true → ∀ n hop, exec (.haspLinkAdvance p n hop) s = .next s)
     ∧ (x.failed = false → x.state ≠ .off → x.state ≠ .up →
       exec (.haspStateTimeout p) s = .next (put { x with state := .train, failed := true }))
     ∧ (x.failed = true → exec (.haspStateTimeout p) s = .next s)
     ∧ exec (.haspRetryTimer p) s = .next (put { x with failed := false })
     ∧ (∀ a b : Nat, (x.state = .up → exec (.haspCalibration p a b) s = .next (put { x with hop := ((a : Int) - b) / 2 + x.asymmetry }))
       ∧ (x.state = .off → exec (.haspCalibration p a b) s = .next s))
     ∧ (isManager s = true → s.tick.running = true → exec .hingeBroadcastTx s =
       .next { s with out := (upPorts s).reverse.map (fun p => .broadcast p (nextBroadcast s)) ++ s.out })
     ∧ (isManager s = false → exec .hingeBroadcastTx s = .next s)
     ∧ (∀ b : Broadcast, let lead := ((b.lead : Int) - x.hop).toNat
       ((isWorker s = false ∨ x.state ≠ .up ∨ ∃ o, s.hasp.broadcast = some o ∧ o.tick = b.tick) →
         exec (.hingeBroadcastRx p b) s = .next s)
       ∧ (isWorker s = true → x.state = .up → s.hasp.broadcast.map Broadcast.tick ≠ some b.tick → s.hasp.joined = true →
         s.hasp.ports[q].state ≠ .up → exec (.hingeBroadcastRx p b) s =
           .next (forEach b.doorbells doorbellWrite (applyCommit b (placeHinge (nowPs s + lead)
             (setManager (if b.deadbolt then 2 else 0) (modHasp (fun h => { h with
               broadcast := some b, lead := lead, managerHeld := b.holdover }) (slew { s with free := s.free + 1 })))))))
       ∧ (isWorker s = true → x.state = .up → s.hasp.broadcast = none → s.hasp.joined = false → s.boot.step = .joining →
         lead < 1500000 → exec (.hingeBroadcastRx p b) s = .next (post 0x1081 none 0 (ownPackage s + 2 ^ 8 + 2 ^ 16 * 4) s)))
     ∧ ∀ m : HaspMessage, (x.state ≠ .up → exec (.haspMessageRx p m) s = .next s)
       ∧ (x.state = .up → (m.headerOk && m.payloadOk) = false → exec (.haspMessageRx p m) s = .next { s with hasp := { s.hasp with
           crcFailures := bump s.hasp.crcFailures
           resends := if m.headerOk && 3 ≤ m.cls && m.cls ≤ 6 then bump s.hasp.resends else s.hasp.resends } })
       ∧ (x.state = .up → m.headerOk = true → m.payloadOk = true →
         (m.dest ≠ ownPackage s → m.dest ≠ 0xFF → s.hasp.ports[q].state = .up →
           exec (.haspMessageRx p m) s = .next { s with out := .hasp q m :: s.out })
         ∧ (m.dest = ownPackage s → (m.cls = 4 ∨ m.cls = 5) → s.hasp.workers[(⟨m.source % 8, Nat.mod_lt _ (by decide)⟩ : Fin 8)].barred = false → let d := m.classData.toNat
           exec (.haspMessageRx p m) s = .next { s with hasp := { s.hasp with parts := s.hasp.parts ++
             [⟨⟨d % 8, Nat.mod_lt _ (by decide)⟩, m.tick, m.source, m.cls, (d / 2 ^ 8 % 2 ^ 8, d / 2 ^ 16 % 2 ^ 16, d / 2 ^ 32), m.payload⟩] } })
         ∧ (m.dest = ownPackage s → m.cls = 6 → isWorker s = true → m.classData.toNat % 2 ^ 8 = 0 →
           exec (.haspMessageRx p m) s = .next (deliverForward m.payload s))))
  ∧ (∀ (w : Fin 8) (s : State), let y := s.hasp.workers[w]
       let put := fun y : Worker => { s with hasp := { s.hasp with workers := s.hasp.workers.set w y } }
       (y.forward = none → (∀ x, exec (.haspForwardCompletion w x) s = .next s) ∧ exec (.haspForwardTimeout w) s = .next s)
       ∧ (∀ f, y.forward = some f → f.timedOut = false →
         exec (.haspForwardTimeout w) s = .next (endExecution f.entry.mb { status := .timeout, detail := Config.openDetail 0x1003 0x800C }
           (put { y with forward := some { f with timedOut := true } }))
         ∧ ∀ x, x.payload = [] → exec (.haspForwardCompletion w x) s = .next (endExecution f.entry.mb
             { status := statusOf x.status, detail := x.detail.toNat, frame := x.frame.toNat, ctx := x.ctx }
             (modMb f.entry.mb (fun b => { b with executing := b.executing.map fun y => { y with ctx := x.ctx } })
               (put { y with forward := none, held := y.held + heldBy f.entry x }))))
       ∧ (∀ f, y.forward = some f → f.timedOut = true → exec (.haspForwardTimeout w) s = .next s
         ∧ ∀ x, exec (.haspForwardCompletion w x) s = .next (post 0x1082 none 0 (w.val + 2 ^ 8 * y.added)
             (put { y with forward := none, held := y.held + heldBy f.entry x })))
       ∧ (∀ a, s.hasp.arm = some a → w ∈ a.waiting → let a' := { a with waiting := a.waiting.erase w }
         let t := { s with hasp := { s.hasp with arm := some a' } }
         (a'.waiting ≠ [] → exec (.haspArmConfirm w) s = .next t) ∧ (a'.waiting = [] → exec (.haspArmConfirm w) s = .next (finishArm a' t)))
       ∧ ((∀ a, s.hasp.arm = some a → w ∉ a.waiting) → exec (.haspArmConfirm w) s = .next s)
       ∧ (isManager s = true → w ≠ 0 → ∀ b : Heartbeat, b.deadbolt = false → b.commitMissed = false →
         (y.joined = true → exec (.haspHeartbeatRx w b) s = .next (put { y with beat := some b }))
         ∧ (y.joined = false → exec (.haspHeartbeatRx w b) s = .next (post 0x1081 none 0 w.val (put { y with beat := some b, joined := true }))))
       ∧ (isManager s = false → (∀ b, exec (.haspHeartbeatRx w b) s = .next s) ∧ exec (.haspWorkerLost w) s = .next s)
       ∧ (isManager s = true → y.joined = true → y.forward = none → s.hasp.arm = none → exec (.haspWorkerLost w) s =
         .next (post 0x1081 none 0 (w.val + 2 ^ 8) (put { y with joined := false, forward := none, held := 0, barred := true })))
       ∧ (isManager s = true → y.joined = false → exec (.haspWorkerLost w) s = .next s)
       ∧ (isWorker s = true → exec .haspManagerLost s = .next (setManager 1 (enterHoldover 5 s)))
       ∧ (isWorker s = false → exec .haspManagerLost s = .next s))

/-! ## Security and power -/

/-- The SEC_ commands (21 commands): the certificate is answered whole; an attestation is queued with the next leaf, which the detail gives;
an image write, a choice of slot and an advance of the floor, with its header record, begin, each a background command; SEC_GET_STATUS
answers. Flash, fuses and the engine (R385, R423, R426, R427, R435): an image write ends with the slot holding the image, and the header
record when it is to be preferred, or erased with source 0x0F; a choice of slot ends with its header record, or AUTH_FAIL and the result;
a fuse burnt raises the floor by one, and at the target the advance ends with its event; the engine's fault raises 0x0C and, with no
signature running and no action, leaves it up; its self-check brings it back. -/
def Obligations.SecurityFlashAndFuses : Prop :=
  (∀ (e : Entry) (s : State), let u := takeCommand e.mb s
     let x := u.sec
     (Accepts secGetCertificateSpec e s → Answers (.secGetCertificate e) s
       (Completed 0x1201 e { back := some (0, certificate u) } s u))
     ∧ (Accepts secAttestSpec e s → s.sec.disabled = false ∧ s.sec.nextLeaf < 2 ^ 40 ∧
       let a := Signature.attestation e.mb e.tag (entryLoc e) e.loc.toNat (slice (payload e) 8 32) x.nextLeaf
       Answers (.secAttest e) s (Begun 0x1202 e none x.nextLeaf s
         (startSigning { u with sec := { x with queue := x.queue ++ [a], nextLeaf := x.nextLeaf + 1 } })))
     ∧ (Accepts secImageWriteSpec e s → arg e 0 1 ≠ s.sec.running ∧ Answers (.secImageWrite e) s
       (Begun 0x1203 e none (Config.openDetail 0x1203 0) s { u with sec := { x with
         writes := x.writes ++ [⟨e.mb, e.tag, arg e 0 1, arg e 1 1 == 1, imageArg e 4⟩] } }))
     ∧ (Accepts secSetPreferredSpec e s → Answers (.secSetPreferred e) s (Begun 0x1204 e none (Config.openDetail 0x1204 0) s
         { u with sec := { x with choosing := x.choosing ++ [(e.mb, e.tag, arg e 0 1)] } }))
     ∧ (Accepts secRollbackAdvanceSpec e s → s.sec.advancing = none ∧ Answers (.secRollbackAdvance e) s
       (Begun 0x1205 e none (fuseFloor u) s (modSec (fun x => { x with advancing := some (e.mb, e.tag, arg e 0 1, fuseFloor u) })
         (writeHeader x.preferred (arg e 0 1) u))))
     ∧ (Accepts secGetStatusSpec e s →
       let body := image 64 [put 0 1 x.running, put 1 1 x.preferred, put 2 1 (fuseFloor u), put 3 1 x.pending, put 4 2 u.boot.slotA,
         put 6 2 u.boot.slotB, put 8 1 (bit (makerHash u != 0) + 2 * bit x.disabled), put 16 8 x.nextLeaf, put 24 8 x.leafSeq,
         put 32 4 x.made.toNat, put 36 4 (x.queue.filter fun y => !y.isSeal).length]
       Answers (.secGetStatus e) s (Completed 0x1206 e { detail := fuseFloor u, back := some (0, body) } s u)))
  ∧ (∀ s : State,
       (s.sec.writes = [] → ∀ ok, exec (.imageWriteDone ok) s = .next s)
       ∧ (∀ w rest, s.sec.writes = w :: rest → let t := eraseFlash (slotAt w.slot) 0x02000000 { s with sec := { s.sec with writes := rest } }
         exec (.imageWriteDone false) s = .next (endBackground w.mb 0x1203 w.tag .hwFault 0x0F (raise0 0x0F t))
         ∧ (w.prefer = false → exec (.imageWriteDone true) s = .next (endBackground w.mb 0x1203 w.tag .ok 0 (writeFlash (slotAt w.slot) w.image t)))
         ∧ (w.prefer = true → exec (.imageWriteDone true) s = .next (endBackground w.mb 0x1203 w.tag .ok 0
           (writeHeader w.slot s.sec.pending (writeFlash (slotAt w.slot) w.image t)))))
       ∧ (s.sec.choosing = [] → ∀ n, exec (.setPreferredDone n) s = .next s)
       ∧ (∀ m tag slot rest, s.sec.choosing = (m, tag, slot) :: rest → let t := { s with sec := { s.sec with choosing := rest } }
         exec (.setPreferredDone 1) s = .next (endBackground m 0x1204 tag .ok 0 (writeHeader slot s.sec.pending t))
         ∧ ∀ n, n ≠ 1 → exec (.setPreferredDone n) s = .next (endBackground m 0x1204 tag .authFail n t))
       ∧ (s.sec.advancing = none → ∀ ok, exec (.fuseBurnDone ok) s = .next s)
       ∧ (∀ m tag target before f, s.sec.advancing = some (m, tag, target, before) → s.boot.fuses = some f →
         let t := { s with boot := { s.boot with fuses := some { f with floor := f.floor + 1 } } }
         exec (.fuseBurnDone false) s = .next (endBackground m 0x1205 tag .hwFault 0 { s with sec := { s.sec with advancing := none } })
         ∧ (f.floor + 1 < target → exec (.fuseBurnDone true) s = .next t)
         ∧ (target ≤ f.floor + 1 → exec (.fuseBurnDone true) s = .next (endBackground m 0x1205 tag .ok 0
           (post 0x1280 none 0 (f.floor + 1 + 2 ^ 8 * before) (writeHeader s.sec.preferred 0 { t with sec := { s.sec with advancing := none } })))))
       ∧ (s.sec.signing = none → s.collector.acting.contains 0x0C = true →
         exec .securityEngineFault s = .next (startSigning (raise0 0x0C s)))
       ∧ (s.sec.down = false → ∀ ok, exec (.securitySelfCheckDone ok) s = .next s)
       ∧ (s.sec.down = true → let t := { s with collector := { s.collector with acting := s.collector.acting.filter fun a => a != 0x0C } }
         exec (.securitySelfCheckDone true) s = .next (startSigning { t with sec := { s.sec with down := false } })
         ∧ exec (.securitySelfCheckDone false) s = .next (raise0 0x0C t)))

/-- The PWR_ and THM_ commands (22 commands): PWR_SET_DOMAIN is armed or held with the wake time as detail; PWR_SET_CLOCK, which arms the
flags, answers the clock before; PWR_SET_CEILING answers the estimate; THM_SET_THRESHOLDS sets W1 and W2; PWR_GET_STATUS and
THM_GET_STATUS answer, the second clearing crossings and peak when asked. Power and temperature at work (R436, R437, R440, R441, R443): a
woken domain reports ON, the time base's with the counter at 0; a stack's, and one that does not wake, stay; a sample is taken while
Kongaord runs, keeping the highest maximum; a threshold reached from below is crossed, with its source and vector 20, and cleared 2 °C
below it; above 150 °C or below −40 °C a reading is invalid; the trip sets its latch and switches off the domains R442 names, once. -/
def Obligations.PowerAndTemperature : Prop :=
  (∀ (e : Entry) (s : State), let u := takeCommand e.mb s
     let x := u.thermal
     (Accepts pwrSetDomainSpec e s → Answers (.pwrSetDomain e) s (Banked 0x1301 e [.domain (argDomain e) (arg e 1 1)] none
         (if arg e 1 1 = 1 then wakeTime u (argDomain e) else 0) 0 s u))
     ∧ (Accepts pwrSetClockSpec e s → Answers (.pwrSetClock e) s (Flagged 0x1302 e { detail := u.power.clocks[argDie e] } s
         { u with power := { u.power with clocks := u.power.clocks.set (argDie e) (arg e 2 2) } }))
     ∧ (Accepts pwrSetCeilingSpec e s → Answers (.pwrSetCeiling e) s (Completed 0x1303 e { detail := estimate (withArmed u) } s
         { u with power := { u.power with ceiling := arg e 0 4 } }))
     ∧ (Accepts pwrGetStatusSpec e s → let q := withArmed u
       let body := image 64 [(0, ((List.finRange 25).drop 1).map fun d => BitVec.ofNat 8 (domainCode u d)), put 24 2 u.power.clocks[0],
         put 26 2 u.power.clocks[1], put 28 4 u.power.ceiling, put 32 4 (estimate q), put 36 4 (estimate (projected u)),
         put 40 4 (ceilDiv (allTraffic q once) (1000000 * nano))]
       Answers (.pwrGetStatus e) s (Completed 0x1304 e { detail := estimate q, back := some (0, body) } s u))
     ∧ (Accepts thmSetThresholdsSpec e s → Answers (.thmSetThresholds e) s (Completed 0x1305 e {} s
         { u with thermal := { x with w1 := arg e 0 1, w2 := arg e 1 1 } }))
     ∧ (Accepts thmGetStatusSpec e s → Answers (.thmGetStatus e) s (Completed 0x1306 e
         { detail := (maxTemp u % 2 ^ 64).toNat, back := some (8, thermalStatus u) } s
         (if arg e 0 1 = 1 then { u with thermal := { x with crossings := Vector.replicate 3 0, peak := none } } else u))))
  ∧ (∀ s : State,
       (∀ d : Fin 25, (s.power.domains[d] ≠ .waking → exec (.domainWakeDone d) s = .next s)
         ∧ (8 ≤ d.val → d.val ≤ 11 → exec (.domainWakeDone d) s = .next s)
         ∧ (s.power.domains[d] = .waking → (d.val < 8 ∨ 11 < d.val) → d ≠ 23 → exec (.domainWakeDone d) s =
           .next (post 0x1380 none 0 (d.val + 2 ^ 8 * DomainState.on.code)
             { s with power := { s.power with domains := s.power.domains.set d .on } }))
         ∧ (s.power.domains[d] = .waking → d = 23 → Answers (.domainWakeDone d) s fun t =>
           t.time.now = 0 ∧ t.time.inc = 0x200000000 ∧ t.power.domains[d] = .on))
       ∧ (∀ l, s.kongaord = false → exec (.thermalSample l) s = .next s)
       ∧ (∀ l, s.kongaord = true → l.length = 14 → (∀ v ∈ l, -320 ≤ v ∧ v ≤ 1200) → Answers (.thermalSample l) s fun t =>
         (∀ i : Fin 14, some t.thermal.readings[i] = (l[i.val]?).map some) ∧ t.thermal.invalid = [])
       ∧ (∀ (k : Fin 3) v i, let th : Int := 8 * ((thresholds s.thermal).getD k.val 105 : Nat)
         (s.thermal.crossed[k] = false → v < th → thresholdStep k v i s = s)
         ∧ (s.thermal.crossed[k] = true → th - 16 < v → thresholdStep k v i s = s)
         ∧ (s.thermal.crossed[k] = false → th ≤ v → (thresholdStep k v i s).thermal.crossed[k] = true
           ∧ (thresholdStep k v i s).thermal.crossings[k] = bump s.thermal.crossings[k])
         ∧ (s.thermal.crossed[k] = true → v ≤ th - 16 → (thresholdStep k v i s).thermal.crossed[k] = false
           ∧ (thresholdStep k v i s).thermal.crossings[k] = s.thermal.crossings[k]))
       ∧ (s.boot.thermalLatch = true → exec .thermalTrip s = .next s)
       ∧ (s.boot.thermalLatch = false → Answers .thermalTrip s fun t =>
         t.boot.thermalLatch = true ∧ ∀ d ∈ trippedDomains, t.power.domains[d] = .off))
end

