-- ==== Sys2Proof/Laws/Memory.lean ====
section
/-!
SUPPORT. Memory laws: a write keeps the canonical form, a read after a write gives the value written, and a write leaves every
other address alone.
-/

namespace Sys2Proof.Machine

theorem cellsAbove_mono {lo hi : Nat} (h : lo ≤ hi) : ∀ m, cellsAbove (some hi) m = true → cellsAbove (some lo) m = true
  | [], _ => rfl
  | (a, v) :: rest, hm => by
    simp only [cellsAbove, Bool.and_eq_true, decide_eq_true_eq] at hm ⊢
    exact ⟨⟨by omega, hm.1.2⟩, hm.2⟩

theorem cellsAbove_none {lo : Nat} : ∀ m : List Host.Cell, cellsAbove (some lo) m = true → cellsAbove none m = true
  | [], _ => rfl
  | (a, v) :: rest, hm => by
    simp only [cellsAbove, Bool.and_eq_true, decide_eq_true_eq] at hm ⊢
    exact ⟨⟨trivial, hm.1.2⟩, hm.2⟩

theorem writeCell_above (a : Nat) (v : Byte) : ∀ (m : List Host.Cell) (lo : Option Nat), (∀ l, lo = some l → l < a) →
    cellsAbove lo m = true → cellsAbove lo (writeCell m a v) = true
  | [], lo, hl, _ => by
    unfold writeCell
    split
    · rfl
    · rename_i hv
      replace hv : ¬v = 0#8 := hv
      cases lo with
      | none => simp [cellsAbove, hv]
      | some l => simp [cellsAbove, hv, hl l rfl]
  | (b, w) :: rest, lo, hl, hm => by
    have hm' := hm
    simp only [cellsAbove, Bool.and_eq_true, decide_eq_true_eq] at hm
    obtain ⟨⟨h1, h2⟩, h3⟩ := hm
    unfold writeCell
    split
    · rename_i hab
      split
      · exact hm'
      · rename_i hv
        replace hv : ¬v = 0#8 := hv
        replace h2 : ¬w = 0#8 := h2
        cases lo with
        | none => simp [cellsAbove, hv, h2, h3, hab]
        | some l => simp [cellsAbove, hv, h2, h3, hab, hl l rfl]
    · split
      · rename_i hab hb
        subst hb
        split
        · cases lo with
          | none => exact cellsAbove_none rest h3
          | some l => exact cellsAbove_mono (Nat.le_of_lt (by simpa using h1)) rest h3
        · rename_i hv
          simp only [cellsAbove, Bool.and_eq_true, decide_eq_true_eq]
          exact ⟨⟨h1, hv⟩, h3⟩
      · rename_i hab hb
        have := writeCell_above a v rest (some b) (by intro l hl'; cases hl'; omega) h3
        simp only [cellsAbove, Bool.and_eq_true, decide_eq_true_eq]
        exact ⟨⟨h1, h2⟩, this⟩

/-- Writing a byte keeps the canonical form. -/
theorem writeCell_wf {m : List Host.Cell} (a : Nat) (v : Byte) (h : Memory.wf m = true) : Memory.wf (writeCell m a v) = true :=
  writeCell_above a v m none (by simp) h

/-- Writing bytes keeps the canonical form. -/
theorem writeCells_wf : ∀ (bs : List Byte) (m : List Host.Cell) (a : Nat), Memory.wf m = true →
    Memory.wf (writeCells m a bs) = true
  | [], _, _, h => h
  | v :: vs, m, a, h => writeCells_wf vs _ _ (writeCell_wf a v h)

theorem filter_above (p : Host.Cell → Bool) : ∀ (m : List Host.Cell) (lo : Option Nat), cellsAbove lo m = true →
    cellsAbove lo (m.filter p) = true
  | [], _, _ => rfl
  | (b, w) :: rest, lo, hm => by
    simp only [cellsAbove, Bool.and_eq_true, decide_eq_true_eq] at hm
    obtain ⟨⟨h1, h2⟩, h3⟩ := hm
    rw [List.filter_cons]
    split
    · simp only [cellsAbove, Bool.and_eq_true, decide_eq_true_eq]
      exact ⟨⟨h1, h2⟩, filter_above p rest _ h3⟩
    · cases lo with
      | none => exact cellsAbove_none _ (filter_above p rest _ h3)
      | some l => exact cellsAbove_mono (Nat.le_of_lt (by simpa using h1)) _ (filter_above p rest _ h3)

/-- Dropping bytes keeps the canonical form. -/
theorem filter_wf {m : List Host.Cell} (p : Host.Cell → Bool) (h : Memory.wf m = true) : Memory.wf (m.filter p) = true :=
  filter_above p m none h

theorem readCell_above {a : Nat} : ∀ (m : List Host.Cell) (b : Nat), a ≤ b → cellsAbove (some b) m = true → readCell m a = 0
  | [], _, _, _ => rfl
  | (c, _) :: rest, b, hab, hm => by
    simp only [cellsAbove, Bool.and_eq_true, decide_eq_true_eq] at hm
    have hc : c ≠ a := by omega
    have hac : a ≤ c := by omega
    rw [readCell, if_neg hc]
    exact readCell_above rest c hac hm.2

theorem readCell_writeCell_above (a c : Nat) (v : Byte) : ∀ (m : List Host.Cell) (lo : Option Nat),
    cellsAbove lo m = true → readCell (writeCell m a v) c = if c = a then v else readCell m c
  | [], lo, _ => by
    unfold writeCell
    by_cases hv : v = 0#8
    · by_cases hc : c = a <;> simp [hv, readCell, hc]
    · by_cases hc : c = a
      · simp [hv, readCell, hc]
      · have : ¬a = c := fun h => hc h.symm
        simp [hv, readCell, hc, this]
  | (b, w) :: rest, lo, hm => by
    simp only [cellsAbove, Bool.and_eq_true, decide_eq_true_eq] at hm
    obtain ⟨⟨h1, h2⟩, h3⟩ := hm
    unfold writeCell
    split
    · rename_i hab
      have h0 : readCell rest a = 0 := readCell_above rest b (by omega) h3
      by_cases hv : v = 0#8
      · by_cases hc : c = a
        · subst hc; have : b ≠ c := by omega
          simp [hv, readCell, this, h0]
        · simp [hv, hc]
      · by_cases hc : c = a
        · subst hc; simp [hv, readCell]
        · have : a ≠ c := fun h => hc h.symm
          simp [hv, hc, readCell, this]
    · split
      · rename_i hab hb
        subst hb
        have h0 : readCell rest a = 0 := readCell_above rest a (by omega) h3
        by_cases hv : v = 0#8
        · by_cases hc : c = a
          · subst hc; simp [hv, h0]
          · have : a ≠ c := fun h => hc h.symm
            simp [hv, hc, readCell, this]
        · by_cases hc : c = a
          · subst hc; simp [hv, readCell]
          · have : a ≠ c := fun h => hc h.symm
            simp [hv, hc, readCell, this]
      · rename_i hab hb
        by_cases hbc : b = c
        · subst hbc
          have : b ≠ a := fun h => hb h.symm
          simp [readCell, this]
        · simp [readCell, hbc, readCell_writeCell_above a c v rest (some b) h3]

/-- A read after a write of a byte: the value written there, every other address as before. -/
theorem readCell_writeCell {m : List Host.Cell} (h : Memory.wf m = true) (a c : Nat) (v : Byte) :
    readCell (writeCell m a v) c = if c = a then v else readCell m c :=
  readCell_writeCell_above a c v m none h

/-- A write leaves every address outside its bytes as it was. -/
theorem readCell_writeCells_outside : ∀ (bs : List Byte) (m : List Host.Cell) (a c : Nat), Memory.wf m = true →
    (c < a ∨ a + bs.length ≤ c) → readCell (writeCells m a bs) c = readCell m c
  | [], _, _, _, _, _ => rfl
  | v :: vs, m, a, c, h, hc => by
    simp only [List.length_cons] at hc
    have hne : c ≠ a := by omega
    rw [writeCells, readCell_writeCells_outside vs _ _ _ (writeCell_wf a v h) (by omega), readCell_writeCell h]
    simp [hne]

/-- A write puts each byte at its address. -/
theorem readCell_writeCells_inside : ∀ (bs : List Byte) (m : List Host.Cell) (a i : Nat) (hi : i < bs.length),
    Memory.wf m = true → readCell (writeCells m a bs) (a + i) = bs[i]
  | v :: vs, _, a, 0, _, h => by
    rw [writeCells, readCell_writeCells_outside vs _ _ _ (writeCell_wf a v h) (by omega), readCell_writeCell h]
    simp
  | v :: vs, m, a, i + 1, hi, h => by
    have := readCell_writeCells_inside vs (writeCell m a v) (a + 1) i (by simpa using hi) (writeCell_wf a v h)
    rw [writeCells, show a + (i + 1) = a + 1 + i by omega, this]
    simp

/-- Bytes written read back. -/
theorem readCells_writeCells {m : List Host.Cell} (h : Memory.wf m = true) (a : Nat) (bs : List Byte) :
    readCells (writeCells m a bs) a bs.length = bs := by
  apply List.ext_getElem
  · simp [readCells]
  · intro i h1 h2
    simp [readCells, readCell_writeCells_inside bs m a i h2 h]

end Sys2Proof.Machine
end

