-- ==== Sys2Proof/Laws/Mailbox.lean ====
section
/-!
SUPPORT. Mailbox laws: what taking, validating and completing a mailbox command can do, said once for every command (R68 to R82).
-/

namespace Sys2Proof

open Sys2Proof.Machine

/-! ## What each part leaves beside the mailboxes -/

@[simp] theorem beside_self (s : State) : beside s s = s := rfl

@[simp] theorem beside_modMb (s t : State) (m : MbId) (f : Mailbox → Mailbox) : beside s (modMb m f t) = beside s t := rfl

@[simp] theorem beside_takeCommand (s t : State) (m : MbId) : beside s (takeCommand m t) = beside s t := rfl

@[simp] theorem beside_accept (s t : State) : beside s (accept t) = beside s t := rfl

@[simp] theorem beside_emit (s t : State) (x : Emission) : beside s (emit x t) = beside s t := rfl

@[simp] theorem beside_armAt (s t : State) (h q : Nat) (cs : List Change) : beside s (armAt h q cs t) = beside s t := rfl

@[simp] theorem beside_holdMore (s t : State) (m : MbId) (x : Held) : beside s (holdMore m x t) = beside s t := rfl

@[simp] theorem beside_dropHold (s t : State) : beside s (dropHold t) = beside s t := rfl

@[simp] theorem beside_dropHoldOf (s t : State) (m : MbId) : beside s (dropHoldOf m t) = beside s t := by
  unfold dropHoldOf; split
  · split <;> rfl
  · rfl

@[simp] theorem beside_writeArena (s t : State) (m : MbId) (off : Nat) (bs : List Byte) :
    beside s (writeArena m off bs t) = beside s t := rfl

@[simp] theorem beside_writeHost (s t : State) (a : Nat) (bs : List Byte) : beside s (writeHost a bs t) = beside s t := rfl

@[simp] theorem beside_writeBack (s t : State) (e : Entry) (off : Nat) (bs : List Byte) :
    beside s (writeBack e off bs t) = beside s t := by
  unfold writeBack; split
  · rfl
  · split <;> rfl

@[simp] theorem beside_complete (s t : State) (m : MbId) (x : Completion) : beside s (complete m x t) = beside s t := by
  unfold complete Machine.when mirrorCpl
  split <;> split <;> rfl

@[simp] theorem beside_finish (s t : State) (e : Entry) (op : Nat) (slot : BitVec 6) (r : Reply) :
    beside s (finish e op slot r t) = beside s t := by
  unfold finish
  rw [beside_complete]
  split <;> split <;> simp

@[simp] theorem beside_armFlags (s t : State) : beside s (armFlags t) = beside s t := rfl

theorem forEach_same {α β : Type} {f : α → State → State} (p : State → β) (h : ∀ x t, p (f x t) = p t) (l : List α) (s : State) :
    p (forEach l f s) = p s := by
  unfold forEach
  induction l generalizing s with
  | nil => rfl
  | cons x xs ih => simp only [List.foldl_cons]; rw [ih, h]

@[simp] theorem beside_post (s t : State) (code : Nat) (c : Option CtxId) (fr : BitVec 48) (d : Nat) :
    beside s (post code c fr d t) = beside s t := by
  unfold post
  rw [forEach_same (beside s)]
  · unfold Machine.when; split <;> rfl
  · intro m u; unfold Machine.when; split <;> rfl

@[simp] theorem beside_endBackground (s t : State) (m : MbId) (op : Nat) (tag : BitVec 16) (st : Status) (d : Nat) :
    beside s (endBackground m op tag st d t) = beside s t := by
  unfold endBackground; split <;> rfl

/-- Dropping the hold set of mailbox `m` writes the hold set alone. -/
theorem dropHoldOf_eq (m : MbId) (s : State) : dropHoldOf m s = { s with cmd := { s.cmd with hold := match s.cmd.hold with
    | some h => if h.owner = m then none else some h
    | none => none } } := by
  have key : ∀ h : Option HoldSet, h = s.cmd.hold → (match h with
      | some h => if h.owner = m then dropHold s else s
      | none => s) = { s with cmd := { s.cmd with hold := match h with
        | some h => if h.owner = m then none else some h
        | none => none } } := by
    intro h e
    cases h with
    | none => show s = { s with cmd := { s.cmd with hold := none } }; rw [e]
    | some h =>
      by_cases ho : h.owner = m
      · simp only [ho, if_true]; rfl
      · simp only [ho, if_false]; rw [e]
  exact key _ rfl

/-! ## Taking a command -/

/-- An accepted command is performed on the state in which it has been taken. -/
theorem run_accepted {sp : Spec} {e : Entry} {s : State} (h : Accepts sp e s) :
    runCommand sp e s = perform sp e s.mailboxes[e.mb].cmdHead (takeCommand e.mb s) := by
  unfold runCommand command
  simp [h.taken, h.delivered, h.valid]

theorem run_reply {sp : Spec} {e : Entry} {s t : State} {r : Reply} (h : Accepts sp e s)
    (he : sp.effect e (takeCommand e.mb s) = .reply t r) (hf : sp.flags = false) :
    runCommand sp e s = finish e sp.opcode s.mailboxes[e.mb].cmdHead r t := by
  rw [run_accepted h, perform, he]
  simp [hf, Machine.when]

theorem run_replyFlags {sp : Spec} {e : Entry} {s t : State} {r : Reply} (h : Accepts sp e s)
    (he : sp.effect e (takeCommand e.mb s) = .reply t r) (hf : sp.flags = true) :
    runCommand sp e s = armFlags (finish e sp.opcode s.mailboxes[e.mb].cmdHead r t) := by
  rw [run_accepted h, perform, he]
  simp [hf, Machine.when]

theorem run_arm {sp : Spec} {e : Entry} {s t : State} {cs : List Change} {c : Option CtxId} {d : Nat} (h : Accepts sp e s)
    (he : sp.effect e (takeCommand e.mb s) = .arm t cs c d) :
    runCommand sp e s = armOrHold e sp.opcode s.mailboxes[e.mb].cmdHead cs c d sp.lag t := by
  rw [run_accepted h, perform, he]

/-- The mailbox of a taken command: its head has moved. -/
theorem takeCommand_mb (m : MbId) (s : State) : (takeCommand m s).mailboxes[m] =
    { s.mailboxes[m] with cmdHead := s.mailboxes[m].cmdHead + 1, quota := s.mailboxes[m].quota - 1,
                          expected := s.mailboxes[m].expected.drop 1 } := by
  simp [takeCommand, modMb]

/-- What an accepted command has passed (R79). -/
theorem accepts_parts {sp : Spec} {e : Entry} {s : State} (h : Accepts sp e s) : let u := takeCommand e.mb s
    permits sp e u = true ∧ lengthFail sp e = none ∧ headerFail sp e = none ∧ fetchFail e u = none ∧ fieldFail sp e u = none
      ∧ stateFail sp e u = none ∧ ownerFail sp e u = none ∧ resourceFail sp e u = none ∧ sp.tumbler e u = none
      ∧ sp.signature e u = none := by
  have h0 := h.valid
  unfold validate at h0
  by_cases hp : permits sp e (takeCommand e.mb s) = true
  · simp only [hp, Bool.not_true, Bool.false_eq_true, if_false, Option.or_eq_none_iff] at h0
    exact ⟨hp, h0⟩
  · simp [hp] at h0

/-- An accepted command has passed its own states. -/
theorem accepts_states {sp : Spec} {e : Entry} {s : State} (h : Accepts sp e s) : sp.states e (takeCommand e.mb s) = none := by
  obtain ⟨_, _, _, _, _, hs, _⟩ := accepts_parts h
  unfold stateFail at hs
  split at hs
  · cases hs
  · exact hs

/-! ## Completing -/

theorem complete_mb (m : MbId) (x : Completion) (s : State) : (complete m x s).mailboxes[m] = pushCpl x s.mailboxes[m] := by
  unfold complete Machine.when
  split <;> split <;> simp [modMb, mirrorCpl, emit]

theorem complete_accepted (m : MbId) (x : Completion) (s : State) : (complete m x s).cmd = s.cmd := by
  unfold complete Machine.when mirrorCpl
  split <;> split <;> rfl

/-- The state a completion is posted in. -/
def beforeCompletion (e : Entry) (r : Reply) (t : State) : State :=
  let t := if r.status.good then accept t else t
  match r.back with
  | some (off, bytes) => writeBack e off bytes t
  | none => t

/-- A payload returned changes the arena of its mailbox, or host memory, alone. -/
theorem writeBack_cases (e : Entry) (off : Nat) (bs : List Byte) (u : State) :
    (entryLoc e = 1 ∧ writeBack e off bs u = writeArena e.mb (e.loc.toNat + off) bs u)
      ∨ (entryLoc e = 2 ∧ writeBack e off bs u = writeHost (e.loc.toNat + off) bs u)
      ∨ (entryLoc e ≠ 1 ∧ entryLoc e ≠ 2 ∧ writeBack e off bs u = u) := by
  unfold writeBack
  by_cases h1 : entryLoc e = 1
  · exact .inl ⟨h1, by simp [h1]⟩
  · by_cases h2 : entryLoc e = 2
    · exact .inr (.inl ⟨h2, by simp [h2]⟩)
    · exact .inr (.inr ⟨h1, h2, by simp [h1, h2]⟩)

/-- What stands before the completion is posted. -/
structure Before (e : Entry) (r : Reply) (u v : State) : Prop where
  own : v.mailboxes[e.mb] = { u.mailboxes[e.mb] with arena := v.mailboxes[e.mb].arena }
  others : ∀ m : MbId, m ≠ e.mb → v.mailboxes[m] = u.mailboxes[m]
  cmd : v.cmd = { u.cmd with accepted := if r.status.good then nextSeq u.cmd.accepted else u.cmd.accepted }
  twb : v.twb = u.twb
  out : v.out = u.out
  arena : r.back = none ∨ entryLoc e ≠ 1 → v.mailboxes[e.mb].arena = u.mailboxes[e.mb].arena
  host : r.back = none ∨ entryLoc e ≠ 2 → v.hostMem = u.hostMem
  returned : ∀ off bytes, r.back = some (off, bytes) → Memory.wf u.mailboxes[e.mb].arena = true → Memory.wf u.hostMem = true →
    Returned e off bytes u v
  rest : beside u v = u

theorem before_completion (e : Entry) (r : Reply) (u : State) : Before e r u (beforeCompletion e r u) := by
  have ha : ∀ w : State, w = (if r.status.good then accept u else u) → w.mailboxes = u.mailboxes ∧ w.hostMem = u.hostMem
      ∧ w.twb = u.twb ∧ w.out = u.out ∧ beside u w = u
      ∧ w.cmd = { u.cmd with accepted := if r.status.good then nextSeq u.cmd.accepted else u.cmd.accepted } := by
    intro w hw; rw [hw]; by_cases h : r.status.good = true <;> simp [h, accept, beside]
  unfold beforeCompletion
  generalize hw : (if r.status.good then accept u else u) = w
  obtain ⟨h1, h2, h3, h4, h5, h6⟩ := ha w hw.symm
  dsimp only
  cases hb : r.back with
  | none => exact ⟨by simp [h1], fun m _ => by simp [h1], h6, h3, h4, fun _ => by simp [h1], fun _ => h2, by simp [hb], h5⟩
  | some x =>
    obtain ⟨off, bs⟩ := x
    dsimp only
    obtain ⟨hl, hx⟩ | ⟨hl, hx⟩ | ⟨hl, hl', hx⟩ := writeBack_cases e off bs w
    · rw [hx]
      refine ⟨by simp [writeArena, modMb, h1], fun m hm => ?_, h6, h3, h4, fun h => ?_, fun _ => h2, ?_, h5⟩
      · simp only [writeArena, modMb, h1, Fin.getElem_fin]
        rw [Vector.getElem_set_ne]
        exact fun h => hm (Fin.ext h.symm)
      · rw [hb] at h; simp [hl] at h
      · intro off' bs' hb' hwf _
        rw [hb] at hb'
        simp only [Option.some.injEq, Prod.mk.injEq] at hb'
        obtain ⟨rfl, rfl⟩ := hb'
        refine ⟨fun _ => ?_, fun h => ?_⟩
        · simp only [writeArena, modMb, h1, Fin.getElem_fin, Vector.getElem_set_self]
          exact ⟨readCells_writeCells hwf _ _, fun a h => readCell_writeCells_outside _ _ _ _ hwf h⟩
        · omega
    · rw [hx]
      refine ⟨by simp [writeHost, h1], fun m hm => by simp [writeHost, h1], h6, h3, h4, fun _ => by simp [writeHost, h1], fun h => ?_, ?_, h5⟩
      · rw [hb] at h; simp [hl] at h
      · intro off' bs' hb' _ hwf
        rw [hb] at hb'
        simp only [Option.some.injEq, Prod.mk.injEq] at hb'
        obtain ⟨rfl, rfl⟩ := hb'
        refine ⟨fun h => ?_, fun _ => ?_⟩
        · omega
        · simp only [writeHost, h2]
          exact ⟨readCells_writeCells hwf _ _, fun a h => readCell_writeCells_outside _ _ _ _ hwf h⟩
    · rw [hx]
      refine ⟨by simp [h1], fun m _ => by simp [h1], h6, h3, h4, fun _ => by simp [h1], fun _ => h2, ?_, h5⟩
      intro _ _ _ _ _
      exact ⟨fun h => absurd h hl, fun h => absurd h hl'⟩

/-- What completing writes. -/
theorem complete_parts (m : MbId) (x : Completion) (v : State) :
    (complete m x v).mailboxes = v.mailboxes.set m (pushCpl x v.mailboxes[m])
      ∧ (complete m x v).cmd = v.cmd ∧ (complete m x v).hostMem = v.hostMem
      ∧ (complete m x v).twb = (if m = 4 then { v.twb with cpl := x.bytes, busy := false, valid := true } else v.twb)
      ∧ ∃ b, (complete m x v).out = if m = 5 then .forwarded x b :: v.out else v.out := by
  unfold complete Machine.when mirrorCpl modMb emit
  by_cases h5 : m = 5
  · subst h5; simp
  · by_cases h4 : m = 4
    · subst h4; simp
    · simp [h4, h5]

/-- A finished command is completed. -/
theorem finish_completed (e : Entry) (op : Nat) (r : Reply) (s u : State) :
    Completed op e r s u (finish e op s.mailboxes[e.mb].cmdHead r u) := by
  have hf : ∃ x : Completion, finish e op s.mailboxes[e.mb].cmdHead r u = complete e.mb x (beforeCompletion e r u)
      ∧ x = completionOf e op s.mailboxes[e.mb].cmdHead (if r.status.good then (beforeCompletion e r u).cmd.accepted else 0) r :=
    ⟨_, rfl, rfl⟩
  obtain ⟨x, hf, hx⟩ := hf
  have hv := before_completion e r u
  rw [hf]
  generalize hw : beforeCompletion e r u = v at hv hx
  obtain ⟨c1, c2, c3, c4, b, c5⟩ := complete_parts e.mb x v
  have ht : v.mailboxes[e.mb].cplTail = u.mailboxes[e.mb].cplTail := by rw [hv.own]
  have hm : (complete e.mb x v).mailboxes[e.mb] = pushCpl x v.mailboxes[e.mb] := complete_mb _ _ _
  have hp : posted e u (complete e.mb x v) = x := by
    simp only [posted, hm, pushCpl, ← ht, Vector.getElem_set_self]
  have ha : (complete e.mb x v).mailboxes[e.mb].arena = v.mailboxes[e.mb].arena := by rw [hm]; rfl
  refine ⟨?_, ?_, fun m h => ?_, c2.trans hv.cmd, ?_, ⟨b, ?_⟩, fun h => ha.trans (hv.arena h), fun h => c3.trans (hv.host h),
    fun off bs hb h1 h2 => ?_, ?_⟩
  · rw [hp, c2, hx]; rfl
  · rw [ha, hp, hm]
    conv => lhs; rw [hv.own]
    rfl
  · rw [← hv.others m h, c1, Fin.getElem_fin, Vector.getElem_set_ne _ _ (fun h' => h (Fin.ext h'.symm))]; rfl
  · rw [c4, hp, hv.twb]
  · rw [c5, hp, hv.out]
  · obtain ⟨q1, q2⟩ := hv.returned off bs hb h1 h2
    exact ⟨fun h => by rw [ha]; exact q1 h, fun h => by rw [c3]; exact q2 h⟩
  · rw [beside_complete]; exact hv.rest

/-! ## The four ways of an accepted command -/

/-- A command answered at once is completed. -/
theorem reply_completed {sp : Spec} {e : Entry} {s u : State} {r : Reply} (h : Accepts sp e s)
    (he : sp.effect e (takeCommand e.mb s) = .reply u r) (hf : sp.flags = false) :
    Completed sp.opcode e r s u (runCommand sp e s) := by
  rw [run_reply h he hf]; exact finish_completed _ _ _ _ _

/-- A command answered at once that changes what the double-frame flags use (R130). -/
theorem reply_completed_flags {sp : Spec} {e : Entry} {s u : State} {r : Reply} (h : Accepts sp e s)
    (he : sp.effect e (takeCommand e.mb s) = .reply u r) (hf : sp.flags = true) :
    ∃ v, Completed sp.opcode e r s u v ∧ runCommand sp e s = armFlags v := by
  rw [run_replyFlags h he hf]; exact ⟨_, finish_completed _ _ _ _ _, rfl⟩

/-- A bank command is armed or held. -/
theorem arm_banked {sp : Spec} {e : Entry} {s u : State} {cs : List Change} {c : Option CtxId} {d : Nat} (h : Accepts sp e s)
    (he : sp.effect e (takeCommand e.mb s) = .arm u cs c d) : Banked sp.opcode e cs c d sp.lag s u (runCommand sp e s) := by
  rw [run_arm h he]
  refine ⟨fun hh => ?_, fun hh => ?_⟩
  · unfold armOrHold; rw [if_pos hh]; exact finish_completed _ _ _ _ _
  · unfold armOrHold; rw [if_neg (c := holds e = true) (by simp [hh])]; exact finish_completed _ _ _ _ _

/-- A background command is begun. -/
theorem background_begun {sp : Spec} {e : Entry} {s u : State} {c : Option CtxId} {d : Nat} (h : Accepts sp e s)
    (he : sp.effect e (takeCommand e.mb s) = .background u c d none) : Begun sp.opcode e c d s u (runCommand sp e s) := by
  rw [run_accepted h, perform, he]; exact finish_completed _ _ _ _ _

/-- A command that completes later is in execution. -/
theorem execute_inExecution {sp : Spec} {e : Entry} {s u : State} {c : Option CtxId} (h : Accepts sp e s)
    (he : sp.effect e (takeCommand e.mb s) = .execute u c) : runCommand sp e s = inExecution sp.opcode e c s u := by
  rw [run_accepted h, perform, he]; rfl

end Sys2Proof
end

