-- ==== Sys2Proof/Laws/Frames.lean ====
section
/-!
SUPPORT. Frames: for each operation of the model, once, that it leaves the command queue, the clock count, the tick counter with its
hinges, the strap code and HEARTBEAT as they were. Operations that change one of them have no lemma here.
-/

namespace Sys2Proof.Machine

/-- What few commands change is as it was: the queue, the clock, the tick counter and its hinges, the strap code and HEARTBEAT. -/
abbrev Keeps (s t : State) : Prop :=
  t.pending = s.pending ∧ t.clk = s.clk ∧ t.tick.counter = s.tick.counter ∧ t.tick.hinges = s.tick.hinges
    ∧ t.boot.strap = s.boot.strap ∧ t.bar0.heartbeat = s.bar0.heartbeat

/-- An operation repeated keeps what it keeps once. -/
@[simp] theorem forEach_keeps {α : Type} {f : α → State → State} (h : ∀ x t, Keeps t (f x t)) (l : List α) (s : State) :
    Keeps s (forEach l f s) := by
  unfold forEach
  induction l generalizing s with
  | nil => exact ⟨rfl, rfl, rfl, rfl, rfl, rfl⟩
  | cons x xs ih =>
    obtain ⟨a1, a2, a3, a4, a5, a6⟩ := ih (f x s)
    obtain ⟨b1, b2, b3, b4, b5, b6⟩ := h x s
    exact ⟨a1.trans b1, a2.trans b2, a3.trans b3, a4.trans b4, a5.trans b5, a6.trans b6⟩

@[simp] theorem foldl_keeps {α : Type} {f : State → α → State} (h : ∀ x t, Keeps t (f t x)) (l : List α) (s : State) :
    Keeps s (l.foldl f s) := forEach_keeps (f := fun x t => f t x) h l s

@[simp] theorem when_keeps {f : State → State} (c : Bool) {s : State} (h : Keeps s (f s)) : Keeps s (Machine.when c f s) := by
  unfold Machine.when; split
  · exact h
  · exact ⟨rfl, rfl, rfl, rfl, rfl, rfl⟩

theorem keeps_forEach {α : Type} {f : α → State → State} {l : List α} {s t : State} (h1 : Keeps s t)
    (h2 : ∀ x u, Keeps u (f x u)) : Keeps s (forEach l f t) := by
  obtain ⟨a1, a2, a3, a4, a5, a6⟩ := h1
  obtain ⟨b1, b2, b3, b4, b5, b6⟩ := forEach_keeps h2 l t
  exact ⟨b1.trans a1, b2.trans a2, b3.trans a3, b4.trans a4, b5.trans a5, b6.trans a6⟩

theorem fst_of_eq {α β : Type} {p : α × β} {a : α} {b : β} (h : p = (a, b)) : a = p.1 := by rw [h]

theorem keeps_trans {s t u : State} (h1 : Keeps s t) (h2 : Keeps t u) : Keeps s u := by
  obtain ⟨a1, a2, a3, a4, a5, a6⟩ := h1
  obtain ⟨b1, b2, b3, b4, b5, b6⟩ := h2
  exact ⟨b1.trans a1, b2.trans a2, b3.trans a3, b4.trans a4, b5.trans a5, b6.trans a6⟩

@[simp] theorem modMb_keeps (m : MbId) (f : Mailbox → Mailbox) (s : State) : Keeps s (modMb m f s) := by
  unfold modMb; simp [Keeps]

@[simp] theorem modPort_keeps (p : PortId) (f : Port → Port) (s : State) : Keeps s (modPort p f s) := by
  unfold modPort; simp [Keeps]

@[simp] theorem modCtx_keeps (c : CtxId) (f : Context → Context) (s : State) : Keeps s (modCtx c f s) := by
  unfold modCtx; simp [Keeps]

@[simp] theorem modRegion_keeps (r : RegionId) (f : Region → Region) (s : State) : Keeps s (modRegion r f s) := by
  unfold modRegion; simp [Keeps]

@[simp] theorem modCluster_keeps (r : RegionId) (k : Fin 2) (f : Cluster → Cluster) (s : State) : Keeps s (modCluster r k f s) := by
  unfold modCluster; simp [Keeps]

@[simp] theorem modBank_keeps (c : CtxId) (f : Bank → Bank) (s : State) : Keeps s (modBank c f s) := by
  unfold modBank; simp [Keeps]

@[simp] theorem emit_keeps (x : Emission) (s : State) : Keeps s (emit x s) := by
  unfold emit; simp [Keeps]

@[simp] theorem raiseVector_keeps (v : Fin 32) (s : State) : Keeps s (raiseVector v s) := by
  unfold raiseVector; dsimp only; (repeat' split) <;> simp [Keeps]

@[simp] theorem post_keeps (code : Nat) (c : Option CtxId) (frame : BitVec 48) (detail : Nat) (s : State) : Keeps s (post code c frame detail s) := by
  unfold post; simp [Keeps]

@[simp] theorem endBackground_keeps (m : MbId) (opcode : Nat) (tag : BitVec 16) (st : Status) (detail : Nat) (s : State) : Keeps s (endBackground m opcode tag st detail s) := by
  unfold endBackground; split <;> simp [Keeps]

@[simp] theorem writeArena_keeps (m : MbId) (off : Nat) (bytes : List Byte) (s : State) : Keeps s (writeArena m off bytes s) := by
  unfold writeArena; simp [Keeps]

@[simp] theorem writeHost_keeps (addr : Nat) (bytes : List Byte) (s : State) : Keeps s (writeHost addr bytes s) := by
  unfold writeHost; simp [Keeps]

@[simp] theorem writeBack_keeps (e : Entry) (off : Nat) (bytes : List Byte) (s : State) : Keeps s (writeBack e off bytes s) := by
  unfold writeBack; (repeat' split) <;> simp [Keeps]

@[simp] theorem modStg_keeps (f : Storage → Storage) (s : State) : Keeps s (modStg f s) := by
  unfold modStg; simp [Keeps]

@[simp] theorem refillWard_keeps (s : State) : Keeps s (refillWard s) := by
  unfold refillWard; simp [Keeps]

@[simp] theorem dropHostWork_keeps (s : State) : Keeps s (dropHostWork s) := by
  unfold dropHostWork; simp [Keeps]

@[simp] theorem suspectTarget_keeps (src : SourceId) (s : State) : Keeps s (suspectTarget src s) := by
  unfold suspectTarget; split <;> simp [Keeps]

@[simp] theorem endClips_keeps (c : CtxId) (source : SourceId) (s : State) : Keeps s (endClips c source s) := by
  unfold endClips; (try dsimp only); repeat' (first | split | (simp [Keeps]; done) | (with_reducible refine keeps_forEach ?_ fun _ _ => ?_))

@[simp] theorem enterDeadbolt_keeps (x : FaultRecord) (s : State) : Keeps s (enterDeadbolt x s) := by
  unfold enterDeadbolt; split <;> simp [Keeps]

@[simp] theorem raise_keeps (src : SourceId) (c : Option CtxId) (frame : BitVec 48) (detail : Nat) (s : State) : Keeps s (raise src c frame detail s) := by
  unfold raise; dsimp only; (repeat' split) <;> simp [Keeps]

@[simp] theorem raise0_keeps (n : Nat) (s : State) : Keeps s (raise0 n s) := by
  unfold raise0; simp [Keeps]

@[simp] theorem hostFailed_keeps (s : State) : Keeps s (hostFailed s) := by
  unfold hostFailed; simp [Keeps]

@[simp] theorem setDevState_keeps (n : Nat) (s : State) : Keeps s (setDevState n s) := by
  unfold setDevState; split <;> simp [Keeps]

@[simp] theorem setCtxState_keeps (c : CtxId) (st : CtxState) (s : State) : Keeps s (setCtxState c st s) := by
  unfold setCtxState; simp [Keeps]

@[simp] theorem sendHasp_keeps (cls dest tick data : Nat) (payload : List Byte) (s : State) : Keeps s (sendHasp cls dest tick data payload s) := by
  unfold sendHasp; split <;> simp [Keeps]

@[simp] theorem sendHalo_keeps (c : CtxId) (cap y : Nat) (samples : List Nat) (s : State) : Keeps s (sendHalo c cap y samples s) := by
  unfold sendHalo; simp [Keeps]

@[simp] theorem modFront_keeps (c : CtxId) (f : Front → Front) (s : State) : Keeps s (modFront c f s) := by
  unfold modFront; simp [Keeps]

@[simp] theorem modCap_keeps (c : CtxId) (k : Fin 4) (f : FrontCap → FrontCap) (s : State) : Keeps s (modCap c k f s) := by
  unfold modCap; simp [Keeps]

@[simp] theorem modGrade_keeps (c : CtxId) (g : GradeId) (f : Grade → Grade) (s : State) : Keeps s (modGrade c g f s) := by
  unfold modGrade; simp [Keeps]

@[simp] theorem modOut_keeps (o : QuadId) (f : Output → Output) (s : State) : Keeps s (modOut o f s) := by
  unfold modOut; simp [Keeps]

@[simp] theorem modAud_keeps (p : QuadId) (f : AudioPort → AudioPort) (s : State) : Keeps s (modAud p f s) := by
  unfold modAud; simp [Keeps]

@[simp] theorem bindOutput_keeps (o : QuadId) (c : CtxId) (v : Option Binding) (s : State) : Keeps s (bindOutput o c v s) := by
  unfold bindOutput; (repeat' split) <;> simp [Keeps]

@[simp] theorem setOverlay_keeps (o : QuadId) (second : Bool) (v : Overlay) (s : State) : Keeps s (setOverlay o second v s) := by
  unfold setOverlay; split <;> simp [Keeps]

@[simp] theorem setRaster_keeps (o : QuadId) (v : Option Raster) (s : State) : Keeps s (setRaster o v s) := by
  unfold setRaster; simp [Keeps]

@[simp] theorem startPort_keeps (now : Nat) (p : QuadId) (s : State) : Keeps s (startPort now p s) := by
  unfold startPort; simp [Keeps]

@[simp] theorem startPorts_keeps (mask : BitVec 4) (s : State) : Keeps s (startPorts mask s) := by
  unfold startPorts; simp [Keeps]

@[simp] theorem askKey_keeps (c : CtxId) (g : Option GradeId) (s : State) : Keeps s (askKey c g s) := by
  unfold askKey; simp [Keeps]

@[simp] theorem modSender_keeps (i : Fin 24) (f : Sender → Sender) (s : State) : Keeps s (modSender i f s) := by
  unfold modSender; simp [Keeps]

@[simp] theorem setStream_keeps (i : Fin 24) (v : Stream) (s : State) : Keeps s (setStream i v s) := by
  unfold setStream; (repeat' split) <;> simp [Keeps]

@[simp] theorem modTrig_keeps (k : QuadId) (f : TimeTrigger → TimeTrigger) (s : State) : Keeps s (modTrig k f s) := by
  unfold modTrig; simp [Keeps]

@[simp] theorem modPos_keeps (q : QuadId) (f : PosChannel → PosChannel) (s : State) : Keeps s (modPos q f s) := by
  unfold modPos; simp [Keeps]

@[simp] theorem applyBank_keeps (x : Change) (s : State) : Keeps s (applyBank x s) := by
  unfold applyBank; split <;> simp [Keeps]

@[simp] theorem withArmed_keeps (s : State) : Keeps s (withArmed s) := by
  unfold withArmed; simp [Keeps]

@[simp] theorem projected_keeps (s : State) : Keeps s (projected s) := by
  unfold projected; simp [Keeps]

@[simp] theorem armAt_keeps (h seq : Nat) (cs : List Change) (s : State) : Keeps s (armAt h seq cs s) := by
  unfold armAt; simp [Keeps]

@[simp] theorem holdMore_keeps (m : MbId) (x : Held) (s : State) : Keeps s (holdMore m x s) := by
  unfold holdMore; simp [Keeps]

@[simp] theorem dropHold_keeps (s : State) : Keeps s (dropHold s) := by
  unfold dropHold; simp [Keeps]

@[simp] theorem dropHoldOf_keeps (m : MbId) (s : State) : Keeps s (dropHoldOf m s) := by
  unfold dropHoldOf; (repeat' split) <;> simp [Keeps]

@[simp] theorem allotSlots_keeps (p : PortId) (s : State) : Keeps s (allotSlots p s) := by
  unfold allotSlots; simp [Keeps]

@[simp] theorem takeCommand_keeps (m : MbId) (s : State) : Keeps s (takeCommand m s) := by
  unfold takeCommand; simp [Keeps]

@[simp] theorem accept_keeps (s : State) : Keeps s (accept s) := by
  unfold accept; simp [Keeps]

@[simp] theorem mirrorCpl_keeps (x : Completion) (s : State) : Keeps s (mirrorCpl x s) := by
  unfold mirrorCpl; simp [Keeps]

@[simp] theorem complete_keeps (m : MbId) (x : Completion) (s : State) : Keeps s (complete m x s) := by
  unfold complete; simp [Keeps]

@[simp] theorem finish_keeps (e : Entry) (opcode : Nat) (slot : BitVec 6) (r : Reply) (s : State) : Keeps s (finish e opcode slot r s) := by
  unfold finish; (repeat' split) <;> simp [Keeps]

@[simp] theorem armFlags_keeps (t : State) : Keeps t (armFlags t) := by
  unfold armFlags; simp [Keeps]

@[simp] theorem armOrHold_keeps (e : Entry) (opcode : Nat) (slot : BitVec 6) (cs : List Change) (c : Option CtxId) (detail lag : Nat) (t : State) : Keeps t (armOrHold e opcode slot cs c detail lag t) := by
  unfold armOrHold; split <;> simp [Keeps]

@[simp] theorem endExecution_keeps (m : MbId) (r : Reply) (s : State) : Keeps s (endExecution m r s) := by
  unfold endExecution; (repeat' split) <;> simp [Keeps]

@[simp] theorem returnOld_keeps (c : CtxId) (s : State) : Keeps s (returnOld c s) := by
  unfold returnOld; dsimp only; (repeat' split) <;> simp [Keeps]

@[simp] theorem land_keeps (c : CtxId) (h : Nat) (s : State) : Keeps s (land c h s) := by
  unfold land; simp [Keeps]

@[simp] theorem closeCapture_keeps (c : CtxId) (h k : Nat) (s : State) : Keeps s (closeCapture c h k s) := by
  unfold closeCapture; dsimp only; (repeat' split) <;> simp [Keeps]

@[simp] theorem discard_keeps (c : CtxId) (untaken : Bool) (s : State) : Keeps s (discard c untaken s) := by
  unfold discard; simp [Keeps]

@[simp] theorem endFrame_keeps (p : PortId) (v : Fin 4) (count : BitVec 16) (c : CtxId) (s : State) : Keeps s (endFrame p v count c s) := by
  unfold endFrame; dsimp only; (repeat' split) <;> simp [Keeps]

@[simp] theorem beginFrame_keeps (p : PortId) (v : Fin 4) (count : BitVec 16) (lost : Bool) (c : CtxId) (s : State) : Keeps s (beginFrame p v count lost c s) := by
  unfold beginFrame; dsimp only; (repeat' split) <;> simp [Keeps]

@[simp] theorem closeOpen_keeps (p : PortId) (v : Fin 4) (s : State) : Keeps s (closeOpen p v s) := by
  unfold closeOpen; split <;> simp [Keeps]

@[simp] theorem openFrame_keeps (p : PortId) (v : Fin 4) (count : BitVec 16) (mode : Option Nat) (s : State) : Keeps s (openFrame p v count mode s) := by
  unfold openFrame; simp [Keeps]

@[simp] theorem writeLineFor_keeps (p : PortId) (l : Line) (c : CtxId) (s : State) : Keeps s (writeLineFor p l c s) := by
  unfold writeLineFor; dsimp only; (repeat' split) <;> simp [Keeps]

@[simp] theorem lineFor_keeps (p : PortId) (l : Line) (c : CtxId) (s : State) : Keeps s (lineFor p l c s) := by
  unfold lineFor; dsimp only; (repeat' split) <;> simp [Keeps]

@[simp] theorem markOpen_keeps (p : PortId) (v : Fin 4) (m : Mark) (count : BitVec 16) (checks : Bool) (c : CtxId) (s : State) : Keeps s (markOpen p v m count checks c s) := by
  unfold markOpen; simp [Keeps]

@[simp] theorem intakeLine_keeps (p : PortId) (l : Line) (s : State) : Keeps s (intakeLine p l s) := by
  unfold intakeLine; dsimp only; (repeat' split) <;> simp [Keeps]

@[simp] theorem closeAll_keeps (p : PortId) (s : State) : Keeps s (closeAll p s) := by
  unfold closeAll; simp [Keeps]

@[simp] theorem dropFrame_keeps (c : CtxId) (f : Frame) (h reason : Nat) (s : State) : Keeps s (dropFrame c f h reason s) := by
  unfold dropFrame; split <;> simp [Keeps]

@[simp] theorem guardIntake_keeps (c : CtxId) (h : Nat) (s : State) : Keeps s (guardIntake c h s) := by
  unfold guardIntake; (try dsimp only); repeat' (first | split | (simp [Keeps]; done) | (with_reducible refine keeps_forEach ?_ fun _ _ => ?_))

@[simp] theorem dropMissing_keeps (c : CtxId) (h : Nat) (s : State) : Keeps s (dropMissing c h s) := by
  unfold dropMissing; (try dsimp only); repeat' (first | split | (simp [Keeps]; done) | (with_reducible refine keeps_forEach ?_ fun _ _ => ?_))

@[simp] theorem startDevelopment_keeps (c : CtxId) (h : Nat) (s : State) : Keeps s (startDevelopment c h s) := by
  unfold startDevelopment; simp [Keeps]

@[simp] theorem takeFrame_keeps (c : CtxId) (h timeNs : Nat) (s : State) : Keeps s (takeFrame c h timeNs s) := by
  unfold takeFrame; dsimp only; (repeat' split) <;> simp [Keeps]

@[simp] theorem modLane_keeps (p : PortId) (i : Fin 17) (f : LaneStat → LaneStat) (s : State) : Keeps s (modLane p i f s) := by
  unfold modLane; simp [Keeps]

@[simp] theorem countHeaders_keeps (s : State) (g : List PortId) (c : Column) : Keeps s (countHeaders s g c) := by
  unfold countHeaders
  refine keeps_forEach (by simp [Keeps]) fun x t => ?_
  refine keeps_forEach (by simp [Keeps]) fun y u => ?_
  dsimp only
  split
  · split <;> simp [Keeps]
  · simp [Keeps]

@[simp] theorem controlError_keeps (p : PortId) (s : State) : Keeps s (controlError p s) := by
  unfold controlError; simp [Keeps]

theorem receiveControl_keeps (p : PortId) (type : Nat) (c : Column) (act : List Byte → State → State) (s : State)
    (h : ∀ b t, Keeps t (act b t)) : Keeps s (receiveControl p type c act s) := by
  unfold receiveControl
  split
  · simp [Keeps]
  · dsimp only
    split
    · split
      · rename_i b _
        split
        · have := h b (countHeaders s (groupOf s p) c)
          simp [Keeps] at this ⊢; exact this
        · split <;> simp [Keeps]
      · simp [Keeps]
    · simp [Keeps]

@[simp] theorem frameStart_keeps (p : PortId) (b : List Byte) (s : State) : Keeps s (frameStart p b s) := by
  unfold frameStart; dsimp only; (repeat' split) <;> simp [Keeps]

@[simp] theorem frameEnd_keeps (p : PortId) (b : List Byte) (s : State) : Keeps s (frameEnd p b s) := by
  unfold frameEnd; (repeat' split) <;> simp [Keeps]

@[simp] theorem checkError_keeps (p : PortId) (s : State) : Keeps s (checkError p s) := by
  unfold checkError; dsimp only; (repeat' split) <;> simp [Keeps]

@[simp] theorem noteRebuilt_keeps (p : PortId) (v : Fin 4) (s : State) : Keeps s (noteRebuilt p v s) := by
  unfold noteRebuilt; (repeat' split) <;> simp [Keeps]

@[simp] theorem linePacket_keeps (p : PortId) (cols : List Column) (s : State) : Keeps s (linePacket p cols s) := by
  unfold linePacket; dsimp only; (repeat' split) <;> simp [Keeps]

@[simp] theorem setGroup_keeps (p : PortId) (f : Port → Port) (s : State) : Keeps s (setGroup p f s) := by
  unfold setGroup; simp [Keeps]

@[simp] theorem postPortState_keeps (p : PortId) (s : State) : Keeps s (postPortState p s) := by
  unfold postPortState; simp [Keeps]

@[simp] theorem failAttempt_keeps (p : PortId) (reason : Nat) (s : State) : Keeps s (failAttempt p reason s) := by
  unfold failAttempt; dsimp only; (repeat' split) <;> simp [Keeps]

@[simp] theorem portDown_keeps (p : PortId) (reason : Nat) (s : State) : Keeps s (portDown p reason s) := by
  unfold portDown; simp [Keeps]

@[simp] theorem sendCaps_keeps (p : PortId) (s : State) : Keeps s (sendCaps p s) := by
  unfold sendCaps; split <;> simp [Keeps]

@[simp] theorem advance_keeps (p : PortId) (s : State) : Keeps s (advance p s) := by
  unfold advance; (repeat' split) <;> simp [Keeps]

@[simp] theorem repeatBringup_keeps (p : PortId) (s : State) : Keeps s (repeatBringup p s) := by
  unfold repeatBringup; (repeat' split) <;> simp [Keeps]

@[simp] theorem receiveCaps_keeps (p : PortId) (c : List Byte) (s : State) : Keeps s (receiveCaps p c s) := by
  unfold receiveCaps; (repeat' split) <;> simp [Keeps]

@[simp] theorem eachLane_keeps (g : PortCfg) (ports : List PortId) (k : Skews) (f : Option Nat → LaneStat → LaneStat) (s : State) : Keeps s (eachLane g ports k f s) := by
  unfold eachLane
  refine keeps_forEach (by simp [Keeps]) fun x u => ?_
  refine keeps_forEach (by simp [Keeps]) fun y v => ?_
  split <;> simp [Keeps]

@[simp] theorem align_keeps (p : PortId) (c : Column) (k : Skews) (s : State) : Keeps s (align p c k s) := by
  unfold align; dsimp only; (repeat' split) <;> simp [Keeps]

@[simp] theorem laneFailed_keeps (p : PortId) (lane : Fin 17) (s : State) : Keeps s (laneFailed p lane s) := by
  unfold laneFailed; dsimp only; (repeat' split) <;> simp [Keeps]

@[simp] theorem laneRejoined_keeps (p : PortId) (lane : Fin 17) (s : State) : Keeps s (laneRejoined p lane s) := by
  unfold laneRejoined; split <;> simp [Keeps]

@[simp] theorem slrefPorts_keeps (s : State) : Keeps s (slrefPorts s) := by
  unfold slrefPorts
  refine keeps_forEach (by simp [Keeps]) fun p t => ?_
  dsimp only
  split
  · simp [Keeps]
  · split
    · refine keeps_trans ?_ (keeps_trans (raise0_keeps _ _) (portDown_keeps ..))
      refine keeps_forEach (by simp [Keeps]) fun v u => ?_
      split
      · refine keeps_forEach (by simp [Keeps]) fun x w => by simp [Keeps]
      · simp [Keeps]
    · simp [Keeps]

@[simp] theorem regResponse_keeps (p : PortId) (b : List Byte) (s : State) : Keeps s (regResponse p b s) := by
  unfold regResponse; split <;> simp [Keeps]

@[simp] theorem regTimeout_keeps (p : PortId) (tag : Byte) (s : State) : Keeps s (regTimeout p tag s) := by
  unfold regTimeout; (repeat' split) <;> simp [Keeps]

@[simp] theorem sendMarkers_keeps (h : Nat) (s : State) : Keeps s (sendMarkers h s) := by
  unfold sendMarkers; (try dsimp only); repeat' (first | split | (simp [Keeps]; done) | (with_reducible refine keeps_forEach ?_ fun _ _ => ?_))

@[simp] theorem modTick_keeps (f : TickGen → TickGen) (s : State) : (modTick f s).pending = s.pending ∧ (modTick f s).clk = s.clk
    ∧ (modTick f s).boot = s.boot ∧ (modTick f s).bar0 = s.bar0 ∧ (modTick f s).tick = f s.tick := ⟨rfl, rfl, rfl, rfl, rfl⟩

@[simp] theorem markLanded_keeps (s : State) : Keeps s (markLanded s) := by
  unfold markLanded; simp [Keeps]

@[simp] theorem enterHoldover_keeps (cause : Nat) (s : State) : Keeps s (enterHoldover cause s) := by
  unfold enterHoldover; (repeat' split) <;> simp [Keeps]

@[simp] theorem noteEdge_counts (now : Int) (g : TickGen) : (noteEdge now g).counter = g.counter ∧ (noteEdge now g).hinges = g.hinges := by
  unfold noteEdge; (try dsimp only); repeat' (first | split | (simp; done) | exact ⟨rfl, rfl⟩)

@[simp] theorem switchEdge_counts (now : Int) (g : TickGen) : (switchEdge now g).counter = g.counter ∧ (switchEdge now g).hinges = g.hinges := by
  unfold switchEdge; (try dsimp only); repeat' (first | split | (simp; done) | exact ⟨rfl, rfl⟩)

@[simp] theorem lockedEdge_keeps (now : Int) (s : State) : Keeps s (lockedEdge now s) := by
  unfold lockedEdge; dsimp only; (repeat' split) <;> simp [Keeps]

@[simp] theorem relockEdge_counts (now : Int) (g : TickGen) : (relockEdge now g).counter = g.counter ∧ (relockEdge now g).hinges = g.hinges := by
  unfold relockEdge; (try dsimp only); repeat' (first | split | (simp; done) | exact ⟨rfl, rfl⟩)

@[simp] theorem tryRelock_counts (g : TickGen) : (tryRelock g).counter = g.counter ∧ (tryRelock g).hinges = g.hinges := by
  unfold tryRelock; (try dsimp only); repeat' (first | split | (simp; done) | exact ⟨rfl, rfl⟩)

@[simp] theorem heldEdge_keeps (now : Int) (s : State) : Keeps s (heldEdge now s) := by
  unfold heldEdge; dsimp only; (repeat' split) <;> simp [Keeps]

@[simp] theorem edgeAt_keeps (now : Int) (s : State) : Keeps s (edgeAt now s) := by
  unfold edgeAt; dsimp only; (repeat' split) <;> simp [Keeps]

@[simp] theorem sourceEdge_keeps (s : State) : Keeps s (sourceEdge s) := by
  unfold sourceEdge; dsimp only; (repeat' split) <;> simp [Keeps]

@[simp] theorem sourceStop_keeps (s : State) : Keeps s (sourceStop s) := by
  unfold sourceStop; dsimp only; (repeat' split) <;> simp [Keeps]

@[simp] theorem slrefLoss_keeps (s : State) : Keeps s (slrefLoss s) := by
  unfold slrefLoss; simp [Keeps]

@[simp] theorem slrefReturn_keeps (s : State) : Keeps s (slrefReturn s) := by
  unfold slrefReturn; simp [Keeps]

@[simp] theorem switchSource_keeps (h : Nat) (v : TickSource) (s : State) : Keeps s (switchSource h v s) := by
  unfold switchSource; split <;> simp [Keeps]

@[simp] theorem endSwitch_counts (g : TickGen) : (endSwitch g).counter = g.counter ∧ (endSwitch g).hinges = g.hinges := by
  unfold endSwitch; (try dsimp only); repeat' (first | split | (simp; done) | exact ⟨rfl, rfl⟩)

@[simp] theorem clearFailedStarts_keeps (s : State) : Keeps s (clearFailedStarts s) := by
  unfold clearFailedStarts; split <;> simp [Keeps]

@[simp] theorem announceStart_keeps (s : State) : Keeps s (announceStart s) := by
  unfold announceStart; simp [Keeps]

@[simp] theorem doorbellWrite_keeps (w : BitVec 32) (s : State) : Keeps s (doorbellWrite w s) := by
  unfold doorbellWrite
  dsimp only
  have h : ∀ (f : TickGen → TickGen), (∀ g, (f g).counter = g.counter ∧ (f g).hinges = g.hinges) → Keeps s (modTick f s) := by
    intro f hf
    have := hf s.tick
    simp [Keeps, this]
  refine h _ fun g => ?_
  (repeat' split) <;> exact ⟨rfl, rfl⟩

@[simp] theorem modPtp_keeps (f : Ptp → Ptp) (s : State) : Keeps s (modPtp f s) := by
  unfold modPtp; simp [Keeps]

@[simp] theorem modEth_keeps (p : Fin 2) (f : EthPort → EthPort) (s : State) : Keeps s (modEth p f s) := by
  unfold modEth; simp [Keeps]

@[simp] theorem fireTrigger_keeps (k : QuadId) (s : State) : Keeps s (fireTrigger k s) := by
  unfold fireTrigger; simp [Keeps]

@[simp] theorem fireLate_keeps (k : QuadId) (at_ : Nat) (s : State) : Keeps s (fireLate k at_ s) := by
  unfold fireLate; simp [Keeps]

@[simp] theorem stepTrigger_keeps (forward : Bool) (k : QuadId) (s : State) : Keeps s (stepTrigger forward k s) := by
  unfold stepTrigger; dsimp only; (repeat' split) <;> simp [Keeps]

@[simp] theorem timeTriggerFire_keeps (k : QuadId) (s : State) : Keeps s (timeTriggerFire k s) := by
  unfold timeTriggerFire; split <;> simp [Keeps]

@[simp] theorem timeTriggerPulseEnd_keeps (k : QuadId) (s : State) : Keeps s (timeTriggerPulseEnd k s) := by
  unfold timeTriggerPulseEnd; simp [Keeps]

@[simp] theorem setTrigger_keeps (k : QuadId) (v : TrigProg) (s : State) : Keeps s (setTrigger k v s) := by
  unfold setTrigger; dsimp only; (repeat' split) <;> simp [Keeps]

@[simp] theorem stepTime_keeps (d : Int) (s : State) : Keeps s (stepTime d s) := by
  unfold stepTime; simp [Keeps]

@[simp] theorem setServo_keeps (st : ServoState) (moved : Bool) (s : State) : Keeps s (setServo st moved s) := by
  unfold setServo; split <;> simp [Keeps]

@[simp] theorem selectMaster_keeps (p : Fin 2) (a : Announce) (s : State) : Keeps s (selectMaster p a s) := by
  unfold selectMaster; simp [Keeps]

@[simp] theorem countPtp_keeps (p : Fin 2) (s : State) : Keeps s (countPtp p s) := by
  unfold countPtp; simp [Keeps]

@[simp] theorem ptpAnnounceRx_keeps (p : Fin 2) (a : Announce) (s : State) : Keeps s (ptpAnnounceRx p a s) := by
  unfold ptpAnnounceRx; dsimp only; (repeat' split) <;> simp [Keeps]

@[simp] theorem ptpMasterLost_keeps (s : State) : Keeps s (ptpMasterLost s) := by
  unfold ptpMasterLost; dsimp only; (repeat' split) <;> simp [Keeps]

@[simp] theorem ptpSyncRx_keeps (p : Fin 2) (m : PtpSync) (s : State) : Keeps s (ptpSyncRx p m s) := by
  unfold ptpSyncRx; dsimp only; (repeat' split) <;> simp [Keeps]

@[simp] theorem slew_keeps (s : State) : Keeps s (slew s) := by
  unfold slew; simp [Keeps]

@[simp] theorem servoStep_keeps (o : Int) (s : State) : Keeps s (servoStep o s) := by
  unfold servoStep; dsimp only; (repeat' split) <;> simp [Keeps]

@[simp] theorem exchange_keeps (t3 t4 : Nat) (s : State) : Keeps s (exchange t3 t4 s) := by
  unfold exchange; split <;> simp [Keeps]

@[simp] theorem ptpDelayRespRx_keeps (p : Fin 2) (q : BitVec 16) (t4 : Nat) (s : State) : Keeps s (ptpDelayRespRx p q t4 s) := by
  unfold ptpDelayRespRx; dsimp only; (repeat' split) <;> simp [Keeps]

@[simp] theorem txStampCaptured_keeps (p : Fin 2) (q : BitVec 16) (raw : Nat) (s : State) : Keeps s (txStampCaptured p q raw s) := by
  unfold txStampCaptured; dsimp only; (repeat' split) <;> simp [Keeps]

@[simp] theorem readStamps_keeps (s : State) : Keeps s (readStamps s) := by
  unfold readStamps; (try dsimp only); repeat' (first | split | (simp [Keeps]; done) | (with_reducible refine keeps_forEach ?_ fun _ _ => ?_))

@[simp] theorem sendPtp_keeps (p : Fin 2) (k : PtpKind) (q : BitVec 16) (time : Nat) (s : State) : Keeps s (sendPtp p k q time s) := by
  unfold sendPtp; simp [Keeps]

@[simp] theorem ptpMessageTx_keeps (p : Fin 2) (k : PtpKind) (s : State) : Keeps s (ptpMessageTx p k s) := by
  unfold ptpMessageTx; dsimp only; (repeat' split) <;> simp [Keeps]

@[simp] theorem setPtp_keeps (k : PtpCfg) (s : State) : Keeps s (setPtp k s) := by
  unfold setPtp; dsimp only; (repeat' split) <;> simp [Keeps]

@[simp] theorem checkTables_keeps (c : CtxId) (h : Nat) (s : State) : Keeps s (checkTables c h s) := by
  unfold checkTables; simp [Keeps]

@[simp] theorem freeTables_keeps (s : State) : Keeps s (freeTables s) := by
  unfold freeTables; simp [Keeps]

@[simp] theorem addTable_keeps (pool size : Nat) (entries : List Int) (s : State) : Keeps s (addTable pool size entries s).1 := by
  unfold addTable; (try dsimp only); repeat' (first | (split; (try (rename_i heq; obtain rfl := fst_of_eq heq))) | (simp [Keeps]; done) | (with_reducible refine keeps_forEach ?_ fun _ _ => ?_))

@[simp] theorem checkGrades_keeps (c : CtxId) (h : Nat) (s : State) : Keeps s (checkGrades c h s) := by
  unfold checkGrades; simp [Keeps]

@[simp] theorem rewriteSlot_keeps (c : CtxId) (f : Frame) (s : State) : Keeps s (rewriteSlot c f s) := by
  unfold rewriteSlot; dsimp only; (repeat' split) <;> simp [Keeps]

@[simp] theorem postCopy_keeps (c : CtxId) (r : StatRecord) (s : State) : Keeps s (postCopy c r s) := by
  unfold postCopy; (repeat' split) <;> simp [Keeps]

@[simp] theorem recordLive_keeps (c : CtxId) (r : StatRecord) (s : State) : Keeps s (recordLive c r s) := by
  unfold recordLive; split <;> simp [Keeps]

@[simp] theorem statHostLate_keeps (c : CtxId) (s : State) : Keeps s (statHostLate c s) := by
  unfold statHostLate; (repeat' split) <;> simp [Keeps]

@[simp] theorem modLuts_keeps (rs : List RegionId) (slot : Fin 16) (f : LutSlot → LutSlot) (s : State) : Keeps s (modLuts rs slot f s) := by
  unfold modLuts; simp [Keeps]

@[simp] theorem lutLoadDone_keeps (slot : Fin 16) (ok : Bool) (s : State) : Keeps s (lutLoadDone slot ok s) := by
  unfold lutLoadDone; (repeat' split) <;> simp [Keeps]

@[simp] theorem modMem_keeps (f : Mem → Mem) (s : State) : Keeps s (modMem f s) := by
  unfold modMem; simp [Keeps]

@[simp] theorem modStack_keeps (m : StackId) (f : Stack → Stack) (s : State) : Keeps s (modStack m f s) := by
  unfold modStack; simp [Keeps]

@[simp] theorem writeHbm_keeps (a : Nat) (v : Byte) (s : State) : Keeps s (writeHbm a v s) := by
  unfold writeHbm; simp [Keeps]

@[simp] theorem writeHbms_keeps (a : Nat) (bytes : List Byte) (s : State) : Keeps s (writeHbms a bytes s) := by
  unfold writeHbms; simp [Keeps]

@[simp] theorem forgetStack_keeps (m : StackId) (all : Bool) (s : State) : Keeps s (forgetStack m all s) := by
  unfold forgetStack; simp [Keeps]

@[simp] theorem logError_keeps (kind : Nat) (requester : Byte) (a : Nat) (syndrome : BitVec 32) (s : State) : Keeps s (logError kind requester a syndrome s) := by
  unfold logError; simp [Keeps]

@[simp] theorem markServed_keeps (requester : Byte) (c : Option CtxId) (s : State) : Keeps s (markServed requester c s) := by
  unfold markServed; split <;> simp [Keeps]

@[simp] theorem makeCandidate_keeps (r : RowName) (s : State) : Keeps s (makeCandidate r s) := by
  unfold makeCandidate; split <;> simp [Keeps]

@[simp] theorem scheduleRetrain_keeps (m : StackId) (pcs : List Nat) (s : State) : Keeps s (scheduleRetrain m pcs s) := by
  unfold scheduleRetrain; simp [Keeps]

@[simp] theorem corrected_keeps (kind : Nat) (requester : Byte) (a : Nat) (syndrome : BitVec 32) (s : State) : Keeps s (corrected kind requester a syndrome s) := by
  unfold corrected; dsimp only; (repeat' split) <;> simp [Keeps]

@[simp] theorem uncorrectable_keeps (kind : Nat) (requester : Byte) (a : Nat) (syndrome : BitVec 32) (c : Option CtxId) (s : State) : Keeps s (uncorrectable kind requester a syndrome c s) := by
  unfold uncorrectable; simp [Keeps]

@[simp] theorem refuseRequest_keeps (p : MemPiece) (s : State) : Keeps s (refuseRequest p s) := by
  unfold refuseRequest; simp [Keeps]

@[simp] theorem enqueue_keeps (p : MemPiece) (s : State) : Keeps s (enqueue p s) := by
  unfold enqueue; dsimp only; (repeat' split) <;> simp [Keeps]

@[simp] theorem memRequest_keeps (r : MemReq) (s : State) : Keeps s (memRequest r s) := by
  unfold memRequest
  refine foldl_keeps (fun q t => ?_) _ _
  dsimp only
  split <;> simp [Keeps]

@[simp] theorem dequeue_keeps (p : MemPiece) (s : State) : Keeps s (dequeue p s) := by
  unfold dequeue; dsimp only; (repeat' split) <;> simp [Keeps]

@[simp] theorem issuePiece_keeps (p : MemPiece) (ecc : EccOutcome) (s : State) : Keeps s (issuePiece p ecc s) := by
  unfold issuePiece; dsimp only; (repeat' split) <;> simp [Keeps]

@[simp] theorem memRequestIssue_keeps (id : Nat) (ecc : EccOutcome) (s : State) : Keeps s (memRequestIssue id ecc s) := by
  unfold memRequestIssue; (repeat' split) <;> simp [Keeps]

@[simp] theorem scrubRead_keeps (m : StackId) (ecc : EccOutcome) (s : State) : Keeps s (scrubRead m ecc s) := by
  unfold scrubRead; dsimp only; (repeat' split) <;> simp [Keeps]

@[simp] theorem writeFlash_keeps (a : Nat) (bytes : List Byte) (s : State) : Keeps s (writeFlash a bytes s) := by
  unfold writeFlash; simp [Keeps]

@[simp] theorem endCalibration_keeps (k : Calibration) (s : State) : Keeps s (endCalibration k s) := by
  unfold endCalibration; (repeat' split) <;> simp [Keeps]

@[simp] theorem calibrated_keeps (m : StackId) (ok : Bool) (s : State) : Keeps s (calibrated m ok s) := by
  unfold calibrated; dsimp only; (repeat' split) <;> simp [Keeps]

@[simp] theorem putDomain_keeps (d : Fin 25) (v : DomainState) (s : State) : Keeps s (putDomain d v s) := by
  unfold putDomain; simp [Keeps]

@[simp] theorem setDomain_keeps (d : Fin 25) (v : DomainState) (s : State) : Keeps s (setDomain d v s) := by
  unfold setDomain; split <;> simp [Keeps]

@[simp] theorem memTrained_keeps (m : StackId) (recordOk bootOk fullOk : Bool) (s : State) : Keeps s (memTrained m recordOk bootOk fullOk s) := by
  unfold memTrained; dsimp only; (repeat' split) <;> simp [Keeps]

@[simp] theorem reportTemps_keeps (temps : List Int) (s : State) : Keeps s (reportTemps temps s) := by
  unfold reportTemps; (try dsimp only); repeat' (first | split | (simp [Keeps]; done) | (with_reducible refine keeps_forEach ?_ fun _ _ => ?_))

@[simp] theorem retrainSegment_keeps (m : StackId) (bad : Bool) (s : State) : Keeps s (retrainSegment m bad s) := by
  unfold retrainSegment; dsimp only; (repeat' split) <;> simp [Keeps]

@[simp] theorem retrainGuard_keeps (bad : BitVec 4) (s : State) : Keeps s (retrainGuard bad s) := by
  unfold retrainGuard; simp [Keeps]

@[simp] theorem selfRefreshEntry_keeps (m : StackId) (s : State) : Keeps s (selfRefreshEntry m s) := by
  unfold selfRefreshEntry; dsimp only; (repeat' split) <;> simp [Keeps]

@[simp] theorem selfRefreshExit_keeps (m : StackId) (s : State) : Keeps s (selfRefreshExit m s) := by
  unfold selfRefreshExit; split <;> simp [Keeps]

@[simp] theorem remap_keeps (interleaved : Bool) (s : State) : Keeps s (remap interleaved s) := by
  unfold remap; simp [Keeps]

@[simp] theorem repairDone_keeps (ok : Bool) (s : State) : Keeps s (repairDone ok s) := by
  unfold repairDone
  split
  · simp [Keeps]
  · dsimp only
    split
    · simp [Keeps]
    · generalize List.replicate 1024 (0 : Byte) = l
      simp [Keeps]

@[simp] theorem modSec_keeps (f : Security → Security) (s : State) : Keeps s (modSec f s) := by
  unfold modSec; simp [Keeps]

@[simp] theorem modRec_keeps (c : CtxId) (f : Recording → Recording) (s : State) : Keeps s (modRec c f s) := by
  unfold modRec; simp [Keeps]

@[simp] theorem modClip_keeps (c : CtxId) (id : Nat) (f : Clip → Clip) (s : State) : Keeps s (modClip c id f s) := by
  unfold modClip; simp [Keeps]

@[simp] theorem answerStop_keeps (k : Clip) (st : Status) (detail : Nat) (s : State) : Keeps s (answerStop k st detail s) := by
  unfold answerStop; split <;> simp [Keeps]

@[simp] theorem abandonClip_keeps (c : CtxId) (id detail : Nat) (s : State) : Keeps s (abandonClip c id detail s) := by
  unfold abandonClip; split <;> simp [Keeps]

@[simp] theorem sealFailed_keeps (c : CtxId) (id : Nat) (s : State) : Keeps s (sealFailed c id s) := by
  unfold sealFailed; dsimp only; (repeat' split) <;> simp [Keeps]

@[simp] theorem eraseFlash_keeps (a n : Nat) (s : State) : Keeps s (eraseFlash a n s) := by
  unfold eraseFlash; simp [Keeps]

@[simp] theorem appendLeaf_keeps (n : Nat) (r : List Byte) (s : State) : Keeps s (appendLeaf n r s) := by
  unfold appendLeaf; dsimp only; (repeat' split) <;> simp [Keeps]

@[simp] theorem failSignature_keeps (x : Signature) (detail : Nat) (s : State) : Keeps s (failSignature x detail s) := by
  unfold failSignature; split <;> simp [Keeps]

@[simp] theorem startSigning_keeps (s : State) : Keeps s (startSigning s) := by
  unfold startSigning; dsimp only; (repeat' split) <;> simp [Keeps]

@[simp] theorem askSignature_keeps (f : Nat → Signature) (s : State) : Keeps s (askSignature f s) := by
  unfold askSignature; simp [Keeps]

@[simp] theorem askSeal_keeps (c : CtxId) (id : Nat) (s : State) : Keeps s (askSeal c id s) := by
  unfold askSeal; split <;> simp [Keeps]

@[simp] theorem leafReservationDone_keeps (ok : Bool) (s : State) : Keeps s (leafReservationDone ok s) := by
  unfold leafReservationDone; (repeat' split) <;> simp [Keeps]

@[simp] theorem modMedia_keeps (p : Fin 2) (f : MediaPort → MediaPort) (s : State) : Keeps s (modMedia p f s) := by
  unfold modMedia; simp [Keeps]

@[simp] theorem modVolume_keeps (p : Fin 2) (f : Volume → Volume) (s : State) : Keeps s (modVolume p f s) := by
  unfold modVolume; simp [Keeps]

@[simp] theorem drive_keeps (p : Fin 2) (u : MediaUse) (s : State) : Keeps s (drive p u s) := by
  unfold drive; simp [Keeps]

@[simp] theorem putSlot_keeps (c : CtxId) (i id kind frame : Nat) (body : List Byte) (s : State) : Keeps s (putSlot c i id kind frame body s).1 := by
  unfold putSlot; (try dsimp only); repeat' (first | (split; (try (rename_i heq; obtain rfl := fst_of_eq heq))) | (simp [Keeps]; done) | (with_reducible refine keeps_forEach ?_ fun _ _ => ?_))

@[simp] theorem putHost_keeps (k : RecCfg) (id kind frame : Nat) (body : List Byte) (s : State) : Keeps s (putHost k id kind frame body s).1 := by
  unfold putHost; (try dsimp only); repeat' (first | (split; (try (rename_i heq; obtain rfl := fst_of_eq heq))) | (simp [Keeps]; done) | (with_reducible refine keeps_forEach ?_ fun _ _ => ?_))

@[simp] theorem putMedia_keeps (p : Fin 2) (use : Rec → MediaUse) (id kind frame : Nat) (body : List Byte) (s : State) : Keeps s (putMedia p use id kind frame body s).1 := by
  unfold putMedia; (try dsimp only); repeat' (first | (split; (try (rename_i heq; obtain rfl := fst_of_eq heq))) | (simp [Keeps]; done) | (with_reducible refine keeps_forEach ?_ fun _ _ => ?_))

@[simp] theorem putRecord_keeps (c : CtxId) (k : Clip) (use : Rec → MediaUse) (kind frame : Nat) (body : List Byte) (s : State) : Keeps s (putRecord c k use kind frame body s).1 := by
  unfold putRecord; (try dsimp only); repeat' (first | (split; (try (rename_i heq; obtain rfl := fst_of_eq heq))) | (simp [Keeps]; done) | (with_reducible refine keeps_forEach ?_ fun _ _ => ?_))

@[simp] theorem chainRecord_keeps (c : CtxId) (id kind frame : Nat) (body : List Byte) (s : State) : Keeps s (chainRecord c id kind frame body s).1 := by
  unfold chainRecord; (try dsimp only); repeat' (first | (split; (try (rename_i heq; obtain rfl := fst_of_eq heq))) | (simp [Keeps]; done) | (with_reducible refine keeps_forEach ?_ fun _ _ => ?_))

@[simp] theorem appendRecord_keeps (c : CtxId) (id kind frame : Nat) (body : List Byte) (s : State) : Keeps s (appendRecord c id kind frame body s).1 := by
  unfold appendRecord; (try dsimp only); repeat' (first | (split; (try (rename_i heq; obtain rfl := fst_of_eq heq))) | (simp [Keeps]; done) | (with_reducible refine keeps_forEach ?_ fun _ _ => ?_))

@[simp] theorem frameRecord_keeps (c : CtxId) (f : Frame) (s : State) : Keeps s (frameRecord c f s) := by
  unfold frameRecord; (try dsimp only); repeat' (first | (split; (try (rename_i heq; obtain rfl := fst_of_eq heq))) | (simp [Keeps]; done) | (with_reducible refine keeps_forEach ?_ fun _ _ => ?_))

@[simp] theorem recordLiveFrame_keeps (c : CtxId) (f : Frame) (s : State) : Keeps s (recordLiveFrame c f s) := by
  unfold recordLiveFrame; split <;> simp [Keeps]

@[simp] theorem trigger_keeps (c : CtxId) (t source : Nat) (s : State) : Keeps s (trigger c t source s) := by
  unfold trigger; (repeat' split) <;> simp [Keeps]

@[simp] theorem tagFrame_keeps (c : CtxId) (h : Nat) (s : State) : Keeps s (tagFrame c h s) := by
  unfold tagFrame; (repeat' split) <;> simp [Keeps]

@[simp] theorem takeSlot_keeps (c : CtxId) (frame pin : Option Nat) (s : State) : Keeps s (takeSlot c frame pin s).1 := by
  unfold takeSlot; (try dsimp only); repeat' (first | (split; (try (rename_i heq; obtain rfl := fst_of_eq heq))) | (simp [Keeps]; done) | (with_reducible refine keeps_forEach ?_ fun _ _ => ?_))

@[simp] theorem beginRecords_keeps (c : CtxId) (f : Frame) (s : State) : Keeps s (beginRecords c f s) := by
  unfold beginRecords; (try dsimp only); repeat' (first | (split; (try (rename_i heq; obtain rfl := fst_of_eq heq))) | (simp [Keeps]; done) | (with_reducible refine keeps_forEach ?_ fun _ _ => ?_))

@[simp] theorem openClip_keeps (c : CtxId) (id h : Nat) (s : State) : Keeps s (openClip c id h s) := by
  unfold openClip; dsimp only; (repeat' split) <;> simp [Keeps]

@[simp] theorem freezeClip_keeps (c : CtxId) (id h reason : Nat) (s : State) : Keeps s (freezeClip c id h reason s) := by
  unfold freezeClip; (repeat' split) <;> simp [Keeps]

@[simp] theorem stopClip_keeps (c : CtxId) (id h reason : Nat) (s : State) : Keeps s (stopClip c id h reason s) := by
  unfold stopClip; simp [Keeps]

@[simp] theorem stopClips_keeps (c : CtxId) (h reason : Nat) (s : State) : Keeps s (stopClips c h reason s) := by
  unfold stopClips; simp [Keeps]

@[simp] theorem mediaFull_keeps (p : Fin 2) (h : Nat) (s : State) : Keeps s (mediaFull p h s) := by
  unfold mediaFull; dsimp only; (repeat' split) <;> simp [Keeps]

@[simp] theorem clipHinge_keeps (c : CtxId) (h : Nat) (k : Clip) (s : State) : Keeps s (clipHinge c h k s) := by
  unfold clipHinge; (repeat' split) <;> simp [Keeps]

@[simp] theorem gapEvent_keeps (c : CtxId) (s : State) : Keeps s (gapEvent c s) := by
  unfold gapEvent; dsimp only; (repeat' split) <;> simp [Keeps]

@[simp] theorem lateChunks_keeps (c : CtxId) (s : State) : Keeps s (lateChunks c s) := by
  unfold lateChunks; dsimp only; (repeat' split) <;> simp [Keeps]

@[simp] theorem fullVolumes_keeps (h : Nat) (s : State) : Keeps s (fullVolumes h s) := by
  unfold fullVolumes; simp [Keeps]

@[simp] theorem recordHinge_keeps (h : Nat) (s : State) : Keeps s (recordHinge h s) := by
  unfold recordHinge; simp [Keeps]

@[simp] theorem clipSealed_keeps (c : CtxId) (k : Clip) (kind : Nat) (s : State) : Keeps s (clipSealed c k kind s) := by
  unfold clipSealed; (repeat' split) <;> simp [Keeps]

@[simp] theorem sealAtOnce_keeps (c : CtxId) (k : Clip) (manifest : List Byte) (s : State) : Keeps s (sealAtOnce c k manifest s) := by
  unfold sealAtOnce; (try dsimp only); repeat' (first | (split; (try (rename_i heq; obtain rfl := fst_of_eq heq))) | (simp [Keeps]; done) | (with_reducible refine keeps_forEach ?_ fun _ _ => ?_))

@[simp] theorem manifestSigned_keeps (c : CtxId) (id : Nat) (s : State) : Keeps s (manifestSigned c id s) := by
  unfold manifestSigned; (try dsimp only); repeat' (first | (split; (try (rename_i heq; obtain rfl := fst_of_eq heq))) | (simp [Keeps]; done) | (with_reducible refine keeps_forEach ?_ fun _ _ => ?_))

@[simp] theorem sealTick_keeps (pending : CtxId → Nat → Bool) (s : State) : Keeps s (sealTick pending s) := by
  unfold sealTick; (try dsimp only); repeat' (first | split | (simp [Keeps]; done) | (with_reducible refine keeps_forEach ?_ fun _ _ => ?_))

@[simp] theorem mediaDone_keeps (p : Fin 2) (u : MediaUse) (s : State) : Keeps s (mediaDone p u s) := by
  unfold mediaDone; (try dsimp only); repeat' (first | (split; (try (rename_i heq; obtain rfl := fst_of_eq heq))) | (simp [Keeps]; done) | (with_reducible refine keeps_forEach ?_ fun _ _ => ?_))

@[simp] theorem mediaFailed_keeps (u : MediaUse) (s : State) : Keeps s (mediaFailed u s) := by
  unfold mediaFailed; (repeat' split) <;> simp [Keeps]

@[simp] theorem dropView_keeps (p : Fin 2) (s : State) : Keeps s (dropView p s) := by
  unfold dropView; simp [Keeps]

@[simp] theorem mediaState_keeps (p : Fin 2) (st source : Nat) (s : State) : Keeps s (mediaState p st source s) := by
  unfold mediaState; simp [Keeps]

@[simp] theorem mediaGone_keeps (n : Nat) (p : Fin 2) (s : State) : Keeps s (mediaGone n p s) := by
  unfold mediaGone; dsimp only; (repeat' split) <;> simp [Keeps]

@[simp] theorem mediaLost_keeps (p : Fin 2) (s : State) : Keeps s (mediaLost p s) := by
  unfold mediaLost; simp [Keeps]

@[simp] theorem recoveryLeaf_keeps (s : State) : Keeps s (recoveryLeaf s).1 := by
  unfold recoveryLeaf; (try dsimp only); repeat' (first | (split; (try (rename_i heq; obtain rfl := fst_of_eq heq))) | (simp [Keeps]; done) | (with_reducible refine keeps_forEach ?_ fun _ _ => ?_))

@[simp] theorem recoverClip_keeps (p : Fin 2) (id : Nat) (s : State) : Keeps s (recoverClip p id s) := by
  unfold recoverClip; (try dsimp only); repeat' (first | (split; (try (rename_i heq; obtain rfl := fst_of_eq heq))) | (simp [Keeps]; done) | (with_reducible refine keeps_forEach ?_ fun _ _ => ?_))

@[simp] theorem mountVolume_keeps (p : Fin 2) (i : VolumeInfo) (s : State) : Keeps s (mountVolume p i s) := by
  unfold mountVolume; simp [Keeps]

@[simp] theorem mediaOpDone_keeps (p : Fin 2) (ok : Bool) (i : VolumeInfo) (s : State) : Keeps s (mediaOpDone p ok i s) := by
  unfold mediaOpDone; (repeat' split) <;> simp [Keeps]

@[simp] theorem releaseClip_keeps (id : Nat) (s : State) : Keeps s (releaseClip id s) := by
  unfold releaseClip; simp [Keeps]

@[simp] theorem trigInEdge_keeps (s : State) : Keeps s (trigInEdge s) := by
  unfold trigInEdge; (try dsimp only); repeat' (first | split | (simp [Keeps]; done) | (with_reducible refine keeps_forEach ?_ fun _ _ => ?_))

@[simp] theorem sealRetry_keeps (c : CtxId) (s : State) : Keeps s (sealRetry c s) := by
  unfold sealRetry; split <;> simp [Keeps]

@[simp] theorem enterWard_keeps (u : WardUser) (ranges : List WardRange) (s : State) : Keeps s (enterWard u ranges s).1 := by
  unfold enterWard; (try dsimp only); repeat' (first | (split; (try (rename_i heq; obtain rfl := fst_of_eq heq))) | (simp [Keeps]; done) | (with_reducible refine keeps_forEach ?_ fun _ _ => ?_))

@[simp] theorem releaseWard_keeps (id : Nat) (s : State) : Keeps s (releaseWard id s) := by
  unfold releaseWard; simp [Keeps]

@[simp] theorem modWard_keeps (id : Nat) (f : Ward → Ward) (s : State) : Keeps s (modWard id f s) := by
  unfold modWard; simp [Keeps]

@[simp] theorem writeNs2_keeps (a : Nat) (bytes : List Byte) (s : State) : Keeps s (writeNs2 a bytes s) := by
  unfold writeNs2; simp [Keeps]

@[simp] theorem zeroNs2_keeps (a n : Nat) (s : State) : Keeps s (zeroNs2 a n s) := by
  unfold zeroNs2; simp [Keeps]

@[simp] theorem modCmp_keeps (f : Compression → Compression) (s : State) : Keeps s (modCmp f s) := by
  unfold modCmp; simp [Keeps]

@[simp] theorem modJob_keeps (m : MbId) (tag : BitVec 16) (i : Nat) (f : CmpJob → CmpJob) (s : State) : Keeps s (modJob m tag i f s) := by
  unfold modJob; simp [Keeps]

@[simp] theorem startJob_keeps (m : MbId) (tag : BitVec 16) (i : Nat) (j : CmpJob) (s : State) : Keeps s (startJob m tag i j s) := by
  unfold startJob; (try dsimp only); repeat' (first | (split; (try (rename_i heq; obtain rfl := fst_of_eq heq))) | (simp [Keeps]; done) | (with_reducible refine keeps_forEach ?_ fun _ _ => ?_))

@[simp] theorem startJobs_keeps (s : State) : Keeps s (startJobs s) := by
  unfold startJobs; (try dsimp only); repeat' (first | split | (simp [Keeps]; done) | (with_reducible refine keeps_forEach ?_ fun _ _ => ?_))

@[simp] theorem writeLocation_keeps (m : MbId) (kind loc off : Nat) (bytes : List Byte) (s : State) : Keeps s (writeLocation m kind loc off bytes s) := by
  unfold writeLocation; (repeat' split) <;> simp [Keeps]

@[simp] theorem finishSubmits_keeps (s : State) : Keeps s (finishSubmits s) := by
  unfold finishSubmits; (try dsimp only); repeat' (first | split | (simp [Keeps]; done) | (with_reducible refine keeps_forEach ?_ fun _ _ => ?_))

@[simp] theorem endArmed_keeps (m : MbId) (hold : Bool) (cs : List Change) (detail : Nat) (s : State) : Keeps s (endArmed m hold cs detail s) := by
  unfold endArmed; split <;> simp [Keeps]

@[simp] theorem settleHostEngines_keeps (s : State) : Keeps s (settleHostEngines s) := by
  unfold settleHostEngines; (repeat' split) <;> simp [Keeps]

@[simp] theorem settleJobs_keeps (s : State) : Keeps s (settleJobs s) := by
  unfold settleJobs; simp [Keeps]

@[simp] theorem retireEngine_keeps (cls : EngineClass) (i : Nat) (s : State) : Keeps s (retireEngine cls i s) := by
  unfold retireEngine; split <;> simp [Keeps]

@[simp] theorem releaseJob_keeps (j : CmpJob) (s : State) : Keeps s (releaseJob j s) := by
  unfold releaseJob; split <;> simp [Keeps]

@[simp] theorem cmpJobDone_keeps (m : MbId) (tag : BitVec 16) (i : Nat) (x : JobEnd) (s : State) : Keeps s (cmpJobDone m tag i x s) := by
  unfold cmpJobDone; dsimp only; (repeat' split) <;> simp [Keeps]

@[simp] theorem cmpEngineRetired_keeps (cls : EngineClass) (i : Nat) (s : State) : Keeps s (cmpEngineRetired cls i s) := by
  unfold cmpEngineRetired
  split
  · simp [Keeps]
  · refine keeps_trans ?_ (settleJobs_keeps ..)
    refine keeps_forEach (by simp [Keeps]) fun i t => ?_
    refine keeps_forEach (by simp [Keeps]) fun x u => ?_
    split <;> simp [Keeps]

@[simp] theorem chunkJobDone_keeps (c : CtxId) (i : Nat) (x : JobEnd) (s : State) : Keeps s (chunkJobDone c i x s) := by
  unfold chunkJobDone; (try dsimp only); repeat' (first | (split; (try (rename_i heq; obtain rfl := fst_of_eq heq))) | (simp [Keeps]; done) | (with_reducible refine keeps_forEach ?_ fun _ _ => ?_))

@[simp] theorem writeGrade_keeps (c : CtxId) (i : GradeImage) (s : State) : Keeps s (writeGrade c i s) := by
  unfold writeGrade; split <;> simp [Keeps]

@[simp] theorem keepTemporal_keeps (c : CtxId) (f : Frame) (v : Developed) (s : State) : Keeps s (keepTemporal c f v s) := by
  unfold keepTemporal; split <;> simp [Keeps]

@[simp] theorem developPassDone_keeps (c : CtxId) (takenOver : Bool) (s : State) : Keeps s (developPassDone c takenOver s) := by
  unfold developPassDone; dsimp only; (repeat' split) <;> simp [Keeps]

@[simp] theorem exportField_keeps (c : CtxId) (bytes : List Byte) (s : State) : Keeps s (exportField c bytes s) := by
  unfold exportField; (repeat' split) <;> simp [Keeps]

@[simp] theorem motionFieldDone_keeps (c : CtxId) (s : State) : Keeps s (motionFieldDone c s) := by
  unfold motionFieldDone; dsimp only; (repeat' split) <;> simp [Keeps]

@[simp] theorem netLinkState_keeps (p : Fin 2) (up : Bool) (s : State) : Keeps s (netLinkState p up s) := by
  unfold netLinkState; dsimp only; (repeat' split) <;> simp [Keeps]

@[simp] theorem arpRequestRx_keeps (p : Fin 2) (target sender : BitVec 32) (mac : BitVec 48) (s : State) : Keeps s (arpRequestRx p target sender mac s) := by
  unfold arpRequestRx; dsimp only; (repeat' split) <;> simp [Keeps]

@[simp] theorem ethFrameDropped_keeps (p : Fin 2) (s : State) : Keeps s (ethFrameDropped p s) := by
  unfold ethFrameDropped; simp [Keeps]

@[simp] theorem countMissing_keeps (ps : List (Fin 2)) (s : State) : Keeps s (countMissing ps s) := by
  unfold countMissing; simp [Keeps]

@[simp] theorem startSend_keeps (i : Fin 24) (j : SendJob) (s : State) : Keeps s (startSend i j s) := by
  unfold startSend; simp [Keeps]

@[simp] theorem startSender_keeps (c : CtxId) (r : PassResult) (x : Fin 24 × Stream) (s : State) : Keeps s (startSender c r x s) := by
  unfold startSender; dsimp only; (repeat' split) <;> simp [Keeps]

@[simp] theorem startSenders_keeps (c : CtxId) (r : PassResult) (s : State) : Keeps s (startSenders c r s) := by
  unfold startSenders; simp [Keeps]

@[simp] theorem blackFrames_keeps (c : CtxId) (h : Nat) (s : State) : Keeps s (blackFrames c h s) := by
  unfold blackFrames; dsimp only; (repeat' split) <;> simp [Keeps]

@[simp] theorem sendOn_keeps (v : Stream) (x : Fin 2 → Emission) (s : State) : Keeps s (sendOn v x s) := by
  unfold sendOn; (try dsimp only); repeat' (first | split | (simp [Keeps]; done) | (with_reducible refine keeps_forEach ?_ fun _ _ => ?_))

@[simp] theorem sendFramePacket_keeps (i : Fin 24) (j : SendJob) (s : State) : Keeps s (sendFramePacket i j s) := by
  unfold sendFramePacket; dsimp only; (repeat' split) <;> simp [Keeps]

@[simp] theorem sendAudioPacket_keeps (i : Fin 24) (s : State) : Keeps s (sendAudioPacket i s) := by
  unfold sendAudioPacket; dsimp only; (repeat' split) <;> simp [Keeps]

@[simp] theorem streamPacketTx_keeps (i : Fin 24) (s : State) : Keeps s (streamPacketTx i s) := by
  unfold streamPacketTx; split <;> simp [Keeps]

@[simp] theorem startCopy_keeps (c : CtxId) (r : PassResult) (o : QuadId) (s : State) : Keeps s (startCopy c r o s) := by
  unfold startCopy; dsimp only; (repeat' split) <;> simp [Keeps]

@[simp] theorem startCopies_keeps (c : CtxId) (r : PassResult) (s : State) : Keeps s (startCopies c r s) := by
  unfold startCopies; simp [Keeps]

@[simp] theorem scanCopyDone_keeps (o : QuadId) (s : State) : Keeps s (scanCopyDone o s) := by
  unfold scanCopyDone; split <;> simp [Keeps]

@[simp] theorem sendPicture_keeps (o : QuadId) (s : State) : Keeps s (sendPicture o s) := by
  unfold sendPicture; (repeat' split) <;> simp [Keeps]

@[simp] theorem sendEmbedded_keeps (o : QuadId) (s : State) : Keeps s (sendEmbedded o s) := by
  unfold sendEmbedded; split <;> simp [Keeps]

@[simp] theorem freezeEvent_keeps (o : QuadId) (n : Nat) (b : ScanBuf) (s : State) : Keeps s (freezeEvent o n b s) := by
  unfold freezeEvent; (repeat' split) <;> simp [Keeps]

@[simp] theorem lateEvent_keeps (o : QuadId) (b : ScanBuf) (s : State) : Keeps s (lateEvent o b s) := by
  unfold lateEvent; split <;> simp [Keeps]

@[simp] theorem genlockSettled_keeps (o : QuadId) (r : Raster) (s : State) : Keeps s (genlockSettled o r s) := by
  unfold genlockSettled; dsimp only; (repeat' split) <;> simp [Keeps]

@[simp] theorem outputLatch_keeps (o : QuadId) (s : State) : Keeps s (outputLatch o s) := by
  unfold outputLatch; dsimp only; (repeat' split) <;> simp [Keeps]

@[simp] theorem scanFifoUnderrun_keeps (o : QuadId) (s : State) : Keeps s (scanFifoUnderrun o s) := by
  unfold scanFifoUnderrun; split <;> simp [Keeps]

@[simp] theorem genlockRefEdge_keeps (o : QuadId) (vertical : Bool) (s : State) : Keeps s (genlockRefEdge o vertical s) := by
  unfold genlockRefEdge; dsimp only; (repeat' split) <;> simp [Keeps]

@[simp] theorem genlockLost_keeps (o : QuadId) (s : State) : Keeps s (genlockLost o s) := by
  unfold genlockLost; (repeat' split) <;> simp [Keeps]

@[simp] theorem vfTeEdge_keeps (s : State) : Keeps s (vfTeEdge s) := by
  unfold vfTeEdge; dsimp only; (repeat' split) <;> simp [Keeps]

@[simp] theorem vfTeMissing_keeps (s : State) : Keeps s (vfTeMissing s) := by
  unfold vfTeMissing; dsimp only; (repeat' split) <;> simp [Keeps]

@[simp] theorem hpdRise_keeps (s : State) : Keeps s (hpdRise s) := by
  unfold hpdRise; split <;> simp [Keeps]

@[simp] theorem hpdDrop_keeps (s : State) : Keeps s (hpdDrop s) := by
  unfold hpdDrop; simp [Keeps]

@[simp] theorem dpTrainingDone_keeps (lanes : Nat) (rate : Fin 5) (s : State) : Keeps s (dpTrainingDone lanes rate s) := by
  unfold dpTrainingDone; dsimp only; (repeat' split) <;> simp [Keeps]

@[simp] theorem modVc_keeps (f : Coders → Coders) (s : State) : Keeps s (modVc f s) := by
  unfold modVc; simp [Keeps]

@[simp] theorem modRun_keeps (c : CtxId) (g : GradeId) (f : EncodeRun → EncodeRun) (s : State) : Keeps s (modRun c g f s) := by
  unfold modRun; simp [Keeps]

@[simp] theorem streamSuspended_keeps (c : Option CtxId) (what reason : Nat) (s : State) : Keeps s (streamSuspended c what reason s) := by
  unfold streamSuspended; simp [Keeps]

@[simp] theorem checkEncodes_keeps (c : CtxId) (s : State) : Keeps s (checkEncodes c s) := by
  unfold checkEncodes; simp [Keeps]

@[simp] theorem startCoding_keeps (c : CtxId) (g : GradeId) (f : Frame) (idr again : Bool) (s : State) : Keeps s (startCoding c g f idr again s) := by
  unfold startCoding; (repeat' split) <;> simp [Keeps]

@[simp] theorem deferKey_keeps (c : CtxId) (g : GradeId) (f : Frame) (s : State) : Keeps s (deferKey c g f s) := by
  unfold deferKey; simp [Keeps]

@[simp] theorem countSkipped_keeps (s : State) : Keeps s (countSkipped s) := by
  unfold countSkipped; simp [Keeps]

@[simp] theorem startPicture_keeps (c : CtxId) (g : GradeId) (r : PassResult) (s : State) : Keeps s (startPicture c g r s) := by
  unfold startPicture; dsimp only; (repeat' split) <;> simp [Keeps]

@[simp] theorem startPictures_keeps (c : CtxId) (r : PassResult) (s : State) : Keeps s (startPictures c r s) := by
  unfold startPictures; simp [Keeps]

@[simp] theorem releaseImage_keeps (c : CtxId) (g : GradeId) (frame : Nat) (s : State) : Keeps s (releaseImage c g frame s) := by
  unfold releaseImage; simp [Keeps]

@[simp] theorem copyUnit_keeps (c : CtxId) (g : GradeId) (v : Encode) (bytes : List Byte) (s : State) : Keeps s (copyUnit c g v bytes s) := by
  unfold copyUnit; (repeat' split) <;> simp [Keeps]

@[simp] theorem recordUnit_keeps (c : CtxId) (g : GradeId) (p : Coding) (bytes : List Byte) (s : State) : Keeps s (recordUnit c g p bytes s) := by
  unfold recordUnit; (try dsimp only); repeat' (first | (split; (try (rename_i heq; obtain rfl := fst_of_eq heq))) | (simp [Keeps]; done) | (with_reducible refine keeps_forEach ?_ fun _ _ => ?_))

@[simp] theorem encodePictureDone_keeps (c : CtxId) (g : GradeId) (rows : List RowCode) (s : State) : Keeps s (encodePictureDone c g rows s) := by
  unfold encodePictureDone; (repeat' split) <;> simp [Keeps]

@[simp] theorem modSession_keeps (i : Fin 16) (f : Session → Session) (s : State) : Keeps s (modSession i f s) := by
  unfold modSession; simp [Keeps]

@[simp] theorem writeSlots_keeps (i : Fin 16) : ∀ (l : List (List Byte)) (s : State), Keeps s (writeSlots i l s)
  | [], s => by unfold writeSlots; simp [Keeps]
  | b :: rest, s => by
    unfold writeSlots
    split
    · simp [Keeps]
    · dsimp only
      split
      · simp [Keeps]
      · split
        · exact keeps_trans (by simp [Keeps]) (writeSlots_keeps i rest _)
        · simp [Keeps]

@[simp] theorem outputPicture_keeps (i : Fin 16) (p : DecodedPicture) (result : Nat) (s : State) : Keeps s (outputPicture i p result s) := by
  unfold outputPicture; (repeat' split) <;> simp [Keeps]

@[simp] theorem endSubmits_keeps (before after : List AccessUnit) (s : State) : Keeps s (endSubmits before after s) := by
  unfold endSubmits; simp [Keeps]

@[simp] theorem consume_keeps (i : Fin 16) (unit : Nat) (s : State) : Keeps s (consume i unit s) := by
  unfold consume; split <;> simp [Keeps]

@[simp] theorem concealedEvent_keeps (i : Fin 16) (cause unit : Nat) (s : State) : Keeps s (concealedEvent i cause unit s) := by
  unfold concealedEvent; simp [Keeps]

@[simp] theorem decodePictureDone_keeps (i : Fin 16) (p : DecodedPicture) (s : State) : Keeps s (decodePictureDone i p s) := by
  unfold decodePictureDone; (repeat' split) <;> simp [Keeps]

@[simp] theorem decodeTmaxExpiry_keeps (i : Fin 16) (p : DecodedPicture) (s : State) : Keeps s (decodeTmaxExpiry i p s) := by
  unfold decodeTmaxExpiry; (repeat' split) <;> simp [Keeps]

@[simp] theorem decodeSlotFree_keeps (i : Fin 16) (s : State) : Keeps s (decodeSlotFree i s) := by
  unfold decodeSlotFree; split <;> simp [Keeps]

@[simp] theorem dropPictures_keeps (c : CtxId) (g : GradeId) (k : Fin 8) (s : State) : Keeps s (dropPictures c g k s) := by
  unfold dropPictures; dsimp only; (repeat' split) <;> simp [Keeps]

@[simp] theorem vcCoreRetired_keeps (k : Fin 8) (s : State) : Keeps s (vcCoreRetired k s) := by
  unfold vcCoreRetired; split <;> simp [Keeps]

@[simp] theorem moveAnalysis_keeps (c : CtxId) (s : State) : Keeps s (moveAnalysis c s) := by
  unfold moveAnalysis; dsimp only; (repeat' split) <;> simp [Keeps]

@[simp] theorem moveEncode_keeps (c : CtxId) (g : GradeId) (s : State) : Keeps s (moveEncode c g s) := by
  unfold moveEncode; dsimp only; (repeat' split) <;> simp [Keeps]

@[simp] theorem moveSession_keeps (i : Fin 16) (s : State) : Keeps s (moveSession i s) := by
  unfold moveSession; (repeat' split) <;> simp [Keeps]

@[simp] theorem moveCores_keeps (s : State) : Keeps s (moveCores s) := by
  unfold moveCores; split <;> simp [Keeps]

@[simp] theorem vcBlockedWrite_keeps (k : Fin 8) (s : State) : Keeps s (vcBlockedWrite k s) := by
  unfold vcBlockedWrite; simp [Keeps]

@[simp] theorem stgState_keeps (s : State) : Keeps s (stgState s) := by
  unfold stgState; simp [Keeps]

@[simp] theorem nvmeVector_keeps (v : Nat) (s : State) : Keeps s (nvmeVector v s) := by
  unfold nvmeVector; dsimp only; (repeat' split) <;> simp [Keeps]

@[simp] theorem pushCqe_keeps (id : Nat) (entry : List Byte) (s : State) : Keeps s (pushCqe id entry s) := by
  unfold pushCqe; (repeat' split) <;> simp [Keeps]

@[simp] theorem flushCpl_keeps (s : State) : Keeps s (flushCpl s) := by
  unfold flushCpl; (try dsimp only); repeat' (first | split | (simp [Keeps]; done) | (with_reducible refine keeps_forEach ?_ fun _ _ => ?_))

@[simp] theorem postCqe_keeps (n : NvmeCmd) (status dw0 : Nat) (s : State) : Keeps s (postCqe n status dw0 s) := by
  unfold postCqe; (repeat' split) <;> simp [Keeps]

@[simp] theorem asyncEvent_keeps (kind info page : Nat) (s : State) : Keeps s (asyncEvent kind info page s) := by
  unfold asyncEvent; dsimp only; (repeat' split) <;> simp [Keeps]

@[simp] theorem logNvmeError_keeps (n : NvmeCmd) (status lba : Nat) (s : State) : Keeps s (logNvmeError n status lba s) := by
  unfold logNvmeError; simp [Keeps]

@[simp] theorem endNvme_keeps (n : NvmeCmd) (status dw0 lba : Nat) (s : State) : Keeps s (endNvme n status dw0 lba s) := by
  unfold endNvme; split <;> simp [Keeps]

@[simp] theorem writePages_keeps : ∀ (l : List (BitVec 64)) (bs : List Byte) (s : State), Keeps s (writePages l bs s)
  | [], _, s => by unfold writePages; simp [Keeps]
  | p :: ps, bs, s => by
    unfold writePages
    exact keeps_trans (by simp [Keeps]) (writePages_keeps ps _ _)

@[simp] theorem answerNvme_keeps (n : NvmeCmd) (bytes : List Byte) (s : State) : Keeps s (answerNvme n bytes s) := by
  unfold answerNvme; split <;> simp [Keeps]

@[simp] theorem fetchNvme_keeps (n : NvmeCmd) (s : State) : Keeps s (fetchNvme n s) := by
  unfold fetchNvme; simp [Keeps]

@[simp] theorem adminNvme_keeps (n : NvmeCmd) {f : State → State} (s : State) (h : ∀ t, Keeps t (f t)) :
    Keeps s (adminNvme n f s) := by
  unfold adminNvme
  split
  · exact keeps_trans (by simp [Keeps]) (h _)
  · simp [Keeps]

@[simp] theorem enterDirectory_keeps (k : SealedClip) (s : State) : Keeps s (enterDirectory k s) := by
  unfold enterDirectory; split <;> simp [Keeps]

@[simp] theorem directoryEvents_keeps (s : State) : Keeps s (directoryEvents s) := by
  unfold directoryEvents; dsimp only; (repeat' split) <;> simp [Keeps]

@[simp] theorem syncDirectory_keeps (s : State) : Keeps s (syncDirectory s) := by
  unfold syncDirectory; simp [Keeps]

@[simp] theorem rebuildDirectory_keeps (s : State) : Keeps s (rebuildDirectory s) := by
  unfold rebuildDirectory; simp [Keeps]

@[simp] theorem directoryChange_keeps (s : State) : Keeps s (directoryChange s) := by
  unfold directoryChange; (try dsimp only); repeat' (first | (split; (try (rename_i heq; obtain rfl := fst_of_eq heq))) | (simp [Keeps]; done) | (with_reducible refine keeps_forEach ?_ fun _ _ => ?_))

@[simp] theorem paceUse_keeps (p : PacePool) (n : Nat) (s : State) : Keeps s (paceUse p n s) := by
  unfold paceUse; split <;> simp [Keeps]

@[simp] theorem finishIo_keeps (id : Nat) (k : IoKind) (n : NvmeCmd) (sourceOk : Bool) (s : State) : Keeps s (finishIo id k n sourceOk s) := by
  unfold finishIo; dsimp only; (repeat' split) <;> simp [Keeps]

@[simp] theorem moveIo_keeps (id : Nat) (k : IoKind) (n : NvmeCmd) (sourceOk : Bool) (s : State) : Keeps s (moveIo id k n sourceOk s) := by
  unfold moveIo; dsimp only; (repeat' split) <;> simp [Keeps]

@[simp] theorem runIo_keeps (k : IoKind) (n : NvmeCmd) (s : State) : Keeps s (runIo k n s) := by
  unfold runIo; (try dsimp only); repeat' (first | (split; (try (rename_i heq; obtain rfl := fst_of_eq heq))) | (simp [Keeps]; done) | (with_reducible refine keeps_forEach ?_ fun _ _ => ?_))

@[simp] theorem ioNvme_keeps (k : IoKind) (n : NvmeCmd) (s : State) : Keeps s (ioNvme k n s) := by
  unfold ioNvme; dsimp only; (repeat' split) <;> simp [Keeps]

@[simp] theorem wardEntryGranted_keeps (id : Nat) (sourceOk : Bool) (s : State) : Keeps s (wardEntryGranted id sourceOk s) := by
  unfold wardEntryGranted; (repeat' split) <;> simp [Keeps]

@[simp] theorem stgRateRelease_keeps (s : State) : Keeps s (stgRateRelease s) := by
  unfold stgRateRelease; (try dsimp only); repeat' (first | split | (simp [Keeps]; done) | (with_reducible refine keeps_forEach ?_ fun _ _ => ?_))

@[simp] theorem mediaCmdComplete_keeps (p : Fin 2) (ok : Bool) (s : State) : Keeps s (mediaCmdComplete p ok s) := by
  unfold mediaCmdComplete; dsimp only; (repeat' split) <;> simp [Keeps]

@[simp] theorem failMediaReads_keeps (p : Fin 2) (s : State) : Keeps s (failMediaReads p s) := by
  unfold failMediaReads; (try dsimp only); repeat' (first | split | (simp [Keeps]; done) | (with_reducible refine keeps_forEach ?_ fun _ _ => ?_))

@[simp] theorem stgFatal_keeps (cause : Nat) (s : State) : Keeps s (stgFatal cause s) := by
  unfold stgFatal; split <;> simp [Keeps]

@[simp] theorem stgReady_keeps (s : State) : Keeps s (stgReady s) := by
  unfold stgReady; split <;> simp [Keeps]

@[simp] theorem nvmeCcEnable_keeps (s : State) : Keeps s (nvmeCcEnable s) := by
  unfold nvmeCcEnable; split <;> simp [Keeps]

@[simp] theorem nvmeCcDisable_keeps (s : State) : Keeps s (nvmeCcDisable s) := by
  unfold nvmeCcDisable; split <;> simp [Keeps]

@[simp] theorem wardTimeout_keeps (id : Nat) (s : State) : Keeps s (wardTimeout id s) := by
  unfold wardTimeout; (repeat' split) <;> simp [Keeps]

@[simp] theorem nvmeSqTail_keeps (q tail : Nat) (s : State) : Keeps s (nvmeSqTail q tail s) := by
  unfold nvmeSqTail; split <;> simp [Keeps]

@[simp] theorem nvmeCqHead_keeps (q head : Nat) (s : State) : Keeps s (nvmeCqHead q head s) := by
  unfold nvmeCqHead; split <;> simp [Keeps]

@[simp] theorem createCq_keeps (n : NvmeCmd) (s : State) : Keeps s (createCq n s) := by
  unfold createCq; dsimp only; (repeat' split) <;> simp [Keeps]

@[simp] theorem createSq_keeps (n : NvmeCmd) (s : State) : Keeps s (createSq n s) := by
  unfold createSq; dsimp only; (repeat' split) <;> simp [Keeps]

@[simp] theorem deleteSq_keeps (n : NvmeCmd) (s : State) : Keeps s (deleteSq n s) := by
  unfold deleteSq
  dsimp only
  split
  · simp [Keeps]
  · refine keeps_trans ?_ (keeps_trans (modStg_keeps _ _) (endNvme_keeps ..))
    refine keeps_forEach ?_ fun w t => by simp [Keeps]
    refine keeps_forEach (by simp [Keeps]) fun w t => ?_
    split
    · split <;> simp [Keeps]
    · simp [Keeps]

@[simp] theorem deleteCq_keeps (n : NvmeCmd) (s : State) : Keeps s (deleteCq n s) := by
  unfold deleteCq; dsimp only; (repeat' split) <;> simp [Keeps]

@[simp] theorem identify_keeps (n : NvmeCmd) (s : State) : Keeps s (identify n s) := by
  unfold identify; dsimp only; (repeat' split) <;> simp [Keeps]

@[simp] theorem getLogPage_keeps (n : NvmeCmd) (s : State) : Keeps s (getLogPage n s) := by
  unfold getLogPage; dsimp only; (repeat' split) <;> simp [Keeps]

@[simp] theorem asyncRequest_keeps (n : NvmeCmd) (s : State) : Keeps s (asyncRequest n s) := by
  unfold asyncRequest; (repeat' split) <;> simp [Keeps]

@[simp] theorem setFeatures_keeps (n : NvmeCmd) (s : State) : Keeps s (setFeatures n s) := by
  unfold setFeatures; dsimp only; (repeat' split) <;> simp [Keeps]

@[simp] theorem getFeatures_keeps (n : NvmeCmd) (s : State) : Keeps s (getFeatures n s) := by
  unfold getFeatures; dsimp only; (repeat' split) <;> simp [Keeps]

@[simp] theorem powerStateEntryDone_keeps (s : State) : Keeps s (powerStateEntryDone s) := by
  unfold powerStateEntryDone; (repeat' split) <;> simp [Keeps]

@[simp] theorem nvmePowerStateExit_keeps (s : State) : Keeps s (nvmePowerStateExit s) := by
  unfold nvmePowerStateExit; split <;> simp [Keeps]

@[simp] theorem withScratch_keeps (e : Entry) (s : State) : Keeps s (withScratch e s) := by
  unfold withScratch; simp [Keeps]

@[simp] theorem receive_keeps (p : QuadId) (f : AudioFrame) (s : State) : Keeps s (receive p f s) := by
  unfold receive; dsimp only; (repeat' split) <;> simp [Keeps]

@[simp] theorem nextOut_keeps (p : QuadId) (s : State) : Keeps s (nextOut p s).1 := by
  unfold nextOut; (try dsimp only); repeat' (first | (split; (try (rename_i heq; obtain rfl := fst_of_eq heq))) | (simp [Keeps]; done) | (with_reducible refine keeps_forEach ?_ fun _ _ => ?_))

@[simp] theorem transmit_keeps (p : QuadId) (k : AudioCfg) (s : State) : Keeps s (transmit p k s) := by
  unfold transmit; (try dsimp only); repeat' (first | (split; (try (rename_i heq; obtain rfl := fst_of_eq heq))) | (simp [Keeps]; done) | (with_reducible refine keeps_forEach ?_ fun _ _ => ?_))

@[simp] theorem recoverFrame_keeps (p : QuadId) (s : State) : Keeps s (recoverFrame p s) := by
  unfold recoverFrame; dsimp only; (repeat' split) <;> simp [Keeps]

@[simp] theorem audioFrame_keeps (p : QuadId) (samples : List (BitVec 32)) (s : State) : Keeps s (audioFrame p samples s) := by
  unfold audioFrame; dsimp only; (repeat' split) <;> simp [Keeps]

@[simp] theorem feedMonitors_keeps (p : QuadId) (f : AudioFrame) (s : State) : Keeps s (feedMonitors p f s) := by
  unfold feedMonitors; split <;> simp [Keeps]

@[simp] theorem feedSenders_keeps (p : QuadId) (f : AudioFrame) (s : State) : Keeps s (feedSenders p f s) := by
  unfold feedSenders; simp [Keeps]

@[simp] theorem drainFrame_keeps (p : QuadId) (s : State) : Keeps s (drainFrame p s) := by
  unfold drainFrame; split <;> simp [Keeps]

@[simp] theorem synthesise_keeps (p : QuadId) (s : State) : Keeps s (synthesise p s) := by
  unfold synthesise; dsimp only; (repeat' split) <;> simp [Keeps]

@[simp] theorem audioClock_keeps (s : State) : Keeps s (audioClock s) := by
  unfold audioClock; simp [Keeps]

@[simp] theorem drainAll_keeps (p : QuadId) (s : State) : Keeps s (drainAll p s) := by
  unfold drainAll; simp [Keeps]

@[simp] theorem fadeEvent_keeps (p : QuadId) (s : State) : Keeps s (fadeEvent p s) := by
  unfold fadeEvent; simp [Keeps]

@[simp] theorem audioRecord_keeps (h : Nat) (k : Clip) (s : State) : Keeps s (audioRecord h k s) := by
  unfold audioRecord; (try dsimp only); repeat' (first | (split; (try (rename_i heq; obtain rfl := fst_of_eq heq))) | (simp [Keeps]; done) | (with_reducible refine keeps_forEach ?_ fun _ _ => ?_))

@[simp] theorem audioHinge_keeps (h : Nat) (s : State) : Keeps s (audioHinge h s) := by
  unfold audioHinge; simp [Keeps]

@[simp] theorem audioStartInstant_keeps (p : QuadId) (offset : Nat) (s : State) : Keeps s (audioStartInstant p offset s) := by
  unfold audioStartInstant; dsimp only; (repeat' split) <;> simp [Keeps]

@[simp] theorem loseClock_keeps (p : QuadId) (s : State) : Keeps s (loseClock p s) := by
  unfold loseClock; dsimp only; (repeat' split) <;> simp [Keeps]

@[simp] theorem audClockLost_keeps (p : QuadId) (s : State) : Keeps s (audClockLost p s) := by
  unfold audClockLost; (repeat' split) <;> simp [Keeps]

@[simp] theorem audMclkLost_keeps (s : State) : Keeps s (audMclkLost s) := by
  unfold audMclkLost; split <;> simp [Keeps]

@[simp] theorem stopPort_keeps (p : QuadId) (s : State) : Keeps s (stopPort p s) := by
  unfold stopPort; simp [Keeps]

@[simp] theorem sample_keeps (q : QuadId) (kind detail time : Nat) (s : State) : Keeps s (sample q kind detail time s) := by
  unfold sample; simp [Keeps]

@[simp] theorem posError_keeps (q : QuadId) (k time : Nat) (s : State) : Keeps s (posError q k time s) := by
  unfold posError; dsimp only; (repeat' split) <;> simp [Keeps]

@[simp] theorem compareTriggers_keeps (q : QuadId) (s : State) : Keeps s (compareTriggers q s) := by
  unfold compareTriggers; (try dsimp only); repeat' (first | split | (simp [Keeps]; done) | (with_reducible refine keeps_forEach ?_ fun _ _ => ?_))

@[simp] theorem compareEvent_keeps (q : QuadId) (stamp i : Nat) (s : State) : Keeps s (compareEvent q stamp i s) := by
  unfold compareEvent; simp [Keeps]

@[simp] theorem comparePulseEnd_keeps (q : QuadId) (s : State) : Keeps s (comparePulseEnd q s) := by
  unfold comparePulseEnd; simp [Keeps]

@[simp] theorem rangeEvents_keeps (q : QuadId) (was : Int) (s : State) : Keeps s (rangeEvents q was s) := by
  unfold rangeEvents; dsimp only; (repeat' split) <;> simp [Keeps]

@[simp] theorem movePos_keeps (q : QuadId) (move : Int) (stamp : Nat) (s : State) : Keeps s (movePos q move stamp s) := by
  unfold movePos; simp [Keeps]

@[simp] theorem follow_keeps (q : QuadId) (r : Int) (stamp : Nat) (s : State) : Keeps s (follow q r stamp s) := by
  unfold follow; dsimp only; (repeat' split) <;> simp [Keeps]

@[simp] theorem indexMet_keeps (q : QuadId) (stamp : Nat) (s : State) : Keeps s (indexMet q stamp s) := by
  unfold indexMet; dsimp only; (repeat' split) <;> simp [Keeps]

@[simp] theorem quadrature_keeps (q : QuadId) (a b z : Bool) (stamp : Nat) (s : State) : Keeps s (quadrature q a b z stamp s) := by
  unfold quadrature; dsimp only; (repeat' split) <;> simp [Keeps]

@[simp] theorem hallStep_keeps (q : QuadId) (a b z : Bool) (stamp : Nat) (s : State) : Keeps s (hallStep q a b z stamp s) := by
  unfold hallStep; dsimp only; (repeat' split) <;> simp [Keeps]

@[simp] theorem posTransition_keeps (q : QuadId) (a b z : Bool) (s : State) : Keeps s (posTransition q a b z s) := by
  unfold posTransition; dsimp only; (repeat' split) <;> simp [Keeps]

@[simp] theorem ssiPoll_keeps (q : QuadId) (busy : Bool) (reading : BitVec 32) (s : State) : Keeps s (ssiPoll q busy reading s) := by
  unfold ssiPoll; dsimp only; (repeat' split) <;> simp [Keeps]

@[simp] theorem posStall_keeps (q : QuadId) (s : State) : Keeps s (posStall q s) := by
  unfold posStall; split <;> simp [Keeps]

@[simp] theorem posHinge_keeps (s : State) : Keeps s (posHinge s) := by
  unfold posHinge; (try dsimp only); repeat' (first | split | (simp [Keeps]; done) | (with_reducible refine keeps_forEach ?_ fun _ _ => ?_))

@[simp] theorem modHasp_keeps (f : Hasp → Hasp) (s : State) : Keeps s (modHasp f s) := by
  unfold modHasp; simp [Keeps]

@[simp] theorem modLink_keeps (p : Fin 2) (f : HaspPort → HaspPort) (s : State) : Keeps s (modLink p f s) := by
  unfold modLink; simp [Keeps]

@[simp] theorem modWorker_keeps (w : Fin 8) (f : Worker → Worker) (s : State) : Keeps s (modWorker w f s) := by
  unfold modWorker; simp [Keeps]

@[simp] theorem postLink_keeps (p : Fin 2) (s : State) : Keeps s (postLink p s) := by
  unfold postLink; simp [Keeps]

@[simp] theorem haspLinkAdvance_keeps (p : Fin 2) (n : Fin 8) (hop : Nat) (s : State) : Keeps s (haspLinkAdvance p n hop s) := by
  unfold haspLinkAdvance; dsimp only; (repeat' split) <;> simp [Keeps]

@[simp] theorem haspFail_keeps (p : Fin 2) (s : State) : Keeps s (haspFail p s) := by
  unfold haspFail; dsimp only; (repeat' split) <;> simp [Keeps]

@[simp] theorem haspStateTimeout_keeps (p : Fin 2) (s : State) : Keeps s (haspStateTimeout p s) := by
  unfold haspStateTimeout; split <;> simp [Keeps]

@[simp] theorem haspRetryTimer_keeps (p : Fin 2) (s : State) : Keeps s (haspRetryTimer p s) := by
  unfold haspRetryTimer; simp [Keeps]

@[simp] theorem haspCalibration_keeps (p : Fin 2) (roundTrip turnaround : Nat) (s : State) : Keeps s (haspCalibration p roundTrip turnaround s) := by
  unfold haspCalibration; dsimp only; (repeat' split) <;> simp [Keeps]

@[simp] theorem hingeBroadcastTx_keeps (s : State) : Keeps s (hingeBroadcastTx s) := by
  unfold hingeBroadcastTx; split <;> simp [Keeps]

@[simp] theorem setManager_keeps (n : Nat) (s : State) : Keeps s (setManager n s) := by
  unfold setManager; split <;> simp [Keeps]

@[simp] theorem commitHeld_keeps (h : Nat) (s : State) : Keeps s (commitHeld h s) := by
  unfold commitHeld; simp [Keeps]

@[simp] theorem applyCommit_keeps (b : Broadcast) (s : State) : Keeps s (applyCommit b s) := by
  unfold applyCommit; (repeat' split) <;> simp [Keeps]

@[simp] theorem placeHinge_keeps (at_ : Int) (s : State) : Keeps s (placeHinge at_ s) := by
  unfold placeHinge; split <;> simp [Keeps]

@[simp] theorem haspManagerLost_keeps (s : State) : Keeps s (haspManagerLost s) := by
  unfold haspManagerLost; split <;> simp [Keeps]

@[simp] theorem postWorker_keeps (w : Fin 8) (st reason : Nat) (s : State) : Keeps s (postWorker w st reason s) := by
  unfold postWorker; simp [Keeps]

@[simp] theorem cancelArm_keeps (s : State) : Keeps s (cancelArm s) := by
  unfold cancelArm; split <;> simp [Keeps]

@[simp] theorem loseWorker_keeps (w : Fin 8) (st : Nat) (s : State) : Keeps s (loseWorker w st s) := by
  unfold loseWorker; dsimp only; (repeat' split) <;> simp [Keeps]

@[simp] theorem haspWorkerLost_keeps (w : Fin 8) (s : State) : Keeps s (haspWorkerLost w s) := by
  unfold haspWorkerLost; split <;> simp [Keeps]

@[simp] theorem haspHeartbeatRx_keeps (w : Fin 8) (b : Heartbeat) (s : State) : Keeps s (haspHeartbeatRx w b s) := by
  unfold haspHeartbeatRx; (repeat' split) <;> simp [Keeps]

@[simp] theorem postWorkerEvents_keeps (w : Fin 8) (n : Nat) (s : State) : Keeps s (postWorkerEvents w n s) := by
  unfold postWorkerEvents; simp [Keeps]

@[simp] theorem haspForwardCompletion_keeps (w : Fin 8) (x : WorkerCompletion) (s : State) : Keeps s (haspForwardCompletion w x s) := by
  unfold haspForwardCompletion; (repeat' split) <;> simp [Keeps]

@[simp] theorem haspForwardTimeout_keeps (w : Fin 8) (s : State) : Keeps s (haspForwardTimeout w s) := by
  unfold haspForwardTimeout; (repeat' split) <;> simp [Keeps]

@[simp] theorem finishArm_keeps (a : ArmRun) (s : State) : Keeps s (finishArm a s) := by
  unfold finishArm; simp [Keeps]

@[simp] theorem haspArmConfirm_keeps (w : Fin 8) (s : State) : Keeps s (haspArmConfirm w s) := by
  unfold haspArmConfirm; dsimp only; (repeat' split) <;> simp [Keeps]

@[simp] theorem deliverForward_keeps (b : List Byte) (s : State) : Keeps s (deliverForward b s) := by
  unfold deliverForward; simp [Keeps]

@[simp] theorem relayEvent_keeps (w : Fin 8) (x : EventEntry) (s : State) : Keeps s (relayEvent w x s) := by
  unfold relayEvent; simp [Keeps]

@[simp] theorem receiveHalo_keeps (m : HaspMessage) (s : State) : Keeps s (receiveHalo m s) := by
  unfold receiveHalo; simp [Keeps]

@[simp] theorem receiveCommand_keeps (m : HaspMessage) (s : State) : Keeps s (receiveCommand m s) := by
  unfold receiveCommand; dsimp only; (repeat' split) <;> simp [Keeps]

@[simp] theorem consumeMessage_keeps (m : HaspMessage) (s : State) : Keeps s (consumeMessage m s) := by
  unfold consumeMessage; dsimp only; (repeat' split) <;> simp [Keeps]

@[simp] theorem haspMessageRx_keeps (p : Fin 2) (m : HaspMessage) (s : State) : Keeps s (haspMessageRx p m s) := by
  unfold haspMessageRx; dsimp only; (repeat' split) <;> simp [Keeps]

@[simp] theorem sendParts_keeps (cls dest tick data : Nat) (bytes : List Byte) (s : State) : Keeps s (sendParts cls dest tick data bytes s) := by
  unfold sendParts; simp [Keeps]

@[simp] theorem sendMeans_keeps (c : CtxId) (f : Frame) (s : State) : Keeps s (sendMeans c f s) := by
  unfold sendMeans
  split
  · simp [Keeps]
  · refine keeps_forEach (by simp [Keeps]) fun w t => ?_
    refine keeps_forEach (by simp [Keeps]) fun p u => ?_
    refine keeps_forEach (by simp [Keeps]) fun y v => ?_
    dsimp only; split <;> simp [Keeps]

@[simp] theorem sendGradeRows_keeps (c : CtxId) (b : Bank) (tick : Nat) (i : GradeImage) (s : State) : Keeps s (sendGradeRows c b tick i s) := by
  unfold sendGradeRows; (try dsimp only); repeat' (first | split | (simp [Keeps]; done) | (with_reducible refine keeps_forEach ?_ fun _ _ => ?_))

@[simp] theorem sendBand_keeps (c : CtxId) (r : PassResult) (s : State) : Keeps s (sendBand c r s) := by
  unfold sendBand; (repeat' split) <;> simp [Keeps]

@[simp] theorem mergeResult_keeps (c : CtxId) (r : PassResult) (s : State) : Keeps s (mergeResult c r s).1 := by
  unfold mergeResult; (try dsimp only); repeat' (first | (split; (try (rename_i heq; obtain rfl := fst_of_eq heq))) | (simp [Keeps]; done) | (with_reducible refine keeps_forEach ?_ fun _ _ => ?_))

@[simp] theorem haspGuard_keeps (s : State) : Keeps s (haspGuard s) := by
  unfold haspGuard; dsimp only; (repeat' split) <;> simp [Keeps]

@[simp] theorem haspHinge_keeps (h : Nat) (s : State) : Keeps s (haspHinge h s) := by
  unfold haspHinge; (try dsimp only); repeat' (first | split | (simp [Keeps]; done) | (with_reducible refine keeps_forEach ?_ fun _ _ => ?_))

@[simp] theorem modTwb_keeps (f : Twb → Twb) (s : State) : Keeps s (modTwb f s) := by
  unfold modTwb; simp [Keeps]

@[simp] theorem submit_keeps (s : State) : Keeps s (submit s) := by
  unfold submit; split <;> simp [Keeps]

@[simp] theorem ackCompletion_keeps (s : State) : Keeps s (ackCompletion s) := by
  unfold ackCompletion; split <;> simp [Keeps]

@[simp] theorem nextEvent_keeps (s : State) : Keeps s (nextEvent s) := by
  unfold nextEvent; simp [Keeps]

@[simp] theorem writeApbase_keeps (i : Nat) (v : Byte) (s : State) : Keeps s (writeApbase i v s) := by
  unfold writeApbase; split <;> simp [Keeps]

@[simp] theorem writeByte_keeps (a : Nat) (v : Byte) (s : State) : Keeps s (writeByte a v s) := by
  unfold writeByte; (repeat' split) <;> simp [Keeps]

@[simp] theorem commitAt_keeps (a : Byte) (v : Byte) (s : State) : Keeps s (commitAt a v s) := by
  unfold commitAt; split <;> simp [Keeps]

@[simp] theorem takeSnapshot_keeps (s : State) : Keeps s (takeSnapshot s) := by
  unfold takeSnapshot; simp [Keeps]

@[simp] theorem addressByte_keeps (v : Byte) (s : State) : Keeps s (addressByte v s) := by
  unfold addressByte; (repeat' split) <;> simp [Keeps]

@[simp] theorem byteCommit_keeps (wr : Bool) (v : Byte) (s : State) : Keeps s (byteCommit wr v s) := by
  unfold byteCommit; (repeat' split) <;> simp [Keeps]

@[simp] theorem startStop_keeps (start : Bool) (s : State) : Keeps s (startStop start s) := by
  unfold startStop; (repeat' split) <;> simp [Keeps]

@[simp] theorem sclTimeout_keeps (s : State) : Keeps s (sclTimeout s) := by
  unfold sclTimeout; split <;> simp [Keeps]

@[simp] theorem modControl_keeps (f : Control → Control) (s : State) : Keeps s (modControl f s) := by
  unfold modControl; simp [Keeps]

@[simp] theorem resetPort_keeps (p : PortId) (s : State) : Keeps s (resetPort p s) := by
  unfold resetPort; dsimp only; (repeat' split) <;> simp [Keeps]

@[simp] theorem resetOutput_keeps (o : QuadId) (s : State) : Keeps s (resetOutput o s) := by
  unfold resetOutput; simp [Keeps]

@[simp] theorem resetCore_keeps (k : Fin 8) (s : State) : Keeps s (resetCore k s) := by
  unfold resetCore; simp [Keeps]

@[simp] theorem resetCompression_keeps (s : State) : Keeps s (resetCompression s) := by
  unfold resetCompression
  refine keeps_trans ?_ (modCmp_keeps ..)
  refine keeps_forEach (by simp [Keeps]) fun i t => ?_
  refine keeps_forEach (by simp [Keeps]) fun x u => ?_
  split <;> simp [Keeps]

@[simp] theorem resetAudio_keeps (p : QuadId) (s : State) : Keeps s (resetAudio p s) := by
  unfold resetAudio; simp [Keeps]

@[simp] theorem resetChannel_keeps (q : QuadId) (s : State) : Keeps s (resetChannel q s) := by
  unfold resetChannel; simp [Keeps]

@[simp] theorem resetLink_keeps (p : Fin 2) (s : State) : Keeps s (resetLink p s) := by
  unfold resetLink; simp [Keeps]

@[simp] theorem resetTwb_keeps (s : State) : Keeps s (resetTwb s) := by
  unfold resetTwb; simp [Keeps]

@[simp] theorem resetBlock_keeps (b : Nat) (s : State) : Keeps s (resetBlock b s) := by
  unfold resetBlock; (repeat' split) <;> simp [Keeps]

@[simp] theorem retireDead_keeps (b : Nat) (s : State) : Keeps s (retireDead b s) := by
  unfold retireDead; split <;> simp [Keeps]

@[simp] theorem dropDraining_keeps (s : State) : Keeps s (dropDraining s) := by
  unfold dropDraining; simp [Keeps]

@[simp] theorem blockDrainDone_keeps (drained : Nat) (cameOut : Bool) (s : State) : Keeps s (blockDrainDone drained cameOut s) := by
  unfold blockDrainDone; (repeat' split) <;> simp [Keeps]

@[simp] theorem blockQuiesceTimeout_keeps (outstanding : Nat) (s : State) : Keeps s (blockQuiesceTimeout outstanding s) := by
  unfold blockQuiesceTimeout; split <;> simp [Keeps]

@[simp] theorem hungPortResponse_keeps (block : Nat) (r : MemReq) (s : State) : Keeps s (hungPortResponse block r s) := by
  unfold hungPortResponse; split <;> simp [Keeps]

@[simp] theorem resetController_keeps (s : State) : Keeps s (resetController s) := by
  unfold resetController; simp [Keeps]

@[simp] theorem resetEndpoint_keeps (s : State) : Keeps s (resetEndpoint s) := by
  unfold resetEndpoint; simp [Keeps]

@[simp] theorem portOff_keeps (reason : Nat) (p : PortId) (s : State) : Keeps s (portOff reason p s) := by
  unfold portOff; split <;> simp [Keeps]

@[simp] theorem loseDomain_keeps (d : Fin 25) (s : State) : Keeps s (loseDomain d s) := by
  unfold loseDomain; (repeat' split) <;> simp [Keeps]

@[simp] theorem domainOff_keeps (d : Fin 25) (s : State) : Keeps s (domainOff d s) := by
  unfold domainOff; split <;> simp [Keeps]

@[simp] theorem tripWith_keeps (detail : Nat) (s : State) : Keeps s (tripWith detail s) := by
  unfold tripWith; split <;> simp [Keeps]

@[simp] theorem mbCmdTailWrite_keeps (m : MbId) (v : BitVec 32) (s : State) : Keeps s (mbCmdTailWrite m v s) := by
  unfold mbCmdTailWrite; split <;> simp [Keeps]

@[simp] theorem mbEnable_keeps (m : MbId) (on : Bool) (s : State) : Keeps s (mbEnable m on s) := by
  unfold mbEnable; (repeat' split) <;> simp [Keeps]

@[simp] theorem mbRingReset_keeps (m : MbId) (s : State) : Keeps s (mbRingReset m s) := by
  unfold mbRingReset; split <;> simp [Keeps]

@[simp] theorem mbHeads_keeps (m : MbId) (f : Mailbox → Mailbox) (s : State) : Keeps s (mbHeads m f s) := by
  unfold mbHeads; split <;> simp [Keeps]

@[simp] theorem mbCtrl_keeps (m : MbId) (v : BitVec 32) (s : State) : Keeps s (mbCtrl m v s) := by
  unfold mbCtrl; simp [Keeps]

@[simp] theorem tickLoRead_keeps (s : State) : Keeps s (tickLoRead s) := by
  unfold tickLoRead; simp [Keeps]

@[simp] theorem msixWrite_keeps (n : Nat) (v : BitVec 32) (s : State) : Keeps s (msixWrite n v s) := by
  unfold msixWrite; dsimp only; (repeat' split) <;> simp [Keeps]

@[simp] theorem mbWrite_keeps (m : MbId) (o : Nat) (v : BitVec 32) (s : State) : Keeps s (mbWrite m o v s) := by
  unfold mbWrite; split <;> simp [Keeps]

@[simp] theorem bar0Write_keeps (o : Nat) (v : BitVec 32) (s : State) : Keeps s (bar0Write o v s) := by
  unfold bar0Write; (repeat' split) <;> simp [Keeps]

@[simp] theorem ccWrite_keeps (v : BitVec 32) (s : State) : Keeps s (ccWrite v s) := by
  unfold ccWrite; (repeat' split) <;> simp [Keeps]

@[simp] theorem nvmeMsixWrite_keeps (n : Nat) (v : BitVec 32) (s : State) : Keeps s (nvmeMsixWrite n v s) := by
  unfold nvmeMsixWrite; dsimp only; (repeat' split) <;> simp [Keeps]

@[simp] theorem nvmeWrite_keeps (o : Nat) (v : BitVec 32) (s : State) : Keeps s (nvmeWrite o v s) := by
  unfold nvmeWrite; (repeat' split) <;> simp [Keeps]

@[simp] theorem registerWrite_keeps (function : Fin 2) (o size : Nat) (v : BitVec 32) (s : State) : Keeps s (registerWrite function o size v s) := by
  unfold registerWrite; (repeat' split) <;> simp [Keeps]

@[simp] theorem modCollector_keeps (f : Collector → Collector) (s : State) : Keeps s (modCollector f s) := by
  unfold modCollector; simp [Keeps]

@[simp] theorem markTakeover_keeps (u : UnitId) (s : State) : Keeps s (markTakeover u s) := by
  unfold markTakeover; simp [Keeps]

@[simp] theorem declareDead_keeps (u : UnitId) (detail : Nat) (s : State) : Keeps s (declareDead u detail s) := by
  unfold declareDead; dsimp only; (repeat' split) <;> simp [Keeps]

@[simp] theorem rowBlockCheck_keeps (u : UnitId) (r : UnitCheck) (s : State) : Keeps s (rowBlockCheck u r s) := by
  unfold rowBlockCheck; dsimp only; (repeat' split) <;> simp [Keeps]

@[simp] theorem spareSelfTestFail_keeps (r : RegionId) (k : Fin 2) (s : State) : Keeps s (spareSelfTestFail r k s) := by
  unfold spareSelfTestFail; split <;> simp [Keeps]

@[simp] theorem fencedActivity_keeps (r : RegionId) (detail : Nat) (s : State) : Keeps s (fencedActivity r detail s) := by
  unfold fencedActivity; simp [Keeps]

@[simp] theorem fencedRequest_keeps (u : UnitId) (s : State) : Keeps s (fencedRequest u s) := by
  unfold fencedRequest; split <;> simp [Keeps]

@[simp] theorem reintegrationTestDone_keeps (u : UnitId) (pass : Bool) (s : State) : Keeps s (reintegrationTestDone u pass s) := by
  unfold reintegrationTestDone; (repeat' split) <;> simp [Keeps]

@[simp] theorem unitsHinge_keeps (s : State) : Keeps s (unitsHinge s) := by
  unfold unitsHinge; simp [Keeps]

@[simp] theorem restripe_keeps (h : Nat) (c : CtxId) (s : State) : Keeps s (restripe h c s) := by
  unfold restripe; simp [Keeps]

@[simp] theorem restripeDue_keeps (s : State) : Keeps s (restripeDue s) := by
  unfold restripeDue; (try dsimp only); repeat' (first | split | (simp [Keeps]; done) | (with_reducible refine keeps_forEach ?_ fun _ _ => ?_))

@[simp] theorem postRaised_keeps (x : SourceId × Byte) (s : State) : Keeps s (postRaised x s) := by
  unfold postRaised; simp [Keeps]

@[simp] theorem postDue_keeps (s : State) : Keeps s (postDue s) := by
  unfold postDue; simp [Keeps]

@[simp] theorem postDeadbolt_keeps (s : State) : Keeps s (postDeadbolt s) := by
  unfold postDeadbolt; (repeat' split) <;> simp [Keeps]

@[simp] theorem collectorParityError_keeps (s : State) : Keeps s (collectorParityError s) := by
  unfold collectorParityError; simp [Keeps]

@[simp] theorem lockstepMismatch_keeps (s : State) : Keeps s (lockstepMismatch s) := by
  unfold lockstepMismatch; simp [Keeps]

@[simp] theorem sramEccError_keeps (e : SramError) (s : State) : Keeps s (sramEccError e s) := by
  unfold sramEccError; split <;> simp [Keeps]

@[simp] theorem injectSource_keeps (e : Entry) (s : State) : Keeps s (injectSource e s) := by
  unfold injectSource; dsimp only; (repeat' split) <;> simp [Keeps]

@[simp] theorem leaveFree_keeps (c : CtxId) (s : State) : Keeps s (leaveFree c s) := by
  unfold leaveFree; split <;> simp [Keeps]

@[simp] theorem setSource_keeps (c : CtxId) (v : Source) (s : State) : Keeps s (setSource c v s) := by
  unfold setSource; simp [Keeps]

@[simp] theorem place_keeps (c : CtxId) (v : Nat) (s : State) : Keeps s (place c v s) := by
  unfold place; split <;> simp [Keeps]

@[simp] theorem setRing_keeps (p : PortId) (n : Nat) (s : State) : Keeps s (setRing p n s) := by
  unfold setRing; simp [Keeps]

@[simp] theorem switchDomain_keeps (d : Fin 25) (v : Nat) (s : State) : Keeps s (switchDomain d v s) := by
  unfold switchDomain; (repeat' split) <;> simp [Keeps]

@[simp] theorem restartTime_keeps (s : State) : Keeps s (restartTime s) := by
  unfold restartTime; simp [Keeps]

@[simp] theorem domainWakeDone_keeps (d : Fin 25) (s : State) : Keeps s (domainWakeDone d s) := by
  unfold domainWakeDone; split <;> simp [Keeps]

@[simp] theorem setClock_keeps (die : Fin 2) (mhz : Nat) (s : State) : Keeps s (setClock die mhz s) := by
  unfold setClock; simp [Keeps]

@[simp] theorem setCeiling_keeps (mw : Nat) (s : State) : Keeps s (setCeiling mw s) := by
  unfold setCeiling; simp [Keeps]

@[simp] theorem modThermal_keeps (f : Thermal → Thermal) (s : State) : Keeps s (modThermal f s) := by
  unfold modThermal; simp [Keeps]

@[simp] theorem thmWarning_keeps (kind threshold sensor : Nat) (max : Int) (s : State) : Keeps s (thmWarning kind threshold sensor max s) := by
  unfold thmWarning; simp [Keeps]

@[simp] theorem takeReadings_keeps (l : List Int) (s : State) : Keeps s (takeReadings l s) := by
  unfold takeReadings; simp [Keeps]

@[simp] theorem thresholdStep_keeps (k : Fin 3) (v : Int) (i : Nat) (s : State) : Keeps s (thresholdStep k v i s) := by
  unfold thresholdStep; dsimp only; (repeat' split) <;> simp [Keeps]

@[simp] theorem thermalSample_keeps (l : List Int) (s : State) : Keeps s (thermalSample l s) := by
  unfold thermalSample; dsimp only; (repeat' split) <;> simp [Keeps]

@[simp] theorem perstChange_keeps (asserted : Bool) (s : State) : Keeps s (perstChange asserted s) := by
  unfold perstChange; split <;> simp [Keeps]

@[simp] theorem endpointLinkDown_keeps (uncorrectable : Bool) (s : State) : Keeps s (endpointLinkDown uncorrectable s) := by
  unfold endpointLinkDown; split <;> simp [Keeps]

@[simp] theorem endpointLinkUp_keeps (s : State) : Keeps s (endpointLinkUp s) := by
  unfold endpointLinkUp; split <;> simp [Keeps]

@[simp] theorem writeHeader_keeps (preferred pending : Nat) (s : State) : Keeps s (writeHeader preferred pending s) := by
  unfold writeHeader; dsimp only; (repeat' split) <;> simp [Keeps]

@[simp] theorem securitySignDone_keeps (ok : Bool) (s : State) : Keeps s (securitySignDone ok s) := by
  unfold securitySignDone; (repeat' split) <;> simp [Keeps]

@[simp] theorem securityEngineFault_keeps (s : State) : Keeps s (securityEngineFault s) := by
  unfold securityEngineFault; dsimp only; (repeat' split) <;> simp [Keeps]

@[simp] theorem securitySelfCheckDone_keeps (ok : Bool) (s : State) : Keeps s (securitySelfCheckDone ok s) := by
  unfold securitySelfCheckDone; (repeat' split) <;> simp [Keeps]

@[simp] theorem imageWriteDone_keeps (ok : Bool) (s : State) : Keeps s (imageWriteDone ok s) := by
  unfold imageWriteDone; (repeat' split) <;> simp [Keeps]

@[simp] theorem setPreferredDone_keeps (result : Nat) (s : State) : Keeps s (setPreferredDone result s) := by
  unfold setPreferredDone; (repeat' split) <;> simp [Keeps]

@[simp] theorem burnFuse_keeps (s : State) : Keeps s (burnFuse s) := by
  unfold burnFuse; simp [Keeps]

@[simp] theorem fuseBurnDone_keeps (ok : Bool) (s : State) : Keeps s (fuseBurnDone ok s) := by
  unfold fuseBurnDone; dsimp only; (repeat' split) <;> simp [Keeps]

@[simp] theorem modBoot_keeps (f : Boot → Boot) (s : State) : (modBoot f s).pending = s.pending ∧ (modBoot f s).clk = s.clk
    ∧ (modBoot f s).tick = s.tick ∧ (modBoot f s).bar0 = s.bar0 ∧ (modBoot f s).boot = f s.boot := ⟨rfl, rfl, rfl, rfl, rfl⟩

@[simp] theorem modRetention_keeps (f : Retention → Retention) (s : State) : Keeps s (modRetention f s) := by
  unfold modRetention; simp [Keeps]

@[simp] theorem resetRelease_keeps (x : ResetSource) (s : State) : Keeps s (resetRelease x s) := by
  unfold resetRelease; dsimp only; (repeat' split) <;> simp [Keeps]

@[simp] theorem stretchEnd_keeps (s : State) : Keeps s (stretchEnd s) := by
  unfold stretchEnd; split <;> simp [Keeps]

@[simp] theorem fuseLoadDone_keeps (ok : Bool) (f : Fuses) (s : State) : Keeps s (fuseLoadDone ok f s) := by
  unfold fuseLoadDone; (repeat' split) <;> simp [Keeps]

@[simp] theorem domainsOn_keeps (l : List (Fin 25)) (s : State) : Keeps s (domainsOn l s) := by
  unfold domainsOn; simp [Keeps]

@[simp] theorem enterRecovery_keeps (reason : Nat) (s : State) : Keeps s (enterRecovery reason s) := by
  unfold enterRecovery; simp [Keeps]

@[simp] theorem completeBurn_keeps (s : State) : Keeps s (completeBurn s) := by
  unfold completeBurn; split <;> simp [Keeps]

@[simp] theorem mgmtRelease_keeps (s : State) : Keeps s (mgmtRelease s) := by
  unfold mgmtRelease; (repeat' split) <;> simp [Keeps]

@[simp] theorem enableBoxes_keeps (s : State) : Keeps s (enableBoxes s) := by
  unfold enableBoxes; simp [Keeps]

@[simp] theorem bringUp_keeps (s : State) : Keeps s (bringUp s) := by
  unfold bringUp; split <;> simp [Keeps]

@[simp] theorem reportRetry_keeps (s : State) : Keeps s (reportRetry s) := by
  unfold reportRetry; split <;> simp [Keeps]

@[simp] theorem startKongaord_keeps (slot : Nat) (f : FirmwareInfo) (s : State) : Keeps s (startKongaord slot f s) := by
  unfold startKongaord; simp [Keeps]

@[simp] theorem restartKongaord_keeps (slot : Nat) (f : FirmwareInfo) (s : State) : Keeps s (restartKongaord slot f s) := by
  unfold restartKongaord; simp [Keeps]

@[simp] theorem imageVerifyDone_keeps (a b : SlotResult) (f : FirmwareInfo) (s : State) : Keeps s (imageVerifyDone a b f s) := by
  unfold imageVerifyDone; (repeat' split) <;> simp [Keeps]

@[simp] theorem startGenerator_keeps (s : State) : Keeps s (startGenerator s) := by
  unfold startGenerator; simp [Keeps]

@[simp] theorem endpointOff_keeps (s : State) : Keeps s (endpointOff s) := by
  unfold endpointOff; split <;> simp [Keeps]

@[simp] theorem startComplete_keeps (s : State) : Keeps s (startComplete s) := by
  unfold startComplete; (repeat' split) <;> simp [Keeps]

@[simp] theorem rescanHeaders_keeps (s : State) : Keeps s (rescanHeaders s) := by
  unfold rescanHeaders; simp [Keeps]

@[simp] theorem flashEffect_keeps (x : FlashOp) (ok : Bool) (done : Nat) (s : State) : Keeps s (flashEffect x ok done s) := by
  unfold flashEffect; (repeat' split) <;> simp [Keeps]

@[simp] theorem flashOpDone_keeps (ok : Bool) (done : Nat) (s : State) : Keeps s (flashOpDone ok done s) := by
  unfold flashOpDone; dsimp only; (repeat' split) <;> simp [Keeps]

@[simp] theorem rejectUnknown_keeps (m : MbId) (s : State) : Keeps s (rejectUnknown m s) := by
  unfold rejectUnknown; (repeat' split) <;> simp [Keeps]

@[simp] theorem rejectUnknowns_keeps (s : State) : Keeps s (rejectUnknowns s) := by
  unfold rejectUnknowns; simp [Keeps]

@[simp] theorem raiseSome_keeps (v : Option (Fin 32)) (s : State) : Keeps s (raiseSome v s) := by
  unfold raiseSome; split <;> simp [Keeps]

@[simp] theorem mailboxInterrupts_keeps (s : State) : Keeps s (mailboxInterrupts s) := by
  unfold mailboxInterrupts; (try dsimp only); repeat' (first | split | (simp [Keeps]; done) | (with_reducible refine keeps_forEach ?_ fun _ _ => ?_))

@[simp] theorem tickWork_keeps (hbmTemps : List Int) (s : State) : Keeps s (tickWork hbmTemps s) := by
  unfold tickWork; simp [Keeps]

@[simp] theorem abortFrame_keeps (c : CtxId) (h : Nat) (f : Frame) (s : State) : Keeps s (abortFrame c h f s) := by
  unfold abortFrame; split <;> simp [Keeps]

@[simp] theorem abortDevelopment_keeps (h : Nat) (s : State) : Keeps s (abortDevelopment h s) := by
  unfold abortDevelopment; simp [Keeps]

@[simp] theorem latchDoorbells_counts (g : TickGen) : (latchDoorbells g).counter = g.counter ∧ (latchDoorbells g).hinges = g.hinges := by
  unfold latchDoorbells; (try dsimp only); repeat' (first | split | (simp; done) | exact ⟨rfl, rfl⟩)

@[simp] theorem openGuard_keeps (h : Nat) (badPass : BitVec 4) (s : State) : Keeps s (openGuard h badPass s) := by
  unfold openGuard; simp [Keeps]

@[simp] theorem hingeGuardOpen_keeps (badPass : BitVec 4) (s : State) : Keeps s (hingeGuardOpen badPass s) := by
  unfold hingeGuardOpen; split <;> simp [Keeps]

@[simp] theorem startCtx_keeps (c : CtxId) (s : State) : Keeps s (startCtx c s) := by
  unfold startCtx; split <;> simp [Keeps]

@[simp] theorem stopCtx_keeps (c : CtxId) (h : Nat) (s : State) : Keeps s (stopCtx c h s) := by
  unfold stopCtx; split <;> simp [Keeps]

@[simp] theorem newRing_keeps (c : CtxId) (v : RecCfg) (s : State) : Keeps s (newRing c v s) := by
  unfold newRing; split <;> simp [Keeps]

@[simp] theorem goLive_keeps (h : Nat) (x : Change) (s : State) : Keeps s (goLive h x s) := by
  unfold goLive; split <;> simp [Keeps]

@[simp] theorem checkBank_keeps (c : CtxId) (h : Nat) (s : State) : Keeps s (checkBank c h s) := by
  unfold checkBank; simp [Keeps]

@[simp] theorem settleSlots_keeps (before : State) (c : CtxId) (s : State) : Keeps s (settleSlots before c s) := by
  unfold settleSlots; dsimp only; (repeat' split) <;> simp [Keeps]

@[simp] theorem applyDue_keeps (h : Nat) (s : State) : Keeps s (applyDue h s) := by
  unfold applyDue; simp [Keeps]

@[simp] theorem doorbellAct_keeps (d : Doorbell) (s : State) : Keeps s (doorbellAct d s) := by
  unfold doorbellAct; split <;> simp [Keeps]

@[simp] theorem doorbell_keeps (h : Nat) (d : Doorbell) (s : State) : Keeps s (doorbell h d s) := by
  unfold doorbell; simp [Keeps]

@[simp] theorem lostWords_keeps (s : State) : Keeps s (lostWords s) := by
  unfold lostWords; dsimp only; (repeat' split) <;> simp [Keeps]

@[simp] theorem doorbells_keeps (h : Nat) (s : State) : Keeps s (doorbells h s) := by
  unfold doorbells; split <;> simp [Keeps]

@[simp] theorem tagRequests_keeps (c : CtxId) (h : Nat) (s : State) : Keeps s (tagRequests c h s) := by
  unfold tagRequests; dsimp only; (repeat' split) <;> simp [Keeps]

@[simp] theorem take_keeps (h : Nat) (c : CtxId) (s : State) : Keeps s (take h c s) := by
  unfold take; simp [Keeps]

@[simp] theorem startTap_keeps (c : CtxId) (h : Nat) (s : State) : Keeps s (startTap c h s) := by
  unfold startTap; dsimp only; (repeat' split) <;> simp [Keeps]

@[simp] theorem startFrame_keeps (c : CtxId) (f : Frame) (s : State) : Keeps s (startFrame c f s) := by
  unfold startFrame; simp [Keeps]

@[simp] theorem develops_keeps (h : Nat) (c : CtxId) (s : State) : Keeps s (develops h c s) := by
  unfold develops; simp [Keeps]

@[simp] theorem resultLive_keeps (c : CtxId) (r : PassResult) (s : State) : Keeps s (resultLive c r s) := by
  unfold resultLive; (try dsimp only); repeat' (first | (split; (try (rename_i heq; obtain rfl := fst_of_eq heq))) | (simp [Keeps]; done) | (with_reducible refine keeps_forEach ?_ fun _ _ => ?_))

@[simp] theorem resultsLive_keeps (h : Nat) (c : CtxId) (s : State) : Keeps s (resultsLive h c s) := by
  unfold resultsLive; dsimp only; (repeat' split) <;> simp [Keeps]

@[simp] theorem endStopping_keeps (c : CtxId) (s : State) : Keeps s (endStopping c s) := by
  unfold endStopping; dsimp only; (repeat' split) <;> simp [Keeps]

@[simp] theorem portsHinge_keeps (s : State) : Keeps s (portsHinge s) := by
  unfold portsHinge; simp [Keeps]

@[simp] theorem countsHinge_keeps (h : Nat) (s : State) : Keeps s (countsHinge h s) := by
  unfold countsHinge; simp [Keeps]

@[simp] theorem hingeStep5_keeps (s : State) : Keeps s (hingeStep5 s) := by
  unfold hingeStep5; simp [Keeps]

@[simp] theorem armHeld_keeps (h : Nat) (s : State) : Keeps s (armHeld h s) := by
  unfold armHeld; simp [Keeps]

@[simp] theorem advanceTime_keeps (s : State) : Keeps s (advanceTime s) := by
  unfold advanceTime; split <;> simp [Keeps]

end Sys2Proof.Machine
end

