-- ==== Sys2Proof/Laws/Invariants.lean ====
section
/-!
SUPPORT. Invariants: for each operation of the model, once, that it does not leave deadbolt and that every sparse memory keeps its
canonical form. Resets and the start of Kongaord have lemmas of their own in Laws/Commands.lean.
-/

namespace Sys2Proof.Machine

/-- From `s` to `t` deadbolt is not left, and every memory keeps its canonical form. -/
def Safe (s t : State) : Prop := (s.devState = 4 → t.devState = 4) ∧ (Canonical s → Canonical t)

@[simp] theorem safe_refl (s : State) : Safe s s := ⟨id, id⟩

theorem safe_trans {s t u : State} (h1 : Safe s t) (h2 : Safe t u) : Safe s u := ⟨h2.1 ∘ h1.1, h2.2 ∘ h1.2⟩

@[simp] theorem safe_mk {s u : State} (h : Safe s u) (a1 : List Instr) (a2 : Nat) (a3 : List Emission) (a4 : Nat) (b : Bool) (c1 : Boot)
    (c2 : TickGen) (c3 : Front0) (c4 : Bar0) (c5 : Bool) (c6 : Collector) (c7 : Vector Region 4) (c8 : Vector Port 4)
    (c9 : Vector Context 8) (d1 : Vector (Vector LutSlot 16) 4) (d2 : List LutLoad) (d3 : Nat) (d4 : List TableVersion) (d5 : Nat)
    (d6 : Power) (d7 : Thermal) (d8 : TimeBase) (d9 : Compression) (e1 : Vector Recording 8) (e2 : List HostRing) (e3 : Nat)
    (e4 : Vector MediaPort 2) (e5 : Storage) (e6 : Security) (e7 : Coders) (e8 : Vector Output 4) (e9 : Audio) (f1 : Net) (f2 : Ptp)
    (f3 : Triggers) (f4 : Vector PosChannel 4) (f5 : Hasp) (f6 : Twb) (f7 : Control) :
    Safe s { pending := a1, clk := a2, out := a3, free := a4, devState := u.devState, kongaord := b, boot := c1, tick := c2, cmd := c3,
             mailboxes := u.mailboxes, bar0 := c4, hostMem := u.hostMem, hostUp := c5, collector := c6, regions := c7, ports := c8,
             contexts := c9, luts := d1, lutLoads := d2, lutCount := d3, tables := d4, tableCount := d5, power := d6, thermal := d7,
             time := d8, cmp := d9, recs := e1, hostRings := e2, clipCount := e3, media := e4, stg := e5, sec := e6, vc := e7,
             outputs := e8, audio := e9, net := f1, ptp := f2, triggers := f3, pos := f4, hasp := f5, twb := f6, control := f7,
             ns2 := u.ns2, mem := u.mem, flash := u.flash } := h

theorem safe_forEach {α : Type} {f : α → State → State} {l : List α} {s t : State} (h1 : Safe s t)
    (h2 : ∀ x u, Safe u (f x u)) : Safe s (forEach l f t) := by
  refine safe_trans h1 ?_
  unfold forEach
  induction l generalizing t s with
  | nil => exact safe_refl _
  | cons x xs ih => exact safe_trans (h2 x t) (ih (safe_refl _))

@[simp] theorem forEach_safe {α : Type} {f : α → State → State} {l : List α} {s t : State} (h1 : Safe s t)
    (h2 : ∀ x u, Safe u (f x u)) : Safe s (forEach l f t) := safe_forEach h1 h2

@[simp] theorem foldl_safe {α : Type} {f : State → α → State} {l : List α} {s t : State} (h1 : Safe s t)
    (h2 : ∀ x u, Safe u (f u x)) : Safe s (l.foldl f t) := safe_forEach (f := fun x t => f t x) h1 h2

@[simp] theorem when_safe {f : State → State} {c : Bool} {s t : State} (h : Safe s (f t)) (h' : Safe s t) :
    Safe s (Machine.when c f t) := by
  unfold Machine.when; split
  · exact h
  · exact h'

theorem canonical_set {s : State} (h : Canonical s) (m : MbId) (f : Mailbox → Mailbox)
    (hf : ∀ b : Mailbox, Memory.wf b.arena = true → Memory.wf (f b).arena = true) : Canonical (modMb m f s) := by
  obtain ⟨h1, h2, h3, h4, h5⟩ := h
  refine ⟨h1, h2, h3, h4, fun k => ?_⟩
  by_cases hk : k = m
  · subst hk; simpa [modMb] using hf _ (h5 k)
  · have : m.val ≠ k.val := fun e => hk (Fin.ext e.symm)
    simpa [modMb, Vector.getElem_set, this] using h5 k

@[simp] theorem modMb_safe (m : MbId) {f : Mailbox → Mailbox} {s0 s : State} (hs : Safe s0 s)
    (hf : ∀ b : Mailbox, Memory.wf b.arena = true → Memory.wf (f b).arena = true) : Safe s0 (modMb m f s) :=
  safe_trans hs ⟨id, fun h => canonical_set h m f hf⟩

@[simp] theorem modPort_safe (p : PortId) (f : Port → Port) {s0 s : State} (hs : Safe s0 s) : Safe s0 (modPort p f s) := by
  unfold modPort; simp (maxDischargeDepth := 40) [hs]

@[simp] theorem modCtx_safe (c : CtxId) (f : Context → Context) {s0 s : State} (hs : Safe s0 s) : Safe s0 (modCtx c f s) := by
  unfold modCtx; simp (maxDischargeDepth := 40) [hs]

@[simp] theorem modRegion_safe (r : RegionId) (f : Region → Region) {s0 s : State} (hs : Safe s0 s) : Safe s0 (modRegion r f s) := by
  unfold modRegion; simp (maxDischargeDepth := 40) [hs]

@[simp] theorem modCluster_safe (r : RegionId) (k : Fin 2) (f : Cluster → Cluster) {s0 s : State} (hs : Safe s0 s) : Safe s0 (modCluster r k f s) := by
  unfold modCluster; simp (maxDischargeDepth := 40) [hs]

@[simp] theorem modBank_safe (c : CtxId) (f : Bank → Bank) {s0 s : State} (hs : Safe s0 s) : Safe s0 (modBank c f s) := by
  unfold modBank; simp (maxDischargeDepth := 40) [hs]

@[simp] theorem emit_safe (x : Emission) {s0 s : State} (hs : Safe s0 s) : Safe s0 (emit x s) := by
  unfold emit; simp (maxDischargeDepth := 40) [hs]

@[simp] theorem raiseVector_safe (v : Fin 32) {s0 s : State} (hs : Safe s0 s) : Safe s0 (raiseVector v s) := by
  unfold raiseVector; dsimp only; (repeat' split) <;> simp (maxDischargeDepth := 40) [hs]

theorem pushEvt_arena (x : EventEntry) (b : Mailbox) : (pushEvt x b).arena = b.arena := rfl

theorem pushHeld_arena : ∀ (l : List EventEntry) (b : Mailbox), (pushHeld l b).arena = b.arena
  | [], _ => rfl
  | x :: xs, b => by
    unfold pushHeld; split
    · rfl
    · rw [pushHeld_arena xs]; rfl

@[simp] theorem flushRing_arena (tick : BitVec 64) (seq : BitVec 32) (b : Mailbox) : (flushRing tick seq b).arena = b.arena := by
  unfold flushRing; split
  · rfl
  · split
    · rw [pushHeld_arena]
    · dsimp only; rw [pushHeld_arena]; rfl

@[simp] theorem deliver_arena (x : EventEntry) (b : Mailbox) : (deliver x b).arena = b.arena := by
  unfold deliver; dsimp only; split
  · simp
  · simp [pushEvt]

@[simp] theorem post_safe (code : Nat) (c : Option CtxId) (frame : BitVec 48) (detail : Nat) {s0 s : State} (hs : Safe s0 s) : Safe s0 (post code c frame detail s) := by
  unfold post
  refine safe_forEach ?_ fun m u => ?_
  · unfold Machine.when; split
    · exact emit_safe _ hs
    · exact hs
  · unfold Machine.when; split
    · exact modMb_safe _ (safe_refl _) fun b hb => by rw [deliver_arena]; exact hb
    · exact safe_refl _

@[simp] theorem pushEvt_arena' (x : EventEntry) (b : Mailbox) : (pushEvt x b).arena = b.arena := rfl

@[simp] theorem endBackground_safe (m : MbId) (opcode : Nat) (tag : BitVec 16) (st : Status) (detail : Nat) {s0 s : State} (hs : Safe s0 s) : Safe s0 (endBackground m opcode tag st detail s) := by
  unfold endBackground
  split
  · exact hs
  · refine modMb_safe _ (safe_mk hs ..) fun b hb => ?_
    dsimp only
    (repeat' split) <;> simpa [pushEvt] using hb

@[simp] theorem writeArena_safe (m : MbId) (off : Nat) (bytes : List Byte) {s0 s : State} (hs : Safe s0 s) :
    Safe s0 (writeArena m off bytes s) := modMb_safe m hs fun b h => writeCells_wf _ _ _ h

@[simp] theorem writeHost_safe (addr : Nat) (bytes : List Byte) {s0 s : State} (hs : Safe s0 s) :
    Safe s0 (writeHost addr bytes s) :=
  safe_trans hs ⟨id, fun ⟨h1, h2, h3, h4, h5⟩ => ⟨h1, h2, h3, writeCells_wf _ _ _ h4, h5⟩⟩

@[simp] theorem writeBack_safe (e : Entry) (off : Nat) (bytes : List Byte) {s0 s : State} (hs : Safe s0 s) : Safe s0 (writeBack e off bytes s) := by
  unfold writeBack; (repeat' split) <;> simp (maxDischargeDepth := 40) [hs]

@[simp] theorem modStg_safe (f : Storage → Storage) {s0 s : State} (hs : Safe s0 s) : Safe s0 (modStg f s) := by
  unfold modStg; simp (maxDischargeDepth := 40) [hs]

@[simp] theorem refillWard_safe  {s0 s : State} (hs : Safe s0 s) : Safe s0 (refillWard s) := by
  unfold refillWard; simp (maxDischargeDepth := 40) [hs]

@[simp] theorem dropHostWork_safe  {s0 s : State} (hs : Safe s0 s) : Safe s0 (dropHostWork s) := by
  unfold dropHostWork; simp (maxDischargeDepth := 40) [hs]

@[simp] theorem suspectTarget_safe (src : SourceId) {s0 s : State} (hs : Safe s0 s) : Safe s0 (suspectTarget src s) := by
  unfold suspectTarget; split <;> simp (maxDischargeDepth := 40) [hs]

@[simp] theorem endClips_safe (c : CtxId) (source : SourceId) {s0 s : State} (hs : Safe s0 s) : Safe s0 (endClips c source s) := by
  unfold endClips; (try dsimp only); repeat' (first | split | (simp (maxDischargeDepth := 40) [hs]; done) | (with_reducible refine safe_forEach ?_ fun _ _ => ?_))

@[simp] theorem enterDeadbolt_safe (x : FaultRecord) {s0 s : State} (hs : Safe s0 s) : Safe s0 (enterDeadbolt x s) := by
  have key : ∀ t : State, Safe s0 t → ∀ u : State, u.mem = t.mem → u.flash = t.flash → u.ns2 = t.ns2 → u.hostMem = t.hostMem →
      u.mailboxes = t.mailboxes → u.devState = 4 → Safe s0 u := by
    intro t ht u h1 h2 h3 h4 h5 h6
    refine ⟨fun _ => h6, fun h => ?_⟩
    have := ht.2 h
    unfold Canonical at this ⊢
    rw [h1, h2, h3, h4, h5]; exact this
  unfold enterDeadbolt
  split
  · exact hs
  · dsimp only
    refine raiseVector_safe _ (suspectTarget_safe _ (safe_forEach ?_ fun c u => ?_))
    · exact key s hs _ rfl rfl rfl rfl rfl rfl
    · exact endClips_safe _ _ (modCtx_safe _ _ (safe_refl u))

@[simp] theorem raise_safe (src : SourceId) (c : Option CtxId) (frame : BitVec 48) (detail : Nat) {s0 s : State} (hs : Safe s0 s) : Safe s0 (raise src c frame detail s) := by
  unfold raise; dsimp only; (repeat' split) <;> simp (maxDischargeDepth := 40) [hs]

@[simp] theorem raise0_safe (n : Nat) {s0 s : State} (hs : Safe s0 s) : Safe s0 (raise0 n s) := by
  unfold raise0; simp (maxDischargeDepth := 40) [hs]

@[simp] theorem hostFailed_safe  {s0 s : State} (hs : Safe s0 s) : Safe s0 (hostFailed s) := by
  unfold hostFailed; simp (maxDischargeDepth := 40) [hs]

@[simp] theorem setCtxState_safe (c : CtxId) (st : CtxState) {s0 s : State} (hs : Safe s0 s) : Safe s0 (setCtxState c st s) := by
  unfold setCtxState; simp (maxDischargeDepth := 40) [hs]

@[simp] theorem sendHasp_safe (cls dest tick data : Nat) (payload : List Byte) {s0 s : State} (hs : Safe s0 s) : Safe s0 (sendHasp cls dest tick data payload s) := by
  unfold sendHasp; split <;> simp (maxDischargeDepth := 40) [hs]

@[simp] theorem sendHalo_safe (c : CtxId) (cap y : Nat) (samples : List Nat) {s0 s : State} (hs : Safe s0 s) : Safe s0 (sendHalo c cap y samples s) := by
  unfold sendHalo; simp (maxDischargeDepth := 40) [hs]

@[simp] theorem modFront_safe (c : CtxId) (f : Front → Front) {s0 s : State} (hs : Safe s0 s) : Safe s0 (modFront c f s) := by
  unfold modFront; simp (maxDischargeDepth := 40) [hs]

@[simp] theorem modCap_safe (c : CtxId) (k : Fin 4) (f : FrontCap → FrontCap) {s0 s : State} (hs : Safe s0 s) : Safe s0 (modCap c k f s) := by
  unfold modCap; simp (maxDischargeDepth := 40) [hs]

@[simp] theorem modGrade_safe (c : CtxId) (g : GradeId) (f : Grade → Grade) {s0 s : State} (hs : Safe s0 s) : Safe s0 (modGrade c g f s) := by
  unfold modGrade; simp (maxDischargeDepth := 40) [hs]

@[simp] theorem modOut_safe (o : QuadId) (f : Output → Output) {s0 s : State} (hs : Safe s0 s) : Safe s0 (modOut o f s) := by
  unfold modOut; simp (maxDischargeDepth := 40) [hs]

@[simp] theorem modAud_safe (p : QuadId) (f : AudioPort → AudioPort) {s0 s : State} (hs : Safe s0 s) : Safe s0 (modAud p f s) := by
  unfold modAud; simp (maxDischargeDepth := 40) [hs]

@[simp] theorem bindOutput_safe (o : QuadId) (c : CtxId) (v : Option Binding) {s0 s : State} (hs : Safe s0 s) : Safe s0 (bindOutput o c v s) := by
  unfold bindOutput; (repeat' split) <;> simp (maxDischargeDepth := 40) [hs]

@[simp] theorem setOverlay_safe (o : QuadId) (second : Bool) (v : Overlay) {s0 s : State} (hs : Safe s0 s) : Safe s0 (setOverlay o second v s) := by
  unfold setOverlay; split <;> simp (maxDischargeDepth := 40) [hs]

@[simp] theorem setRaster_safe (o : QuadId) (v : Option Raster) {s0 s : State} (hs : Safe s0 s) : Safe s0 (setRaster o v s) := by
  unfold setRaster; simp (maxDischargeDepth := 40) [hs]

@[simp] theorem startPort_safe (now : Nat) (p : QuadId) {s0 s : State} (hs : Safe s0 s) : Safe s0 (startPort now p s) := by
  unfold startPort; simp (maxDischargeDepth := 40) [hs]

@[simp] theorem startPorts_safe (mask : BitVec 4) {s0 s : State} (hs : Safe s0 s) : Safe s0 (startPorts mask s) := by
  unfold startPorts; simp (maxDischargeDepth := 40) [hs]

@[simp] theorem askKey_safe (c : CtxId) (g : Option GradeId) {s0 s : State} (hs : Safe s0 s) : Safe s0 (askKey c g s) := by
  unfold askKey; simp (maxDischargeDepth := 40) [hs]

@[simp] theorem modSender_safe (i : Fin 24) (f : Sender → Sender) {s0 s : State} (hs : Safe s0 s) : Safe s0 (modSender i f s) := by
  unfold modSender; simp (maxDischargeDepth := 40) [hs]

@[simp] theorem setStream_safe (i : Fin 24) (v : Stream) {s0 s : State} (hs : Safe s0 s) : Safe s0 (setStream i v s) := by
  unfold setStream; (repeat' split) <;> simp (maxDischargeDepth := 40) [hs]

@[simp] theorem modTrig_safe (k : QuadId) (f : TimeTrigger → TimeTrigger) {s0 s : State} (hs : Safe s0 s) : Safe s0 (modTrig k f s) := by
  unfold modTrig; simp (maxDischargeDepth := 40) [hs]

@[simp] theorem modPos_safe (q : QuadId) (f : PosChannel → PosChannel) {s0 s : State} (hs : Safe s0 s) : Safe s0 (modPos q f s) := by
  unfold modPos; simp (maxDischargeDepth := 40) [hs]

@[simp] theorem applyBank_safe (x : Change) {s0 s : State} (hs : Safe s0 s) : Safe s0 (applyBank x s) := by
  unfold applyBank; split <;> simp (maxDischargeDepth := 40) [hs]

@[simp] theorem withArmed_safe  {s0 s : State} (hs : Safe s0 s) : Safe s0 (withArmed s) := by
  unfold withArmed; simp (maxDischargeDepth := 40) [hs]

@[simp] theorem projected_safe  {s0 s : State} (hs : Safe s0 s) : Safe s0 (projected s) := by
  unfold projected; simp (maxDischargeDepth := 40) [hs]

@[simp] theorem armAt_safe (h seq : Nat) (cs : List Change) {s0 s : State} (hs : Safe s0 s) : Safe s0 (armAt h seq cs s) := by
  unfold armAt; simp (maxDischargeDepth := 40) [hs]

@[simp] theorem holdMore_safe (m : MbId) (x : Held) {s0 s : State} (hs : Safe s0 s) : Safe s0 (holdMore m x s) := by
  unfold holdMore; simp (maxDischargeDepth := 40) [hs]

@[simp] theorem dropHold_safe  {s0 s : State} (hs : Safe s0 s) : Safe s0 (dropHold s) := by
  unfold dropHold; simp (maxDischargeDepth := 40) [hs]

@[simp] theorem dropHoldOf_safe (m : MbId) {s0 s : State} (hs : Safe s0 s) : Safe s0 (dropHoldOf m s) := by
  unfold dropHoldOf; (repeat' split) <;> simp (maxDischargeDepth := 40) [hs]

@[simp] theorem allotSlots_safe (p : PortId) {s0 s : State} (hs : Safe s0 s) : Safe s0 (allotSlots p s) := by
  unfold allotSlots; simp (maxDischargeDepth := 40) [hs]

@[simp] theorem takeCommand_safe (m : MbId) {s0 s : State} (hs : Safe s0 s) : Safe s0 (takeCommand m s) := by
  unfold takeCommand; simp (maxDischargeDepth := 40) [hs]

@[simp] theorem accept_safe  {s0 s : State} (hs : Safe s0 s) : Safe s0 (accept s) := by
  unfold accept; simp (maxDischargeDepth := 40) [hs]

@[simp] theorem mirrorCpl_safe (x : Completion) {s0 s : State} (hs : Safe s0 s) : Safe s0 (mirrorCpl x s) := by
  unfold mirrorCpl; simp (maxDischargeDepth := 40) [hs]

@[simp] theorem complete_safe (m : MbId) (x : Completion) {s0 s : State} (hs : Safe s0 s) : Safe s0 (complete m x s) := by
  unfold complete
  refine modMb_safe _ (when_safe ?_ ?_) fun b hb => hb
  · exact safe_mk (when_safe (emit_safe _ hs) hs) ..
  · exact when_safe (emit_safe _ hs) hs

@[simp] theorem finish_safe (e : Entry) (opcode : Nat) (slot : BitVec 6) (r : Reply) {s0 s : State} (hs : Safe s0 s) : Safe s0 (finish e opcode slot r s) := by
  unfold finish; (repeat' split) <;> simp (maxDischargeDepth := 40) [hs]

@[simp] theorem armFlags_safe  {s0 t : State} (hs : Safe s0 t) : Safe s0 (armFlags t) := by
  unfold armFlags; simp (maxDischargeDepth := 40) [hs]

@[simp] theorem armOrHold_safe (e : Entry) (opcode : Nat) (slot : BitVec 6) (cs : List Change) (c : Option CtxId) (detail lag : Nat) {s0 t : State} (hs : Safe s0 t) : Safe s0 (armOrHold e opcode slot cs c detail lag t) := by
  unfold armOrHold; split <;> simp (maxDischargeDepth := 40) [hs]

@[simp] theorem endExecution_safe (m : MbId) (r : Reply) {s0 s : State} (hs : Safe s0 s) : Safe s0 (endExecution m r s) := by
  unfold endExecution; (repeat' split) <;> simp (maxDischargeDepth := 40) [hs]

@[simp] theorem returnOld_safe (c : CtxId) {s0 s : State} (hs : Safe s0 s) : Safe s0 (returnOld c s) := by
  unfold returnOld; dsimp only; (repeat' split) <;> simp (maxDischargeDepth := 40) [hs]

@[simp] theorem land_safe (c : CtxId) (h : Nat) {s0 s : State} (hs : Safe s0 s) : Safe s0 (land c h s) := by
  unfold land; simp (maxDischargeDepth := 40) [hs]

@[simp] theorem closeCapture_safe (c : CtxId) (h k : Nat) {s0 s : State} (hs : Safe s0 s) : Safe s0 (closeCapture c h k s) := by
  unfold closeCapture; dsimp only; (repeat' split) <;> simp (maxDischargeDepth := 40) [hs]

@[simp] theorem discard_safe (c : CtxId) (untaken : Bool) {s0 s : State} (hs : Safe s0 s) : Safe s0 (discard c untaken s) := by
  unfold discard; simp (maxDischargeDepth := 40) [hs]

@[simp] theorem endFrame_safe (p : PortId) (v : Fin 4) (count : BitVec 16) (c : CtxId) {s0 s : State} (hs : Safe s0 s) : Safe s0 (endFrame p v count c s) := by
  unfold endFrame; dsimp only; (repeat' split) <;> simp (maxDischargeDepth := 40) [hs]

@[simp] theorem beginFrame_safe (p : PortId) (v : Fin 4) (count : BitVec 16) (lost : Bool) (c : CtxId) {s0 s : State} (hs : Safe s0 s) : Safe s0 (beginFrame p v count lost c s) := by
  unfold beginFrame; dsimp only; (repeat' split) <;> simp (maxDischargeDepth := 40) [hs]

@[simp] theorem closeOpen_safe (p : PortId) (v : Fin 4) {s0 s : State} (hs : Safe s0 s) : Safe s0 (closeOpen p v s) := by
  unfold closeOpen; split <;> simp (maxDischargeDepth := 40) [hs]

@[simp] theorem openFrame_safe (p : PortId) (v : Fin 4) (count : BitVec 16) (mode : Option Nat) {s0 s : State} (hs : Safe s0 s) : Safe s0 (openFrame p v count mode s) := by
  unfold openFrame; simp (maxDischargeDepth := 40) [hs]

@[simp] theorem writeLineFor_safe (p : PortId) (l : Line) (c : CtxId) {s0 s : State} (hs : Safe s0 s) : Safe s0 (writeLineFor p l c s) := by
  unfold writeLineFor; dsimp only; (repeat' split) <;> simp (maxDischargeDepth := 40) [hs]

@[simp] theorem lineFor_safe (p : PortId) (l : Line) (c : CtxId) {s0 s : State} (hs : Safe s0 s) : Safe s0 (lineFor p l c s) := by
  unfold lineFor; dsimp only; (repeat' split) <;> simp (maxDischargeDepth := 40) [hs]

@[simp] theorem markOpen_safe (p : PortId) (v : Fin 4) (m : Mark) (count : BitVec 16) (checks : Bool) (c : CtxId) {s0 s : State} (hs : Safe s0 s) : Safe s0 (markOpen p v m count checks c s) := by
  unfold markOpen; simp (maxDischargeDepth := 40) [hs]

@[simp] theorem intakeLine_safe (p : PortId) (l : Line) {s0 s : State} (hs : Safe s0 s) : Safe s0 (intakeLine p l s) := by
  unfold intakeLine; dsimp only; (repeat' split) <;> simp (maxDischargeDepth := 40) [hs]

@[simp] theorem closeAll_safe (p : PortId) {s0 s : State} (hs : Safe s0 s) : Safe s0 (closeAll p s) := by
  unfold closeAll; simp (maxDischargeDepth := 40) [hs]

@[simp] theorem dropFrame_safe (c : CtxId) (f : Frame) (h reason : Nat) {s0 s : State} (hs : Safe s0 s) : Safe s0 (dropFrame c f h reason s) := by
  unfold dropFrame; split <;> simp (maxDischargeDepth := 40) [hs]

@[simp] theorem guardIntake_safe (c : CtxId) (h : Nat) {s0 s : State} (hs : Safe s0 s) : Safe s0 (guardIntake c h s) := by
  unfold guardIntake; (try dsimp only); repeat' (first | split | (simp (maxDischargeDepth := 40) [hs]; done) | (with_reducible refine safe_forEach ?_ fun _ _ => ?_))

@[simp] theorem dropMissing_safe (c : CtxId) (h : Nat) {s0 s : State} (hs : Safe s0 s) : Safe s0 (dropMissing c h s) := by
  unfold dropMissing; (try dsimp only); repeat' (first | split | (simp (maxDischargeDepth := 40) [hs]; done) | (with_reducible refine safe_forEach ?_ fun _ _ => ?_))

@[simp] theorem startDevelopment_safe (c : CtxId) (h : Nat) {s0 s : State} (hs : Safe s0 s) : Safe s0 (startDevelopment c h s) := by
  unfold startDevelopment; simp (maxDischargeDepth := 40) [hs]

@[simp] theorem takeFrame_safe (c : CtxId) (h timeNs : Nat) {s0 s : State} (hs : Safe s0 s) : Safe s0 (takeFrame c h timeNs s) := by
  unfold takeFrame; dsimp only; (repeat' split) <;> simp (maxDischargeDepth := 40) [hs]

@[simp] theorem modLane_safe (p : PortId) (i : Fin 17) (f : LaneStat → LaneStat) {s0 s : State} (hs : Safe s0 s) : Safe s0 (modLane p i f s) := by
  unfold modLane; simp (maxDischargeDepth := 40) [hs]

@[simp] theorem countHeaders_safe (g : List PortId) (c : Column) {s0 s : State} (hs : Safe s0 s) : Safe s0 (countHeaders s g c) := by
  unfold countHeaders; (try dsimp only); repeat' (first | split | (simp (maxDischargeDepth := 40) [hs]; done) | (with_reducible refine safe_forEach ?_ fun _ _ => ?_))

@[simp] theorem controlError_safe (p : PortId) {s0 s : State} (hs : Safe s0 s) : Safe s0 (controlError p s) := by
  unfold controlError; simp (maxDischargeDepth := 40) [hs]

@[simp] theorem receiveControl_safe (p : PortId) (type : Nat) (c : Column) {act : List Byte → State → State} {s0 s : State}
    (hs : Safe s0 s) (h : ∀ b t, Safe t (act b t)) : Safe s0 (receiveControl p type c act s) := by
  unfold receiveControl
  split
  · exact hs
  · dsimp only
    split
    · split
      · split
        · exact safe_trans (countHeaders_safe _ _ hs) (h _ _)
        · split <;> simp (maxDischargeDepth := 40) [hs]
      · simp (maxDischargeDepth := 40) [hs]
    · simp (maxDischargeDepth := 40) [hs]

@[simp] theorem frameStart_safe (p : PortId) (b : List Byte) {s0 s : State} (hs : Safe s0 s) : Safe s0 (frameStart p b s) := by
  unfold frameStart; dsimp only; (repeat' split) <;> simp (maxDischargeDepth := 40) [hs]

@[simp] theorem frameEnd_safe (p : PortId) (b : List Byte) {s0 s : State} (hs : Safe s0 s) : Safe s0 (frameEnd p b s) := by
  unfold frameEnd; (repeat' split) <;> simp (maxDischargeDepth := 40) [hs]

@[simp] theorem checkError_safe (p : PortId) {s0 s : State} (hs : Safe s0 s) : Safe s0 (checkError p s) := by
  unfold checkError; dsimp only; (repeat' split) <;> simp (maxDischargeDepth := 40) [hs]

@[simp] theorem noteRebuilt_safe (p : PortId) (v : Fin 4) {s0 s : State} (hs : Safe s0 s) : Safe s0 (noteRebuilt p v s) := by
  unfold noteRebuilt; (repeat' split) <;> simp (maxDischargeDepth := 40) [hs]

@[simp] theorem linePacket_safe (p : PortId) (cols : List Column) {s0 s : State} (hs : Safe s0 s) : Safe s0 (linePacket p cols s) := by
  unfold linePacket; dsimp only; (repeat' split) <;> simp (maxDischargeDepth := 40) [hs]

@[simp] theorem setGroup_safe (p : PortId) (f : Port → Port) {s0 s : State} (hs : Safe s0 s) : Safe s0 (setGroup p f s) := by
  unfold setGroup; simp (maxDischargeDepth := 40) [hs]

@[simp] theorem postPortState_safe (p : PortId) {s0 s : State} (hs : Safe s0 s) : Safe s0 (postPortState p s) := by
  unfold postPortState; simp (maxDischargeDepth := 40) [hs]

@[simp] theorem failAttempt_safe (p : PortId) (reason : Nat) {s0 s : State} (hs : Safe s0 s) : Safe s0 (failAttempt p reason s) := by
  unfold failAttempt; dsimp only; (repeat' split) <;> simp (maxDischargeDepth := 40) [hs]

@[simp] theorem portDown_safe (p : PortId) (reason : Nat) {s0 s : State} (hs : Safe s0 s) : Safe s0 (portDown p reason s) := by
  unfold portDown; simp (maxDischargeDepth := 40) [hs]

@[simp] theorem sendCaps_safe (p : PortId) {s0 s : State} (hs : Safe s0 s) : Safe s0 (sendCaps p s) := by
  unfold sendCaps; split <;> simp (maxDischargeDepth := 40) [hs]

@[simp] theorem advance_safe (p : PortId) {s0 s : State} (hs : Safe s0 s) : Safe s0 (advance p s) := by
  unfold advance; (repeat' split) <;> simp (maxDischargeDepth := 40) [hs]

@[simp] theorem repeatBringup_safe (p : PortId) {s0 s : State} (hs : Safe s0 s) : Safe s0 (repeatBringup p s) := by
  unfold repeatBringup; (repeat' split) <;> simp (maxDischargeDepth := 40) [hs]

@[simp] theorem receiveCaps_safe (p : PortId) (c : List Byte) {s0 s : State} (hs : Safe s0 s) : Safe s0 (receiveCaps p c s) := by
  unfold receiveCaps; (repeat' split) <;> simp (maxDischargeDepth := 40) [hs]

@[simp] theorem eachLane_safe (g : PortCfg) (ports : List PortId) (k : Skews) (f : Option Nat → LaneStat → LaneStat) {s0 s : State} (hs : Safe s0 s) : Safe s0 (eachLane g ports k f s) := by
  unfold eachLane; (try dsimp only); repeat' (first | split | (simp (maxDischargeDepth := 40) [hs]; done) | (with_reducible refine safe_forEach ?_ fun _ _ => ?_))

@[simp] theorem align_safe (p : PortId) (c : Column) (k : Skews) {s0 s : State} (hs : Safe s0 s) : Safe s0 (align p c k s) := by
  unfold align; dsimp only; (repeat' split) <;> simp (maxDischargeDepth := 40) [hs]

@[simp] theorem laneFailed_safe (p : PortId) (lane : Fin 17) {s0 s : State} (hs : Safe s0 s) : Safe s0 (laneFailed p lane s) := by
  unfold laneFailed; dsimp only; (repeat' split) <;> simp (maxDischargeDepth := 40) [hs]

@[simp] theorem laneRejoined_safe (p : PortId) (lane : Fin 17) {s0 s : State} (hs : Safe s0 s) : Safe s0 (laneRejoined p lane s) := by
  unfold laneRejoined; split <;> simp (maxDischargeDepth := 40) [hs]

@[simp] theorem slrefPorts_safe  {s0 s : State} (hs : Safe s0 s) : Safe s0 (slrefPorts s) := by
  unfold slrefPorts
  refine safe_forEach hs fun p t => ?_
  dsimp only
  split
  · exact safe_refl t
  · split
    · refine portDown_safe _ _ (raise0_safe _ (safe_forEach (safe_refl t) fun v u => ?_))
      split
      · exact safe_forEach (safe_refl u) fun x w => by simp (maxDischargeDepth := 40)
      · exact safe_refl u
    · simp (maxDischargeDepth := 40)

@[simp] theorem regResponse_safe (p : PortId) (b : List Byte) {s0 s : State} (hs : Safe s0 s) : Safe s0 (regResponse p b s) := by
  unfold regResponse; split <;> simp (maxDischargeDepth := 40) [hs]

@[simp] theorem regTimeout_safe (p : PortId) (tag : Byte) {s0 s : State} (hs : Safe s0 s) : Safe s0 (regTimeout p tag s) := by
  unfold regTimeout; (repeat' split) <;> simp (maxDischargeDepth := 40) [hs]

@[simp] theorem sendMarkers_safe (h : Nat) {s0 s : State} (hs : Safe s0 s) : Safe s0 (sendMarkers h s) := by
  unfold sendMarkers; (try dsimp only); repeat' (first | split | (simp (maxDischargeDepth := 40) [hs]; done) | (with_reducible refine safe_forEach ?_ fun _ _ => ?_))

@[simp] theorem modTick_safe (f : TickGen → TickGen) {s0 s : State} (hs : Safe s0 s) : Safe s0 (modTick f s) := by
  unfold modTick; simp (maxDischargeDepth := 40) [hs]

@[simp] theorem markLanded_safe  {s0 s : State} (hs : Safe s0 s) : Safe s0 (markLanded s) := by
  unfold markLanded; simp (maxDischargeDepth := 40) [hs]

@[simp] theorem enterHoldover_safe (cause : Nat) {s0 s : State} (hs : Safe s0 s) : Safe s0 (enterHoldover cause s) := by
  unfold enterHoldover; (repeat' split) <;> simp (maxDischargeDepth := 40) [hs]

@[simp] theorem lockedEdge_safe (now : Int) {s0 s : State} (hs : Safe s0 s) : Safe s0 (lockedEdge now s) := by
  unfold lockedEdge; dsimp only; (repeat' split) <;> simp (maxDischargeDepth := 40) [hs]

@[simp] theorem heldEdge_safe (now : Int) {s0 s : State} (hs : Safe s0 s) : Safe s0 (heldEdge now s) := by
  unfold heldEdge; dsimp only; (repeat' split) <;> simp (maxDischargeDepth := 40) [hs]

@[simp] theorem edgeAt_safe (now : Int) {s0 s : State} (hs : Safe s0 s) : Safe s0 (edgeAt now s) := by
  unfold edgeAt; dsimp only; (repeat' split) <;> simp (maxDischargeDepth := 40) [hs]

@[simp] theorem sourceEdge_safe  {s0 s : State} (hs : Safe s0 s) : Safe s0 (sourceEdge s) := by
  unfold sourceEdge; dsimp only; (repeat' split) <;> simp (maxDischargeDepth := 40) [hs]

@[simp] theorem sourceStop_safe  {s0 s : State} (hs : Safe s0 s) : Safe s0 (sourceStop s) := by
  unfold sourceStop; dsimp only; (repeat' split) <;> simp (maxDischargeDepth := 40) [hs]

@[simp] theorem slrefLoss_safe  {s0 s : State} (hs : Safe s0 s) : Safe s0 (slrefLoss s) := by
  unfold slrefLoss; simp (maxDischargeDepth := 40) [hs]

@[simp] theorem slrefReturn_safe  {s0 s : State} (hs : Safe s0 s) : Safe s0 (slrefReturn s) := by
  unfold slrefReturn; simp (maxDischargeDepth := 40) [hs]

@[simp] theorem switchSource_safe (h : Nat) (v : TickSource) {s0 s : State} (hs : Safe s0 s) : Safe s0 (switchSource h v s) := by
  unfold switchSource; simp (maxDischargeDepth := 40) [hs]

@[simp] theorem hingeTick_safe  {s0 s : State} (hs : Safe s0 s) : Safe s0 (hingeTick s) := by
  unfold hingeTick; dsimp only; (repeat' split) <;> simp (maxDischargeDepth := 40) [hs]

theorem setDevState_safe (n : Nat) {s0 s : State} (hs : Safe s0 s) (h : s.devState ≠ 4) : Safe s0 (setDevState n s) := by
  unfold setDevState
  split
  · exact hs
  · refine raiseVector_safe _ ⟨fun h0 => absurd (hs.1 h0) h, fun h0 => ?_⟩
    exact hs.2 h0

@[simp] theorem clearFailedStarts_safe  {s0 s : State} (hs : Safe s0 s) : Safe s0 (clearFailedStarts s) := by
  unfold clearFailedStarts; split <;> simp (maxDischargeDepth := 40) [hs]

@[simp] theorem announceStart_safe  {s0 s : State} (hs : Safe s0 s) : Safe s0 (announceStart s) := by
  unfold announceStart Machine.when
  dsimp only
  have h1 : Safe s0 (post 0x0180 none 0 ((fwVersionReg (clearFailedStarts s)).toNat
      + 2 ^ 32 * ((clearFailedStarts s).boot.strap % 16)) (clearFailedStarts s)) := post_safe _ _ _ _ (clearFailedStarts_safe hs)
  split
  · rename_i h
    exact setDevState_safe 2 (safe_mk h1 ..) (by simpa using h)
  · exact safe_mk h1 ..

@[simp] theorem doorbellWrite_safe (w : BitVec 32) {s0 s : State} (hs : Safe s0 s) : Safe s0 (doorbellWrite w s) := by
  unfold doorbellWrite; simp (maxDischargeDepth := 40) [hs]

@[simp] theorem modPtp_safe (f : Ptp → Ptp) {s0 s : State} (hs : Safe s0 s) : Safe s0 (modPtp f s) := by
  unfold modPtp; simp (maxDischargeDepth := 40) [hs]

@[simp] theorem modEth_safe (p : Fin 2) (f : EthPort → EthPort) {s0 s : State} (hs : Safe s0 s) : Safe s0 (modEth p f s) := by
  unfold modEth; simp (maxDischargeDepth := 40) [hs]

@[simp] theorem fireTrigger_safe (k : QuadId) {s0 s : State} (hs : Safe s0 s) : Safe s0 (fireTrigger k s) := by
  unfold fireTrigger; simp (maxDischargeDepth := 40) [hs]

@[simp] theorem fireLate_safe (k : QuadId) (at_ : Nat) {s0 s : State} (hs : Safe s0 s) : Safe s0 (fireLate k at_ s) := by
  unfold fireLate; simp (maxDischargeDepth := 40) [hs]

@[simp] theorem stepTrigger_safe (forward : Bool) (k : QuadId) {s0 s : State} (hs : Safe s0 s) : Safe s0 (stepTrigger forward k s) := by
  unfold stepTrigger; dsimp only; (repeat' split) <;> simp (maxDischargeDepth := 40) [hs]

@[simp] theorem timeTriggerFire_safe (k : QuadId) {s0 s : State} (hs : Safe s0 s) : Safe s0 (timeTriggerFire k s) := by
  unfold timeTriggerFire; split <;> simp (maxDischargeDepth := 40) [hs]

@[simp] theorem timeTriggerPulseEnd_safe (k : QuadId) {s0 s : State} (hs : Safe s0 s) : Safe s0 (timeTriggerPulseEnd k s) := by
  unfold timeTriggerPulseEnd; simp (maxDischargeDepth := 40) [hs]

@[simp] theorem setTrigger_safe (k : QuadId) (v : TrigProg) {s0 s : State} (hs : Safe s0 s) : Safe s0 (setTrigger k v s) := by
  unfold setTrigger; dsimp only; (repeat' split) <;> simp (maxDischargeDepth := 40) [hs]

@[simp] theorem stepTime_safe (d : Int) {s0 s : State} (hs : Safe s0 s) : Safe s0 (stepTime d s) := by
  unfold stepTime; simp (maxDischargeDepth := 40) [hs]

@[simp] theorem setServo_safe (st : ServoState) (moved : Bool) {s0 s : State} (hs : Safe s0 s) : Safe s0 (setServo st moved s) := by
  unfold setServo; split <;> simp (maxDischargeDepth := 40) [hs]

@[simp] theorem selectMaster_safe (p : Fin 2) (a : Announce) {s0 s : State} (hs : Safe s0 s) : Safe s0 (selectMaster p a s) := by
  unfold selectMaster; simp (maxDischargeDepth := 40) [hs]

@[simp] theorem countPtp_safe (p : Fin 2) {s0 s : State} (hs : Safe s0 s) : Safe s0 (countPtp p s) := by
  unfold countPtp; simp (maxDischargeDepth := 40) [hs]

@[simp] theorem ptpAnnounceRx_safe (p : Fin 2) (a : Announce) {s0 s : State} (hs : Safe s0 s) : Safe s0 (ptpAnnounceRx p a s) := by
  unfold ptpAnnounceRx; dsimp only; (repeat' split) <;> simp (maxDischargeDepth := 40) [hs]

@[simp] theorem ptpMasterLost_safe  {s0 s : State} (hs : Safe s0 s) : Safe s0 (ptpMasterLost s) := by
  unfold ptpMasterLost; dsimp only; (repeat' split) <;> simp (maxDischargeDepth := 40) [hs]

@[simp] theorem ptpSyncRx_safe (p : Fin 2) (m : PtpSync) {s0 s : State} (hs : Safe s0 s) : Safe s0 (ptpSyncRx p m s) := by
  unfold ptpSyncRx; dsimp only; (repeat' split) <;> simp (maxDischargeDepth := 40) [hs]

@[simp] theorem slew_safe  {s0 s : State} (hs : Safe s0 s) : Safe s0 (slew s) := by
  unfold slew; simp (maxDischargeDepth := 40) [hs]

@[simp] theorem servoStep_safe (o : Int) {s0 s : State} (hs : Safe s0 s) : Safe s0 (servoStep o s) := by
  unfold servoStep; dsimp only; (repeat' split) <;> simp (maxDischargeDepth := 40) [hs]

@[simp] theorem exchange_safe (t3 t4 : Nat) {s0 s : State} (hs : Safe s0 s) : Safe s0 (exchange t3 t4 s) := by
  unfold exchange; split <;> simp (maxDischargeDepth := 40) [hs]

@[simp] theorem ptpDelayRespRx_safe (p : Fin 2) (q : BitVec 16) (t4 : Nat) {s0 s : State} (hs : Safe s0 s) : Safe s0 (ptpDelayRespRx p q t4 s) := by
  unfold ptpDelayRespRx; dsimp only; (repeat' split) <;> simp (maxDischargeDepth := 40) [hs]

@[simp] theorem txStampCaptured_safe (p : Fin 2) (q : BitVec 16) (raw : Nat) {s0 s : State} (hs : Safe s0 s) : Safe s0 (txStampCaptured p q raw s) := by
  unfold txStampCaptured; dsimp only; (repeat' split) <;> simp (maxDischargeDepth := 40) [hs]

@[simp] theorem readStamps_safe  {s0 s : State} (hs : Safe s0 s) : Safe s0 (readStamps s) := by
  unfold readStamps; (try dsimp only); repeat' (first | split | (simp (maxDischargeDepth := 40) [hs]; done) | (with_reducible refine safe_forEach ?_ fun _ _ => ?_))

@[simp] theorem sendPtp_safe (p : Fin 2) (k : PtpKind) (q : BitVec 16) (time : Nat) {s0 s : State} (hs : Safe s0 s) : Safe s0 (sendPtp p k q time s) := by
  unfold sendPtp; simp (maxDischargeDepth := 40) [hs]

@[simp] theorem ptpMessageTx_safe (p : Fin 2) (k : PtpKind) {s0 s : State} (hs : Safe s0 s) : Safe s0 (ptpMessageTx p k s) := by
  unfold ptpMessageTx; dsimp only; (repeat' split) <;> simp (maxDischargeDepth := 40) [hs]

@[simp] theorem setPtp_safe (k : PtpCfg) {s0 s : State} (hs : Safe s0 s) : Safe s0 (setPtp k s) := by
  unfold setPtp; dsimp only; (repeat' split) <;> simp (maxDischargeDepth := 40) [hs]

@[simp] theorem checkTables_safe (c : CtxId) (h : Nat) {s0 s : State} (hs : Safe s0 s) : Safe s0 (checkTables c h s) := by
  unfold checkTables; simp (maxDischargeDepth := 40) [hs]

@[simp] theorem freeTables_safe  {s0 s : State} (hs : Safe s0 s) : Safe s0 (freeTables s) := by
  unfold freeTables; simp (maxDischargeDepth := 40) [hs]

@[simp] theorem addTable_safe (pool size : Nat) (entries : List Int) {s0 s : State} (hs : Safe s0 s) : Safe s0 (addTable pool size entries s).1 := by
  unfold addTable; (try dsimp only); repeat' (first | (split; (try (rename_i heq; obtain rfl := fst_of_eq heq))) | (simp (maxDischargeDepth := 40) [hs]; done) | (with_reducible refine safe_forEach ?_ fun _ _ => ?_))

@[simp] theorem checkGrades_safe (c : CtxId) (h : Nat) {s0 s : State} (hs : Safe s0 s) : Safe s0 (checkGrades c h s) := by
  unfold checkGrades
  dsimp only
  refine when_safe (post_safe _ _ _ _ ?_) ?_ <;>
    exact safe_forEach (modCtx_safe _ _ hs) fun i u => post_safe _ _ _ _ (safe_refl u)

@[simp] theorem rewriteSlot_safe (c : CtxId) (f : Frame) {s0 s : State} (hs : Safe s0 s) : Safe s0 (rewriteSlot c f s) := by
  unfold rewriteSlot; dsimp only; (repeat' split) <;> simp (maxDischargeDepth := 40) [hs]

@[simp] theorem postCopy_safe (c : CtxId) (r : StatRecord) {s0 s : State} (hs : Safe s0 s) : Safe s0 (postCopy c r s) := by
  unfold postCopy; (repeat' split) <;> simp (maxDischargeDepth := 40) [hs]

@[simp] theorem recordLive_safe (c : CtxId) (r : StatRecord) {s0 s : State} (hs : Safe s0 s) : Safe s0 (recordLive c r s) := by
  unfold recordLive; split <;> simp (maxDischargeDepth := 40) [hs]

@[simp] theorem statHostLate_safe (c : CtxId) {s0 s : State} (hs : Safe s0 s) : Safe s0 (statHostLate c s) := by
  unfold statHostLate; (repeat' split) <;> simp (maxDischargeDepth := 40) [hs]

@[simp] theorem modLuts_safe (rs : List RegionId) (slot : Fin 16) (f : LutSlot → LutSlot) {s0 s : State} (hs : Safe s0 s) : Safe s0 (modLuts rs slot f s) := by
  unfold modLuts; simp (maxDischargeDepth := 40) [hs]

@[simp] theorem lutLoadDone_safe (slot : Fin 16) (ok : Bool) {s0 s : State} (hs : Safe s0 s) : Safe s0 (lutLoadDone slot ok s) := by
  unfold lutLoadDone; (repeat' split) <;> simp (maxDischargeDepth := 40) [hs]

@[simp] theorem modMem_safe {f : Mem → Mem} {s0 s : State} (hs : Safe s0 s)
    (hf : ∀ x : Mem, Memory.wf x.hbm = true → Memory.wf (f x).hbm = true) : Safe s0 (modMem f s) :=
  safe_trans hs ⟨id, fun ⟨h1, h2, h3, h4, h5⟩ => ⟨hf _ h1, h2, h3, h4, h5⟩⟩

@[simp] theorem modStack_safe (m : StackId) (f : Stack → Stack) {s0 s : State} (hs : Safe s0 s) : Safe s0 (modStack m f s) := by
  unfold modStack; simp (maxDischargeDepth := 40) [hs]

@[simp] theorem writeHbm_safe (a : Nat) (v : Byte) {s0 s : State} (hs : Safe s0 s) : Safe s0 (writeHbm a v s) :=
  modMem_safe hs fun x h => writeCell_wf _ _ h

@[simp] theorem writeHbms_safe (a : Nat) (bytes : List Byte) {s0 s : State} (hs : Safe s0 s) : Safe s0 (writeHbms a bytes s) := by
  unfold writeHbms; simp (maxDischargeDepth := 40) [hs]

@[simp] theorem forgetStack_safe (m : StackId) (all : Bool) {s0 s : State} (hs : Safe s0 s) : Safe s0 (forgetStack m all s) := by
  unfold forgetStack
  exact modMem_safe (safe_mk hs ..) fun x hx => filter_wf _ hx

@[simp] theorem logError_safe (kind : Nat) (requester : Byte) (a : Nat) (syndrome : BitVec 32) {s0 s : State} (hs : Safe s0 s) : Safe s0 (logError kind requester a syndrome s) := by
  unfold logError
  refine modMem_safe hs fun x hx => ?_
  (repeat' split) <;> exact hx

@[simp] theorem markServed_safe (requester : Byte) (c : Option CtxId) {s0 s : State} (hs : Safe s0 s) : Safe s0 (markServed requester c s) := by
  unfold markServed; split <;> simp (maxDischargeDepth := 40) [hs]

@[simp] theorem makeCandidate_safe (r : RowName) {s0 s : State} (hs : Safe s0 s) : Safe s0 (makeCandidate r s) := by
  unfold makeCandidate; split <;> simp (maxDischargeDepth := 40) [hs]

@[simp] theorem scheduleRetrain_safe (m : StackId) (pcs : List Nat) {s0 s : State} (hs : Safe s0 s) : Safe s0 (scheduleRetrain m pcs s) := by
  unfold scheduleRetrain; simp (maxDischargeDepth := 40) [hs]

@[simp] theorem corrected_safe (kind : Nat) (requester : Byte) (a : Nat) (syndrome : BitVec 32) {s0 s : State} (hs : Safe s0 s) : Safe s0 (corrected kind requester a syndrome s) := by
  unfold corrected; dsimp only; (repeat' split) <;> simp (maxDischargeDepth := 40) [hs]

@[simp] theorem uncorrectable_safe (kind : Nat) (requester : Byte) (a : Nat) (syndrome : BitVec 32) (c : Option CtxId) {s0 s : State} (hs : Safe s0 s) : Safe s0 (uncorrectable kind requester a syndrome c s) := by
  unfold uncorrectable; simp (maxDischargeDepth := 40) [hs]

@[simp] theorem refuseRequest_safe (p : MemPiece) {s0 s : State} (hs : Safe s0 s) : Safe s0 (refuseRequest p s) := by
  unfold refuseRequest; simp (maxDischargeDepth := 40) [hs]

@[simp] theorem enqueue_safe (p : MemPiece) {s0 s : State} (hs : Safe s0 s) : Safe s0 (enqueue p s) := by
  unfold enqueue; dsimp only; (repeat' split) <;> simp (maxDischargeDepth := 40) [hs]

@[simp] theorem memRequest_safe (r : MemReq) {s0 s : State} (hs : Safe s0 s) : Safe s0 (memRequest r s) := by
  unfold memRequest
  refine foldl_safe hs fun q t => ?_
  dsimp only
  split <;> simp (maxDischargeDepth := 40)

@[simp] theorem dequeue_safe (p : MemPiece) {s0 s : State} (hs : Safe s0 s) : Safe s0 (dequeue p s) := by
  unfold dequeue; dsimp only; (repeat' split) <;> simp (maxDischargeDepth := 40) [hs]

@[simp] theorem issuePiece_safe (p : MemPiece) (ecc : EccOutcome) {s0 s : State} (hs : Safe s0 s) : Safe s0 (issuePiece p ecc s) := by
  unfold issuePiece; dsimp only; (repeat' split) <;> simp (maxDischargeDepth := 40) [hs]

@[simp] theorem memRequestIssue_safe (id : Nat) (ecc : EccOutcome) {s0 s : State} (hs : Safe s0 s) : Safe s0 (memRequestIssue id ecc s) := by
  unfold memRequestIssue; (repeat' split) <;> simp (maxDischargeDepth := 40) [hs]

@[simp] theorem scrubRead_safe (m : StackId) (ecc : EccOutcome) {s0 s : State} (hs : Safe s0 s) : Safe s0 (scrubRead m ecc s) := by
  unfold scrubRead; dsimp only; (repeat' split) <;> simp (maxDischargeDepth := 40) [hs]

@[simp] theorem writeFlash_safe (a : Nat) (bytes : List Byte) {s0 s : State} (hs : Safe s0 s) :
    Safe s0 (writeFlash a bytes s) :=
  safe_trans hs ⟨id, fun ⟨h1, h2, h3, h4, h5⟩ => ⟨h1, writeCells_wf _ _ _ h2, h3, h4, h5⟩⟩

@[simp] theorem endCalibration_safe (k : Calibration) {s0 s : State} (hs : Safe s0 s) : Safe s0 (endCalibration k s) := by
  unfold endCalibration; (repeat' split) <;> simp (maxDischargeDepth := 40) [hs]

@[simp] theorem calibrated_safe (m : StackId) (ok : Bool) {s0 s : State} (hs : Safe s0 s) : Safe s0 (calibrated m ok s) := by
  unfold calibrated; dsimp only; (repeat' split) <;> simp (maxDischargeDepth := 40) [hs]

@[simp] theorem putDomain_safe (d : Fin 25) (v : DomainState) {s0 s : State} (hs : Safe s0 s) : Safe s0 (putDomain d v s) := by
  unfold putDomain; simp (maxDischargeDepth := 40) [hs]

@[simp] theorem setDomain_safe (d : Fin 25) (v : DomainState) {s0 s : State} (hs : Safe s0 s) : Safe s0 (setDomain d v s) := by
  unfold setDomain; split <;> simp (maxDischargeDepth := 40) [hs]

@[simp] theorem memTrained_safe (m : StackId) (recordOk bootOk fullOk : Bool) {s0 s : State} (hs : Safe s0 s) : Safe s0 (memTrained m recordOk bootOk fullOk s) := by
  unfold memTrained; dsimp only; (repeat' split) <;> simp (maxDischargeDepth := 40) [hs]

@[simp] theorem reportTemps_safe (temps : List Int) {s0 s : State} (hs : Safe s0 s) : Safe s0 (reportTemps temps s) := by
  unfold reportTemps; (try dsimp only); repeat' (first | split | (simp (maxDischargeDepth := 40) [hs]; done) | (with_reducible refine safe_forEach ?_ fun _ _ => ?_))

@[simp] theorem retrainSegment_safe (m : StackId) (bad : Bool) {s0 s : State} (hs : Safe s0 s) : Safe s0 (retrainSegment m bad s) := by
  unfold retrainSegment; dsimp only; (repeat' split) <;> simp (maxDischargeDepth := 40) [hs]

@[simp] theorem retrainGuard_safe (bad : BitVec 4) {s0 s : State} (hs : Safe s0 s) : Safe s0 (retrainGuard bad s) := by
  unfold retrainGuard; simp (maxDischargeDepth := 40) [hs]

@[simp] theorem selfRefreshEntry_safe (m : StackId) {s0 s : State} (hs : Safe s0 s) : Safe s0 (selfRefreshEntry m s) := by
  unfold selfRefreshEntry; dsimp only; (repeat' split) <;> simp (maxDischargeDepth := 40) [hs]

@[simp] theorem selfRefreshExit_safe (m : StackId) {s0 s : State} (hs : Safe s0 s) : Safe s0 (selfRefreshExit m s) := by
  unfold selfRefreshExit; split <;> simp (maxDischargeDepth := 40) [hs]

@[simp] theorem remap_safe (i : Bool) {s0 s : State} (hs : Safe s0 s) : Safe s0 (remap i s) := by
  have h1 : Safe s0 (forEach allRegions (fun m => forgetStack m false) s) :=
    safe_forEach hs fun m u => forgetStack_safe m false (safe_refl u)
  have h2 : Safe s0 (modMem (fun x => { x with interleaved := i }) (forEach allRegions (fun m => forgetStack m false) s)) :=
    modMem_safe h1 fun x hx => hx
  unfold remap
  generalize modMem (fun x => { x with interleaved := i }) (forEach allRegions (fun m => forgetStack m false) s) = t at h2 ⊢
  exact safe_trans h2 ⟨id, fun ⟨h1, h2, _, h4, h5⟩ => ⟨h1, h2, rfl, h4, h5⟩⟩

@[simp] theorem repairDone_safe (ok : Bool) {s0 s : State} (hs : Safe s0 s) : Safe s0 (repairDone ok s) := by
  unfold repairDone
  split
  · exact hs
  · dsimp only
    split
    · simp (maxDischargeDepth := 40) [hs]
    · generalize List.replicate 1024 (0 : Byte) = l
      simp (maxDischargeDepth := 40) [hs]

@[simp] theorem modSec_safe (f : Security → Security) {s0 s : State} (hs : Safe s0 s) : Safe s0 (modSec f s) := by
  unfold modSec; simp (maxDischargeDepth := 40) [hs]

@[simp] theorem modRec_safe (c : CtxId) (f : Recording → Recording) {s0 s : State} (hs : Safe s0 s) : Safe s0 (modRec c f s) := by
  unfold modRec; simp (maxDischargeDepth := 40) [hs]

@[simp] theorem modClip_safe (c : CtxId) (id : Nat) (f : Clip → Clip) {s0 s : State} (hs : Safe s0 s) : Safe s0 (modClip c id f s) := by
  unfold modClip; simp (maxDischargeDepth := 40) [hs]

@[simp] theorem answerStop_safe (k : Clip) (st : Status) (detail : Nat) {s0 s : State} (hs : Safe s0 s) : Safe s0 (answerStop k st detail s) := by
  unfold answerStop; split <;> simp (maxDischargeDepth := 40) [hs]

@[simp] theorem abandonClip_safe (c : CtxId) (id detail : Nat) {s0 s : State} (hs : Safe s0 s) : Safe s0 (abandonClip c id detail s) := by
  unfold abandonClip; split <;> simp (maxDischargeDepth := 40) [hs]

@[simp] theorem sealFailed_safe (c : CtxId) (id : Nat) {s0 s : State} (hs : Safe s0 s) : Safe s0 (sealFailed c id s) := by
  unfold sealFailed; dsimp only; (repeat' split) <;> simp (maxDischargeDepth := 40) [hs]

@[simp] theorem eraseFlash_safe (a n : Nat) {s0 s : State} (hs : Safe s0 s) : Safe s0 (eraseFlash a n s) :=
  safe_trans hs ⟨id, fun ⟨h1, h2, h3, h4, h5⟩ => ⟨h1, filter_wf _ h2, h3, h4, h5⟩⟩

@[simp] theorem appendLeaf_safe (n : Nat) (r : List Byte) {s0 s : State} (hs : Safe s0 s) : Safe s0 (appendLeaf n r s) := by
  unfold appendLeaf; dsimp only; (repeat' split) <;> simp (maxDischargeDepth := 40) [hs]

@[simp] theorem failSignature_safe (x : Signature) (detail : Nat) {s0 s : State} (hs : Safe s0 s) : Safe s0 (failSignature x detail s) := by
  unfold failSignature; split <;> simp (maxDischargeDepth := 40) [hs]

@[simp] theorem startSigning_safe  {s0 s : State} (hs : Safe s0 s) : Safe s0 (startSigning s) := by
  unfold startSigning; dsimp only; (repeat' split) <;> simp (maxDischargeDepth := 40) [hs]

@[simp] theorem askSignature_safe (f : Nat → Signature) {s0 s : State} (hs : Safe s0 s) : Safe s0 (askSignature f s) := by
  unfold askSignature; simp (maxDischargeDepth := 40) [hs]

@[simp] theorem askSeal_safe (c : CtxId) (id : Nat) {s0 s : State} (hs : Safe s0 s) : Safe s0 (askSeal c id s) := by
  unfold askSeal; split <;> simp (maxDischargeDepth := 40) [hs]

@[simp] theorem leafReservationDone_safe (ok : Bool) {s0 s : State} (hs : Safe s0 s) : Safe s0 (leafReservationDone ok s) := by
  unfold leafReservationDone; (repeat' split) <;> simp (maxDischargeDepth := 40) [hs]

@[simp] theorem modMedia_safe (p : Fin 2) (f : MediaPort → MediaPort) {s0 s : State} (hs : Safe s0 s) : Safe s0 (modMedia p f s) := by
  unfold modMedia; simp (maxDischargeDepth := 40) [hs]

@[simp] theorem modVolume_safe (p : Fin 2) (f : Volume → Volume) {s0 s : State} (hs : Safe s0 s) : Safe s0 (modVolume p f s) := by
  unfold modVolume; simp (maxDischargeDepth := 40) [hs]

@[simp] theorem drive_safe (p : Fin 2) (u : MediaUse) {s0 s : State} (hs : Safe s0 s) : Safe s0 (drive p u s) := by
  unfold drive; simp (maxDischargeDepth := 40) [hs]

@[simp] theorem putSlot_safe (c : CtxId) (i id kind frame : Nat) (body : List Byte) {s0 s : State} (hs : Safe s0 s) : Safe s0 (putSlot c i id kind frame body s).1 := by
  unfold putSlot; (try dsimp only); repeat' (first | (split; (try (rename_i heq; obtain rfl := fst_of_eq heq))) | (simp (maxDischargeDepth := 40) [hs]; done) | (with_reducible refine safe_forEach ?_ fun _ _ => ?_))

@[simp] theorem putHost_safe (k : RecCfg) (id kind frame : Nat) (body : List Byte) {s0 s : State} (hs : Safe s0 s) : Safe s0 (putHost k id kind frame body s).1 := by
  unfold putHost; (try dsimp only); repeat' (first | (split; (try (rename_i heq; obtain rfl := fst_of_eq heq))) | (simp (maxDischargeDepth := 40) [hs]; done) | (with_reducible refine safe_forEach ?_ fun _ _ => ?_))

@[simp] theorem putMedia_safe (p : Fin 2) (use : Rec → MediaUse) (id kind frame : Nat) (body : List Byte) {s0 s : State} (hs : Safe s0 s) : Safe s0 (putMedia p use id kind frame body s).1 := by
  unfold putMedia; (try dsimp only); repeat' (first | (split; (try (rename_i heq; obtain rfl := fst_of_eq heq))) | (simp (maxDischargeDepth := 40) [hs]; done) | (with_reducible refine safe_forEach ?_ fun _ _ => ?_))

@[simp] theorem putRecord_safe (c : CtxId) (k : Clip) (use : Rec → MediaUse) (kind frame : Nat) (body : List Byte) {s0 s : State} (hs : Safe s0 s) : Safe s0 (putRecord c k use kind frame body s).1 := by
  unfold putRecord; (try dsimp only); repeat' (first | (split; (try (rename_i heq; obtain rfl := fst_of_eq heq))) | (simp (maxDischargeDepth := 40) [hs]; done) | (with_reducible refine safe_forEach ?_ fun _ _ => ?_))

@[simp] theorem chainRecord_safe (c : CtxId) (id kind frame : Nat) (body : List Byte) {s0 s : State} (hs : Safe s0 s) : Safe s0 (chainRecord c id kind frame body s).1 := by
  unfold chainRecord; (try dsimp only); repeat' (first | (split; (try (rename_i heq; obtain rfl := fst_of_eq heq))) | (simp (maxDischargeDepth := 40) [hs]; done) | (with_reducible refine safe_forEach ?_ fun _ _ => ?_))

@[simp] theorem appendRecord_safe (c : CtxId) (id kind frame : Nat) (body : List Byte) {s0 s : State} (hs : Safe s0 s) : Safe s0 (appendRecord c id kind frame body s).1 := by
  unfold appendRecord; (try dsimp only); repeat' (first | (split; (try (rename_i heq; obtain rfl := fst_of_eq heq))) | (simp (maxDischargeDepth := 40) [hs]; done) | (with_reducible refine safe_forEach ?_ fun _ _ => ?_))

@[simp] theorem frameRecord_safe (c : CtxId) (f : Frame) {s0 s : State} (hs : Safe s0 s) : Safe s0 (frameRecord c f s) := by
  unfold frameRecord; (try dsimp only); repeat' (first | (split; (try (rename_i heq; obtain rfl := fst_of_eq heq))) | (simp (maxDischargeDepth := 40) [hs]; done) | (with_reducible refine safe_forEach ?_ fun _ _ => ?_))

@[simp] theorem recordLiveFrame_safe (c : CtxId) (f : Frame) {s0 s : State} (hs : Safe s0 s) : Safe s0 (recordLiveFrame c f s) := by
  unfold recordLiveFrame; split <;> simp (maxDischargeDepth := 40) [hs]

@[simp] theorem trigger_safe (c : CtxId) (t source : Nat) {s0 s : State} (hs : Safe s0 s) : Safe s0 (trigger c t source s) := by
  unfold trigger; (repeat' split) <;> simp (maxDischargeDepth := 40) [hs]

@[simp] theorem tagFrame_safe (c : CtxId) (h : Nat) {s0 s : State} (hs : Safe s0 s) : Safe s0 (tagFrame c h s) := by
  unfold tagFrame; (repeat' split) <;> simp (maxDischargeDepth := 40) [hs]

@[simp] theorem takeSlot_safe (c : CtxId) (frame pin : Option Nat) {s0 s : State} (hs : Safe s0 s) : Safe s0 (takeSlot c frame pin s).1 := by
  unfold takeSlot; (try dsimp only); repeat' (first | (split; (try (rename_i heq; obtain rfl := fst_of_eq heq))) | (simp (maxDischargeDepth := 40) [hs]; done) | (with_reducible refine safe_forEach ?_ fun _ _ => ?_))

@[simp] theorem beginRecords_safe (c : CtxId) (f : Frame) {s0 s : State} (hs : Safe s0 s) : Safe s0 (beginRecords c f s) := by
  unfold beginRecords; (try dsimp only); repeat' (first | (split; (try (rename_i heq; obtain rfl := fst_of_eq heq))) | (simp (maxDischargeDepth := 40) [hs]; done) | (with_reducible refine safe_forEach ?_ fun _ _ => ?_))

@[simp] theorem openClip_safe (c : CtxId) (id h : Nat) {s0 s : State} (hs : Safe s0 s) : Safe s0 (openClip c id h s) := by
  unfold openClip; dsimp only; (repeat' split) <;> simp (maxDischargeDepth := 40) [hs]

@[simp] theorem freezeClip_safe (c : CtxId) (id h reason : Nat) {s0 s : State} (hs : Safe s0 s) : Safe s0 (freezeClip c id h reason s) := by
  unfold freezeClip; (repeat' split) <;> simp (maxDischargeDepth := 40) [hs]

@[simp] theorem stopClip_safe (c : CtxId) (id h reason : Nat) {s0 s : State} (hs : Safe s0 s) : Safe s0 (stopClip c id h reason s) := by
  unfold stopClip; simp (maxDischargeDepth := 40) [hs]

@[simp] theorem stopClips_safe (c : CtxId) (h reason : Nat) {s0 s : State} (hs : Safe s0 s) : Safe s0 (stopClips c h reason s) := by
  unfold stopClips; simp (maxDischargeDepth := 40) [hs]

@[simp] theorem mediaFull_safe (p : Fin 2) (h : Nat) {s0 s : State} (hs : Safe s0 s) : Safe s0 (mediaFull p h s) := by
  unfold mediaFull; dsimp only; (repeat' split) <;> simp (maxDischargeDepth := 40) [hs]

@[simp] theorem clipHinge_safe (c : CtxId) (h : Nat) (k : Clip) {s0 s : State} (hs : Safe s0 s) : Safe s0 (clipHinge c h k s) := by
  unfold clipHinge; (repeat' split) <;> simp (maxDischargeDepth := 40) [hs]

@[simp] theorem gapEvent_safe (c : CtxId) {s0 s : State} (hs : Safe s0 s) : Safe s0 (gapEvent c s) := by
  unfold gapEvent; dsimp only; (repeat' split) <;> simp (maxDischargeDepth := 40) [hs]

@[simp] theorem lateChunks_safe (c : CtxId) {s0 s : State} (hs : Safe s0 s) : Safe s0 (lateChunks c s) := by
  unfold lateChunks; dsimp only; (repeat' split) <;> simp (maxDischargeDepth := 40) [hs]

@[simp] theorem fullVolumes_safe (h : Nat) {s0 s : State} (hs : Safe s0 s) : Safe s0 (fullVolumes h s) := by
  unfold fullVolumes; simp (maxDischargeDepth := 40) [hs]

@[simp] theorem recordHinge_safe (h : Nat) {s0 s : State} (hs : Safe s0 s) : Safe s0 (recordHinge h s) := by
  unfold recordHinge; simp (maxDischargeDepth := 40) [hs]

@[simp] theorem clipSealed_safe (c : CtxId) (k : Clip) (kind : Nat) {s0 s : State} (hs : Safe s0 s) : Safe s0 (clipSealed c k kind s) := by
  unfold clipSealed; (repeat' split) <;> simp (maxDischargeDepth := 40) [hs]

@[simp] theorem sealAtOnce_safe (c : CtxId) (k : Clip) (manifest : List Byte) {s0 s : State} (hs : Safe s0 s) : Safe s0 (sealAtOnce c k manifest s) := by
  unfold sealAtOnce; (try dsimp only); repeat' (first | (split; (try (rename_i heq; obtain rfl := fst_of_eq heq))) | (simp (maxDischargeDepth := 40) [hs]; done) | (with_reducible refine safe_forEach ?_ fun _ _ => ?_))

@[simp] theorem manifestSigned_safe (c : CtxId) (id : Nat) {s0 s : State} (hs : Safe s0 s) : Safe s0 (manifestSigned c id s) := by
  unfold manifestSigned; (try dsimp only); repeat' (first | (split; (try (rename_i heq; obtain rfl := fst_of_eq heq))) | (simp (maxDischargeDepth := 40) [hs]; done) | (with_reducible refine safe_forEach ?_ fun _ _ => ?_))

@[simp] theorem sealTick_safe (pending : CtxId → Nat → Bool) {s0 s : State} (hs : Safe s0 s) : Safe s0 (sealTick pending s) := by
  unfold sealTick; (try dsimp only); repeat' (first | split | (simp (maxDischargeDepth := 40) [hs]; done) | (with_reducible refine safe_forEach ?_ fun _ _ => ?_))

@[simp] theorem mediaDone_safe (p : Fin 2) (u : MediaUse) {s0 s : State} (hs : Safe s0 s) : Safe s0 (mediaDone p u s) := by
  unfold mediaDone; (try dsimp only); repeat' (first | (split; (try (rename_i heq; obtain rfl := fst_of_eq heq))) | (simp (maxDischargeDepth := 40) [hs]; done) | (with_reducible refine safe_forEach ?_ fun _ _ => ?_))

@[simp] theorem mediaFailed_safe (u : MediaUse) {s0 s : State} (hs : Safe s0 s) : Safe s0 (mediaFailed u s) := by
  unfold mediaFailed; (repeat' split) <;> simp (maxDischargeDepth := 40) [hs]

@[simp] theorem dropView_safe (p : Fin 2) {s0 s : State} (hs : Safe s0 s) : Safe s0 (dropView p s) := by
  unfold dropView; simp (maxDischargeDepth := 40) [hs]

@[simp] theorem mediaState_safe (p : Fin 2) (st source : Nat) {s0 s : State} (hs : Safe s0 s) : Safe s0 (mediaState p st source s) := by
  unfold mediaState; simp (maxDischargeDepth := 40) [hs]

@[simp] theorem mediaGone_safe (n : Nat) (p : Fin 2) {s0 s : State} (hs : Safe s0 s) : Safe s0 (mediaGone n p s) := by
  unfold mediaGone; dsimp only; (repeat' split) <;> simp (maxDischargeDepth := 40) [hs]

@[simp] theorem mediaLost_safe (p : Fin 2) {s0 s : State} (hs : Safe s0 s) : Safe s0 (mediaLost p s) := by
  unfold mediaLost; simp (maxDischargeDepth := 40) [hs]

@[simp] theorem recoveryLeaf_safe  {s0 s : State} (hs : Safe s0 s) : Safe s0 (recoveryLeaf s).1 := by
  unfold recoveryLeaf; (try dsimp only); repeat' (first | (split; (try (rename_i heq; obtain rfl := fst_of_eq heq))) | (simp (maxDischargeDepth := 40) [hs]; done) | (with_reducible refine safe_forEach ?_ fun _ _ => ?_))

@[simp] theorem recoverClip_safe (p : Fin 2) (id : Nat) {s0 s : State} (hs : Safe s0 s) : Safe s0 (recoverClip p id s) := by
  unfold recoverClip; (try dsimp only); repeat' (first | (split; (try (rename_i heq; obtain rfl := fst_of_eq heq))) | (simp (maxDischargeDepth := 40) [hs]; done) | (with_reducible refine safe_forEach ?_ fun _ _ => ?_))

@[simp] theorem mountVolume_safe (p : Fin 2) (i : VolumeInfo) {s0 s : State} (hs : Safe s0 s) : Safe s0 (mountVolume p i s) := by
  unfold mountVolume; simp (maxDischargeDepth := 40) [hs]

@[simp] theorem mediaOpDone_safe (p : Fin 2) (ok : Bool) (i : VolumeInfo) {s0 s : State} (hs : Safe s0 s) : Safe s0 (mediaOpDone p ok i s) := by
  unfold mediaOpDone; (repeat' split) <;> simp (maxDischargeDepth := 40) [hs]

@[simp] theorem releaseClip_safe (id : Nat) {s0 s : State} (hs : Safe s0 s) : Safe s0 (releaseClip id s) := by
  unfold releaseClip; simp (maxDischargeDepth := 40) [hs]

@[simp] theorem trigInEdge_safe  {s0 s : State} (hs : Safe s0 s) : Safe s0 (trigInEdge s) := by
  unfold trigInEdge; (try dsimp only); repeat' (first | split | (simp (maxDischargeDepth := 40) [hs]; done) | (with_reducible refine safe_forEach ?_ fun _ _ => ?_))

@[simp] theorem sealRetry_safe (c : CtxId) {s0 s : State} (hs : Safe s0 s) : Safe s0 (sealRetry c s) := by
  unfold sealRetry; split <;> simp (maxDischargeDepth := 40) [hs]

@[simp] theorem enterWard_safe (u : WardUser) (ranges : List WardRange) {s0 s : State} (hs : Safe s0 s) : Safe s0 (enterWard u ranges s).1 := by
  unfold enterWard; (try dsimp only); repeat' (first | (split; (try (rename_i heq; obtain rfl := fst_of_eq heq))) | (simp (maxDischargeDepth := 40) [hs]; done) | (with_reducible refine safe_forEach ?_ fun _ _ => ?_))

@[simp] theorem releaseWard_safe (id : Nat) {s0 s : State} (hs : Safe s0 s) : Safe s0 (releaseWard id s) := by
  unfold releaseWard; simp (maxDischargeDepth := 40) [hs]

@[simp] theorem modWard_safe (id : Nat) (f : Ward → Ward) {s0 s : State} (hs : Safe s0 s) : Safe s0 (modWard id f s) := by
  unfold modWard; simp (maxDischargeDepth := 40) [hs]

@[simp] theorem writeNs2_safe (a : Nat) (bytes : List Byte) {s0 s : State} (hs : Safe s0 s) : Safe s0 (writeNs2 a bytes s) :=
  safe_trans hs ⟨id, fun ⟨h1, h2, h3, h4, h5⟩ => ⟨h1, h2, writeCells_wf _ _ _ h3, h4, h5⟩⟩

@[simp] theorem zeroNs2_safe (a n : Nat) {s0 s : State} (hs : Safe s0 s) : Safe s0 (zeroNs2 a n s) :=
  safe_trans hs ⟨id, fun ⟨h1, h2, h3, h4, h5⟩ => ⟨h1, h2, filter_wf _ h3, h4, h5⟩⟩

@[simp] theorem modCmp_safe (f : Compression → Compression) {s0 s : State} (hs : Safe s0 s) : Safe s0 (modCmp f s) := by
  unfold modCmp; simp (maxDischargeDepth := 40) [hs]

@[simp] theorem modJob_safe (m : MbId) (tag : BitVec 16) (i : Nat) (f : CmpJob → CmpJob) {s0 s : State} (hs : Safe s0 s) : Safe s0 (modJob m tag i f s) := by
  unfold modJob; simp (maxDischargeDepth := 40) [hs]

@[simp] theorem startJob_safe (m : MbId) (tag : BitVec 16) (i : Nat) (j : CmpJob) {s0 s : State} (hs : Safe s0 s) : Safe s0 (startJob m tag i j s) := by
  unfold startJob; (try dsimp only); repeat' (first | (split; (try (rename_i heq; obtain rfl := fst_of_eq heq))) | (simp (maxDischargeDepth := 40) [hs]; done) | (with_reducible refine safe_forEach ?_ fun _ _ => ?_))

@[simp] theorem startJobs_safe  {s0 s : State} (hs : Safe s0 s) : Safe s0 (startJobs s) := by
  unfold startJobs; (try dsimp only); repeat' (first | split | (simp (maxDischargeDepth := 40) [hs]; done) | (with_reducible refine safe_forEach ?_ fun _ _ => ?_))

@[simp] theorem writeLocation_safe (m : MbId) (kind loc off : Nat) (bytes : List Byte) {s0 s : State} (hs : Safe s0 s) : Safe s0 (writeLocation m kind loc off bytes s) := by
  unfold writeLocation; (repeat' split) <;> simp (maxDischargeDepth := 40) [hs]

@[simp] theorem finishSubmits_safe  {s0 s : State} (hs : Safe s0 s) : Safe s0 (finishSubmits s) := by
  unfold finishSubmits; (try dsimp only); repeat' (first | split | (simp (maxDischargeDepth := 40) [hs]; done) | (with_reducible refine safe_forEach ?_ fun _ _ => ?_))

@[simp] theorem endArmed_safe (m : MbId) (hold : Bool) (cs : List Change) (detail : Nat) {s0 s : State} (hs : Safe s0 s) : Safe s0 (endArmed m hold cs detail s) := by
  unfold endArmed; split <;> simp (maxDischargeDepth := 40) [hs]

@[simp] theorem settleHostEngines_safe  {s0 s : State} (hs : Safe s0 s) : Safe s0 (settleHostEngines s) := by
  unfold settleHostEngines; (repeat' split) <;> simp (maxDischargeDepth := 40) [hs]

@[simp] theorem settleJobs_safe  {s0 s : State} (hs : Safe s0 s) : Safe s0 (settleJobs s) := by
  unfold settleJobs; simp (maxDischargeDepth := 40) [hs]

@[simp] theorem retireEngine_safe (cls : EngineClass) (i : Nat) {s0 s : State} (hs : Safe s0 s) : Safe s0 (retireEngine cls i s) := by
  unfold retireEngine; split <;> simp (maxDischargeDepth := 40) [hs]

@[simp] theorem releaseJob_safe (j : CmpJob) {s0 s : State} (hs : Safe s0 s) : Safe s0 (releaseJob j s) := by
  unfold releaseJob; split <;> simp (maxDischargeDepth := 40) [hs]

@[simp] theorem cmpJobDone_safe (m : MbId) (tag : BitVec 16) (i : Nat) (x : JobEnd) {s0 s : State} (hs : Safe s0 s) : Safe s0 (cmpJobDone m tag i x s) := by
  unfold cmpJobDone; dsimp only; (repeat' split) <;> simp (maxDischargeDepth := 40) [hs]

@[simp] theorem cmpEngineRetired_safe (cls : EngineClass) (i : Nat) {s0 s : State} (hs : Safe s0 s) : Safe s0 (cmpEngineRetired cls i s) := by
  unfold cmpEngineRetired
  split
  · exact hs
  · refine settleJobs_safe (safe_forEach (retireEngine_safe _ _ hs) fun i t => ?_)
    refine safe_forEach (safe_refl t) fun x u => ?_
    split <;> simp (maxDischargeDepth := 40)

@[simp] theorem chunkJobDone_safe (c : CtxId) (i : Nat) (x : JobEnd) {s0 s : State} (hs : Safe s0 s) : Safe s0 (chunkJobDone c i x s) := by
  unfold chunkJobDone; (try dsimp only); repeat' (first | (split; (try (rename_i heq; obtain rfl := fst_of_eq heq))) | (simp (maxDischargeDepth := 40) [hs]; done) | (with_reducible refine safe_forEach ?_ fun _ _ => ?_))

@[simp] theorem writeGrade_safe (c : CtxId) (i : GradeImage) {s0 s : State} (hs : Safe s0 s) : Safe s0 (writeGrade c i s) := by
  unfold writeGrade; split <;> simp (maxDischargeDepth := 40) [hs]

@[simp] theorem keepTemporal_safe (c : CtxId) (f : Frame) (v : Developed) {s0 s : State} (hs : Safe s0 s) : Safe s0 (keepTemporal c f v s) := by
  unfold keepTemporal; split <;> simp (maxDischargeDepth := 40) [hs]

@[simp] theorem developPassDone_safe (c : CtxId) (takenOver : Bool) {s0 s : State} (hs : Safe s0 s) : Safe s0 (developPassDone c takenOver s) := by
  unfold developPassDone; dsimp only; (repeat' split) <;> simp (maxDischargeDepth := 40) [hs]

@[simp] theorem exportField_safe (c : CtxId) (bytes : List Byte) {s0 s : State} (hs : Safe s0 s) : Safe s0 (exportField c bytes s) := by
  unfold exportField; (repeat' split) <;> simp (maxDischargeDepth := 40) [hs]

@[simp] theorem motionFieldDone_safe (c : CtxId) {s0 s : State} (hs : Safe s0 s) : Safe s0 (motionFieldDone c s) := by
  unfold motionFieldDone; dsimp only; (repeat' split) <;> simp (maxDischargeDepth := 40) [hs]

@[simp] theorem netLinkState_safe (p : Fin 2) (up : Bool) {s0 s : State} (hs : Safe s0 s) : Safe s0 (netLinkState p up s) := by
  unfold netLinkState; dsimp only; (repeat' split) <;> simp (maxDischargeDepth := 40) [hs]

@[simp] theorem arpRequestRx_safe (p : Fin 2) (target sender : BitVec 32) (mac : BitVec 48) {s0 s : State} (hs : Safe s0 s) : Safe s0 (arpRequestRx p target sender mac s) := by
  unfold arpRequestRx; dsimp only; (repeat' split) <;> simp (maxDischargeDepth := 40) [hs]

@[simp] theorem ethFrameDropped_safe (p : Fin 2) {s0 s : State} (hs : Safe s0 s) : Safe s0 (ethFrameDropped p s) := by
  unfold ethFrameDropped; simp (maxDischargeDepth := 40) [hs]

@[simp] theorem countMissing_safe (ps : List (Fin 2)) {s0 s : State} (hs : Safe s0 s) : Safe s0 (countMissing ps s) := by
  unfold countMissing; simp (maxDischargeDepth := 40) [hs]

@[simp] theorem startSend_safe (i : Fin 24) (j : SendJob) {s0 s : State} (hs : Safe s0 s) : Safe s0 (startSend i j s) := by
  unfold startSend; simp (maxDischargeDepth := 40) [hs]

@[simp] theorem startSender_safe (c : CtxId) (r : PassResult) (x : Fin 24 × Stream) {s0 s : State} (hs : Safe s0 s) : Safe s0 (startSender c r x s) := by
  unfold startSender; dsimp only; (repeat' split) <;> simp (maxDischargeDepth := 40) [hs]

@[simp] theorem startSenders_safe (c : CtxId) (r : PassResult) {s0 s : State} (hs : Safe s0 s) : Safe s0 (startSenders c r s) := by
  unfold startSenders; simp (maxDischargeDepth := 40) [hs]

@[simp] theorem blackFrames_safe (c : CtxId) (h : Nat) {s0 s : State} (hs : Safe s0 s) : Safe s0 (blackFrames c h s) := by
  unfold blackFrames; dsimp only; (repeat' split) <;> simp (maxDischargeDepth := 40) [hs]

@[simp] theorem sendOn_safe (v : Stream) (x : Fin 2 → Emission) {s0 s : State} (hs : Safe s0 s) : Safe s0 (sendOn v x s) := by
  unfold sendOn; (try dsimp only); repeat' (first | split | (simp (maxDischargeDepth := 40) [hs]; done) | (with_reducible refine safe_forEach ?_ fun _ _ => ?_))

@[simp] theorem sendFramePacket_safe (i : Fin 24) (j : SendJob) {s0 s : State} (hs : Safe s0 s) : Safe s0 (sendFramePacket i j s) := by
  unfold sendFramePacket; dsimp only; (repeat' split) <;> simp (maxDischargeDepth := 40) [hs]

@[simp] theorem sendAudioPacket_safe (i : Fin 24) {s0 s : State} (hs : Safe s0 s) : Safe s0 (sendAudioPacket i s) := by
  unfold sendAudioPacket; dsimp only; (repeat' split) <;> simp (maxDischargeDepth := 40) [hs]

@[simp] theorem streamPacketTx_safe (i : Fin 24) {s0 s : State} (hs : Safe s0 s) : Safe s0 (streamPacketTx i s) := by
  unfold streamPacketTx; split <;> simp (maxDischargeDepth := 40) [hs]

@[simp] theorem startCopy_safe (c : CtxId) (r : PassResult) (o : QuadId) {s0 s : State} (hs : Safe s0 s) : Safe s0 (startCopy c r o s) := by
  unfold startCopy; dsimp only; (repeat' split) <;> simp (maxDischargeDepth := 40) [hs]

@[simp] theorem startCopies_safe (c : CtxId) (r : PassResult) {s0 s : State} (hs : Safe s0 s) : Safe s0 (startCopies c r s) := by
  unfold startCopies; simp (maxDischargeDepth := 40) [hs]

@[simp] theorem scanCopyDone_safe (o : QuadId) {s0 s : State} (hs : Safe s0 s) : Safe s0 (scanCopyDone o s) := by
  unfold scanCopyDone; split <;> simp (maxDischargeDepth := 40) [hs]

@[simp] theorem sendPicture_safe (o : QuadId) {s0 s : State} (hs : Safe s0 s) : Safe s0 (sendPicture o s) := by
  unfold sendPicture; (repeat' split) <;> simp (maxDischargeDepth := 40) [hs]

@[simp] theorem sendEmbedded_safe (o : QuadId) {s0 s : State} (hs : Safe s0 s) : Safe s0 (sendEmbedded o s) := by
  unfold sendEmbedded; split <;> simp (maxDischargeDepth := 40) [hs]

@[simp] theorem freezeEvent_safe (o : QuadId) (n : Nat) (b : ScanBuf) {s0 s : State} (hs : Safe s0 s) : Safe s0 (freezeEvent o n b s) := by
  unfold freezeEvent; (repeat' split) <;> simp (maxDischargeDepth := 40) [hs]

@[simp] theorem lateEvent_safe (o : QuadId) (b : ScanBuf) {s0 s : State} (hs : Safe s0 s) : Safe s0 (lateEvent o b s) := by
  unfold lateEvent; split <;> simp (maxDischargeDepth := 40) [hs]

@[simp] theorem genlockSettled_safe (o : QuadId) (r : Raster) {s0 s : State} (hs : Safe s0 s) : Safe s0 (genlockSettled o r s) := by
  unfold genlockSettled; dsimp only; (repeat' split) <;> simp (maxDischargeDepth := 40) [hs]

@[simp] theorem outputLatch_safe (o : QuadId) {s0 s : State} (hs : Safe s0 s) : Safe s0 (outputLatch o s) := by
  unfold outputLatch; dsimp only; (repeat' split) <;> simp (maxDischargeDepth := 40) [hs]

@[simp] theorem scanFifoUnderrun_safe (o : QuadId) {s0 s : State} (hs : Safe s0 s) : Safe s0 (scanFifoUnderrun o s) := by
  unfold scanFifoUnderrun; split <;> simp (maxDischargeDepth := 40) [hs]

@[simp] theorem genlockRefEdge_safe (o : QuadId) (vertical : Bool) {s0 s : State} (hs : Safe s0 s) : Safe s0 (genlockRefEdge o vertical s) := by
  unfold genlockRefEdge; dsimp only; (repeat' split) <;> simp (maxDischargeDepth := 40) [hs]

@[simp] theorem genlockLost_safe (o : QuadId) {s0 s : State} (hs : Safe s0 s) : Safe s0 (genlockLost o s) := by
  unfold genlockLost; (repeat' split) <;> simp (maxDischargeDepth := 40) [hs]

@[simp] theorem vfTeEdge_safe  {s0 s : State} (hs : Safe s0 s) : Safe s0 (vfTeEdge s) := by
  unfold vfTeEdge; dsimp only; (repeat' split) <;> simp (maxDischargeDepth := 40) [hs]

@[simp] theorem vfTeMissing_safe  {s0 s : State} (hs : Safe s0 s) : Safe s0 (vfTeMissing s) := by
  unfold vfTeMissing; dsimp only; (repeat' split) <;> simp (maxDischargeDepth := 40) [hs]

@[simp] theorem hpdRise_safe  {s0 s : State} (hs : Safe s0 s) : Safe s0 (hpdRise s) := by
  unfold hpdRise; split <;> simp (maxDischargeDepth := 40) [hs]

@[simp] theorem hpdDrop_safe  {s0 s : State} (hs : Safe s0 s) : Safe s0 (hpdDrop s) := by
  unfold hpdDrop; simp (maxDischargeDepth := 40) [hs]

@[simp] theorem dpTrainingDone_safe (lanes : Nat) (rate : Fin 5) {s0 s : State} (hs : Safe s0 s) : Safe s0 (dpTrainingDone lanes rate s) := by
  unfold dpTrainingDone; dsimp only; (repeat' split) <;> simp (maxDischargeDepth := 40) [hs]

@[simp] theorem modVc_safe (f : Coders → Coders) {s0 s : State} (hs : Safe s0 s) : Safe s0 (modVc f s) := by
  unfold modVc; simp (maxDischargeDepth := 40) [hs]

@[simp] theorem modRun_safe (c : CtxId) (g : GradeId) (f : EncodeRun → EncodeRun) {s0 s : State} (hs : Safe s0 s) : Safe s0 (modRun c g f s) := by
  unfold modRun; simp (maxDischargeDepth := 40) [hs]

@[simp] theorem streamSuspended_safe (c : Option CtxId) (what reason : Nat) {s0 s : State} (hs : Safe s0 s) : Safe s0 (streamSuspended c what reason s) := by
  unfold streamSuspended; simp (maxDischargeDepth := 40) [hs]

@[simp] theorem checkEncodes_safe (c : CtxId) {s0 s : State} (hs : Safe s0 s) : Safe s0 (checkEncodes c s) := by
  unfold checkEncodes; simp (maxDischargeDepth := 40) [hs]

@[simp] theorem startCoding_safe (c : CtxId) (g : GradeId) (f : Frame) (idr again : Bool) {s0 s : State} (hs : Safe s0 s) : Safe s0 (startCoding c g f idr again s) := by
  unfold startCoding; (repeat' split) <;> simp (maxDischargeDepth := 40) [hs]

@[simp] theorem deferKey_safe (c : CtxId) (g : GradeId) (f : Frame) {s0 s : State} (hs : Safe s0 s) : Safe s0 (deferKey c g f s) := by
  unfold deferKey; simp (maxDischargeDepth := 40) [hs]

@[simp] theorem countSkipped_safe  {s0 s : State} (hs : Safe s0 s) : Safe s0 (countSkipped s) := by
  unfold countSkipped; simp (maxDischargeDepth := 40) [hs]

@[simp] theorem startPicture_safe (c : CtxId) (g : GradeId) (r : PassResult) {s0 s : State} (hs : Safe s0 s) : Safe s0 (startPicture c g r s) := by
  unfold startPicture; dsimp only; (repeat' split) <;> simp (maxDischargeDepth := 40) [hs]

@[simp] theorem startPictures_safe (c : CtxId) (r : PassResult) {s0 s : State} (hs : Safe s0 s) : Safe s0 (startPictures c r s) := by
  unfold startPictures; simp (maxDischargeDepth := 40) [hs]

@[simp] theorem releaseImage_safe (c : CtxId) (g : GradeId) (frame : Nat) {s0 s : State} (hs : Safe s0 s) : Safe s0 (releaseImage c g frame s) := by
  unfold releaseImage; simp (maxDischargeDepth := 40) [hs]

@[simp] theorem copyUnit_safe (c : CtxId) (g : GradeId) (v : Encode) (bytes : List Byte) {s0 s : State} (hs : Safe s0 s) : Safe s0 (copyUnit c g v bytes s) := by
  unfold copyUnit; (repeat' split) <;> simp (maxDischargeDepth := 40) [hs]

@[simp] theorem recordUnit_safe (c : CtxId) (g : GradeId) (p : Coding) (bytes : List Byte) {s0 s : State} (hs : Safe s0 s) : Safe s0 (recordUnit c g p bytes s) := by
  unfold recordUnit; (try dsimp only); repeat' (first | (split; (try (rename_i heq; obtain rfl := fst_of_eq heq))) | (simp (maxDischargeDepth := 40) [hs]; done) | (with_reducible refine safe_forEach ?_ fun _ _ => ?_))

@[simp] theorem encodePictureDone_safe (c : CtxId) (g : GradeId) (rows : List RowCode) {s0 s : State} (hs : Safe s0 s) : Safe s0 (encodePictureDone c g rows s) := by
  unfold encodePictureDone; (repeat' split) <;> simp (maxDischargeDepth := 40) [hs]

@[simp] theorem modSession_safe (i : Fin 16) (f : Session → Session) {s0 s : State} (hs : Safe s0 s) : Safe s0 (modSession i f s) := by
  unfold modSession; simp (maxDischargeDepth := 40) [hs]

@[simp] theorem writeSlots_safe (i : Fin 16) : ∀ (l : List (List Byte)) {s0 s : State} (hs : Safe s0 s), Safe s0 (writeSlots i l s)
  | [], s0, s, hs => by unfold writeSlots; simp (maxDischargeDepth := 40) [hs]
  | b :: rest, s0, s, hs => by
    unfold writeSlots
    split
    · exact hs
    · dsimp only
      split
      · simp (maxDischargeDepth := 40) [hs]
      · split
        · exact writeSlots_safe i rest (writeHost_safe _ _ (modSession_safe _ _ hs))
        · simp (maxDischargeDepth := 40) [hs]

@[simp] theorem outputPicture_safe (i : Fin 16) (p : DecodedPicture) (result : Nat) {s0 s : State} (hs : Safe s0 s) : Safe s0 (outputPicture i p result s) := by
  unfold outputPicture; (repeat' split) <;> simp (maxDischargeDepth := 40) [hs]

@[simp] theorem endSubmits_safe (before after : List AccessUnit) {s0 s : State} (hs : Safe s0 s) : Safe s0 (endSubmits before after s) := by
  unfold endSubmits; simp (maxDischargeDepth := 40) [hs]

@[simp] theorem consume_safe (i : Fin 16) (unit : Nat) {s0 s : State} (hs : Safe s0 s) : Safe s0 (consume i unit s) := by
  unfold consume; split <;> simp (maxDischargeDepth := 40) [hs]

@[simp] theorem concealedEvent_safe (i : Fin 16) (cause unit : Nat) {s0 s : State} (hs : Safe s0 s) : Safe s0 (concealedEvent i cause unit s) := by
  unfold concealedEvent; simp (maxDischargeDepth := 40) [hs]

@[simp] theorem decodePictureDone_safe (i : Fin 16) (p : DecodedPicture) {s0 s : State} (hs : Safe s0 s) : Safe s0 (decodePictureDone i p s) := by
  unfold decodePictureDone; (repeat' split) <;> simp (maxDischargeDepth := 40) [hs]

@[simp] theorem decodeTmaxExpiry_safe (i : Fin 16) (p : DecodedPicture) {s0 s : State} (hs : Safe s0 s) : Safe s0 (decodeTmaxExpiry i p s) := by
  unfold decodeTmaxExpiry; (repeat' split) <;> simp (maxDischargeDepth := 40) [hs]

@[simp] theorem decodeSlotFree_safe (i : Fin 16) {s0 s : State} (hs : Safe s0 s) : Safe s0 (decodeSlotFree i s) := by
  unfold decodeSlotFree; split <;> simp (maxDischargeDepth := 40) [hs]

@[simp] theorem dropPictures_safe (c : CtxId) (g : GradeId) (k : Fin 8) {s0 s : State} (hs : Safe s0 s) : Safe s0 (dropPictures c g k s) := by
  unfold dropPictures; dsimp only; (repeat' split) <;> simp (maxDischargeDepth := 40) [hs]

@[simp] theorem vcCoreRetired_safe (k : Fin 8) {s0 s : State} (hs : Safe s0 s) : Safe s0 (vcCoreRetired k s) := by
  unfold vcCoreRetired; split <;> simp (maxDischargeDepth := 40) [hs]

@[simp] theorem moveAnalysis_safe (c : CtxId) {s0 s : State} (hs : Safe s0 s) : Safe s0 (moveAnalysis c s) := by
  unfold moveAnalysis; dsimp only; (repeat' split) <;> simp (maxDischargeDepth := 40) [hs]

@[simp] theorem moveEncode_safe (c : CtxId) (g : GradeId) {s0 s : State} (hs : Safe s0 s) : Safe s0 (moveEncode c g s) := by
  unfold moveEncode; dsimp only; (repeat' split) <;> simp (maxDischargeDepth := 40) [hs]

@[simp] theorem moveSession_safe (i : Fin 16) {s0 s : State} (hs : Safe s0 s) : Safe s0 (moveSession i s) := by
  unfold moveSession; (repeat' split) <;> simp (maxDischargeDepth := 40) [hs]

@[simp] theorem moveCores_safe  {s0 s : State} (hs : Safe s0 s) : Safe s0 (moveCores s) := by
  unfold moveCores; split <;> simp (maxDischargeDepth := 40) [hs]

@[simp] theorem vcBlockedWrite_safe (k : Fin 8) {s0 s : State} (hs : Safe s0 s) : Safe s0 (vcBlockedWrite k s) := by
  unfold vcBlockedWrite; simp (maxDischargeDepth := 40) [hs]

@[simp] theorem stgState_safe  {s0 s : State} (hs : Safe s0 s) : Safe s0 (stgState s) := by
  unfold stgState; simp (maxDischargeDepth := 40) [hs]

@[simp] theorem nvmeVector_safe (v : Nat) {s0 s : State} (hs : Safe s0 s) : Safe s0 (nvmeVector v s) := by
  unfold nvmeVector; dsimp only; (repeat' split) <;> simp (maxDischargeDepth := 40) [hs]

@[simp] theorem pushCqe_safe (id : Nat) (entry : List Byte) {s0 s : State} (hs : Safe s0 s) : Safe s0 (pushCqe id entry s) := by
  unfold pushCqe; (repeat' split) <;> simp (maxDischargeDepth := 40) [hs]

@[simp] theorem flushCpl_safe  {s0 s : State} (hs : Safe s0 s) : Safe s0 (flushCpl s) := by
  unfold flushCpl; (try dsimp only); repeat' (first | split | (simp (maxDischargeDepth := 40) [hs]; done) | (with_reducible refine safe_forEach ?_ fun _ _ => ?_))

@[simp] theorem postCqe_safe (n : NvmeCmd) (status dw0 : Nat) {s0 s : State} (hs : Safe s0 s) : Safe s0 (postCqe n status dw0 s) := by
  unfold postCqe; (repeat' split) <;> simp (maxDischargeDepth := 40) [hs]

@[simp] theorem asyncEvent_safe (kind info page : Nat) {s0 s : State} (hs : Safe s0 s) : Safe s0 (asyncEvent kind info page s) := by
  unfold asyncEvent; dsimp only; (repeat' split) <;> simp (maxDischargeDepth := 40) [hs]

@[simp] theorem logNvmeError_safe (n : NvmeCmd) (status lba : Nat) {s0 s : State} (hs : Safe s0 s) : Safe s0 (logNvmeError n status lba s) := by
  unfold logNvmeError; simp (maxDischargeDepth := 40) [hs]

@[simp] theorem endNvme_safe (n : NvmeCmd) (status dw0 lba : Nat) {s0 s : State} (hs : Safe s0 s) : Safe s0 (endNvme n status dw0 lba s) := by
  unfold endNvme; split <;> simp (maxDischargeDepth := 40) [hs]

@[simp] theorem writePages_safe : ∀ (l : List (BitVec 64)) (bs : List Byte) {s0 s : State} (hs : Safe s0 s), Safe s0 (writePages l bs s)
  | [], _, s0, s, hs => by unfold writePages; exact hs
  | p :: ps, bs, s0, s, hs => by
    unfold writePages
    exact writePages_safe ps _ (writeHost_safe _ _ hs)

@[simp] theorem answerNvme_safe (n : NvmeCmd) (bytes : List Byte) {s0 s : State} (hs : Safe s0 s) : Safe s0 (answerNvme n bytes s) := by
  unfold answerNvme; split <;> simp (maxDischargeDepth := 40) [hs]

@[simp] theorem fetchNvme_safe (n : NvmeCmd) {s0 s : State} (hs : Safe s0 s) : Safe s0 (fetchNvme n s) := by
  unfold fetchNvme; simp (maxDischargeDepth := 40) [hs]

@[simp] theorem adminNvme_safe (n : NvmeCmd) {f : State → State} {s0 s : State} (hs : Safe s0 s) (h : ∀ t, Safe t (f t)) :
    Safe s0 (adminNvme n f s) := by
  unfold adminNvme
  split
  · exact safe_trans (fetchNvme_safe _ hs) (h _)
  · exact hs

@[simp] theorem enterDirectory_safe (k : SealedClip) {s0 s : State} (hs : Safe s0 s) : Safe s0 (enterDirectory k s) := by
  unfold enterDirectory; split <;> simp (maxDischargeDepth := 40) [hs]

@[simp] theorem directoryEvents_safe  {s0 s : State} (hs : Safe s0 s) : Safe s0 (directoryEvents s) := by
  unfold directoryEvents; dsimp only; (repeat' split) <;> simp (maxDischargeDepth := 40) [hs]

@[simp] theorem syncDirectory_safe  {s0 s : State} (hs : Safe s0 s) : Safe s0 (syncDirectory s) := by
  unfold syncDirectory; simp (maxDischargeDepth := 40) [hs]

@[simp] theorem rebuildDirectory_safe  {s0 s : State} (hs : Safe s0 s) : Safe s0 (rebuildDirectory s) := by
  unfold rebuildDirectory; simp (maxDischargeDepth := 40) [hs]

@[simp] theorem directoryChange_safe  {s0 s : State} (hs : Safe s0 s) : Safe s0 (directoryChange s) := by
  unfold directoryChange; (try dsimp only); repeat' (first | (split; (try (rename_i heq; obtain rfl := fst_of_eq heq))) | (simp (maxDischargeDepth := 40) [hs]; done) | (with_reducible refine safe_forEach ?_ fun _ _ => ?_))

@[simp] theorem paceUse_safe (p : PacePool) (n : Nat) {s0 s : State} (hs : Safe s0 s) : Safe s0 (paceUse p n s) := by
  unfold paceUse; split <;> simp (maxDischargeDepth := 40) [hs]

@[simp] theorem finishIo_safe (id : Nat) (k : IoKind) (n : NvmeCmd) (sourceOk : Bool) {s0 s : State} (hs : Safe s0 s) : Safe s0 (finishIo id k n sourceOk s) := by
  unfold finishIo; dsimp only; (repeat' split) <;> simp (maxDischargeDepth := 40) [hs]

@[simp] theorem moveIo_safe (id : Nat) (k : IoKind) (n : NvmeCmd) (sourceOk : Bool) {s0 s : State} (hs : Safe s0 s) : Safe s0 (moveIo id k n sourceOk s) := by
  unfold moveIo; dsimp only; (repeat' split) <;> simp (maxDischargeDepth := 40) [hs]

@[simp] theorem runIo_safe (k : IoKind) (n : NvmeCmd) {s0 s : State} (hs : Safe s0 s) : Safe s0 (runIo k n s) := by
  unfold runIo; (try dsimp only); repeat' (first | (split; (try (rename_i heq; obtain rfl := fst_of_eq heq))) | (simp (maxDischargeDepth := 40) [hs]; done) | (with_reducible refine safe_forEach ?_ fun _ _ => ?_))

@[simp] theorem ioNvme_safe (k : IoKind) (n : NvmeCmd) {s0 s : State} (hs : Safe s0 s) : Safe s0 (ioNvme k n s) := by
  unfold ioNvme; dsimp only; (repeat' split) <;> simp (maxDischargeDepth := 40) [hs]

@[simp] theorem wardEntryGranted_safe (id : Nat) (sourceOk : Bool) {s0 s : State} (hs : Safe s0 s) : Safe s0 (wardEntryGranted id sourceOk s) := by
  unfold wardEntryGranted; (repeat' split) <;> simp (maxDischargeDepth := 40) [hs]

@[simp] theorem stgRateRelease_safe  {s0 s : State} (hs : Safe s0 s) : Safe s0 (stgRateRelease s) := by
  unfold stgRateRelease; (try dsimp only); repeat' (first | split | (simp (maxDischargeDepth := 40) [hs]; done) | (with_reducible refine safe_forEach ?_ fun _ _ => ?_))

@[simp] theorem mediaCmdComplete_safe (p : Fin 2) (ok : Bool) {s0 s : State} (hs : Safe s0 s) : Safe s0 (mediaCmdComplete p ok s) := by
  unfold mediaCmdComplete; dsimp only; (repeat' split) <;> simp (maxDischargeDepth := 40) [hs]

@[simp] theorem failMediaReads_safe (p : Fin 2) {s0 s : State} (hs : Safe s0 s) : Safe s0 (failMediaReads p s) := by
  unfold failMediaReads; (try dsimp only); repeat' (first | split | (simp (maxDischargeDepth := 40) [hs]; done) | (with_reducible refine safe_forEach ?_ fun _ _ => ?_))

@[simp] theorem stgFatal_safe (cause : Nat) {s0 s : State} (hs : Safe s0 s) : Safe s0 (stgFatal cause s) := by
  unfold stgFatal; split <;> simp (maxDischargeDepth := 40) [hs]

@[simp] theorem stgReady_safe  {s0 s : State} (hs : Safe s0 s) : Safe s0 (stgReady s) := by
  unfold stgReady; split <;> simp (maxDischargeDepth := 40) [hs]

@[simp] theorem nvmeCcEnable_safe  {s0 s : State} (hs : Safe s0 s) : Safe s0 (nvmeCcEnable s) := by
  unfold nvmeCcEnable; split <;> simp (maxDischargeDepth := 40) [hs]

@[simp] theorem nvmeCcDisable_safe  {s0 s : State} (hs : Safe s0 s) : Safe s0 (nvmeCcDisable s) := by
  unfold nvmeCcDisable; split <;> simp (maxDischargeDepth := 40) [hs]

@[simp] theorem wardTimeout_safe (id : Nat) {s0 s : State} (hs : Safe s0 s) : Safe s0 (wardTimeout id s) := by
  unfold wardTimeout; (repeat' split) <;> simp (maxDischargeDepth := 40) [hs]

@[simp] theorem nvmeSqTail_safe (q tail : Nat) {s0 s : State} (hs : Safe s0 s) : Safe s0 (nvmeSqTail q tail s) := by
  unfold nvmeSqTail; split <;> simp (maxDischargeDepth := 40) [hs]

@[simp] theorem nvmeCqHead_safe (q head : Nat) {s0 s : State} (hs : Safe s0 s) : Safe s0 (nvmeCqHead q head s) := by
  unfold nvmeCqHead; split <;> simp (maxDischargeDepth := 40) [hs]

@[simp] theorem createCq_safe (n : NvmeCmd) {s0 s : State} (hs : Safe s0 s) : Safe s0 (createCq n s) := by
  unfold createCq; dsimp only; (repeat' split) <;> simp (maxDischargeDepth := 40) [hs]

@[simp] theorem createSq_safe (n : NvmeCmd) {s0 s : State} (hs : Safe s0 s) : Safe s0 (createSq n s) := by
  unfold createSq; dsimp only; (repeat' split) <;> simp (maxDischargeDepth := 40) [hs]

@[simp] theorem deleteSq_safe (n : NvmeCmd) {s0 s : State} (hs : Safe s0 s) : Safe s0 (deleteSq n s) := by
  unfold deleteSq
  dsimp only
  split
  · simp (maxDischargeDepth := 40) [hs]
  · refine endNvme_safe _ _ _ _ (modStg_safe _ (safe_forEach (safe_forEach hs fun w t => ?_) fun w t => by simp (maxDischargeDepth := 40)))
    split
    · split <;> simp (maxDischargeDepth := 40)
    · exact safe_refl t

@[simp] theorem deleteCq_safe (n : NvmeCmd) {s0 s : State} (hs : Safe s0 s) : Safe s0 (deleteCq n s) := by
  unfold deleteCq; dsimp only; (repeat' split) <;> simp (maxDischargeDepth := 40) [hs]

@[simp] theorem identify_safe (n : NvmeCmd) {s0 s : State} (hs : Safe s0 s) : Safe s0 (identify n s) := by
  unfold identify; dsimp only; (repeat' split) <;> simp (maxDischargeDepth := 40) [hs]

@[simp] theorem getLogPage_safe (n : NvmeCmd) {s0 s : State} (hs : Safe s0 s) : Safe s0 (getLogPage n s) := by
  unfold getLogPage; dsimp only; (repeat' split) <;> simp (maxDischargeDepth := 40) [hs]

@[simp] theorem asyncRequest_safe (n : NvmeCmd) {s0 s : State} (hs : Safe s0 s) : Safe s0 (asyncRequest n s) := by
  unfold asyncRequest; (repeat' split) <;> simp (maxDischargeDepth := 40) [hs]

@[simp] theorem setFeatures_safe (n : NvmeCmd) {s0 s : State} (hs : Safe s0 s) : Safe s0 (setFeatures n s) := by
  unfold setFeatures; dsimp only; (repeat' split) <;> simp (maxDischargeDepth := 40) [hs]

@[simp] theorem getFeatures_safe (n : NvmeCmd) {s0 s : State} (hs : Safe s0 s) : Safe s0 (getFeatures n s) := by
  unfold getFeatures; dsimp only; (repeat' split) <;> simp (maxDischargeDepth := 40) [hs]

@[simp] theorem powerStateEntryDone_safe  {s0 s : State} (hs : Safe s0 s) : Safe s0 (powerStateEntryDone s) := by
  unfold powerStateEntryDone; (repeat' split) <;> simp (maxDischargeDepth := 40) [hs]

@[simp] theorem nvmePowerStateExit_safe  {s0 s : State} (hs : Safe s0 s) : Safe s0 (nvmePowerStateExit s) := by
  unfold nvmePowerStateExit; split <;> simp (maxDischargeDepth := 40) [hs]

@[simp] theorem withScratch_safe (e : Entry) {s0 s : State} (hs : Safe s0 s) : Safe s0 (withScratch e s) :=
  safe_trans hs ⟨id, fun ⟨h1, h2, _, h4, h5⟩ => ⟨h1, h2, rfl, h4, h5⟩⟩

@[simp] theorem receive_safe (p : QuadId) (f : AudioFrame) {s0 s : State} (hs : Safe s0 s) : Safe s0 (receive p f s) := by
  unfold receive; dsimp only; (repeat' split) <;> simp (maxDischargeDepth := 40) [hs]

@[simp] theorem nextOut_safe (p : QuadId) {s0 s : State} (hs : Safe s0 s) : Safe s0 (nextOut p s).1 := by
  unfold nextOut; (try dsimp only); repeat' (first | (split; (try (rename_i heq; obtain rfl := fst_of_eq heq))) | (simp (maxDischargeDepth := 40) [hs]; done) | (with_reducible refine safe_forEach ?_ fun _ _ => ?_))

@[simp] theorem transmit_safe (p : QuadId) (k : AudioCfg) {s0 s : State} (hs : Safe s0 s) : Safe s0 (transmit p k s) := by
  unfold transmit; (try dsimp only); repeat' (first | (split; (try (rename_i heq; obtain rfl := fst_of_eq heq))) | (simp (maxDischargeDepth := 40) [hs]; done) | (with_reducible refine safe_forEach ?_ fun _ _ => ?_))

@[simp] theorem recoverFrame_safe (p : QuadId) {s0 s : State} (hs : Safe s0 s) : Safe s0 (recoverFrame p s) := by
  unfold recoverFrame; dsimp only; (repeat' split) <;> simp (maxDischargeDepth := 40) [hs]

@[simp] theorem audioFrame_safe (p : QuadId) (samples : List (BitVec 32)) {s0 s : State} (hs : Safe s0 s) : Safe s0 (audioFrame p samples s) := by
  unfold audioFrame; dsimp only; (repeat' split) <;> simp (maxDischargeDepth := 40) [hs]

@[simp] theorem feedMonitors_safe (p : QuadId) (f : AudioFrame) {s0 s : State} (hs : Safe s0 s) : Safe s0 (feedMonitors p f s) := by
  unfold feedMonitors; split <;> simp (maxDischargeDepth := 40) [hs]

@[simp] theorem feedSenders_safe (p : QuadId) (f : AudioFrame) {s0 s : State} (hs : Safe s0 s) : Safe s0 (feedSenders p f s) := by
  unfold feedSenders; simp (maxDischargeDepth := 40) [hs]

@[simp] theorem drainFrame_safe (p : QuadId) {s0 s : State} (hs : Safe s0 s) : Safe s0 (drainFrame p s) := by
  unfold drainFrame; split <;> simp (maxDischargeDepth := 40) [hs]

@[simp] theorem synthesise_safe (p : QuadId) {s0 s : State} (hs : Safe s0 s) : Safe s0 (synthesise p s) := by
  unfold synthesise; dsimp only; (repeat' split) <;> simp (maxDischargeDepth := 40) [hs]

@[simp] theorem audioClock_safe  {s0 s : State} (hs : Safe s0 s) : Safe s0 (audioClock s) := by
  unfold audioClock; simp (maxDischargeDepth := 40) [hs]

@[simp] theorem drainAll_safe (p : QuadId) {s0 s : State} (hs : Safe s0 s) : Safe s0 (drainAll p s) := by
  unfold drainAll; simp (maxDischargeDepth := 40) [hs]

@[simp] theorem fadeEvent_safe (p : QuadId) {s0 s : State} (hs : Safe s0 s) : Safe s0 (fadeEvent p s) := by
  unfold fadeEvent; simp (maxDischargeDepth := 40) [hs]

@[simp] theorem audioRecord_safe (h : Nat) (k : Clip) {s0 s : State} (hs : Safe s0 s) : Safe s0 (audioRecord h k s) := by
  unfold audioRecord; (try dsimp only); repeat' (first | (split; (try (rename_i heq; obtain rfl := fst_of_eq heq))) | (simp (maxDischargeDepth := 40) [hs]; done) | (with_reducible refine safe_forEach ?_ fun _ _ => ?_))

@[simp] theorem audioHinge_safe (h : Nat) {s0 s : State} (hs : Safe s0 s) : Safe s0 (audioHinge h s) := by
  unfold audioHinge; simp (maxDischargeDepth := 40) [hs]

@[simp] theorem audioStartInstant_safe (p : QuadId) (offset : Nat) {s0 s : State} (hs : Safe s0 s) : Safe s0 (audioStartInstant p offset s) := by
  unfold audioStartInstant; dsimp only; (repeat' split) <;> simp (maxDischargeDepth := 40) [hs]

@[simp] theorem loseClock_safe (p : QuadId) {s0 s : State} (hs : Safe s0 s) : Safe s0 (loseClock p s) := by
  unfold loseClock; dsimp only; (repeat' split) <;> simp (maxDischargeDepth := 40) [hs]

@[simp] theorem audClockLost_safe (p : QuadId) {s0 s : State} (hs : Safe s0 s) : Safe s0 (audClockLost p s) := by
  unfold audClockLost; (repeat' split) <;> simp (maxDischargeDepth := 40) [hs]

@[simp] theorem audMclkLost_safe  {s0 s : State} (hs : Safe s0 s) : Safe s0 (audMclkLost s) := by
  unfold audMclkLost; split <;> simp (maxDischargeDepth := 40) [hs]

@[simp] theorem stopPort_safe (p : QuadId) {s0 s : State} (hs : Safe s0 s) : Safe s0 (stopPort p s) := by
  unfold stopPort; simp (maxDischargeDepth := 40) [hs]

@[simp] theorem sample_safe (q : QuadId) (kind detail time : Nat) {s0 s : State} (hs : Safe s0 s) : Safe s0 (sample q kind detail time s) := by
  unfold sample; simp (maxDischargeDepth := 40) [hs]

@[simp] theorem posError_safe (q : QuadId) (k time : Nat) {s0 s : State} (hs : Safe s0 s) : Safe s0 (posError q k time s) := by
  unfold posError; dsimp only; (repeat' split) <;> simp (maxDischargeDepth := 40) [hs]

@[simp] theorem compareTriggers_safe (q : QuadId) {s0 s : State} (hs : Safe s0 s) : Safe s0 (compareTriggers q s) := by
  unfold compareTriggers; (try dsimp only); repeat' (first | split | (simp (maxDischargeDepth := 40) [hs]; done) | (with_reducible refine safe_forEach ?_ fun _ _ => ?_))

@[simp] theorem compareEvent_safe (q : QuadId) (stamp i : Nat) {s0 s : State} (hs : Safe s0 s) : Safe s0 (compareEvent q stamp i s) := by
  unfold compareEvent; simp (maxDischargeDepth := 40) [hs]

@[simp] theorem comparePulseEnd_safe (q : QuadId) {s0 s : State} (hs : Safe s0 s) : Safe s0 (comparePulseEnd q s) := by
  unfold comparePulseEnd; simp (maxDischargeDepth := 40) [hs]

@[simp] theorem rangeEvents_safe (q : QuadId) (was : Int) {s0 s : State} (hs : Safe s0 s) : Safe s0 (rangeEvents q was s) := by
  unfold rangeEvents; dsimp only; (repeat' split) <;> simp (maxDischargeDepth := 40) [hs]

@[simp] theorem movePos_safe (q : QuadId) (move : Int) (stamp : Nat) {s0 s : State} (hs : Safe s0 s) : Safe s0 (movePos q move stamp s) := by
  unfold movePos; simp (maxDischargeDepth := 40) [hs]

@[simp] theorem follow_safe (q : QuadId) (r : Int) (stamp : Nat) {s0 s : State} (hs : Safe s0 s) : Safe s0 (follow q r stamp s) := by
  unfold follow; dsimp only; (repeat' split) <;> simp (maxDischargeDepth := 40) [hs]

@[simp] theorem indexMet_safe (q : QuadId) (stamp : Nat) {s0 s : State} (hs : Safe s0 s) : Safe s0 (indexMet q stamp s) := by
  unfold indexMet; dsimp only; (repeat' split) <;> simp (maxDischargeDepth := 40) [hs]

@[simp] theorem quadrature_safe (q : QuadId) (a b z : Bool) (stamp : Nat) {s0 s : State} (hs : Safe s0 s) : Safe s0 (quadrature q a b z stamp s) := by
  unfold quadrature; dsimp only; (repeat' split) <;> simp (maxDischargeDepth := 40) [hs]

@[simp] theorem hallStep_safe (q : QuadId) (a b z : Bool) (stamp : Nat) {s0 s : State} (hs : Safe s0 s) : Safe s0 (hallStep q a b z stamp s) := by
  unfold hallStep; dsimp only; (repeat' split) <;> simp (maxDischargeDepth := 40) [hs]

@[simp] theorem posTransition_safe (q : QuadId) (a b z : Bool) {s0 s : State} (hs : Safe s0 s) : Safe s0 (posTransition q a b z s) := by
  unfold posTransition; dsimp only; (repeat' split) <;> simp (maxDischargeDepth := 40) [hs]

@[simp] theorem ssiPoll_safe (q : QuadId) (busy : Bool) (reading : BitVec 32) {s0 s : State} (hs : Safe s0 s) : Safe s0 (ssiPoll q busy reading s) := by
  unfold ssiPoll; dsimp only; (repeat' split) <;> simp (maxDischargeDepth := 40) [hs]

@[simp] theorem posStall_safe (q : QuadId) {s0 s : State} (hs : Safe s0 s) : Safe s0 (posStall q s) := by
  unfold posStall; split <;> simp (maxDischargeDepth := 40) [hs]

@[simp] theorem posHinge_safe  {s0 s : State} (hs : Safe s0 s) : Safe s0 (posHinge s) := by
  unfold posHinge; (try dsimp only); repeat' (first | split | (simp (maxDischargeDepth := 40) [hs]; done) | (with_reducible refine safe_forEach ?_ fun _ _ => ?_))

@[simp] theorem modHasp_safe (f : Hasp → Hasp) {s0 s : State} (hs : Safe s0 s) : Safe s0 (modHasp f s) := by
  unfold modHasp; simp (maxDischargeDepth := 40) [hs]

@[simp] theorem modLink_safe (p : Fin 2) (f : HaspPort → HaspPort) {s0 s : State} (hs : Safe s0 s) : Safe s0 (modLink p f s) := by
  unfold modLink; simp (maxDischargeDepth := 40) [hs]

@[simp] theorem modWorker_safe (w : Fin 8) (f : Worker → Worker) {s0 s : State} (hs : Safe s0 s) : Safe s0 (modWorker w f s) := by
  unfold modWorker; simp (maxDischargeDepth := 40) [hs]

@[simp] theorem postLink_safe (p : Fin 2) {s0 s : State} (hs : Safe s0 s) : Safe s0 (postLink p s) := by
  unfold postLink; simp (maxDischargeDepth := 40) [hs]

@[simp] theorem haspLinkAdvance_safe (p : Fin 2) (n : Fin 8) (hop : Nat) {s0 s : State} (hs : Safe s0 s) : Safe s0 (haspLinkAdvance p n hop s) := by
  unfold haspLinkAdvance; dsimp only; (repeat' split) <;> simp (maxDischargeDepth := 40) [hs]

@[simp] theorem haspFail_safe (p : Fin 2) {s0 s : State} (hs : Safe s0 s) : Safe s0 (haspFail p s) := by
  unfold haspFail; dsimp only; (repeat' split) <;> simp (maxDischargeDepth := 40) [hs]

@[simp] theorem haspStateTimeout_safe (p : Fin 2) {s0 s : State} (hs : Safe s0 s) : Safe s0 (haspStateTimeout p s) := by
  unfold haspStateTimeout; split <;> simp (maxDischargeDepth := 40) [hs]

@[simp] theorem haspRetryTimer_safe (p : Fin 2) {s0 s : State} (hs : Safe s0 s) : Safe s0 (haspRetryTimer p s) := by
  unfold haspRetryTimer; simp (maxDischargeDepth := 40) [hs]

@[simp] theorem haspCalibration_safe (p : Fin 2) (roundTrip turnaround : Nat) {s0 s : State} (hs : Safe s0 s) : Safe s0 (haspCalibration p roundTrip turnaround s) := by
  unfold haspCalibration; dsimp only; (repeat' split) <;> simp (maxDischargeDepth := 40) [hs]

@[simp] theorem hingeBroadcastTx_safe  {s0 s : State} (hs : Safe s0 s) : Safe s0 (hingeBroadcastTx s) := by
  unfold hingeBroadcastTx; split <;> simp (maxDischargeDepth := 40) [hs]

@[simp] theorem setManager_safe (n : Nat) {s0 s : State} (hs : Safe s0 s) : Safe s0 (setManager n s) := by
  unfold setManager; split <;> simp (maxDischargeDepth := 40) [hs]

@[simp] theorem joinManager_safe (b : Broadcast) (lead : Nat) {s0 s : State} (hs : Safe s0 s) : Safe s0 (joinManager b lead s) := by
  unfold joinManager; simp (maxDischargeDepth := 40) [hs]

@[simp] theorem commitHeld_safe (h : Nat) {s0 s : State} (hs : Safe s0 s) : Safe s0 (commitHeld h s) := by
  unfold commitHeld; simp (maxDischargeDepth := 40) [hs]

@[simp] theorem applyCommit_safe (b : Broadcast) {s0 s : State} (hs : Safe s0 s) : Safe s0 (applyCommit b s) := by
  unfold applyCommit; (repeat' split) <;> simp (maxDischargeDepth := 40) [hs]

@[simp] theorem placeHinge_safe (at_ : Int) {s0 s : State} (hs : Safe s0 s) : Safe s0 (placeHinge at_ s) := by
  unfold placeHinge; split <;> simp (maxDischargeDepth := 40) [hs]

@[simp] theorem hingeBroadcastRx_safe (p : Fin 2) (b : Broadcast) {s0 s : State} (hs : Safe s0 s) : Safe s0 (hingeBroadcastRx p b s) := by
  unfold hingeBroadcastRx; dsimp only; (repeat' split) <;> simp (maxDischargeDepth := 40) [hs]

@[simp] theorem haspManagerLost_safe  {s0 s : State} (hs : Safe s0 s) : Safe s0 (haspManagerLost s) := by
  unfold haspManagerLost; split <;> simp (maxDischargeDepth := 40) [hs]

@[simp] theorem postWorker_safe (w : Fin 8) (st reason : Nat) {s0 s : State} (hs : Safe s0 s) : Safe s0 (postWorker w st reason s) := by
  unfold postWorker; simp (maxDischargeDepth := 40) [hs]

@[simp] theorem cancelArm_safe  {s0 s : State} (hs : Safe s0 s) : Safe s0 (cancelArm s) := by
  unfold cancelArm; split <;> simp (maxDischargeDepth := 40) [hs]

@[simp] theorem loseWorker_safe (w : Fin 8) (st : Nat) {s0 s : State} (hs : Safe s0 s) : Safe s0 (loseWorker w st s) := by
  unfold loseWorker; dsimp only; (repeat' split) <;> simp (maxDischargeDepth := 40) [hs]

@[simp] theorem haspWorkerLost_safe (w : Fin 8) {s0 s : State} (hs : Safe s0 s) : Safe s0 (haspWorkerLost w s) := by
  unfold haspWorkerLost; split <;> simp (maxDischargeDepth := 40) [hs]

@[simp] theorem haspHeartbeatRx_safe (w : Fin 8) (b : Heartbeat) {s0 s : State} (hs : Safe s0 s) : Safe s0 (haspHeartbeatRx w b s) := by
  unfold haspHeartbeatRx; (repeat' split) <;> simp (maxDischargeDepth := 40) [hs]

@[simp] theorem postWorkerEvents_safe (w : Fin 8) (n : Nat) {s0 s : State} (hs : Safe s0 s) : Safe s0 (postWorkerEvents w n s) := by
  unfold postWorkerEvents; simp (maxDischargeDepth := 40) [hs]

@[simp] theorem haspForwardCompletion_safe (w : Fin 8) (x : WorkerCompletion) {s0 s : State} (hs : Safe s0 s) : Safe s0 (haspForwardCompletion w x s) := by
  unfold haspForwardCompletion; (repeat' split) <;> simp (maxDischargeDepth := 40) [hs]

@[simp] theorem haspForwardTimeout_safe (w : Fin 8) {s0 s : State} (hs : Safe s0 s) : Safe s0 (haspForwardTimeout w s) := by
  unfold haspForwardTimeout; (repeat' split) <;> simp (maxDischargeDepth := 40) [hs]

@[simp] theorem finishArm_safe (a : ArmRun) {s0 s : State} (hs : Safe s0 s) : Safe s0 (finishArm a s) := by
  unfold finishArm; simp (maxDischargeDepth := 40) [hs]

@[simp] theorem haspArmConfirm_safe (w : Fin 8) {s0 s : State} (hs : Safe s0 s) : Safe s0 (haspArmConfirm w s) := by
  unfold haspArmConfirm; dsimp only; (repeat' split) <;> simp (maxDischargeDepth := 40) [hs]

@[simp] theorem deliverForward_safe (b : List Byte) {s0 s : State} (hs : Safe s0 s) : Safe s0 (deliverForward b s) := by
  unfold deliverForward
  exact modMb_safe _ hs fun x hx => writeCells_wf _ _ _ hx

@[simp] theorem relayEvent_safe (w : Fin 8) (x : EventEntry) {s0 s : State} (hs : Safe s0 s) : Safe s0 (relayEvent w x s) := by
  unfold relayEvent; simp (maxDischargeDepth := 40) [hs]

@[simp] theorem receiveHalo_safe (m : HaspMessage) {s0 s : State} (hs : Safe s0 s) : Safe s0 (receiveHalo m s) := by
  unfold receiveHalo; simp (maxDischargeDepth := 40) [hs]

@[simp] theorem receiveCommand_safe (m : HaspMessage) {s0 s : State} (hs : Safe s0 s) : Safe s0 (receiveCommand m s) := by
  unfold receiveCommand; dsimp only; (repeat' split) <;> simp (maxDischargeDepth := 40) [hs]

@[simp] theorem consumeMessage_safe (m : HaspMessage) {s0 s : State} (hs : Safe s0 s) : Safe s0 (consumeMessage m s) := by
  unfold consumeMessage; dsimp only; (repeat' split) <;> simp (maxDischargeDepth := 40) [hs]

@[simp] theorem haspMessageRx_safe (p : Fin 2) (m : HaspMessage) {s0 s : State} (hs : Safe s0 s) : Safe s0 (haspMessageRx p m s) := by
  unfold haspMessageRx; dsimp only; (repeat' split) <;> simp (maxDischargeDepth := 40) [hs]

@[simp] theorem sendParts_safe (cls dest tick data : Nat) (bytes : List Byte) {s0 s : State} (hs : Safe s0 s) : Safe s0 (sendParts cls dest tick data bytes s) := by
  unfold sendParts; simp (maxDischargeDepth := 40) [hs]

@[simp] theorem sendMeans_safe (c : CtxId) (f : Frame) {s0 s : State} (hs : Safe s0 s) : Safe s0 (sendMeans c f s) := by
  unfold sendMeans; (try dsimp only); repeat' (first | split | (simp (maxDischargeDepth := 40) [hs]; done) | (with_reducible refine safe_forEach ?_ fun _ _ => ?_))

@[simp] theorem sendGradeRows_safe (c : CtxId) (b : Bank) (tick : Nat) (i : GradeImage) {s0 s : State} (hs : Safe s0 s) : Safe s0 (sendGradeRows c b tick i s) := by
  unfold sendGradeRows; (try dsimp only); repeat' (first | split | (simp (maxDischargeDepth := 40) [hs]; done) | (with_reducible refine safe_forEach ?_ fun _ _ => ?_))

@[simp] theorem sendBand_safe (c : CtxId) (r : PassResult) {s0 s : State} (hs : Safe s0 s) : Safe s0 (sendBand c r s) := by
  unfold sendBand; (repeat' split) <;> simp (maxDischargeDepth := 40) [hs]

@[simp] theorem mergeResult_safe (c : CtxId) (r : PassResult) {s0 s : State} (hs : Safe s0 s) : Safe s0 (mergeResult c r s).1 := by
  unfold mergeResult
  split
  · exact hs
  · dsimp only
    split
    · exact hs
    · exact modHasp_safe _ (modCtx_safe _ _ hs)

@[simp] theorem haspGuard_safe  {s0 s : State} (hs : Safe s0 s) : Safe s0 (haspGuard s) := by
  unfold haspGuard; dsimp only; (repeat' split) <;> simp (maxDischargeDepth := 40) [hs]

@[simp] theorem haspHinge_safe (h : Nat) {s0 s : State} (hs : Safe s0 s) : Safe s0 (haspHinge h s) := by
  unfold haspHinge; (try dsimp only); repeat' (first | split | (simp (maxDischargeDepth := 40) [hs]; done) | (with_reducible refine safe_forEach ?_ fun _ _ => ?_))

@[simp] theorem modTwb_safe (f : Twb → Twb) {s0 s : State} (hs : Safe s0 s) : Safe s0 (modTwb f s) := by
  unfold modTwb; simp (maxDischargeDepth := 40) [hs]

@[simp] theorem submit_safe  {s0 s : State} (hs : Safe s0 s) : Safe s0 (submit s) := by
  unfold submit; split <;> simp (maxDischargeDepth := 40) [hs]

@[simp] theorem ackCompletion_safe  {s0 s : State} (hs : Safe s0 s) : Safe s0 (ackCompletion s) := by
  unfold ackCompletion; split <;> simp (maxDischargeDepth := 40) [hs]

@[simp] theorem nextEvent_safe  {s0 s : State} (hs : Safe s0 s) : Safe s0 (nextEvent s) := by
  unfold nextEvent
  refine modMb_safe _ hs fun x hx => ?_
  split <;> exact hx

@[simp] theorem writeApbase_safe (i : Nat) (v : Byte) {s0 s : State} (hs : Safe s0 s) : Safe s0 (writeApbase i v s) := by
  unfold writeApbase; split <;> simp (maxDischargeDepth := 40) [hs]

@[simp] theorem writeByte_safe (a : Nat) (v : Byte) {s0 s : State} (hs : Safe s0 s) : Safe s0 (writeByte a v s) := by
  unfold writeByte; (repeat' split) <;> simp (maxDischargeDepth := 40) [hs]

@[simp] theorem commitAt_safe (a : Byte) (v : Byte) {s0 s : State} (hs : Safe s0 s) : Safe s0 (commitAt a v s) := by
  unfold commitAt; split <;> simp (maxDischargeDepth := 40) [hs]

@[simp] theorem takeSnapshot_safe  {s0 s : State} (hs : Safe s0 s) : Safe s0 (takeSnapshot s) := by
  unfold takeSnapshot; simp (maxDischargeDepth := 40) [hs]

@[simp] theorem addressByte_safe (v : Byte) {s0 s : State} (hs : Safe s0 s) : Safe s0 (addressByte v s) := by
  unfold addressByte; (repeat' split) <;> simp (maxDischargeDepth := 40) [hs]

@[simp] theorem byteCommit_safe (wr : Bool) (v : Byte) {s0 s : State} (hs : Safe s0 s) : Safe s0 (byteCommit wr v s) := by
  unfold byteCommit; (repeat' split) <;> simp (maxDischargeDepth := 40) [hs]

@[simp] theorem startStop_safe (start : Bool) {s0 s : State} (hs : Safe s0 s) : Safe s0 (startStop start s) := by
  unfold startStop; (repeat' split) <;> simp (maxDischargeDepth := 40) [hs]

@[simp] theorem sclTimeout_safe  {s0 s : State} (hs : Safe s0 s) : Safe s0 (sclTimeout s) := by
  unfold sclTimeout; split <;> simp (maxDischargeDepth := 40) [hs]

@[simp] theorem modControl_safe (f : Control → Control) {s0 s : State} (hs : Safe s0 s) : Safe s0 (modControl f s) := by
  unfold modControl; simp (maxDischargeDepth := 40) [hs]

@[simp] theorem resetPort_safe (p : PortId) {s0 s : State} (hs : Safe s0 s) : Safe s0 (resetPort p s) := by
  unfold resetPort; dsimp only; (repeat' split) <;> simp (maxDischargeDepth := 40) [hs]

@[simp] theorem resetOutput_safe (o : QuadId) {s0 s : State} (hs : Safe s0 s) : Safe s0 (resetOutput o s) := by
  unfold resetOutput; simp (maxDischargeDepth := 40) [hs]

@[simp] theorem resetCore_safe (k : Fin 8) {s0 s : State} (hs : Safe s0 s) : Safe s0 (resetCore k s) := by
  unfold resetCore; simp (maxDischargeDepth := 40) [hs]

@[simp] theorem resetCompression_safe  {s0 s : State} (hs : Safe s0 s) : Safe s0 (resetCompression s) := by
  unfold resetCompression
  refine modCmp_safe _ (safe_forEach hs fun i t => ?_)
  refine safe_forEach (safe_refl t) fun x u => ?_
  split <;> simp (maxDischargeDepth := 40)

@[simp] theorem resetAudio_safe (p : QuadId) {s0 s : State} (hs : Safe s0 s) : Safe s0 (resetAudio p s) := by
  unfold resetAudio; simp (maxDischargeDepth := 40) [hs]

@[simp] theorem resetChannel_safe (q : QuadId) {s0 s : State} (hs : Safe s0 s) : Safe s0 (resetChannel q s) := by
  unfold resetChannel; simp (maxDischargeDepth := 40) [hs]

@[simp] theorem resetLink_safe (p : Fin 2) {s0 s : State} (hs : Safe s0 s) : Safe s0 (resetLink p s) := by
  unfold resetLink; simp (maxDischargeDepth := 40) [hs]

@[simp] theorem resetTwb_safe  {s0 s : State} (hs : Safe s0 s) : Safe s0 (resetTwb s) := by
  unfold resetTwb; simp (maxDischargeDepth := 40) [hs]

@[simp] theorem resetBlock_safe (b : Nat) {s0 s : State} (hs : Safe s0 s) : Safe s0 (resetBlock b s) := by
  unfold resetBlock; (repeat' split) <;> simp (maxDischargeDepth := 40) [hs]

@[simp] theorem retireDead_safe (b : Nat) {s0 s : State} (hs : Safe s0 s) : Safe s0 (retireDead b s) := by
  unfold retireDead; split <;> simp (maxDischargeDepth := 40) [hs]

@[simp] theorem dropDraining_safe  {s0 s : State} (hs : Safe s0 s) : Safe s0 (dropDraining s) := by
  unfold dropDraining; simp (maxDischargeDepth := 40) [hs]

@[simp] theorem blockDrainDone_safe (drained : Nat) (cameOut : Bool) {s0 s : State} (hs : Safe s0 s) : Safe s0 (blockDrainDone drained cameOut s) := by
  unfold blockDrainDone; (repeat' split) <;> simp (maxDischargeDepth := 40) [hs]

@[simp] theorem blockQuiesceTimeout_safe (outstanding : Nat) {s0 s : State} (hs : Safe s0 s) : Safe s0 (blockQuiesceTimeout outstanding s) := by
  unfold blockQuiesceTimeout; split <;> simp (maxDischargeDepth := 40) [hs]

@[simp] theorem hungPortResponse_safe (block : Nat) (r : MemReq) {s0 s : State} (hs : Safe s0 s) : Safe s0 (hungPortResponse block r s) := by
  unfold hungPortResponse; split <;> simp (maxDischargeDepth := 40) [hs]

@[simp] theorem resetController_safe  {s0 s : State} (hs : Safe s0 s) : Safe s0 (resetController s) := by
  unfold resetController; simp (maxDischargeDepth := 40) [hs]

@[simp] theorem resetEndpoint_safe  {s0 s : State} (hs : Safe s0 s) : Safe s0 (resetEndpoint s) := by
  unfold resetEndpoint; simp (maxDischargeDepth := 40) [hs]

@[simp] theorem portOff_safe (reason : Nat) (p : PortId) {s0 s : State} (hs : Safe s0 s) : Safe s0 (portOff reason p s) := by
  unfold portOff; split <;> simp (maxDischargeDepth := 40) [hs]

@[simp] theorem loseDomain_safe (d : Fin 25) {s0 s : State} (hs : Safe s0 s) : Safe s0 (loseDomain d s) := by
  unfold loseDomain; (repeat' split) <;> simp (maxDischargeDepth := 40) [hs]

@[simp] theorem domainOff_safe (d : Fin 25) {s0 s : State} (hs : Safe s0 s) : Safe s0 (domainOff d s) := by
  unfold domainOff; split <;> simp (maxDischargeDepth := 40) [hs]

@[simp] theorem tripWith_safe (detail : Nat) {s0 s : State} (hs : Safe s0 s) : Safe s0 (tripWith detail s) := by
  unfold tripWith; split <;> simp (maxDischargeDepth := 40) [hs]

@[simp] theorem mbCmdTailWrite_safe (m : MbId) (v : BitVec 32) {s0 s : State} (hs : Safe s0 s) : Safe s0 (mbCmdTailWrite m v s) := by
  unfold mbCmdTailWrite; split <;> simp (maxDischargeDepth := 40) [hs]

@[simp] theorem mbEnable_safe (m : MbId) (on : Bool) {s0 s : State} (hs : Safe s0 s) : Safe s0 (mbEnable m on s) := by
  unfold mbEnable; (repeat' split) <;> simp (maxDischargeDepth := 40) [hs]

@[simp] theorem mbRingReset_safe (m : MbId) {s0 s : State} (hs : Safe s0 s) : Safe s0 (mbRingReset m s) := by
  unfold mbRingReset
  split
  · exact hs
  · exact modMb_safe _ (dropHoldOf_safe _ hs) fun x hx => hx

@[simp] theorem mbHeads_safe (m : MbId) {f : Mailbox → Mailbox} {s0 s : State} (hs : Safe s0 s)
    (hf : ∀ b : Mailbox, Memory.wf b.arena = true → Memory.wf (f b).arena = true) : Safe s0 (mbHeads m f s) := by
  unfold mbHeads; split
  · exact modMb_safe _ hs hf
  · exact hs

@[simp] theorem mbCtrl_safe (m : MbId) (v : BitVec 32) {s0 s : State} (hs : Safe s0 s) : Safe s0 (mbCtrl m v s) := by
  unfold mbCtrl; simp (maxDischargeDepth := 40) [hs]

@[simp] theorem tickLoRead_safe  {s0 s : State} (hs : Safe s0 s) : Safe s0 (tickLoRead s) := by
  unfold tickLoRead; simp (maxDischargeDepth := 40) [hs]

@[simp] theorem msixWrite_safe (n : Nat) (v : BitVec 32) {s0 s : State} (hs : Safe s0 s) : Safe s0 (msixWrite n v s) := by
  unfold msixWrite; dsimp only; (repeat' split) <;> simp (maxDischargeDepth := 40) [hs]

@[simp] theorem mbWrite_safe (m : MbId) (o : Nat) (v : BitVec 32) {s0 s : State} (hs : Safe s0 s) : Safe s0 (mbWrite m o v s) := by
  unfold mbWrite; split <;> simp (maxDischargeDepth := 40) [hs]

@[simp] theorem bar0Write_safe (o : Nat) (v : BitVec 32) {s0 s : State} (hs : Safe s0 s) : Safe s0 (bar0Write o v s) := by
  unfold bar0Write; (repeat' split) <;> simp (maxDischargeDepth := 40) [hs]

@[simp] theorem ccWrite_safe (v : BitVec 32) {s0 s : State} (hs : Safe s0 s) : Safe s0 (ccWrite v s) := by
  unfold ccWrite; (repeat' split) <;> simp (maxDischargeDepth := 40) [hs]

@[simp] theorem nvmeMsixWrite_safe (n : Nat) (v : BitVec 32) {s0 s : State} (hs : Safe s0 s) : Safe s0 (nvmeMsixWrite n v s) := by
  unfold nvmeMsixWrite; dsimp only; (repeat' split) <;> simp (maxDischargeDepth := 40) [hs]

@[simp] theorem nvmeWrite_safe (o : Nat) (v : BitVec 32) {s0 s : State} (hs : Safe s0 s) : Safe s0 (nvmeWrite o v s) := by
  unfold nvmeWrite; (repeat' split) <;> simp (maxDischargeDepth := 40) [hs]

@[simp] theorem registerWrite_safe (function : Fin 2) (o size : Nat) (v : BitVec 32) {s0 s : State} (hs : Safe s0 s) : Safe s0 (registerWrite function o size v s) := by
  unfold registerWrite; (repeat' split) <;> simp (maxDischargeDepth := 40) [hs]

@[simp] theorem modCollector_safe (f : Collector → Collector) {s0 s : State} (hs : Safe s0 s) : Safe s0 (modCollector f s) := by
  unfold modCollector; simp (maxDischargeDepth := 40) [hs]

@[simp] theorem markTakeover_safe (u : UnitId) {s0 s : State} (hs : Safe s0 s) : Safe s0 (markTakeover u s) := by
  unfold markTakeover; simp (maxDischargeDepth := 40) [hs]

@[simp] theorem declareDead_safe (u : UnitId) (detail : Nat) {s0 s : State} (hs : Safe s0 s) : Safe s0 (declareDead u detail s) := by
  unfold declareDead; dsimp only; (repeat' split) <;> simp (maxDischargeDepth := 40) [hs]

@[simp] theorem rowBlockCheck_safe (u : UnitId) (r : UnitCheck) {s0 s : State} (hs : Safe s0 s) : Safe s0 (rowBlockCheck u r s) := by
  unfold rowBlockCheck; dsimp only; (repeat' split) <;> simp (maxDischargeDepth := 40) [hs]

@[simp] theorem spareSelfTestFail_safe (r : RegionId) (k : Fin 2) {s0 s : State} (hs : Safe s0 s) : Safe s0 (spareSelfTestFail r k s) := by
  unfold spareSelfTestFail; split <;> simp (maxDischargeDepth := 40) [hs]

@[simp] theorem fencedActivity_safe (r : RegionId) (detail : Nat) {s0 s : State} (hs : Safe s0 s) : Safe s0 (fencedActivity r detail s) := by
  unfold fencedActivity; simp (maxDischargeDepth := 40) [hs]

@[simp] theorem fencedRequest_safe (u : UnitId) {s0 s : State} (hs : Safe s0 s) : Safe s0 (fencedRequest u s) := by
  unfold fencedRequest; split <;> simp (maxDischargeDepth := 40) [hs]

@[simp] theorem reintegrationTestDone_safe (u : UnitId) (pass : Bool) {s0 s : State} (hs : Safe s0 s) : Safe s0 (reintegrationTestDone u pass s) := by
  unfold reintegrationTestDone; (repeat' split) <;> simp (maxDischargeDepth := 40) [hs]

@[simp] theorem unitsHinge_safe  {s0 s : State} (hs : Safe s0 s) : Safe s0 (unitsHinge s) := by
  unfold unitsHinge; simp (maxDischargeDepth := 40) [hs]

@[simp] theorem restripe_safe (h : Nat) (c : CtxId) {s0 s : State} (hs : Safe s0 s) : Safe s0 (restripe h c s) := by
  unfold restripe; simp (maxDischargeDepth := 40) [hs]

@[simp] theorem restripeDue_safe  {s0 s : State} (hs : Safe s0 s) : Safe s0 (restripeDue s) := by
  unfold restripeDue; (try dsimp only); repeat' (first | split | (simp (maxDischargeDepth := 40) [hs]; done) | (with_reducible refine safe_forEach ?_ fun _ _ => ?_))

@[simp] theorem postRaised_safe (x : SourceId × Byte) {s0 s : State} (hs : Safe s0 s) : Safe s0 (postRaised x s) := by
  unfold postRaised; simp (maxDischargeDepth := 40) [hs]

@[simp] theorem postDue_safe  {s0 s : State} (hs : Safe s0 s) : Safe s0 (postDue s) := by
  unfold postDue; simp (maxDischargeDepth := 40) [hs]

@[simp] theorem postDeadbolt_safe  {s0 s : State} (hs : Safe s0 s) : Safe s0 (postDeadbolt s) := by
  unfold postDeadbolt; (repeat' split) <;> simp (maxDischargeDepth := 40) [hs]

@[simp] theorem collectorParityError_safe  {s0 s : State} (hs : Safe s0 s) : Safe s0 (collectorParityError s) := by
  unfold collectorParityError; simp (maxDischargeDepth := 40) [hs]

@[simp] theorem lockstepMismatch_safe  {s0 s : State} (hs : Safe s0 s) : Safe s0 (lockstepMismatch s) := by
  unfold lockstepMismatch; simp (maxDischargeDepth := 40) [hs]

@[simp] theorem sramEccError_safe (e : SramError) {s0 s : State} (hs : Safe s0 s) : Safe s0 (sramEccError e s) := by
  unfold sramEccError; split <;> simp (maxDischargeDepth := 40) [hs]

@[simp] theorem injectSource_safe (e : Entry) {s0 s : State} (hs : Safe s0 s) : Safe s0 (injectSource e s) := by
  unfold injectSource; dsimp only; (repeat' split) <;> simp (maxDischargeDepth := 40) [hs]

@[simp] theorem leaveFree_safe (c : CtxId) {s0 s : State} (hs : Safe s0 s) : Safe s0 (leaveFree c s) := by
  unfold leaveFree; split <;> simp (maxDischargeDepth := 40) [hs]

@[simp] theorem setSource_safe (c : CtxId) (v : Source) {s0 s : State} (hs : Safe s0 s) : Safe s0 (setSource c v s) := by
  unfold setSource; simp (maxDischargeDepth := 40) [hs]

@[simp] theorem place_safe (c : CtxId) (v : Nat) {s0 s : State} (hs : Safe s0 s) : Safe s0 (place c v s) := by
  unfold place; split <;> simp (maxDischargeDepth := 40) [hs]

@[simp] theorem setRing_safe (p : PortId) (n : Nat) {s0 s : State} (hs : Safe s0 s) : Safe s0 (setRing p n s) := by
  unfold setRing; simp (maxDischargeDepth := 40) [hs]

@[simp] theorem switchDomain_safe (d : Fin 25) (v : Nat) {s0 s : State} (hs : Safe s0 s) : Safe s0 (switchDomain d v s) := by
  unfold switchDomain; (repeat' split) <;> simp (maxDischargeDepth := 40) [hs]

@[simp] theorem restartTime_safe  {s0 s : State} (hs : Safe s0 s) : Safe s0 (restartTime s) := by
  unfold restartTime; simp (maxDischargeDepth := 40) [hs]

@[simp] theorem domainWakeDone_safe (d : Fin 25) {s0 s : State} (hs : Safe s0 s) : Safe s0 (domainWakeDone d s) := by
  unfold domainWakeDone; split <;> simp (maxDischargeDepth := 40) [hs]

@[simp] theorem setClock_safe (die : Fin 2) (mhz : Nat) {s0 s : State} (hs : Safe s0 s) : Safe s0 (setClock die mhz s) := by
  unfold setClock; simp (maxDischargeDepth := 40) [hs]

@[simp] theorem setCeiling_safe (mw : Nat) {s0 s : State} (hs : Safe s0 s) : Safe s0 (setCeiling mw s) := by
  unfold setCeiling; simp (maxDischargeDepth := 40) [hs]

@[simp] theorem modThermal_safe (f : Thermal → Thermal) {s0 s : State} (hs : Safe s0 s) : Safe s0 (modThermal f s) := by
  unfold modThermal; simp (maxDischargeDepth := 40) [hs]

@[simp] theorem thmWarning_safe (kind threshold sensor : Nat) (max : Int) {s0 s : State} (hs : Safe s0 s) : Safe s0 (thmWarning kind threshold sensor max s) := by
  unfold thmWarning; simp (maxDischargeDepth := 40) [hs]

@[simp] theorem takeReadings_safe (l : List Int) {s0 s : State} (hs : Safe s0 s) : Safe s0 (takeReadings l s) := by
  unfold takeReadings; simp (maxDischargeDepth := 40) [hs]

@[simp] theorem thresholdStep_safe (k : Fin 3) (v : Int) (i : Nat) {s0 s : State} (hs : Safe s0 s) : Safe s0 (thresholdStep k v i s) := by
  unfold thresholdStep; dsimp only; (repeat' split) <;> simp (maxDischargeDepth := 40) [hs]

@[simp] theorem thermalSample_safe (l : List Int) {s0 s : State} (hs : Safe s0 s) : Safe s0 (thermalSample l s) := by
  unfold thermalSample; dsimp only; (repeat' split) <;> simp (maxDischargeDepth := 40) [hs]

@[simp] theorem perstChange_safe (asserted : Bool) {s0 s : State} (hs : Safe s0 s) : Safe s0 (perstChange asserted s) := by
  unfold perstChange; split <;> simp (maxDischargeDepth := 40) [hs]

@[simp] theorem endpointLinkDown_safe (uncorrectable : Bool) {s0 s : State} (hs : Safe s0 s) : Safe s0 (endpointLinkDown uncorrectable s) := by
  unfold endpointLinkDown; split <;> simp (maxDischargeDepth := 40) [hs]

@[simp] theorem endpointLinkUp_safe  {s0 s : State} (hs : Safe s0 s) : Safe s0 (endpointLinkUp s) := by
  unfold endpointLinkUp; split <;> simp (maxDischargeDepth := 40) [hs]

@[simp] theorem writeHeader_safe (preferred pending : Nat) {s0 s : State} (hs : Safe s0 s) : Safe s0 (writeHeader preferred pending s) := by
  unfold writeHeader; dsimp only; (repeat' split) <;> simp (maxDischargeDepth := 40) [hs]

@[simp] theorem securitySignDone_safe (ok : Bool) {s0 s : State} (hs : Safe s0 s) : Safe s0 (securitySignDone ok s) := by
  unfold securitySignDone; (repeat' split) <;> simp (maxDischargeDepth := 40) [hs]

@[simp] theorem securityEngineFault_safe  {s0 s : State} (hs : Safe s0 s) : Safe s0 (securityEngineFault s) := by
  unfold securityEngineFault; dsimp only; (repeat' split) <;> simp (maxDischargeDepth := 40) [hs]

@[simp] theorem securitySelfCheckDone_safe (ok : Bool) {s0 s : State} (hs : Safe s0 s) : Safe s0 (securitySelfCheckDone ok s) := by
  unfold securitySelfCheckDone; (repeat' split) <;> simp (maxDischargeDepth := 40) [hs]

@[simp] theorem imageWriteDone_safe (ok : Bool) {s0 s : State} (hs : Safe s0 s) : Safe s0 (imageWriteDone ok s) := by
  unfold imageWriteDone; (repeat' split) <;> simp (maxDischargeDepth := 40) [hs]

@[simp] theorem setPreferredDone_safe (result : Nat) {s0 s : State} (hs : Safe s0 s) : Safe s0 (setPreferredDone result s) := by
  unfold setPreferredDone; (repeat' split) <;> simp (maxDischargeDepth := 40) [hs]

@[simp] theorem burnFuse_safe  {s0 s : State} (hs : Safe s0 s) : Safe s0 (burnFuse s) := by
  unfold burnFuse; simp (maxDischargeDepth := 40) [hs]

@[simp] theorem fuseBurnDone_safe (ok : Bool) {s0 s : State} (hs : Safe s0 s) : Safe s0 (fuseBurnDone ok s) := by
  unfold fuseBurnDone; dsimp only; (repeat' split) <;> simp (maxDischargeDepth := 40) [hs]

@[simp] theorem modBoot_safe (f : Boot → Boot) {s0 s : State} (hs : Safe s0 s) : Safe s0 (modBoot f s) := by
  unfold modBoot; simp (maxDischargeDepth := 40) [hs]

@[simp] theorem modRetention_safe (f : Retention → Retention) {s0 s : State} (hs : Safe s0 s) : Safe s0 (modRetention f s) := by
  unfold modRetention; simp (maxDischargeDepth := 40) [hs]

@[simp] theorem resetRelease_safe (x : ResetSource) {s0 s : State} (hs : Safe s0 s) : Safe s0 (resetRelease x s) := by
  unfold resetRelease; dsimp only; (repeat' split) <;> simp (maxDischargeDepth := 40) [hs]

@[simp] theorem stretchEnd_safe  {s0 s : State} (hs : Safe s0 s) : Safe s0 (stretchEnd s) := by
  unfold stretchEnd; split <;> simp (maxDischargeDepth := 40) [hs]

@[simp] theorem strapLatch_safe (l : List Nat) {s0 s : State} (hs : Safe s0 s) : Safe s0 (strapLatch l s) := by
  unfold strapLatch; split <;> simp (maxDischargeDepth := 40) [hs]

@[simp] theorem fuseLoadDone_safe (ok : Bool) (f : Fuses) {s0 s : State} (hs : Safe s0 s) : Safe s0 (fuseLoadDone ok f s) := by
  unfold fuseLoadDone; (repeat' split) <;> simp (maxDischargeDepth := 40) [hs]

@[simp] theorem domainsOn_safe (l : List (Fin 25)) {s0 s : State} (hs : Safe s0 s) : Safe s0 (domainsOn l s) := by
  unfold domainsOn; simp (maxDischargeDepth := 40) [hs]

@[simp] theorem completeBurn_safe  {s0 s : State} (hs : Safe s0 s) : Safe s0 (completeBurn s) := by
  unfold completeBurn; split <;> simp (maxDischargeDepth := 40) [hs]

@[simp] theorem enableBoxes_safe  {s0 s : State} (hs : Safe s0 s) : Safe s0 (enableBoxes s) := by
  unfold enableBoxes; simp (maxDischargeDepth := 40) [hs]

@[simp] theorem bringUp_safe  {s0 s : State} (hs : Safe s0 s) : Safe s0 (bringUp s) := by
  unfold bringUp; split <;> simp (maxDischargeDepth := 40) [hs]

@[simp] theorem reportRetry_safe  {s0 s : State} (hs : Safe s0 s) : Safe s0 (reportRetry s) := by
  unfold reportRetry; split <;> simp (maxDischargeDepth := 40) [hs]

@[simp] theorem restartKongaord_safe (slot : Nat) (f : FirmwareInfo) {s0 s : State} (hs : Safe s0 s) : Safe s0 (restartKongaord slot f s) := by
  unfold restartKongaord; simp (maxDischargeDepth := 40) [hs]

@[simp] theorem startGenerator_safe  {s0 s : State} (hs : Safe s0 s) : Safe s0 (startGenerator s) := by
  unfold startGenerator; simp (maxDischargeDepth := 40) [hs]

@[simp] theorem endpointOff_safe  {s0 s : State} (hs : Safe s0 s) : Safe s0 (endpointOff s) := by
  unfold endpointOff; split <;> simp (maxDischargeDepth := 40) [hs]

@[simp] theorem startComplete_safe  {s0 s : State} (hs : Safe s0 s) : Safe s0 (startComplete s) := by
  unfold startComplete; (repeat' split) <;> simp (maxDischargeDepth := 40) [hs]

@[simp] theorem rescanHeaders_safe  {s0 s : State} (hs : Safe s0 s) : Safe s0 (rescanHeaders s) := by
  unfold rescanHeaders; simp (maxDischargeDepth := 40) [hs]

@[simp] theorem flashEffect_safe (x : FlashOp) (ok : Bool) (done : Nat) {s0 s : State} (hs : Safe s0 s) : Safe s0 (flashEffect x ok done s) := by
  unfold flashEffect; (repeat' split) <;> simp (maxDischargeDepth := 40) [hs]

@[simp] theorem flashOpDone_safe (ok : Bool) (done : Nat) {s0 s : State} (hs : Safe s0 s) : Safe s0 (flashOpDone ok done s) := by
  unfold flashOpDone; dsimp only; (repeat' split) <;> simp (maxDischargeDepth := 40) [hs]

@[simp] theorem rejectUnknown_safe (m : MbId) {s0 s : State} (hs : Safe s0 s) : Safe s0 (rejectUnknown m s) := by
  unfold rejectUnknown; (repeat' split) <;> simp (maxDischargeDepth := 40) [hs]

@[simp] theorem rejectUnknowns_safe  {s0 s : State} (hs : Safe s0 s) : Safe s0 (rejectUnknowns s) := by
  unfold rejectUnknowns; simp (maxDischargeDepth := 40) [hs]

@[simp] theorem raiseSome_safe (v : Option (Fin 32)) {s0 s : State} (hs : Safe s0 s) : Safe s0 (raiseSome v s) := by
  unfold raiseSome; split <;> simp (maxDischargeDepth := 40) [hs]

@[simp] theorem mailboxInterrupts_safe  {s0 s : State} (hs : Safe s0 s) : Safe s0 (mailboxInterrupts s) := by
  unfold mailboxInterrupts; (try dsimp only); repeat' (first | split | (simp (maxDischargeDepth := 40) [hs]; done) | (with_reducible refine safe_forEach ?_ fun _ _ => ?_))

@[simp] theorem tickWork_safe (hbmTemps : List Int) {s0 s : State} (hs : Safe s0 s) : Safe s0 (tickWork hbmTemps s) := by
  unfold tickWork; simp (maxDischargeDepth := 40) [hs]

@[simp] theorem managementTick_safe (hbmTemps : List Int) {s0 s : State} (hs : Safe s0 s) : Safe s0 (managementTick hbmTemps s) := by
  unfold managementTick
  split
  · exact hs
  · split
    · split
      · exact mailboxInterrupts_safe (rejectUnknowns_safe hs)
      · exact hs
    · refine mailboxInterrupts_safe (rejectUnknowns_safe (safe_forEach (tickWork_safe _ (safe_mk hs ..)) fun m u => ?_))
      exact modMb_safe _ (safe_refl u) fun b hb => by unfold tickMailbox; rw [flushRing_arena]; exact hb

@[simp] theorem abortFrame_safe (c : CtxId) (h : Nat) (f : Frame) {s0 s : State} (hs : Safe s0 s) : Safe s0 (abortFrame c h f s) := by
  unfold abortFrame; split <;> simp (maxDischargeDepth := 40) [hs]

@[simp] theorem abortDevelopment_safe (h : Nat) {s0 s : State} (hs : Safe s0 s) : Safe s0 (abortDevelopment h s) := by
  unfold abortDevelopment; simp (maxDischargeDepth := 40) [hs]

@[simp] theorem openGuard_safe (h : Nat) (badPass : BitVec 4) {s0 s : State} (hs : Safe s0 s) : Safe s0 (openGuard h badPass s) := by
  unfold openGuard; simp (maxDischargeDepth := 40) [hs]

@[simp] theorem hingeGuardOpen_safe (badPass : BitVec 4) {s0 s : State} (hs : Safe s0 s) : Safe s0 (hingeGuardOpen badPass s) := by
  unfold hingeGuardOpen; split <;> simp (maxDischargeDepth := 40) [hs]

@[simp] theorem startCtx_safe (c : CtxId) {s0 s : State} (hs : Safe s0 s) : Safe s0 (startCtx c s) := by
  unfold startCtx; split <;> simp (maxDischargeDepth := 40) [hs]

@[simp] theorem stopCtx_safe (c : CtxId) (h : Nat) {s0 s : State} (hs : Safe s0 s) : Safe s0 (stopCtx c h s) := by
  unfold stopCtx; split <;> simp (maxDischargeDepth := 40) [hs]

@[simp] theorem newRing_safe (c : CtxId) (v : RecCfg) {s0 s : State} (hs : Safe s0 s) : Safe s0 (newRing c v s) := by
  unfold newRing; split <;> simp (maxDischargeDepth := 40) [hs]

@[simp] theorem goLive_safe (h : Nat) (x : Change) {s0 s : State} (hs : Safe s0 s) : Safe s0 (goLive h x s) := by
  unfold goLive; split <;> simp (maxDischargeDepth := 40) [hs]

@[simp] theorem checkBank_safe (c : CtxId) (h : Nat) {s0 s : State} (hs : Safe s0 s) : Safe s0 (checkBank c h s) := by
  unfold checkBank; simp (maxDischargeDepth := 40) [hs]

@[simp] theorem settleSlots_safe (before : State) (c : CtxId) {s0 s : State} (hs : Safe s0 s) : Safe s0 (settleSlots before c s) := by
  unfold settleSlots; dsimp only; (repeat' split) <;> simp (maxDischargeDepth := 40) [hs]

@[simp] theorem applyDue_safe (h : Nat) {s0 s : State} (hs : Safe s0 s) : Safe s0 (applyDue h s) := by
  unfold applyDue; simp (maxDischargeDepth := 40) [hs]

@[simp] theorem doorbellAct_safe (d : Doorbell) {s0 s : State} (hs : Safe s0 s) : Safe s0 (doorbellAct d s) := by
  unfold doorbellAct; split <;> simp (maxDischargeDepth := 40) [hs]

@[simp] theorem doorbell_safe (h : Nat) (d : Doorbell) {s0 s : State} (hs : Safe s0 s) : Safe s0 (doorbell h d s) := by
  unfold doorbell; simp (maxDischargeDepth := 40) [hs]

@[simp] theorem lostWords_safe  {s0 s : State} (hs : Safe s0 s) : Safe s0 (lostWords s) := by
  unfold lostWords; dsimp only; (repeat' split) <;> simp (maxDischargeDepth := 40) [hs]

@[simp] theorem doorbells_safe (h : Nat) {s0 s : State} (hs : Safe s0 s) : Safe s0 (doorbells h s) := by
  unfold doorbells; split <;> simp (maxDischargeDepth := 40) [hs]

@[simp] theorem tagRequests_safe (c : CtxId) (h : Nat) {s0 s : State} (hs : Safe s0 s) : Safe s0 (tagRequests c h s) := by
  unfold tagRequests; dsimp only; (repeat' split) <;> simp (maxDischargeDepth := 40) [hs]

@[simp] theorem take_safe (h : Nat) (c : CtxId) {s0 s : State} (hs : Safe s0 s) : Safe s0 (take h c s) := by
  unfold take; simp (maxDischargeDepth := 40) [hs]

@[simp] theorem startTap_safe (c : CtxId) (h : Nat) {s0 s : State} (hs : Safe s0 s) : Safe s0 (startTap c h s) := by
  unfold startTap; dsimp only; (repeat' split) <;> simp (maxDischargeDepth := 40) [hs]

@[simp] theorem startFrame_safe (c : CtxId) (f : Frame) {s0 s : State} (hs : Safe s0 s) : Safe s0 (startFrame c f s) := by
  unfold startFrame; simp (maxDischargeDepth := 40) [hs]

@[simp] theorem develops_safe (h : Nat) (c : CtxId) {s0 s : State} (hs : Safe s0 s) : Safe s0 (develops h c s) := by
  unfold develops; simp (maxDischargeDepth := 40) [hs]

@[simp] theorem resultLive_safe (c : CtxId) (r : PassResult) {s0 s : State} (hs : Safe s0 s) : Safe s0 (resultLive c r s) := by
  unfold resultLive; (try dsimp only); repeat' (first | (split; (try (rename_i heq; obtain rfl := fst_of_eq heq))) | (simp (maxDischargeDepth := 40) [hs]; done) | (with_reducible refine safe_forEach ?_ fun _ _ => ?_))

@[simp] theorem resultsLive_safe (h : Nat) (c : CtxId) {s0 s : State} (hs : Safe s0 s) : Safe s0 (resultsLive h c s) := by
  unfold resultsLive; dsimp only; (repeat' split) <;> simp (maxDischargeDepth := 40) [hs]

@[simp] theorem endStopping_safe (c : CtxId) {s0 s : State} (hs : Safe s0 s) : Safe s0 (endStopping c s) := by
  unfold endStopping; dsimp only; (repeat' split) <;> simp (maxDischargeDepth := 40) [hs]

@[simp] theorem portsHinge_safe  {s0 s : State} (hs : Safe s0 s) : Safe s0 (portsHinge s) := by
  unfold portsHinge; simp (maxDischargeDepth := 40) [hs]

@[simp] theorem countsHinge_safe (h : Nat) {s0 s : State} (hs : Safe s0 s) : Safe s0 (countsHinge h s) := by
  unfold countsHinge; simp (maxDischargeDepth := 40) [hs]

@[simp] theorem hingeStep3_safe  {s0 s : State} (hs : Safe s0 s) : Safe s0 (hingeStep3 s) := by
  unfold hingeStep3; simp (maxDischargeDepth := 40) [hs]

@[simp] theorem hingeStep5_safe  {s0 s : State} (hs : Safe s0 s) : Safe s0 (hingeStep5 s) := by
  unfold hingeStep5; simp (maxDischargeDepth := 40) [hs]

@[simp] theorem hinge_safe  {s0 s : State} (hs : Safe s0 s) : Safe s0 (hinge s) := by
  unfold hinge; split <;> simp (maxDischargeDepth := 40) [hs]

@[simp] theorem armHeld_safe (h : Nat) {s0 s : State} (hs : Safe s0 s) : Safe s0 (armHeld h s) := by
  unfold armHeld; simp (maxDischargeDepth := 40) [hs]

@[simp] theorem advanceTime_safe  {s0 s : State} (hs : Safe s0 s) : Safe s0 (advanceTime s) := by
  unfold advanceTime; split <;> simp (maxDischargeDepth := 40) [hs]

@[simp] theorem clock_safe  {s0 s : State} (hs : Safe s0 s) : Safe s0 (clock s) := by
  unfold clock; dsimp only; (repeat' split) <;> simp (maxDischargeDepth := 40) [hs]

end Sys2Proof.Machine
end

