-- ==== Sys2Proof/Laws/Commands.lean ====
section
/-!
SUPPORT. Commands: what the effect of each mailbox command, a mailbox command as a whole, a reset and a start keep.
-/
namespace Sys2Proof.Machine
/-- The state a command's effect leaves before its completion. -/
def Effect.after : Effect → State
  | .reply t _ => t
  | .arm t _ _ _ => t
  | .background t _ _ _ => t
  | .execute t _ => t

theorem slPortConfigSpec_keeps (e : Entry) (s : State) : Keeps s (slPortConfigSpec.effect e s).after := by
  unfold slPortConfigSpec; simp [Keeps, Effect.after]

theorem slPortConfigSpec_safe (e : Entry) (s : State) : Safe s (slPortConfigSpec.effect e s).after := by
  unfold slPortConfigSpec; simp (maxDischargeDepth := 40) [Effect.after]

theorem slPortStartSpec_keeps (e : Entry) (s : State) : Keeps s (slPortStartSpec.effect e s).after := by
  unfold slPortStartSpec; simp [Keeps, Effect.after]

theorem slPortStartSpec_safe (e : Entry) (s : State) : Safe s (slPortStartSpec.effect e s).after := by
  unfold slPortStartSpec; simp (maxDischargeDepth := 40) [Effect.after]

theorem slPortStopSpec_keeps (e : Entry) (s : State) : Keeps s (slPortStopSpec.effect e s).after := by
  unfold slPortStopSpec; dsimp only; (repeat' split) <;> simp [Keeps, Effect.after]

theorem slPortStopSpec_safe (e : Entry) (s : State) : Safe s (slPortStopSpec.effect e s).after := by
  unfold slPortStopSpec; dsimp only; (repeat' split) <;> simp (maxDischargeDepth := 40) [Effect.after]

theorem slGetStatusSpec_keeps (e : Entry) (s : State) : Keeps s (slGetStatusSpec.effect e s).after := by
  unfold slGetStatusSpec; dsimp only; (repeat' split) <;> simp [Keeps, Effect.after]

theorem slGetStatusSpec_safe (e : Entry) (s : State) : Safe s (slGetStatusSpec.effect e s).after := by
  unfold slGetStatusSpec; dsimp only; (repeat' split) <;> simp (maxDischargeDepth := 40) [Effect.after]

theorem slRegAccessSpec_keeps (e : Entry) (s : State) : Keeps s (slRegAccessSpec.effect e s).after := by
  unfold slRegAccessSpec; simp [Keeps, Effect.after]

theorem slRegAccessSpec_safe (e : Entry) (s : State) : Safe s (slRegAccessSpec.effect e s).after := by
  unfold slRegAccessSpec; simp (maxDischargeDepth := 40) [Effect.after]

theorem slLoopbackSpec_keeps (e : Entry) (s : State) : Keeps s (slLoopbackSpec.effect e s).after := by
  unfold slLoopbackSpec; simp [Keeps, Effect.after]

theorem slLoopbackSpec_safe (e : Entry) (s : State) : Safe s (slLoopbackSpec.effect e s).after := by
  unfold slLoopbackSpec; simp (maxDischargeDepth := 40) [Effect.after]

theorem timeGetStateSpec_keeps (e : Entry) (s : State) : Keeps s (timeGetStateSpec.effect e s).after := by
  unfold timeGetStateSpec; simp [Keeps, Effect.after]

theorem timeGetStateSpec_safe (e : Entry) (s : State) : Safe s (timeGetStateSpec.effect e s).after := by
  unfold timeGetStateSpec; simp (maxDischargeDepth := 40) [Effect.after]

theorem timeAdjustSpec_keeps (e : Entry) (s : State) : Keeps s (timeAdjustSpec.effect e s).after := by
  unfold timeAdjustSpec; dsimp only; (repeat' split) <;> simp [Keeps, Effect.after]

theorem timeAdjustSpec_safe (e : Entry) (s : State) : Safe s (timeAdjustSpec.effect e s).after := by
  unfold timeAdjustSpec; dsimp only; (repeat' split) <;> simp (maxDischargeDepth := 40) [Effect.after]

theorem timeSetPtpSpec_keeps (e : Entry) (s : State) : Keeps s (timeSetPtpSpec.effect e s).after := by
  unfold timeSetPtpSpec; simp [Keeps, Effect.after]

theorem timeSetPtpSpec_safe (e : Entry) (s : State) : Safe s (timeSetPtpSpec.effect e s).after := by
  unfold timeSetPtpSpec; simp (maxDischargeDepth := 40) [Effect.after]

theorem timeSetTriggerSpec_keeps (e : Entry) (s : State) : Keeps s (timeSetTriggerSpec.effect e s).after := by
  unfold timeSetTriggerSpec; simp [Keeps, Effect.after]

theorem timeSetTriggerSpec_safe (e : Entry) (s : State) : Safe s (timeSetTriggerSpec.effect e s).after := by
  unfold timeSetTriggerSpec; simp (maxDischargeDepth := 40) [Effect.after]

theorem statSetConfigSpec_keeps (e : Entry) (s : State) : Keeps s (statSetConfigSpec.effect e s).after := by
  unfold statSetConfigSpec; simp [Keeps, Effect.after]

theorem statSetConfigSpec_safe (e : Entry) (s : State) : Safe s (statSetConfigSpec.effect e s).after := by
  unfold statSetConfigSpec; simp (maxDischargeDepth := 40) [Effect.after]

theorem statSetTargetSpec_keeps (e : Entry) (s : State) : Keeps s (statSetTargetSpec.effect e s).after := by
  unfold statSetTargetSpec; simp [Keeps, Effect.after]

theorem statSetTargetSpec_safe (e : Entry) (s : State) : Safe s (statSetTargetSpec.effect e s).after := by
  unfold statSetTargetSpec; simp (maxDischargeDepth := 40) [Effect.after]

theorem statReadRecordSpec_keeps (e : Entry) (s : State) : Keeps s (statReadRecordSpec.effect e s).after := by
  unfold statReadRecordSpec; dsimp only; (repeat' split) <;> simp [Keeps, Effect.after]

theorem statReadRecordSpec_safe (e : Entry) (s : State) : Safe s (statReadRecordSpec.effect e s).after := by
  unfold statReadRecordSpec; dsimp only; (repeat' split) <;> simp (maxDischargeDepth := 40) [Effect.after]

theorem grdSetDevelopSpec_keeps (e : Entry) (s : State) : Keeps s (grdSetDevelopSpec.effect e s).after := by
  unfold grdSetDevelopSpec; simp [Keeps, Effect.after]

theorem grdSetDevelopSpec_safe (e : Entry) (s : State) : Safe s (grdSetDevelopSpec.effect e s).after := by
  unfold grdSetDevelopSpec; simp (maxDischargeDepth := 40) [Effect.after]

theorem grdSetNoiseSpec_keeps (e : Entry) (s : State) : Keeps s (grdSetNoiseSpec.effect e s).after := by
  unfold grdSetNoiseSpec; simp [Keeps, Effect.after]

theorem grdSetNoiseSpec_safe (e : Entry) (s : State) : Safe s (grdSetNoiseSpec.effect e s).after := by
  unfold grdSetNoiseSpec; simp (maxDischargeDepth := 40) [Effect.after]

theorem grdSetGradeSpec_keeps (e : Entry) (s : State) : Keeps s (grdSetGradeSpec.effect e s).after := by
  unfold grdSetGradeSpec; simp [Keeps, Effect.after]

theorem grdSetGradeSpec_safe (e : Entry) (s : State) : Safe s (grdSetGradeSpec.effect e s).after := by
  unfold grdSetGradeSpec; simp (maxDischargeDepth := 40) [Effect.after]

theorem grdLoadGradeTablesSpec_keeps (e : Entry) (s : State) : Keeps s (grdLoadGradeTablesSpec.effect e s).after := by
  unfold grdLoadGradeTablesSpec; simp [Keeps, Effect.after]

theorem grdLoadGradeTablesSpec_safe (e : Entry) (s : State) : Safe s (grdLoadGradeTablesSpec.effect e s).after := by
  unfold grdLoadGradeTablesSpec; simp (maxDischargeDepth := 40) [Effect.after]

theorem grdLoadScalerSpec_keeps (e : Entry) (s : State) : Keeps s (grdLoadScalerSpec.effect e s).after := by
  unfold grdLoadScalerSpec; simp [Keeps, Effect.after]

theorem grdLoadScalerSpec_safe (e : Entry) (s : State) : Safe s (grdLoadScalerSpec.effect e s).after := by
  unfold grdLoadScalerSpec; simp (maxDischargeDepth := 40) [Effect.after]

theorem grdLoadLutSpec_keeps (e : Entry) (s : State) : Keeps s (grdLoadLutSpec.effect e s).after := by
  unfold grdLoadLutSpec; simp [Keeps, Effect.after]

theorem grdLoadLutSpec_safe (e : Entry) (s : State) : Safe s (grdLoadLutSpec.effect e s).after := by
  unfold grdLoadLutSpec; simp (maxDischargeDepth := 40) [Effect.after]

theorem grdFreeLutSpec_keeps (e : Entry) (s : State) : Keeps s (grdFreeLutSpec.effect e s).after := by
  unfold grdFreeLutSpec; simp [Keeps, Effect.after]

theorem grdFreeLutSpec_safe (e : Entry) (s : State) : Safe s (grdFreeLutSpec.effect e s).after := by
  unfold grdFreeLutSpec; simp (maxDischargeDepth := 40) [Effect.after]

theorem grdGetStatusSpec_keeps (e : Entry) (s : State) : Keeps s (grdGetStatusSpec.effect e s).after := by
  unfold grdGetStatusSpec; simp [Keeps, Effect.after]

theorem grdGetStatusSpec_safe (e : Entry) (s : State) : Safe s (grdGetStatusSpec.effect e s).after := by
  unfold grdGetStatusSpec; simp (maxDischargeDepth := 40) [Effect.after]

theorem memSetModeSpec_keeps (e : Entry) (s : State) : Keeps s (memSetModeSpec.effect e s).after := by
  unfold memSetModeSpec; dsimp only; (repeat' split) <;> simp [Keeps, Effect.after]

theorem memSetModeSpec_safe (e : Entry) (s : State) : Safe s (memSetModeSpec.effect e s).after := by
  unfold memSetModeSpec; dsimp only; (repeat' split) <;> simp (maxDischargeDepth := 40) [Effect.after]

theorem memGetStatusSpec_keeps (e : Entry) (s : State) : Keeps s (memGetStatusSpec.effect e s).after := by
  unfold memGetStatusSpec; dsimp only; (repeat' split) <;> simp [Keeps, Effect.after]

theorem memGetStatusSpec_safe (e : Entry) (s : State) : Safe s (memGetStatusSpec.effect e s).after := by
  unfold memGetStatusSpec; dsimp only; (repeat' split) <;> simp (maxDischargeDepth := 40) [Effect.after]

theorem memReadLogSpec_keeps (e : Entry) (s : State) : Keeps s (memReadLogSpec.effect e s).after := by
  unfold memReadLogSpec; dsimp only; (repeat' split) <;> simp [Keeps, Effect.after]

theorem memReadLogSpec_safe (e : Entry) (s : State) : Safe s (memReadLogSpec.effect e s).after := by
  unfold memReadLogSpec; dsimp only; (repeat' split) <;> simp (maxDischargeDepth := 40) [Effect.after]

theorem memCalibrateSpec_keeps (e : Entry) (s : State) : Keeps s (memCalibrateSpec.effect e s).after := by
  unfold memCalibrateSpec; simp [Keeps, Effect.after]

theorem memCalibrateSpec_safe (e : Entry) (s : State) : Safe s (memCalibrateSpec.effect e s).after := by
  unfold memCalibrateSpec; simp (maxDischargeDepth := 40) [Effect.after]

theorem memRetrainSpec_keeps (e : Entry) (s : State) : Keeps s (memRetrainSpec.effect e s).after := by
  unfold memRetrainSpec; simp [Keeps, Effect.after]

theorem memRetrainSpec_safe (e : Entry) (s : State) : Safe s (memRetrainSpec.effect e s).after := by
  unfold memRetrainSpec; simp (maxDischargeDepth := 40) [Effect.after]

theorem memSetPolicySpec_keeps (e : Entry) (s : State) : Keeps s (memSetPolicySpec.effect e s).after := by
  unfold memSetPolicySpec; simp [Keeps, Effect.after]

theorem memSetPolicySpec_safe (e : Entry) (s : State) : Safe s (memSetPolicySpec.effect e s).after := by
  unfold memSetPolicySpec; simp (maxDischargeDepth := 40) [Effect.after]

theorem memRepairSpec_keeps (e : Entry) (s : State) : Keeps s (memRepairSpec.effect e s).after := by
  unfold memRepairSpec; simp [Keeps, Effect.after]

theorem memRepairSpec_safe (e : Entry) (s : State) : Safe s (memRepairSpec.effect e s).after := by
  unfold memRepairSpec; simp (maxDischargeDepth := 40) [Effect.after]

theorem recMediaSpec_keeps (e : Entry) (s : State) : Keeps s (recMediaSpec.effect e s).after := by
  unfold recMediaSpec; simp [Keeps, Effect.after]

theorem recMediaSpec_safe (e : Entry) (s : State) : Safe s (recMediaSpec.effect e s).after := by
  unfold recMediaSpec; simp (maxDischargeDepth := 40) [Effect.after]

theorem recSetTargetSpec_keeps (e : Entry) (s : State) : Keeps s (recSetTargetSpec.effect e s).after := by
  unfold recSetTargetSpec; simp [Keeps, Effect.after]

theorem recSetTargetSpec_safe (e : Entry) (s : State) : Safe s (recSetTargetSpec.effect e s).after := by
  unfold recSetTargetSpec; simp (maxDischargeDepth := 40) [Effect.after]

theorem recStartSpec_keeps (e : Entry) (s : State) : Keeps s (recStartSpec.effect e s).after := by
  unfold recStartSpec; simp [Keeps, Effect.after]

theorem recStartSpec_safe (e : Entry) (s : State) : Safe s (recStartSpec.effect e s).after := by
  unfold recStartSpec; simp (maxDischargeDepth := 40) [Effect.after]

theorem recStopSpec_keeps (e : Entry) (s : State) : Keeps s (recStopSpec.effect e s).after := by
  unfold recStopSpec; dsimp only; (repeat' split) <;> simp [Keeps, Effect.after]

theorem recStopSpec_safe (e : Entry) (s : State) : Safe s (recStopSpec.effect e s).after := by
  unfold recStopSpec; dsimp only; (repeat' split) <;> simp (maxDischargeDepth := 40) [Effect.after]

theorem recTriggerSpec_keeps (e : Entry) (s : State) : Keeps s (recTriggerSpec.effect e s).after := by
  unfold recTriggerSpec; simp [Keeps, Effect.after]

theorem recTriggerSpec_safe (e : Entry) (s : State) : Safe s (recTriggerSpec.effect e s).after := by
  unfold recTriggerSpec; simp (maxDischargeDepth := 40) [Effect.after]

theorem recReleaseSpec_keeps (e : Entry) (s : State) : Keeps s (recReleaseSpec.effect e s).after := by
  unfold recReleaseSpec; simp [Keeps, Effect.after]

theorem recReleaseSpec_safe (e : Entry) (s : State) : Safe s (recReleaseSpec.effect e s).after := by
  unfold recReleaseSpec; simp (maxDischargeDepth := 40) [Effect.after]

theorem recGetStatusSpec_keeps (e : Entry) (s : State) : Keeps s (recGetStatusSpec.effect e s).after := by
  unfold recGetStatusSpec; simp [Keeps, Effect.after]

theorem recGetStatusSpec_safe (e : Entry) (s : State) : Safe s (recGetStatusSpec.effect e s).after := by
  unfold recGetStatusSpec; simp (maxDischargeDepth := 40) [Effect.after]

theorem cmpSubmitSpec_keeps (e : Entry) (s : State) : Keeps s (cmpSubmitSpec.effect e s).after := by
  unfold cmpSubmitSpec; simp [Keeps, Effect.after]

theorem cmpSubmitSpec_safe (e : Entry) (s : State) : Safe s (cmpSubmitSpec.effect e s).after := by
  unfold cmpSubmitSpec; simp (maxDischargeDepth := 40) [Effect.after]

theorem cmpSetHostEnginesSpec_keeps (e : Entry) (s : State) : Keeps s (cmpSetHostEnginesSpec.effect e s).after := by
  unfold cmpSetHostEnginesSpec; dsimp only; (repeat' split) <;> simp [Keeps, Effect.after]

theorem cmpSetHostEnginesSpec_safe (e : Entry) (s : State) : Safe s (cmpSetHostEnginesSpec.effect e s).after := by
  unfold cmpSetHostEnginesSpec; dsimp only; (repeat' split) <;> simp (maxDischargeDepth := 40) [Effect.after]

theorem cmpCancelSpec_keeps (e : Entry) (s : State) : Keeps s (cmpCancelSpec.effect e s).after := by
  unfold cmpCancelSpec; simp [Keeps, Effect.after]

theorem cmpCancelSpec_safe (e : Entry) (s : State) : Safe s (cmpCancelSpec.effect e s).after := by
  unfold cmpCancelSpec; simp (maxDischargeDepth := 40) [Effect.after]

theorem cmpGetStatusSpec_keeps (e : Entry) (s : State) : Keeps s (cmpGetStatusSpec.effect e s).after := by
  unfold cmpGetStatusSpec; dsimp only; (repeat' split) <;> simp [Keeps, Effect.after]

theorem cmpGetStatusSpec_safe (e : Entry) (s : State) : Safe s (cmpGetStatusSpec.effect e s).after := by
  unfold cmpGetStatusSpec; dsimp only; (repeat' split) <;> simp (maxDischargeDepth := 40) [Effect.after]

theorem netPortConfigSpec_keeps (e : Entry) (s : State) : Keeps s (netPortConfigSpec.effect e s).after := by
  unfold netPortConfigSpec; dsimp only; (repeat' split) <;> simp [Keeps, Effect.after]

theorem netPortConfigSpec_safe (e : Entry) (s : State) : Safe s (netPortConfigSpec.effect e s).after := by
  unfold netPortConfigSpec; dsimp only; (repeat' split) <;> simp (maxDischargeDepth := 40) [Effect.after]

theorem netSetStreamSpec_keeps (e : Entry) (s : State) : Keeps s (netSetStreamSpec.effect e s).after := by
  unfold netSetStreamSpec; simp [Keeps, Effect.after]

theorem netSetStreamSpec_safe (e : Entry) (s : State) : Safe s (netSetStreamSpec.effect e s).after := by
  unfold netSetStreamSpec; simp (maxDischargeDepth := 40) [Effect.after]

theorem netGetStatusSpec_keeps (e : Entry) (s : State) : Keeps s (netGetStatusSpec.effect e s).after := by
  unfold netGetStatusSpec; dsimp only; (repeat' split) <;> simp [Keeps, Effect.after]

theorem netGetStatusSpec_safe (e : Entry) (s : State) : Safe s (netGetStatusSpec.effect e s).after := by
  unfold netGetStatusSpec; dsimp only; (repeat' split) <;> simp (maxDischargeDepth := 40) [Effect.after]

theorem outSetRasterSpec_keeps (e : Entry) (s : State) : Keeps s (outSetRasterSpec.effect e s).after := by
  unfold outSetRasterSpec; simp [Keeps, Effect.after]

theorem outSetRasterSpec_safe (e : Entry) (s : State) : Safe s (outSetRasterSpec.effect e s).after := by
  unfold outSetRasterSpec; simp (maxDischargeDepth := 40) [Effect.after]

theorem outBindSpec_keeps (e : Entry) (s : State) : Keeps s (outBindSpec.effect e s).after := by
  unfold outBindSpec; simp [Keeps, Effect.after]

theorem outBindSpec_safe (e : Entry) (s : State) : Safe s (outBindSpec.effect e s).after := by
  unfold outBindSpec; simp (maxDischargeDepth := 40) [Effect.after]

theorem outSetOverlaySpec_keeps (e : Entry) (s : State) : Keeps s (outSetOverlaySpec.effect e s).after := by
  unfold outSetOverlaySpec; simp [Keeps, Effect.after]

theorem outSetOverlaySpec_safe (e : Entry) (s : State) : Safe s (outSetOverlaySpec.effect e s).after := by
  unfold outSetOverlaySpec; simp (maxDischargeDepth := 40) [Effect.after]

theorem outSetAudioSpec_keeps (e : Entry) (s : State) : Keeps s (outSetAudioSpec.effect e s).after := by
  unfold outSetAudioSpec; simp [Keeps, Effect.after]

theorem outSetAudioSpec_safe (e : Entry) (s : State) : Safe s (outSetAudioSpec.effect e s).after := by
  unfold outSetAudioSpec; simp (maxDischargeDepth := 40) [Effect.after]

theorem outGetStatusSpec_keeps (e : Entry) (s : State) : Keeps s (outGetStatusSpec.effect e s).after := by
  unfold outGetStatusSpec; dsimp only; (repeat' split) <;> simp [Keeps, Effect.after]

theorem outGetStatusSpec_safe (e : Entry) (s : State) : Safe s (outGetStatusSpec.effect e s).after := by
  unfold outGetStatusSpec; dsimp only; (repeat' split) <;> simp (maxDischargeDepth := 40) [Effect.after]

theorem vcSetEncodeSpec_keeps (e : Entry) (s : State) : Keeps s (vcSetEncodeSpec.effect e s).after := by
  unfold vcSetEncodeSpec; simp [Keeps, Effect.after]

theorem vcSetEncodeSpec_safe (e : Entry) (s : State) : Safe s (vcSetEncodeSpec.effect e s).after := by
  unfold vcSetEncodeSpec; simp (maxDischargeDepth := 40) [Effect.after]

theorem vcKeyPictureSpec_keeps (e : Entry) (s : State) : Keeps s (vcKeyPictureSpec.effect e s).after := by
  unfold vcKeyPictureSpec; simp [Keeps, Effect.after]

theorem vcKeyPictureSpec_safe (e : Entry) (s : State) : Safe s (vcKeyPictureSpec.effect e s).after := by
  unfold vcKeyPictureSpec; simp (maxDischargeDepth := 40) [Effect.after]

theorem vcSetVectorExportSpec_keeps (e : Entry) (s : State) : Keeps s (vcSetVectorExportSpec.effect e s).after := by
  unfold vcSetVectorExportSpec; simp [Keeps, Effect.after]

theorem vcSetVectorExportSpec_safe (e : Entry) (s : State) : Safe s (vcSetVectorExportSpec.effect e s).after := by
  unfold vcSetVectorExportSpec; simp (maxDischargeDepth := 40) [Effect.after]

theorem vcDecodeOpenSpec_keeps (e : Entry) (s : State) : Keeps s (vcDecodeOpenSpec.effect e s).after := modVc_keeps (fun v => { v with sessions := v.sessions.set (argSession e) (some (sessionOf e s)) }) s

theorem vcDecodeOpenSpec_safe (e : Entry) (s : State) : Safe s (vcDecodeOpenSpec.effect e s).after := modVc_safe (fun v => { v with sessions := v.sessions.set (argSession e) (some (sessionOf e s)) }) (safe_refl s)

theorem vcDecodeSubmitSpec_keeps (e : Entry) (s : State) : Keeps s (vcDecodeSubmitSpec.effect e s).after := by
  unfold vcDecodeSubmitSpec; simp [Keeps, Effect.after]

theorem vcDecodeSubmitSpec_safe (e : Entry) (s : State) : Safe s (vcDecodeSubmitSpec.effect e s).after := by
  unfold vcDecodeSubmitSpec; simp (maxDischargeDepth := 40) [Effect.after]

theorem vcDecodeCloseSpec_keeps (e : Entry) (s : State) : Keeps s (vcDecodeCloseSpec.effect e s).after := by
  unfold vcDecodeCloseSpec; simp [Keeps, Effect.after]

theorem vcDecodeCloseSpec_safe (e : Entry) (s : State) : Safe s (vcDecodeCloseSpec.effect e s).after := by
  unfold vcDecodeCloseSpec; simp (maxDischargeDepth := 40) [Effect.after]

theorem vcGetStatusSpec_keeps (e : Entry) (s : State) : Keeps s (vcGetStatusSpec.effect e s).after := by
  unfold vcGetStatusSpec; dsimp only; (repeat' split) <;> simp [Keeps, Effect.after]

theorem vcGetStatusSpec_safe (e : Entry) (s : State) : Safe s (vcGetStatusSpec.effect e s).after := by
  unfold vcGetStatusSpec; dsimp only; (repeat' split) <;> simp (maxDischargeDepth := 40) [Effect.after]

theorem vcGetEncodeSpec_keeps (e : Entry) (s : State) : Keeps s (vcGetEncodeSpec.effect e s).after := by
  unfold vcGetEncodeSpec; simp [Keeps, Effect.after]

theorem vcGetEncodeSpec_safe (e : Entry) (s : State) : Safe s (vcGetEncodeSpec.effect e s).after := by
  unfold vcGetEncodeSpec; simp (maxDischargeDepth := 40) [Effect.after]

theorem stgSetScratchSpec_keeps (e : Entry) (s : State) : Keeps s (stgSetScratchSpec.effect e s).after := by
  unfold stgSetScratchSpec; simp [Keeps, Effect.after]

theorem stgSetScratchSpec_safe (e : Entry) (s : State) : Safe s (stgSetScratchSpec.effect e s).after := by
  unfold stgSetScratchSpec; simp (maxDischargeDepth := 40) [Effect.after]

theorem stgSetRatesSpec_keeps (e : Entry) (s : State) : Keeps s (stgSetRatesSpec.effect e s).after := by
  unfold stgSetRatesSpec; simp [Keeps, Effect.after]

theorem stgSetRatesSpec_safe (e : Entry) (s : State) : Safe s (stgSetRatesSpec.effect e s).after := by
  unfold stgSetRatesSpec; simp (maxDischargeDepth := 40) [Effect.after]

theorem stgGetStatusSpec_keeps (e : Entry) (s : State) : Keeps s (stgGetStatusSpec.effect e s).after := by
  unfold stgGetStatusSpec; dsimp only; (repeat' split) <;> simp [Keeps, Effect.after]

theorem stgGetStatusSpec_safe (e : Entry) (s : State) : Safe s (stgGetStatusSpec.effect e s).after := by
  unfold stgGetStatusSpec; dsimp only; (repeat' split) <;> simp (maxDischargeDepth := 40) [Effect.after]

theorem stgReadErrorLogSpec_keeps (e : Entry) (s : State) : Keeps s (stgReadErrorLogSpec.effect e s).after := by
  unfold stgReadErrorLogSpec; simp [Keeps, Effect.after]

theorem stgReadErrorLogSpec_safe (e : Entry) (s : State) : Safe s (stgReadErrorLogSpec.effect e s).after := by
  unfold stgReadErrorLogSpec; simp (maxDischargeDepth := 40) [Effect.after]

theorem rawBindPixelTableSpec_keeps (e : Entry) (s : State) : Keeps s (rawBindPixelTableSpec.effect e s).after := by
  unfold rawBindPixelTableSpec; simp [Keeps, Effect.after]

theorem rawBindPixelTableSpec_safe (e : Entry) (s : State) : Safe s (rawBindPixelTableSpec.effect e s).after := by
  unfold rawBindPixelTableSpec; simp (maxDischargeDepth := 40) [Effect.after]

theorem audSetClockSpec_keeps (e : Entry) (s : State) : Keeps s (audSetClockSpec.effect e s).after := by
  unfold audSetClockSpec; simp [Keeps, Effect.after]

theorem audSetClockSpec_safe (e : Entry) (s : State) : Safe s (audSetClockSpec.effect e s).after := by
  unfold audSetClockSpec; simp (maxDischargeDepth := 40) [Effect.after]

theorem audPortConfigSpec_keeps (e : Entry) (s : State) : Keeps s (audPortConfigSpec.effect e s).after := by
  unfold audPortConfigSpec; simp [Keeps, Effect.after]

theorem audPortConfigSpec_safe (e : Entry) (s : State) : Safe s (audPortConfigSpec.effect e s).after := by
  unfold audPortConfigSpec; simp (maxDischargeDepth := 40) [Effect.after]

theorem audSetMaskSpec_keeps (e : Entry) (s : State) : Keeps s (audSetMaskSpec.effect e s).after := by
  unfold audSetMaskSpec; simp [Keeps, Effect.after]

theorem audSetMaskSpec_safe (e : Entry) (s : State) : Safe s (audSetMaskSpec.effect e s).after := by
  unfold audSetMaskSpec; simp (maxDischargeDepth := 40) [Effect.after]

theorem audStartSpec_keeps (e : Entry) (s : State) : Keeps s (audStartSpec.effect e s).after := by
  unfold audStartSpec; dsimp only; (repeat' split) <;> simp [Keeps, Effect.after]

theorem audStartSpec_safe (e : Entry) (s : State) : Safe s (audStartSpec.effect e s).after := by
  unfold audStartSpec; dsimp only; (repeat' split) <;> simp (maxDischargeDepth := 40) [Effect.after]

theorem audStopSpec_keeps (e : Entry) (s : State) : Keeps s (audStopSpec.effect e s).after := by
  unfold audStopSpec; simp [Keeps, Effect.after]

theorem audStopSpec_safe (e : Entry) (s : State) : Safe s (audStopSpec.effect e s).after := by
  unfold audStopSpec; simp (maxDischargeDepth := 40) [Effect.after]

theorem audGetStatusSpec_keeps (e : Entry) (s : State) : Keeps s (audGetStatusSpec.effect e s).after := by
  unfold audGetStatusSpec; dsimp only; (repeat' split) <;> simp [Keeps, Effect.after]

theorem audGetStatusSpec_safe (e : Entry) (s : State) : Safe s (audGetStatusSpec.effect e s).after := by
  unfold audGetStatusSpec; dsimp only; (repeat' split) <;> simp (maxDischargeDepth := 40) [Effect.after]

theorem posConfigSpec_keeps (e : Entry) (s : State) : Keeps s (posConfigSpec.effect e s).after := by
  unfold posConfigSpec; simp [Keeps, Effect.after]

theorem posConfigSpec_safe (e : Entry) (s : State) : Safe s (posConfigSpec.effect e s).after := by
  unfold posConfigSpec; simp (maxDischargeDepth := 40) [Effect.after]

theorem posControlSpec_keeps (e : Entry) (s : State) : Keeps s (posControlSpec.effect e s).after := by
  unfold posControlSpec; simp [Keeps, Effect.after]

theorem posControlSpec_safe (e : Entry) (s : State) : Safe s (posControlSpec.effect e s).after := by
  unfold posControlSpec; simp (maxDischargeDepth := 40) [Effect.after]

theorem posSetCompareSpec_keeps (e : Entry) (s : State) : Keeps s (posSetCompareSpec.effect e s).after := by
  unfold posSetCompareSpec; simp [Keeps, Effect.after]

theorem posSetCompareSpec_safe (e : Entry) (s : State) : Safe s (posSetCompareSpec.effect e s).after := by
  unfold posSetCompareSpec; simp (maxDischargeDepth := 40) [Effect.after]

theorem posGetStatusSpec_keeps (e : Entry) (s : State) : Keeps s (posGetStatusSpec.effect e s).after := by
  unfold posGetStatusSpec; dsimp only; (repeat' split) <;> simp [Keeps, Effect.after]

theorem posGetStatusSpec_safe (e : Entry) (s : State) : Safe s (posGetStatusSpec.effect e s).after := by
  unfold posGetStatusSpec; dsimp only; (repeat' split) <;> simp (maxDischargeDepth := 40) [Effect.after]

theorem haspPortConfigSpec_keeps (e : Entry) (s : State) : Keeps s (haspPortConfigSpec.effect e s).after := by
  unfold haspPortConfigSpec; dsimp only; (repeat' split) <;> simp [Keeps, Effect.after]

theorem haspPortConfigSpec_safe (e : Entry) (s : State) : Safe s (haspPortConfigSpec.effect e s).after := by
  unfold haspPortConfigSpec; dsimp only; (repeat' split) <;> simp (maxDischargeDepth := 40) [Effect.after]

theorem haspGetStatusSpec_keeps (e : Entry) (s : State) : Keeps s (haspGetStatusSpec.effect e s).after := by
  unfold haspGetStatusSpec; dsimp only; (repeat' split) <;> simp [Keeps, Effect.after]

theorem haspGetStatusSpec_safe (e : Entry) (s : State) : Safe s (haspGetStatusSpec.effect e s).after := by
  unfold haspGetStatusSpec; dsimp only; (repeat' split) <;> simp (maxDischargeDepth := 40) [Effect.after]

theorem haspForwardSpec_keeps (e : Entry) (s : State) : Keeps s (haspForwardSpec.effect e s).after := by
  unfold haspForwardSpec; simp [Keeps, Effect.after]

theorem haspForwardSpec_safe (e : Entry) (s : State) : Safe s (haspForwardSpec.effect e s).after := by
  unfold haspForwardSpec; simp (maxDischargeDepth := 40) [Effect.after]

theorem haspArmSpec_keeps (e : Entry) (s : State) : Keeps s (haspArmSpec.effect e s).after := by
  unfold haspArmSpec; simp [Keeps, Effect.after]

theorem haspArmSpec_safe (e : Entry) (s : State) : Safe s (haspArmSpec.effect e s).after := by
  unfold haspArmSpec; simp (maxDischargeDepth := 40) [Effect.after]

theorem haspSetSplitSpec_keeps (e : Entry) (s : State) : Keeps s (haspSetSplitSpec.effect e s).after := by
  unfold haspSetSplitSpec; simp [Keeps, Effect.after]

theorem haspSetSplitSpec_safe (e : Entry) (s : State) : Safe s (haspSetSplitSpec.effect e s).after := by
  unfold haspSetSplitSpec; simp (maxDischargeDepth := 40) [Effect.after]

theorem haspReadEventsSpec_keeps (e : Entry) (s : State) : Keeps s (haspReadEventsSpec.effect e s).after := by
  unfold haspReadEventsSpec; simp [Keeps, Effect.after]

theorem haspReadEventsSpec_safe (e : Entry) (s : State) : Safe s (haspReadEventsSpec.effect e s).after := by
  unfold haspReadEventsSpec; simp (maxDischargeDepth := 40) [Effect.after]

theorem sysTwbConfigSpec_keeps (e : Entry) (s : State) : Keeps s (sysTwbConfigSpec.effect e s).after := by
  unfold sysTwbConfigSpec; simp [Keeps, Effect.after]

theorem sysTwbConfigSpec_safe (e : Entry) (s : State) : Safe s (sysTwbConfigSpec.effect e s).after := by
  unfold sysTwbConfigSpec; simp (maxDischargeDepth := 40) [Effect.after]

theorem sysBlockResetSpec_keeps (e : Entry) (s : State) : Keeps s (sysBlockResetSpec.effect e s).after := by
  unfold sysBlockResetSpec; dsimp only; (repeat' split) <;> simp [Keeps, Effect.after]

theorem sysBlockResetSpec_safe (e : Entry) (s : State) : Safe s (sysBlockResetSpec.effect e s).after := by
  unfold sysBlockResetSpec; dsimp only; (repeat' split) <;> simp (maxDischargeDepth := 40) [Effect.after]

theorem sysNopSpec_keeps (e : Entry) (s : State) : Keeps s (sysNopSpec.effect e s).after := by
  unfold sysNopSpec; simp [Keeps, Effect.after]

theorem sysNopSpec_safe (e : Entry) (s : State) : Safe s (sysNopSpec.effect e s).after := by
  unfold sysNopSpec; simp (maxDischargeDepth := 40) [Effect.after]

theorem sysIdentifySpec_keeps (e : Entry) (s : State) : Keeps s (sysIdentifySpec.effect e s).after := by
  unfold sysIdentifySpec; simp [Keeps, Effect.after]

theorem sysIdentifySpec_safe (e : Entry) (s : State) : Safe s (sysIdentifySpec.effect e s).after := by
  unfold sysIdentifySpec; simp (maxDischargeDepth := 40) [Effect.after]

theorem sysEventMaskSpec_keeps (e : Entry) (s : State) : Keeps s (sysEventMaskSpec.effect e s).after := by
  unfold sysEventMaskSpec; simp [Keeps, Effect.after]

theorem sysEventMaskSpec_safe (e : Entry) (s : State) : Safe s (sysEventMaskSpec.effect e s).after := by
  unfold sysEventMaskSpec; simp (maxDischargeDepth := 40) [Effect.after]

theorem fltSetSeveritySpec_keeps (e : Entry) (s : State) : Keeps s (fltSetSeveritySpec.effect e s).after := by
  unfold fltSetSeveritySpec; simp [Keeps, Effect.after]

theorem fltSetSeveritySpec_safe (e : Entry) (s : State) : Safe s (fltSetSeveritySpec.effect e s).after := by
  unfold fltSetSeveritySpec; simp (maxDischargeDepth := 40) [Effect.after]

theorem fltGetStatusSpec_keeps (e : Entry) (s : State) : Keeps s (fltGetStatusSpec.effect e s).after := by
  unfold fltGetStatusSpec; simp [Keeps, Effect.after]

theorem fltGetStatusSpec_safe (e : Entry) (s : State) : Safe s (fltGetStatusSpec.effect e s).after := by
  unfold fltGetStatusSpec; simp (maxDischargeDepth := 40) [Effect.after]

theorem fltClearSpec_keeps (e : Entry) (s : State) : Keeps s (fltClearSpec.effect e s).after := by
  unfold fltClearSpec; simp [Keeps, Effect.after]

theorem fltClearSpec_safe (e : Entry) (s : State) : Safe s (fltClearSpec.effect e s).after := by
  unfold fltClearSpec; simp (maxDischargeDepth := 40) [Effect.after]

theorem fltSetPinSpec_keeps (e : Entry) (s : State) : Keeps s (fltSetPinSpec.effect e s).after := by
  unfold fltSetPinSpec; simp [Keeps, Effect.after]

theorem fltSetPinSpec_safe (e : Entry) (s : State) : Safe s (fltSetPinSpec.effect e s).after := by
  unfold fltSetPinSpec; simp (maxDischargeDepth := 40) [Effect.after]

theorem fltReadHistorySpec_keeps (e : Entry) (s : State) : Keeps s (fltReadHistorySpec.effect e s).after := by
  unfold fltReadHistorySpec; simp [Keeps, Effect.after]

theorem fltReadHistorySpec_safe (e : Entry) (s : State) : Safe s (fltReadHistorySpec.effect e s).after := by
  unfold fltReadHistorySpec; simp (maxDischargeDepth := 40) [Effect.after]

theorem fltReintegrateSpec_keeps (e : Entry) (s : State) : Keeps s (fltReintegrateSpec.effect e s).after := by
  unfold fltReintegrateSpec; simp [Keeps, Effect.after]

theorem fltReintegrateSpec_safe (e : Entry) (s : State) : Safe s (fltReintegrateSpec.effect e s).after := by
  unfold fltReintegrateSpec; simp (maxDischargeDepth := 40) [Effect.after]

theorem fltInjectSpec_keeps (e : Entry) (s : State) : Keeps s (fltInjectSpec.effect e s).after := by
  unfold fltInjectSpec; simp [Keeps, Effect.after]

theorem fltInjectSpec_safe (e : Entry) (s : State) : Safe s (fltInjectSpec.effect e s).after := by
  unfold fltInjectSpec; simp (maxDischargeDepth := 40) [Effect.after]

theorem ctxSetSourceSpec_keeps (e : Entry) (s : State) : Keeps s (ctxSetSourceSpec.effect e s).after := by
  unfold ctxSetSourceSpec; dsimp only; (repeat' split) <;> simp [Keeps, Effect.after]

theorem ctxSetSourceSpec_safe (e : Entry) (s : State) : Safe s (ctxSetSourceSpec.effect e s).after := by
  unfold ctxSetSourceSpec; dsimp only; (repeat' split) <;> simp (maxDischargeDepth := 40) [Effect.after]

theorem ctxSetPlacementSpec_keeps (e : Entry) (s : State) : Keeps s (ctxSetPlacementSpec.effect e s).after := by
  unfold ctxSetPlacementSpec; simp [Keeps, Effect.after]

theorem ctxSetPlacementSpec_safe (e : Entry) (s : State) : Safe s (ctxSetPlacementSpec.effect e s).after := by
  unfold ctxSetPlacementSpec; simp (maxDischargeDepth := 40) [Effect.after]

theorem ctxLandingConfigSpec_keeps (e : Entry) (s : State) : Keeps s (ctxLandingConfigSpec.effect e s).after := by
  unfold ctxLandingConfigSpec; simp [Keeps, Effect.after]

theorem ctxLandingConfigSpec_safe (e : Entry) (s : State) : Safe s (ctxLandingConfigSpec.effect e s).after := by
  unfold ctxLandingConfigSpec; simp (maxDischargeDepth := 40) [Effect.after]

theorem ctxStartSpec_keeps (e : Entry) (s : State) : Keeps s (ctxStartSpec.effect e s).after := by
  unfold ctxStartSpec; simp [Keeps, Effect.after]

theorem ctxStartSpec_safe (e : Entry) (s : State) : Safe s (ctxStartSpec.effect e s).after := by
  unfold ctxStartSpec; simp (maxDischargeDepth := 40) [Effect.after]

theorem ctxStopSpec_keeps (e : Entry) (s : State) : Keeps s (ctxStopSpec.effect e s).after := by
  unfold ctxStopSpec; simp [Keeps, Effect.after]

theorem ctxStopSpec_safe (e : Entry) (s : State) : Safe s (ctxStopSpec.effect e s).after := by
  unfold ctxStopSpec; simp (maxDischargeDepth := 40) [Effect.after]

theorem ctxTestPatternSpec_keeps (e : Entry) (s : State) : Keeps s (ctxTestPatternSpec.effect e s).after := by
  unfold ctxTestPatternSpec; simp [Keeps, Effect.after]

theorem ctxTestPatternSpec_safe (e : Entry) (s : State) : Safe s (ctxTestPatternSpec.effect e s).after := by
  unfold ctxTestPatternSpec; simp (maxDischargeDepth := 40) [Effect.after]

theorem ctxGetStatusSpec_keeps (e : Entry) (s : State) : Keeps s (ctxGetStatusSpec.effect e s).after := by
  unfold ctxGetStatusSpec; dsimp only; (repeat' split) <;> simp [Keeps, Effect.after]

theorem ctxGetStatusSpec_safe (e : Entry) (s : State) : Safe s (ctxGetStatusSpec.effect e s).after := by
  unfold ctxGetStatusSpec; dsimp only; (repeat' split) <;> simp (maxDischargeDepth := 40) [Effect.after]

theorem pwrSetDomainSpec_keeps (e : Entry) (s : State) : Keeps s (pwrSetDomainSpec.effect e s).after := by
  unfold pwrSetDomainSpec; simp [Keeps, Effect.after]

theorem pwrSetDomainSpec_safe (e : Entry) (s : State) : Safe s (pwrSetDomainSpec.effect e s).after := by
  unfold pwrSetDomainSpec; simp (maxDischargeDepth := 40) [Effect.after]

theorem pwrSetClockSpec_keeps (e : Entry) (s : State) : Keeps s (pwrSetClockSpec.effect e s).after := by
  unfold pwrSetClockSpec; simp [Keeps, Effect.after]

theorem pwrSetClockSpec_safe (e : Entry) (s : State) : Safe s (pwrSetClockSpec.effect e s).after := by
  unfold pwrSetClockSpec; simp (maxDischargeDepth := 40) [Effect.after]

theorem pwrSetCeilingSpec_keeps (e : Entry) (s : State) : Keeps s (pwrSetCeilingSpec.effect e s).after := by
  unfold pwrSetCeilingSpec; simp [Keeps, Effect.after]

theorem pwrSetCeilingSpec_safe (e : Entry) (s : State) : Safe s (pwrSetCeilingSpec.effect e s).after := by
  unfold pwrSetCeilingSpec; simp (maxDischargeDepth := 40) [Effect.after]

theorem pwrGetStatusSpec_keeps (e : Entry) (s : State) : Keeps s (pwrGetStatusSpec.effect e s).after := by
  unfold pwrGetStatusSpec; simp [Keeps, Effect.after]

theorem pwrGetStatusSpec_safe (e : Entry) (s : State) : Safe s (pwrGetStatusSpec.effect e s).after := by
  unfold pwrGetStatusSpec; simp (maxDischargeDepth := 40) [Effect.after]

theorem thmSetThresholdsSpec_keeps (e : Entry) (s : State) : Keeps s (thmSetThresholdsSpec.effect e s).after := by
  unfold thmSetThresholdsSpec; simp [Keeps, Effect.after]

theorem thmSetThresholdsSpec_safe (e : Entry) (s : State) : Safe s (thmSetThresholdsSpec.effect e s).after := by
  unfold thmSetThresholdsSpec; simp (maxDischargeDepth := 40) [Effect.after]

theorem thmGetStatusSpec_keeps (e : Entry) (s : State) : Keeps s (thmGetStatusSpec.effect e s).after := by
  unfold thmGetStatusSpec; dsimp only; (repeat' split) <;> simp [Keeps, Effect.after]

theorem thmGetStatusSpec_safe (e : Entry) (s : State) : Safe s (thmGetStatusSpec.effect e s).after := by
  unfold thmGetStatusSpec; dsimp only; (repeat' split) <;> simp (maxDischargeDepth := 40) [Effect.after]

theorem secGetCertificateSpec_keeps (e : Entry) (s : State) : Keeps s (secGetCertificateSpec.effect e s).after := by
  unfold secGetCertificateSpec; simp [Keeps, Effect.after]

theorem secGetCertificateSpec_safe (e : Entry) (s : State) : Safe s (secGetCertificateSpec.effect e s).after := by
  unfold secGetCertificateSpec; simp (maxDischargeDepth := 40) [Effect.after]

theorem secAttestSpec_keeps (e : Entry) (s : State) : Keeps s (secAttestSpec.effect e s).after := by
  unfold secAttestSpec; simp [Keeps, Effect.after]

theorem secAttestSpec_safe (e : Entry) (s : State) : Safe s (secAttestSpec.effect e s).after := by
  unfold secAttestSpec; simp (maxDischargeDepth := 40) [Effect.after]

theorem secImageWriteSpec_keeps (e : Entry) (s : State) : Keeps s (secImageWriteSpec.effect e s).after := by
  unfold secImageWriteSpec; simp [Keeps, Effect.after]

theorem secImageWriteSpec_safe (e : Entry) (s : State) : Safe s (secImageWriteSpec.effect e s).after := by
  unfold secImageWriteSpec; simp (maxDischargeDepth := 40) [Effect.after]

theorem secSetPreferredSpec_keeps (e : Entry) (s : State) : Keeps s (secSetPreferredSpec.effect e s).after := by
  unfold secSetPreferredSpec; simp [Keeps, Effect.after]

theorem secSetPreferredSpec_safe (e : Entry) (s : State) : Safe s (secSetPreferredSpec.effect e s).after := by
  unfold secSetPreferredSpec; simp (maxDischargeDepth := 40) [Effect.after]

theorem secRollbackAdvanceSpec_keeps (e : Entry) (s : State) : Keeps s (secRollbackAdvanceSpec.effect e s).after := by
  unfold secRollbackAdvanceSpec; simp [Keeps, Effect.after]

theorem secRollbackAdvanceSpec_safe (e : Entry) (s : State) : Safe s (secRollbackAdvanceSpec.effect e s).after := by
  unfold secRollbackAdvanceSpec; simp (maxDischargeDepth := 40) [Effect.after]

theorem secGetStatusSpec_keeps (e : Entry) (s : State) : Keeps s (secGetStatusSpec.effect e s).after := by
  unfold secGetStatusSpec; simp [Keeps, Effect.after]

theorem secGetStatusSpec_safe (e : Entry) (s : State) : Safe s (secGetStatusSpec.effect e s).after := by
  unfold secGetStatusSpec; simp (maxDischargeDepth := 40) [Effect.after]

theorem sysResetSpec_keeps (e : Entry) (s : State) : Keeps s (sysResetSpec.effect e s).after := by
  unfold sysResetSpec; simp [Keeps, Effect.after]

theorem sysResetSpec_safe (e : Entry) (s : State) : Safe s (sysResetSpec.effect e s).after := by
  unfold sysResetSpec; simp (maxDischargeDepth := 40) [Effect.after]

theorem sysRecoveryStatusSpec_keeps (e : Entry) (s : State) : Keeps s (sysRecoveryStatusSpec.effect e s).after := by
  unfold sysRecoveryStatusSpec; simp [Keeps, Effect.after]

theorem sysRecoveryStatusSpec_safe (e : Entry) (s : State) : Safe s (sysRecoveryStatusSpec.effect e s).after := by
  unfold sysRecoveryStatusSpec; simp (maxDischargeDepth := 40) [Effect.after]

theorem sysFlashSpec_keeps (e : Entry) (s : State) : Keeps s (sysFlashSpec.effect e s).after := by
  unfold sysFlashSpec; simp [Keeps, Effect.after]

theorem sysFlashSpec_safe (e : Entry) (s : State) : Safe s (sysFlashSpec.effect e s).after := by
  unfold sysFlashSpec; simp (maxDischargeDepth := 40) [Effect.after]

theorem sysBootImageSpec_keeps (e : Entry) (s : State) : Keeps s (sysBootImageSpec.effect e s).after := by
  unfold sysBootImageSpec; simp [Keeps, Effect.after]

theorem rawSetCfaSpec_keeps (e : Entry) (s : State) : Keeps s (rawSetCfaSpec.effect e s).after := by
  unfold rawSetCfaSpec; simp [Keeps, Effect.after]

theorem rawSetCfaSpec_safe (e : Entry) (s : State) : Safe s (rawSetCfaSpec.effect e s).after := by
  unfold rawSetCfaSpec; simp (maxDischargeDepth := 40) [Effect.after]

theorem rawLoadLinearisationSpec_keeps (e : Entry) (s : State) : Keeps s (rawLoadLinearisationSpec.effect e s).after := by
  unfold rawLoadLinearisationSpec; simp [Keeps, Effect.after]

theorem rawLoadLinearisationSpec_safe (e : Entry) (s : State) : Safe s (rawLoadLinearisationSpec.effect e s).after := by
  unfold rawLoadLinearisationSpec; simp (maxDischargeDepth := 40) [Effect.after]

theorem rawSetBlackSpec_keeps (e : Entry) (s : State) : Keeps s (rawSetBlackSpec.effect e s).after := by
  unfold rawSetBlackSpec; simp [Keeps, Effect.after]

theorem rawSetBlackSpec_safe (e : Entry) (s : State) : Safe s (rawSetBlackSpec.effect e s).after := by
  unfold rawSetBlackSpec; simp (maxDischargeDepth := 40) [Effect.after]

theorem rawLoadColumnSpec_keeps (e : Entry) (s : State) : Keeps s (rawLoadColumnSpec.effect e s).after := by
  unfold rawLoadColumnSpec; dsimp only; (repeat' split) <;> simp [Keeps, Effect.after]

theorem rawLoadColumnSpec_safe (e : Entry) (s : State) : Safe s (rawLoadColumnSpec.effect e s).after := by
  unfold rawLoadColumnSpec; dsimp only; (repeat' split) <;> simp (maxDischargeDepth := 40) [Effect.after]

theorem rawLoadDefectsSpec_keeps (e : Entry) (s : State) : Keeps s (rawLoadDefectsSpec.effect e s).after := by
  unfold rawLoadDefectsSpec; dsimp only; (repeat' split) <;> simp [Keeps, Effect.after]

theorem rawLoadDefectsSpec_safe (e : Entry) (s : State) : Safe s (rawLoadDefectsSpec.effect e s).after := by
  unfold rawLoadDefectsSpec; dsimp only; (repeat' split) <;> simp (maxDischargeDepth := 40) [Effect.after]

theorem rawSetShadingSpec_keeps (e : Entry) (s : State) : Keeps s (rawSetShadingSpec.effect e s).after := by
  unfold rawSetShadingSpec; dsimp only; (repeat' split) <;> simp [Keeps, Effect.after]

theorem rawSetShadingSpec_safe (e : Entry) (s : State) : Safe s (rawSetShadingSpec.effect e s).after := by
  unfold rawSetShadingSpec; dsimp only; (repeat' split) <;> simp (maxDischargeDepth := 40) [Effect.after]

theorem rawSetMergeSpec_keeps (e : Entry) (s : State) : Keeps s (rawSetMergeSpec.effect e s).after := by
  unfold rawSetMergeSpec; simp [Keeps, Effect.after]

theorem rawSetMergeSpec_safe (e : Entry) (s : State) : Safe s (rawSetMergeSpec.effect e s).after := by
  unfold rawSetMergeSpec; simp (maxDischargeDepth := 40) [Effect.after]

theorem rawSetTapsSpec_keeps (e : Entry) (s : State) : Keeps s (rawSetTapsSpec.effect e s).after := by
  unfold rawSetTapsSpec; simp [Keeps, Effect.after]

theorem rawSetTapsSpec_safe (e : Entry) (s : State) : Safe s (rawSetTapsSpec.effect e s).after := by
  unfold rawSetTapsSpec; simp (maxDischargeDepth := 40) [Effect.after]

theorem rawGetStatusSpec_keeps (e : Entry) (s : State) : Keeps s (rawGetStatusSpec.effect e s).after := by
  unfold rawGetStatusSpec; simp [Keeps, Effect.after]

theorem rawGetStatusSpec_safe (e : Entry) (s : State) : Safe s (rawGetStatusSpec.effect e s).after := by
  unfold rawGetStatusSpec; simp (maxDischargeDepth := 40) [Effect.after]

theorem tickSetSourceSpec_keeps (e : Entry) (s : State) : Keeps s (tickSetSourceSpec.effect e s).after := by
  unfold tickSetSourceSpec; simp [Keeps, Effect.after]

theorem tickSetSourceSpec_safe (e : Entry) (s : State) : Safe s (tickSetSourceSpec.effect e s).after := by
  unfold tickSetSourceSpec; simp (maxDischargeDepth := 40) [Effect.after]

theorem tickRateConfirmSpec_keeps (e : Entry) (s : State) : Keeps s (tickRateConfirmSpec.effect e s).after := by
  unfold tickRateConfirmSpec; simp [Keeps, Effect.after]

theorem tickRateConfirmSpec_safe (e : Entry) (s : State) : Safe s (tickRateConfirmSpec.effect e s).after := by
  unfold tickRateConfirmSpec; simp (maxDischargeDepth := 40) [Effect.after]

theorem tickGetStateSpec_keeps (e : Entry) (s : State) : Keeps s (tickGetStateSpec.effect e s).after := by
  unfold tickGetStateSpec; simp [Keeps, Effect.after]

theorem tickGetStateSpec_safe (e : Entry) (s : State) : Safe s (tickGetStateSpec.effect e s).after := by
  unfold tickGetStateSpec; simp (maxDischargeDepth := 40) [Effect.after]

theorem tickBudgetQuerySpec_keeps (e : Entry) (s : State) : Keeps s (tickBudgetQuerySpec.effect e s).after := by
  unfold tickBudgetQuerySpec; simp [Keeps, Effect.after]

theorem tickBudgetQuerySpec_safe (e : Entry) (s : State) : Safe s (tickBudgetQuerySpec.effect e s).after := by
  unfold tickBudgetQuerySpec; simp (maxDischargeDepth := 40) [Effect.after]

theorem tickArmSpec_keeps (e : Entry) (s : State) : Keeps s (tickArmSpec.effect e s).after := by
  unfold tickArmSpec; simp [Keeps, Effect.after]

theorem tickArmSpec_safe (e : Entry) (s : State) : Safe s (tickArmSpec.effect e s).after := by
  unfold tickArmSpec; simp (maxDischargeDepth := 40) [Effect.after]

theorem tickDiscardSpec_keeps (e : Entry) (s : State) : Keeps s (tickDiscardSpec.effect e s).after := by
  unfold tickDiscardSpec; simp [Keeps, Effect.after]

theorem tickDiscardSpec_safe (e : Entry) (s : State) : Safe s (tickDiscardSpec.effect e s).after := by
  unfold tickDiscardSpec; simp (maxDischargeDepth := 40) [Effect.after]

theorem safe_canon {s t : State} (h : Safe s t) (hs : Canonical s) : Canonical t := h.2 hs

/-! ## A mailbox command as a whole -/

theorem perform_keeps {sp : Spec} (h : ∀ e s, Keeps s (sp.effect e s).after) (e : Entry) (slot : BitVec 6) (s : State) :
    Keeps s (perform sp e slot s) := by
  have := h e s
  unfold perform
  split <;> rename_i heq <;> rw [heq] at this <;> simp only [Effect.after] at this <;>
    exact keeps_trans this (by simp [Keeps])

theorem runCommand_keeps {sp : Spec} (h : ∀ e s, Keeps s (sp.effect e s).after) (e : Entry) (s : State) :
    Keeps s (runCommand sp e s) := by
  unfold runCommand command
  split
  · dsimp only
    split
    · split <;> simp [Keeps]
    · exact keeps_trans (takeCommand_keeps ..) (perform_keeps h ..)
  · simp [Keeps]

theorem perform_safe {sp : Spec} {e : Entry} {s : State} (h : Safe s (sp.effect e s).after) (slot : BitVec 6) :
    Safe s (perform sp e slot s) := by
  unfold perform
  split <;> rename_i heq <;> rw [heq] at h <;> simp only [Effect.after] at h <;>
    simp (maxDischargeDepth := 40) [h]

theorem runCommand_safe {sp : Spec} {e : Entry} {s : State}
    (h : validate sp e (takeCommand e.mb s) = none → Safe (takeCommand e.mb s) (sp.effect e (takeCommand e.mb s)).after) :
    Safe s (runCommand sp e s) := by
  unfold runCommand command
  split
  · dsimp only
    split
    · split <;> simp (maxDischargeDepth := 40)
    · rename_i hv
      exact safe_trans (takeCommand_safe _ (safe_refl s)) (perform_safe (h hv) _)
  · exact safe_refl s

/-! ## Reset and start -/

theorem setDevState_canon (n : Nat) {s : State} (h : Canonical s) : Canonical (setDevState n s) := by
  unfold setDevState
  split
  · exact h
  · exact (raiseVector_safe 0 (s := { s with devState := n }) (safe_refl _)).2 h

theorem cleared_canon (aon : Bool) {s : State} (h : Canonical s) : Canonical (cleared aon s) := by
  obtain ⟨_, h2, _, h4, _⟩ := h
  refine ⟨rfl, h2, rfl, h4, fun m => ?_⟩
  show Memory.wf (((Vector.replicate 8 ({} : Mailbox)).set 0 { mask := 0x000FFFFE#32 })[m]).arena = true
  revert m; decide

theorem resetAssert_canon (x : ResetSource) {s : State} (h : Canonical s) : Canonical (resetAssert x s) := by
  unfold resetAssert
  split
  · exact h
  · split
    · exact h
    · exact (modBoot_safe _ (safe_refl _)).2 (cleared_canon _ h)

theorem rstNCheck_canon (a b c : Bool) {s : State} (h : Canonical s) : Canonical (rstNCheck a b c s) := by
  unfold rstNCheck
  split
  · exact h
  · split
    · exact (modBoot_safe _ (safe_refl _)).2 h
    · exact resetAssert_canon _ h

theorem startWatchdogExpiry_canon {s : State} (h : Canonical s) : Canonical (startWatchdogExpiry s) := by
  unfold startWatchdogExpiry
  split
  · exact h
  · exact resetAssert_canon _ ((modRetention_safe _ (safe_refl _)).2 h)

theorem commandResetAssert_canon {s : State} (h : Canonical s) : Canonical (commandResetAssert s) := by
  unfold commandResetAssert
  split
  · exact resetAssert_canon _ h
  · exact h

theorem enterRecovery_canon (r : Nat) {s : State} (h : Canonical s) : Canonical (enterRecovery r s) := by
  unfold enterRecovery
  refine setDevState_canon 3 (safe_canon (s := s) ?_ h)
  refine modRetention_safe _ (modBoot_safe _ (modMb_safe _ (domainsOn_safe _ (safe_refl s)) fun b hb => hb))

theorem mgmtRelease_canon {s : State} (h : Canonical s) : Canonical (mgmtRelease s) := by
  unfold mgmtRelease
  split
  · exact h
  · have hd : ∀ l, Canonical (domainsOn l s) := fun l => (domainsOn_safe l (safe_refl s)).2 h
    dsimp only
    split
    · exact enterRecovery_canon _ (hd _)
    · exact (modBoot_safe _ (completeBurn_safe (safe_refl _))).2 (hd _)

theorem startKongaord_canon (n : Nat) (f : FirmwareInfo) {s : State} (h : Canonical s) : Canonical (startKongaord n f s) := by
  unfold startKongaord
  refine safe_canon (reportRetry_safe (safe_refl _)) (setDevState_canon _ (safe_canon (s := s) ?_ h))
  simp (maxDischargeDepth := 40)

theorem imageVerifyDone_canon (a b : SlotResult) (f : FirmwareInfo) {s : State} (h : Canonical s) :
    Canonical (imageVerifyDone a b f s) := by
  unfold imageVerifyDone
  split
  · exact h
  · split
    · split
      · exact (restartKongaord_safe _ _ (safe_refl s)).2 h
      · exact h
    · split
      · split
        · exact startKongaord_canon _ _ h
        · exact h
      · split
        · exact h
        · dsimp only
          have hm := (modBoot_safe (fun x => { x with
            slotA := (triedSlots s.sec.preferred a b).1, slotB := (triedSlots s.sec.preferred a b).2 }) (safe_refl s)).2 h
          split
          · exact enterRecovery_canon _ hm
          · rename_i m _
            exact safe_canon (when_safe (raise0_safe _ (safe_refl _)) (safe_refl _)) (startKongaord_canon m f hm)

theorem imageVerifyDone_deadbolt (a b : SlotResult) (f : FirmwareInfo) {s : State} (h : s.devState = 4) :
    (imageVerifyDone a b f s).devState = 4 := by
  unfold imageVerifyDone
  by_cases hk : (s.boot.step != .keyway) = true
  · rw [if_pos hk]; exact h
  · rw [if_neg hk, if_pos h]
    split
    · exact (restartKongaord_safe _ _ (safe_refl s)).1 h
    · exact h

theorem sysBootImage_deadbolt (e : Entry) {s : State} (h : s.devState = 4) : (runCommand sysBootImageSpec e s).devState = 4 := by
  refine (runCommand_safe (sp := sysBootImageSpec) (e := e) fun hv => ?_).1 h
  exfalso
  have h4 : (takeCommand e.mb s).devState = 4 := h
  have hp : permits sysBootImageSpec e (takeCommand e.mb s) = false := by
    unfold permits
    rw [h4]
    simp [sysBootImageSpec, h4]
  rw [validate, hp] at hv
  simp at hv

theorem sysBootImage_canon (e : Entry) {s : State} (h : Canonical s) : Canonical (runCommand sysBootImageSpec e s) := by
  unfold runCommand command
  split
  · dsimp only
    split
    · refine safe_canon (s := s) ?_ h
      split <;> simp (maxDischargeDepth := 40)
    · unfold perform
      have : Canonical (startKongaord 2 (firmwareOf (payload e)) (takeCommand e.mb s)) :=
        startKongaord_canon _ _ ((takeCommand_safe _ (safe_refl s)).2 h)
      exact (when_safe (armFlags_safe (finish_safe _ _ _ _ (safe_refl _))) (finish_safe _ _ _ _ (safe_refl _))).2 this
  · exact h

end Sys2Proof.Machine
end

