-- ==== Sys2Proof/WellFormed.lean ====
section
/-!
DEFINITION. WellFormed: the commands a sender can form, beyond what the operand types of `Instr` say already. `exec` answers
on every command; what it answers on an ill-formed one stands for nothing the hardware does.
-/

namespace Sys2Proof

/-- An entry has its 40-byte inline area (R69). -/
def Entry.wf (e : Entry) : Bool := e.inl.length == 40

/-- A write carries as many bytes as its length says, and a request has some (R200). -/
def MemReq.wf (r : MemReq) : Bool := r.len != 0 && (!r.write || r.data.length == r.len)

/-- A column holds blocks of one port at least, and of four at most, none empty (R92). -/
def columnWf (c : Column) : Bool := c.length != 0 && c.length ≤ 4 && c.all fun p => p.length != 0 && p.length ≤ 17

/-- An NVMe command names a host page (R258). -/
def NvmeCmd.wf (n : NvmeCmd) : Bool := n.pages.all fun p => p.toNat % 4096 == 0 || n.pages.head? == some p

/-- The fields of a hinge broadcast fit theirs (R369). -/
def Broadcast.wf (b : Broadcast) : Bool :=
  b.tick < 2 ^ 64 && b.seconds < 2 ^ 48 && b.nanoseconds < 1000000000 && b.lead < 2 ^ 32 && b.armId < 2 ^ 32

/-- The header fields of a hasp message, and at most 4,096 payload bytes (R367). -/
def HaspMessage.wf (m : HaspMessage) : Bool :=
  m.cls ≤ 6 && m.source ≤ 7 && (m.dest ≤ 7 || m.dest == 0xFF) && m.tick < 2 ^ 64 && m.payload.length ≤ 4096

/-- The fuse floor is a thermometer of 64 fuses (R426). -/
def Fuses.wf (f : Fuses) : Bool := f.floor ≤ 64

/-- A unit name (R25) has every value its type admits; a result of the keyway is 0 to 9 (R423). -/
def slotResultWf (r : SlotResult) : Bool := r ≤ 9

/-- The command is one that a sender can form. -/
def Instr.wf : Instr → Bool
  | .managementTick temps => temps.length == 4
  | .registerWrite _ _ size _ => size == 1 || size == 2 || size == 4 || size == 8
  | .hungPortResponse _ r | .memRequest r => r.wf
  | .slCapsRx _ caps => caps.length == 32
  | .slAlignRx _ c _ | .slFrameStartRx _ c | .slFrameEndRx _ c | .slRegRespRx _ c => columnWf c
  | .slLinePacketRx _ cs => cs.length != 0 && cs.all columnWf
  | .createIoSubmissionQueue n | .createIoCompletionQueue n | .deleteIoSubmissionQueue n | .deleteIoCompletionQueue n
  | .getLogPage n | .identify n | .abort n | .setFeatures n | .getFeatures n | .asynchronousEventRequest n | .formatNvm n
  | .flush n | .write n | .read n | .writeZeroes n | .datasetManagement n => n.wf
  | .dpTrainingDone lanes _ => lanes == 0 || lanes == 1 || lanes == 2 || lanes == 4
  | .hingeBroadcastRx _ b => b.wf
  | .haspMessageRx _ m => m.wf
  | .thermalSample readings => readings.length == 14
  | .strapLatch conversions => conversions.length == 16 && conversions.all fun v => v ≤ 255
  | .fuseLoadDone _ f => f.wf
  | .imageVerifyDone a b _ => slotResultWf a && slotResultWf b
  | .setPreferredDone r => slotResultWf r
  | .tickSetSource e | .tickRateConfirm e | .tickGetState e | .tickBudgetQuery e | .tickArm e | .tickDiscard e | .sysNop e
  | .sysIdentify e | .sysEventMask e | .sysBlockReset e | .sysReset e | .sysRecoveryStatus e | .sysFlash e
  | .sysBootImage e | .sysTwbConfig e | .ctxSetSource e | .ctxSetPlacement e | .ctxLandingConfig e | .ctxStart e
  | .ctxStop e | .ctxTestPattern e | .ctxGetStatus e | .slPortConfig e | .slPortStart e | .slPortStop e | .slGetStatus e
  | .slRegAccess e | .slLoopback e | .rawSetCfa e | .rawLoadLinearisation e | .rawSetBlack e | .rawLoadColumn e
  | .rawBindPixelTable e | .rawLoadDefects e | .rawSetShading e | .rawSetMerge e | .rawSetTaps e | .rawGetStatus e
  | .grdSetDevelop e | .grdSetNoise e | .grdSetGrade e | .grdLoadGradeTables e | .grdLoadScaler e | .grdLoadLut e
  | .grdFreeLut e | .grdGetStatus e | .statSetConfig e | .statSetTarget e | .statReadRecord e | .memSetMode e
  | .memGetStatus e | .memReadLog e | .memCalibrate e | .memRetrain e | .memSetPolicy e | .memRepair e | .cmpSubmit e
  | .cmpSetHostEngines e | .cmpCancel e | .cmpGetStatus e | .recMedia e | .recSetTarget e | .recStart e | .recStop e
  | .recTrigger e | .recRelease e | .recGetStatus e | .stgSetScratch e | .stgSetRates e | .stgGetStatus e
  | .stgReadErrorLog e | .vcSetEncode e | .vcKeyPicture e | .vcSetVectorExport e | .vcDecodeOpen e | .vcDecodeSubmit e
  | .vcDecodeClose e | .vcGetStatus e | .vcGetEncode e | .outSetRaster e | .outBind e | .outSetOverlay e | .outSetAudio e
  | .outGetStatus e | .netPortConfig e | .netSetStream e | .netGetStatus e | .timeGetState e | .timeAdjust e
  | .timeSetPtp e | .timeSetTrigger e | .audSetClock e | .audPortConfig e | .audSetMask e | .audStart e | .audStop e
  | .audGetStatus e | .posConfig e | .posControl e | .posSetCompare e | .posGetStatus e | .haspPortConfig e
  | .haspGetStatus e | .haspForward e | .haspArm e | .haspSetSplit e | .haspReadEvents e | .fltSetSeverity e
  | .fltGetStatus e | .fltClear e | .fltSetPin e | .fltReadHistory e | .fltReintegrate e | .fltInject e
  | .secGetCertificate e | .secAttest e | .secImageWrite e | .secSetPreferred e | .secRollbackAdvance e | .secGetStatus e
  | .pwrSetDomain e | .pwrSetClock e | .pwrSetCeiling e | .pwrGetStatus e | .thmSetThresholds e | .thmGetStatus e => e.wf
  | .hinge | .hingeGuardOpen _ | .sourceEdge | .sourceStop | .slrefLoss | .slrefReturn | .mbCmdTailWrite _ _
  | .mbEnable _ _ | .mbRingReset _ | .tickLoRead | .doorbellTrigger _ | .doorbellKeyPicture _ | .doorbellRecordMark _
  | .doorbellAudioStartArm _ | .blockDrainDone _ _ | .blockQuiesceTimeout _ | .commandResetAssert | .flashOpDone _ _
  | .slBringupAdvance _ | .slBringupTimeout _ | .slBringupRepeat _ | .slCapsResend _ | .slRegTimeout _ _
  | .slLaneFailed _ _ | .slLaneRejoined _ _ | .slPortDown _ _ | .lutLoadDone _ _ | .rowBlockCheck _ _
  | .spareSelfTestFail _ _ | .fencedRequest _ | .developPassDone _ _ | .motionFieldDone _ | .statHostLate _ | .repairDone _
  | .memTrained _ _ _ _ | .memRequestIssue _ _ | .scrubRead _ _ | .selfRefreshEntry _ | .selfRefreshExit _
  | .cmpJobDone _ _ _ _ | .chunkJobDone _ _ _ | .cmpEngineRetired _ _ | .mediaOpDone _ _ _ | .trigInEdge
  | .mediaCmdComplete _ _ | .mediaCmdTimeout _ | .mediaLinkDown _ | .leafReservationDone _ | .securitySignDone _
  | .sealRetry _ | .directoryChange | .nvmeCcEnable | .nvmeCcDisable | .nvmeSqTailDoorbell _ _ | .wardEntryGranted _ _
  | .wardTimeout _ | .controllerFatal _ | .powerStateEntryDone | .stgRateRelease | .perstN _ | .endpointLinkDown _
  | .encodePictureDone _ _ _ | .decodePictureDone _ _ | .decodeTmaxExpiry _ _ | .decodeSlotFree _ | .vcCoreRetired _
  | .vcBlockedWrite _ | .scanCopyDone _ | .outputLatch _ | .scanFifoUnderrun _ | .genlockRefEdge _ _ | .genlockLost _
  | .vfTeEdge | .vfTeMissing | .hpdRise | .hpdDrop | .netLinkState _ _ | .arpRequestRx _ _ _ _ | .ethFrameDropped _
  | .ptpAnnounceRx _ _ | .ptpSyncRx _ _ | .ptpDelayRespRx _ _ _ | .ptpMessageTx _ _ | .txStampCaptured _ _ _
  | .ptpMasterLost | .timeTriggerFire _ | .streamPacketTx _ | .audioStartInstant _ _ | .audioFrame _ _ | .audClockLost _
  | .audMclkLost | .posTransition _ _ _ _ | .ssiPoll _ _ _ | .posStall _ | .haspLinkAdvance _ _ _ | .haspStateTimeout _
  | .haspRetryTimer _ | .haspCalibration _ _ _ | .hingeBroadcastTx | .haspForwardCompletion _ _ | .haspForwardTimeout _
  | .haspArmConfirm _ | .haspHeartbeatRx _ _ | .haspWorkerLost _ | .haspManagerLost | .reintegrationTestDone _ _
  | .faultNPulseEnd | .heartbeatStall | .lockstepMismatch | .pllLockLost | .xtalOutOfRange | .collectorParityError
  | .imageWriteDone _ | .fuseBurnDone _ | .domainWakeDone _ | .thermalTrip | .supplyOutOfRange | .resetAssert _
  | .resetRelease _ | .stretchEnd | .rstNCheck _ _ _ | .mgmtRelease | .startComplete | .startWatchdogExpiry
  | .twbReadSnapshot | .twbSubmit | .twbAckCompletion | .twbEventAdvance | .twbApbaseCommit _ | .twbApertureWrite _ _
  | .twbStartStop _ | .twbSclTimeout | .loopbackCheckerLock _ _ _ _ | .twbByteCommit _ _ | .endpointLinkUp
  | .sramEccError _ | .hingeSequencerSelfCheckFailed | .securityEngineFault | .securitySelfCheckDone _
  | .nvmePowerStateExit | .comparePulseEnd _ | .timeTriggerPulseEnd _ => true

end Sys2Proof
end

