-- ==== Sys2Proof/Laws/PerInstr.lean ====
section
/-!
SUPPORT. PerInstr: what holds of each command as syntax, one lemma a constructor.
-/

namespace Sys2Proof.Laws.Entries

open Sys2Proof Sys2Proof.Machine

/-- A mailbox command is well formed when its entry is (R69), and its opcode has a block byte from 0x01 to 0x13 and a command byte that is
not 0 (R84). -/
def Statement (i : Instr) : Prop :=
  ∀ (sp : Spec) (e : Entry), mailboxCommand i = some (sp, e) → i.wf = e.wf ∧ 0x01 ≤ sp.opcode / 256 ∧ sp.opcode / 256 ≤ 0x13 ∧ sp.opcode % 256 ≠ 0

theorem hinge : Statement .hinge := by
  intro sp x h; cases h

theorem hingeGuardOpen {a} : Statement (.hingeGuardOpen a) := by
  intro sp x h; cases h

theorem sourceEdge : Statement .sourceEdge := by
  intro sp x h; cases h

theorem sourceStop : Statement .sourceStop := by
  intro sp x h; cases h

theorem slrefLoss : Statement .slrefLoss := by
  intro sp x h; cases h

theorem slrefReturn : Statement .slrefReturn := by
  intro sp x h; cases h

theorem managementTick {a} : Statement (.managementTick a) := by
  intro sp x h; cases h

theorem mbCmdTailWrite {a b} : Statement (.mbCmdTailWrite a b) := by
  intro sp x h; cases h

theorem mbEnable {a b} : Statement (.mbEnable a b) := by
  intro sp x h; cases h

theorem mbRingReset {a} : Statement (.mbRingReset a) := by
  intro sp x h; cases h

theorem tickLoRead : Statement .tickLoRead := by
  intro sp x h; cases h

theorem registerWrite {a b c d} : Statement (.registerWrite a b c d) := by
  intro sp x h; cases h

theorem doorbellTrigger {a} : Statement (.doorbellTrigger a) := by
  intro sp x h; cases h

theorem doorbellKeyPicture {a} : Statement (.doorbellKeyPicture a) := by
  intro sp x h; cases h

theorem doorbellRecordMark {a} : Statement (.doorbellRecordMark a) := by
  intro sp x h; cases h

theorem doorbellAudioStartArm {a} : Statement (.doorbellAudioStartArm a) := by
  intro sp x h; cases h

theorem tickSetSource (e : Entry) : Statement (.tickSetSource e) := by
  intro sp x h; cases h; exact ⟨rfl, by decide⟩

theorem tickRateConfirm (e : Entry) : Statement (.tickRateConfirm e) := by
  intro sp x h; cases h; exact ⟨rfl, by decide⟩

theorem tickGetState (e : Entry) : Statement (.tickGetState e) := by
  intro sp x h; cases h; exact ⟨rfl, by decide⟩

theorem tickBudgetQuery (e : Entry) : Statement (.tickBudgetQuery e) := by
  intro sp x h; cases h; exact ⟨rfl, by decide⟩

theorem tickArm (e : Entry) : Statement (.tickArm e) := by
  intro sp x h; cases h; exact ⟨rfl, by decide⟩

theorem tickDiscard (e : Entry) : Statement (.tickDiscard e) := by
  intro sp x h; cases h; exact ⟨rfl, by decide⟩

theorem sysNop (e : Entry) : Statement (.sysNop e) := by
  intro sp x h; cases h; exact ⟨rfl, by decide⟩

theorem sysIdentify (e : Entry) : Statement (.sysIdentify e) := by
  intro sp x h; cases h; exact ⟨rfl, by decide⟩

theorem sysEventMask (e : Entry) : Statement (.sysEventMask e) := by
  intro sp x h; cases h; exact ⟨rfl, by decide⟩

theorem sysBlockReset (e : Entry) : Statement (.sysBlockReset e) := by
  intro sp x h; cases h; exact ⟨rfl, by decide⟩

theorem blockDrainDone {a b} : Statement (.blockDrainDone a b) := by
  intro sp x h; cases h

theorem blockQuiesceTimeout {a} : Statement (.blockQuiesceTimeout a) := by
  intro sp x h; cases h

theorem hungPortResponse {a b} : Statement (.hungPortResponse a b) := by
  intro sp x h; cases h

theorem sysReset (e : Entry) : Statement (.sysReset e) := by
  intro sp x h; cases h; exact ⟨rfl, by decide⟩

theorem commandResetAssert : Statement .commandResetAssert := by
  intro sp x h; cases h

theorem sysRecoveryStatus (e : Entry) : Statement (.sysRecoveryStatus e) := by
  intro sp x h; cases h; exact ⟨rfl, by decide⟩

theorem sysFlash (e : Entry) : Statement (.sysFlash e) := by
  intro sp x h; cases h; exact ⟨rfl, by decide⟩

theorem flashOpDone {a b} : Statement (.flashOpDone a b) := by
  intro sp x h; cases h

theorem sysBootImage (e : Entry) : Statement (.sysBootImage e) := by
  intro sp x h; cases h; exact ⟨rfl, by decide⟩

theorem sysTwbConfig (e : Entry) : Statement (.sysTwbConfig e) := by
  intro sp x h; cases h; exact ⟨rfl, by decide⟩

theorem ctxSetSource (e : Entry) : Statement (.ctxSetSource e) := by
  intro sp x h; cases h; exact ⟨rfl, by decide⟩

theorem ctxSetPlacement (e : Entry) : Statement (.ctxSetPlacement e) := by
  intro sp x h; cases h; exact ⟨rfl, by decide⟩

theorem ctxLandingConfig (e : Entry) : Statement (.ctxLandingConfig e) := by
  intro sp x h; cases h; exact ⟨rfl, by decide⟩

theorem ctxStart (e : Entry) : Statement (.ctxStart e) := by
  intro sp x h; cases h; exact ⟨rfl, by decide⟩

theorem ctxStop (e : Entry) : Statement (.ctxStop e) := by
  intro sp x h; cases h; exact ⟨rfl, by decide⟩

theorem ctxTestPattern (e : Entry) : Statement (.ctxTestPattern e) := by
  intro sp x h; cases h; exact ⟨rfl, by decide⟩

theorem ctxGetStatus (e : Entry) : Statement (.ctxGetStatus e) := by
  intro sp x h; cases h; exact ⟨rfl, by decide⟩

theorem slPortConfig (e : Entry) : Statement (.slPortConfig e) := by
  intro sp x h; cases h; exact ⟨rfl, by decide⟩

theorem slPortStart (e : Entry) : Statement (.slPortStart e) := by
  intro sp x h; cases h; exact ⟨rfl, by decide⟩

theorem slPortStop (e : Entry) : Statement (.slPortStop e) := by
  intro sp x h; cases h; exact ⟨rfl, by decide⟩

theorem slGetStatus (e : Entry) : Statement (.slGetStatus e) := by
  intro sp x h; cases h; exact ⟨rfl, by decide⟩

theorem slRegAccess (e : Entry) : Statement (.slRegAccess e) := by
  intro sp x h; cases h; exact ⟨rfl, by decide⟩

theorem slLoopback (e : Entry) : Statement (.slLoopback e) := by
  intro sp x h; cases h; exact ⟨rfl, by decide⟩

theorem slBringupAdvance {a} : Statement (.slBringupAdvance a) := by
  intro sp x h; cases h

theorem slBringupTimeout {a} : Statement (.slBringupTimeout a) := by
  intro sp x h; cases h

theorem slBringupRepeat {a} : Statement (.slBringupRepeat a) := by
  intro sp x h; cases h

theorem slCapsResend {a} : Statement (.slCapsResend a) := by
  intro sp x h; cases h

theorem slCapsRx {a b} : Statement (.slCapsRx a b) := by
  intro sp x h; cases h

theorem slAlignRx {a b c} : Statement (.slAlignRx a b c) := by
  intro sp x h; cases h

theorem slFrameStartRx {a b} : Statement (.slFrameStartRx a b) := by
  intro sp x h; cases h

theorem slFrameEndRx {a b} : Statement (.slFrameEndRx a b) := by
  intro sp x h; cases h

theorem slLinePacketRx {a b} : Statement (.slLinePacketRx a b) := by
  intro sp x h; cases h

theorem slRegRespRx {a b} : Statement (.slRegRespRx a b) := by
  intro sp x h; cases h

theorem slRegTimeout {a b} : Statement (.slRegTimeout a b) := by
  intro sp x h; cases h

theorem slLaneFailed {a b} : Statement (.slLaneFailed a b) := by
  intro sp x h; cases h

theorem slLaneRejoined {a b} : Statement (.slLaneRejoined a b) := by
  intro sp x h; cases h

theorem slPortDown {a b} : Statement (.slPortDown a b) := by
  intro sp x h; cases h

theorem rawSetCfa (e : Entry) : Statement (.rawSetCfa e) := by
  intro sp x h; cases h; exact ⟨rfl, by decide⟩

theorem rawLoadLinearisation (e : Entry) : Statement (.rawLoadLinearisation e) := by
  intro sp x h; cases h; exact ⟨rfl, by decide⟩

theorem rawSetBlack (e : Entry) : Statement (.rawSetBlack e) := by
  intro sp x h; cases h; exact ⟨rfl, by decide⟩

theorem rawLoadColumn (e : Entry) : Statement (.rawLoadColumn e) := by
  intro sp x h; cases h; exact ⟨rfl, by decide⟩

theorem rawBindPixelTable (e : Entry) : Statement (.rawBindPixelTable e) := by
  intro sp x h; cases h; exact ⟨rfl, by decide⟩

theorem rawLoadDefects (e : Entry) : Statement (.rawLoadDefects e) := by
  intro sp x h; cases h; exact ⟨rfl, by decide⟩

theorem rawSetShading (e : Entry) : Statement (.rawSetShading e) := by
  intro sp x h; cases h; exact ⟨rfl, by decide⟩

theorem rawSetMerge (e : Entry) : Statement (.rawSetMerge e) := by
  intro sp x h; cases h; exact ⟨rfl, by decide⟩

theorem rawSetTaps (e : Entry) : Statement (.rawSetTaps e) := by
  intro sp x h; cases h; exact ⟨rfl, by decide⟩

theorem rawGetStatus (e : Entry) : Statement (.rawGetStatus e) := by
  intro sp x h; cases h; exact ⟨rfl, by decide⟩

theorem grdSetDevelop (e : Entry) : Statement (.grdSetDevelop e) := by
  intro sp x h; cases h; exact ⟨rfl, by decide⟩

theorem grdSetNoise (e : Entry) : Statement (.grdSetNoise e) := by
  intro sp x h; cases h; exact ⟨rfl, by decide⟩

theorem grdSetGrade (e : Entry) : Statement (.grdSetGrade e) := by
  intro sp x h; cases h; exact ⟨rfl, by decide⟩

theorem grdLoadGradeTables (e : Entry) : Statement (.grdLoadGradeTables e) := by
  intro sp x h; cases h; exact ⟨rfl, by decide⟩

theorem grdLoadScaler (e : Entry) : Statement (.grdLoadScaler e) := by
  intro sp x h; cases h; exact ⟨rfl, by decide⟩

theorem grdLoadLut (e : Entry) : Statement (.grdLoadLut e) := by
  intro sp x h; cases h; exact ⟨rfl, by decide⟩

theorem lutLoadDone {a b} : Statement (.lutLoadDone a b) := by
  intro sp x h; cases h

theorem grdFreeLut (e : Entry) : Statement (.grdFreeLut e) := by
  intro sp x h; cases h; exact ⟨rfl, by decide⟩

theorem grdGetStatus (e : Entry) : Statement (.grdGetStatus e) := by
  intro sp x h; cases h; exact ⟨rfl, by decide⟩

theorem rowBlockCheck {a b} : Statement (.rowBlockCheck a b) := by
  intro sp x h; cases h

theorem spareSelfTestFail {a b} : Statement (.spareSelfTestFail a b) := by
  intro sp x h; cases h

theorem fencedRequest {a} : Statement (.fencedRequest a) := by
  intro sp x h; cases h

theorem developPassDone {a b} : Statement (.developPassDone a b) := by
  intro sp x h; cases h

theorem motionFieldDone {a} : Statement (.motionFieldDone a) := by
  intro sp x h; cases h

theorem statSetConfig (e : Entry) : Statement (.statSetConfig e) := by
  intro sp x h; cases h; exact ⟨rfl, by decide⟩

theorem statSetTarget (e : Entry) : Statement (.statSetTarget e) := by
  intro sp x h; cases h; exact ⟨rfl, by decide⟩

theorem statReadRecord (e : Entry) : Statement (.statReadRecord e) := by
  intro sp x h; cases h; exact ⟨rfl, by decide⟩

theorem statHostLate {a} : Statement (.statHostLate a) := by
  intro sp x h; cases h

theorem memSetMode (e : Entry) : Statement (.memSetMode e) := by
  intro sp x h; cases h; exact ⟨rfl, by decide⟩

theorem memGetStatus (e : Entry) : Statement (.memGetStatus e) := by
  intro sp x h; cases h; exact ⟨rfl, by decide⟩

theorem memReadLog (e : Entry) : Statement (.memReadLog e) := by
  intro sp x h; cases h; exact ⟨rfl, by decide⟩

theorem memCalibrate (e : Entry) : Statement (.memCalibrate e) := by
  intro sp x h; cases h; exact ⟨rfl, by decide⟩

theorem memRetrain (e : Entry) : Statement (.memRetrain e) := by
  intro sp x h; cases h; exact ⟨rfl, by decide⟩

theorem memSetPolicy (e : Entry) : Statement (.memSetPolicy e) := by
  intro sp x h; cases h; exact ⟨rfl, by decide⟩

theorem memRepair (e : Entry) : Statement (.memRepair e) := by
  intro sp x h; cases h; exact ⟨rfl, by decide⟩

theorem repairDone {a} : Statement (.repairDone a) := by
  intro sp x h; cases h

theorem memTrained {a b c d} : Statement (.memTrained a b c d) := by
  intro sp x h; cases h

theorem memRequest {a} : Statement (.memRequest a) := by
  intro sp x h; cases h

theorem memRequestIssue {a b} : Statement (.memRequestIssue a b) := by
  intro sp x h; cases h

theorem scrubRead {a b} : Statement (.scrubRead a b) := by
  intro sp x h; cases h

theorem selfRefreshEntry {a} : Statement (.selfRefreshEntry a) := by
  intro sp x h; cases h

theorem selfRefreshExit {a} : Statement (.selfRefreshExit a) := by
  intro sp x h; cases h

theorem cmpSubmit (e : Entry) : Statement (.cmpSubmit e) := by
  intro sp x h; cases h; exact ⟨rfl, by decide⟩

theorem cmpSetHostEngines (e : Entry) : Statement (.cmpSetHostEngines e) := by
  intro sp x h; cases h; exact ⟨rfl, by decide⟩

theorem cmpCancel (e : Entry) : Statement (.cmpCancel e) := by
  intro sp x h; cases h; exact ⟨rfl, by decide⟩

theorem cmpGetStatus (e : Entry) : Statement (.cmpGetStatus e) := by
  intro sp x h; cases h; exact ⟨rfl, by decide⟩

theorem cmpJobDone {a b c d} : Statement (.cmpJobDone a b c d) := by
  intro sp x h; cases h

theorem chunkJobDone {a b c} : Statement (.chunkJobDone a b c) := by
  intro sp x h; cases h

theorem cmpEngineRetired {a b} : Statement (.cmpEngineRetired a b) := by
  intro sp x h; cases h

theorem recMedia (e : Entry) : Statement (.recMedia e) := by
  intro sp x h; cases h; exact ⟨rfl, by decide⟩

theorem mediaOpDone {a b c} : Statement (.mediaOpDone a b c) := by
  intro sp x h; cases h

theorem recSetTarget (e : Entry) : Statement (.recSetTarget e) := by
  intro sp x h; cases h; exact ⟨rfl, by decide⟩

theorem recStart (e : Entry) : Statement (.recStart e) := by
  intro sp x h; cases h; exact ⟨rfl, by decide⟩

theorem recStop (e : Entry) : Statement (.recStop e) := by
  intro sp x h; cases h; exact ⟨rfl, by decide⟩

theorem recTrigger (e : Entry) : Statement (.recTrigger e) := by
  intro sp x h; cases h; exact ⟨rfl, by decide⟩

theorem recRelease (e : Entry) : Statement (.recRelease e) := by
  intro sp x h; cases h; exact ⟨rfl, by decide⟩

theorem recGetStatus (e : Entry) : Statement (.recGetStatus e) := by
  intro sp x h; cases h; exact ⟨rfl, by decide⟩

theorem trigInEdge : Statement .trigInEdge := by
  intro sp x h; cases h

theorem mediaCmdComplete {a b} : Statement (.mediaCmdComplete a b) := by
  intro sp x h; cases h

theorem mediaCmdTimeout {a} : Statement (.mediaCmdTimeout a) := by
  intro sp x h; cases h

theorem mediaLinkDown {a} : Statement (.mediaLinkDown a) := by
  intro sp x h; cases h

theorem leafReservationDone {a} : Statement (.leafReservationDone a) := by
  intro sp x h; cases h

theorem securitySignDone {a} : Statement (.securitySignDone a) := by
  intro sp x h; cases h

theorem sealRetry {a} : Statement (.sealRetry a) := by
  intro sp x h; cases h

theorem directoryChange : Statement .directoryChange := by
  intro sp x h; cases h

theorem stgSetScratch (e : Entry) : Statement (.stgSetScratch e) := by
  intro sp x h; cases h; exact ⟨rfl, by decide⟩

theorem stgSetRates (e : Entry) : Statement (.stgSetRates e) := by
  intro sp x h; cases h; exact ⟨rfl, by decide⟩

theorem stgGetStatus (e : Entry) : Statement (.stgGetStatus e) := by
  intro sp x h; cases h; exact ⟨rfl, by decide⟩

theorem stgReadErrorLog (e : Entry) : Statement (.stgReadErrorLog e) := by
  intro sp x h; cases h; exact ⟨rfl, by decide⟩

theorem nvmeCcEnable : Statement .nvmeCcEnable := by
  intro sp x h; cases h

theorem nvmeCcDisable : Statement .nvmeCcDisable := by
  intro sp x h; cases h

theorem nvmeSqTailDoorbell {a b} : Statement (.nvmeSqTailDoorbell a b) := by
  intro sp x h; cases h

theorem createIoSubmissionQueue {a} : Statement (.createIoSubmissionQueue a) := by
  intro sp x h; cases h

theorem createIoCompletionQueue {a} : Statement (.createIoCompletionQueue a) := by
  intro sp x h; cases h

theorem deleteIoSubmissionQueue {a} : Statement (.deleteIoSubmissionQueue a) := by
  intro sp x h; cases h

theorem deleteIoCompletionQueue {a} : Statement (.deleteIoCompletionQueue a) := by
  intro sp x h; cases h

theorem getLogPage {a} : Statement (.getLogPage a) := by
  intro sp x h; cases h

theorem identify {a} : Statement (.identify a) := by
  intro sp x h; cases h

theorem abort {a} : Statement (.abort a) := by
  intro sp x h; cases h

theorem setFeatures {a} : Statement (.setFeatures a) := by
  intro sp x h; cases h

theorem getFeatures {a} : Statement (.getFeatures a) := by
  intro sp x h; cases h

theorem asynchronousEventRequest {a} : Statement (.asynchronousEventRequest a) := by
  intro sp x h; cases h

theorem formatNvm {a} : Statement (.formatNvm a) := by
  intro sp x h; cases h

theorem flush {a} : Statement (.flush a) := by
  intro sp x h; cases h

theorem write {a} : Statement (.write a) := by
  intro sp x h; cases h

theorem read {a} : Statement (.read a) := by
  intro sp x h; cases h

theorem writeZeroes {a} : Statement (.writeZeroes a) := by
  intro sp x h; cases h

theorem datasetManagement {a} : Statement (.datasetManagement a) := by
  intro sp x h; cases h

theorem wardEntryGranted {a b} : Statement (.wardEntryGranted a b) := by
  intro sp x h; cases h

theorem wardTimeout {a} : Statement (.wardTimeout a) := by
  intro sp x h; cases h

theorem controllerFatal {a} : Statement (.controllerFatal a) := by
  intro sp x h; cases h

theorem powerStateEntryDone : Statement .powerStateEntryDone := by
  intro sp x h; cases h

theorem stgRateRelease : Statement .stgRateRelease := by
  intro sp x h; cases h

theorem perstN {a} : Statement (.perstN a) := by
  intro sp x h; cases h

theorem endpointLinkDown {a} : Statement (.endpointLinkDown a) := by
  intro sp x h; cases h

theorem vcSetEncode (e : Entry) : Statement (.vcSetEncode e) := by
  intro sp x h; cases h; exact ⟨rfl, by decide⟩

theorem vcKeyPicture (e : Entry) : Statement (.vcKeyPicture e) := by
  intro sp x h; cases h; exact ⟨rfl, by decide⟩

theorem vcSetVectorExport (e : Entry) : Statement (.vcSetVectorExport e) := by
  intro sp x h; cases h; exact ⟨rfl, by decide⟩

theorem vcDecodeOpen (e : Entry) : Statement (.vcDecodeOpen e) := by
  intro sp x h; cases h; exact ⟨rfl, by decide⟩

theorem vcDecodeSubmit (e : Entry) : Statement (.vcDecodeSubmit e) := by
  intro sp x h; cases h; exact ⟨rfl, by decide⟩

theorem vcDecodeClose (e : Entry) : Statement (.vcDecodeClose e) := by
  intro sp x h; cases h; exact ⟨rfl, by decide⟩

theorem vcGetStatus (e : Entry) : Statement (.vcGetStatus e) := by
  intro sp x h; cases h; exact ⟨rfl, by decide⟩

theorem vcGetEncode (e : Entry) : Statement (.vcGetEncode e) := by
  intro sp x h; cases h; exact ⟨rfl, by decide⟩

theorem encodePictureDone {a b c} : Statement (.encodePictureDone a b c) := by
  intro sp x h; cases h

theorem decodePictureDone {a b} : Statement (.decodePictureDone a b) := by
  intro sp x h; cases h

theorem decodeTmaxExpiry {a b} : Statement (.decodeTmaxExpiry a b) := by
  intro sp x h; cases h

theorem decodeSlotFree {a} : Statement (.decodeSlotFree a) := by
  intro sp x h; cases h

theorem vcCoreRetired {a} : Statement (.vcCoreRetired a) := by
  intro sp x h; cases h

theorem vcBlockedWrite {a} : Statement (.vcBlockedWrite a) := by
  intro sp x h; cases h

theorem outSetRaster (e : Entry) : Statement (.outSetRaster e) := by
  intro sp x h; cases h; exact ⟨rfl, by decide⟩

theorem outBind (e : Entry) : Statement (.outBind e) := by
  intro sp x h; cases h; exact ⟨rfl, by decide⟩

theorem outSetOverlay (e : Entry) : Statement (.outSetOverlay e) := by
  intro sp x h; cases h; exact ⟨rfl, by decide⟩

theorem outSetAudio (e : Entry) : Statement (.outSetAudio e) := by
  intro sp x h; cases h; exact ⟨rfl, by decide⟩

theorem outGetStatus (e : Entry) : Statement (.outGetStatus e) := by
  intro sp x h; cases h; exact ⟨rfl, by decide⟩

theorem scanCopyDone {a} : Statement (.scanCopyDone a) := by
  intro sp x h; cases h

theorem outputLatch {a} : Statement (.outputLatch a) := by
  intro sp x h; cases h

theorem scanFifoUnderrun {a} : Statement (.scanFifoUnderrun a) := by
  intro sp x h; cases h

theorem genlockRefEdge {a b} : Statement (.genlockRefEdge a b) := by
  intro sp x h; cases h

theorem genlockLost {a} : Statement (.genlockLost a) := by
  intro sp x h; cases h

theorem vfTeEdge : Statement .vfTeEdge := by
  intro sp x h; cases h

theorem vfTeMissing : Statement .vfTeMissing := by
  intro sp x h; cases h

theorem hpdRise : Statement .hpdRise := by
  intro sp x h; cases h

theorem hpdDrop : Statement .hpdDrop := by
  intro sp x h; cases h

theorem dpTrainingDone {a b} : Statement (.dpTrainingDone a b) := by
  intro sp x h; cases h

theorem netPortConfig (e : Entry) : Statement (.netPortConfig e) := by
  intro sp x h; cases h; exact ⟨rfl, by decide⟩

theorem netSetStream (e : Entry) : Statement (.netSetStream e) := by
  intro sp x h; cases h; exact ⟨rfl, by decide⟩

theorem netGetStatus (e : Entry) : Statement (.netGetStatus e) := by
  intro sp x h; cases h; exact ⟨rfl, by decide⟩

theorem timeGetState (e : Entry) : Statement (.timeGetState e) := by
  intro sp x h; cases h; exact ⟨rfl, by decide⟩

theorem timeAdjust (e : Entry) : Statement (.timeAdjust e) := by
  intro sp x h; cases h; exact ⟨rfl, by decide⟩

theorem timeSetPtp (e : Entry) : Statement (.timeSetPtp e) := by
  intro sp x h; cases h; exact ⟨rfl, by decide⟩

theorem timeSetTrigger (e : Entry) : Statement (.timeSetTrigger e) := by
  intro sp x h; cases h; exact ⟨rfl, by decide⟩

theorem netLinkState {a b} : Statement (.netLinkState a b) := by
  intro sp x h; cases h

theorem arpRequestRx {a b c d} : Statement (.arpRequestRx a b c d) := by
  intro sp x h; cases h

theorem ethFrameDropped {a} : Statement (.ethFrameDropped a) := by
  intro sp x h; cases h

theorem ptpAnnounceRx {a b} : Statement (.ptpAnnounceRx a b) := by
  intro sp x h; cases h

theorem ptpSyncRx {a b} : Statement (.ptpSyncRx a b) := by
  intro sp x h; cases h

theorem ptpDelayRespRx {a b c} : Statement (.ptpDelayRespRx a b c) := by
  intro sp x h; cases h

theorem ptpMessageTx {a b} : Statement (.ptpMessageTx a b) := by
  intro sp x h; cases h

theorem txStampCaptured {a b c} : Statement (.txStampCaptured a b c) := by
  intro sp x h; cases h

theorem ptpMasterLost : Statement .ptpMasterLost := by
  intro sp x h; cases h

theorem timeTriggerFire {a} : Statement (.timeTriggerFire a) := by
  intro sp x h; cases h

theorem streamPacketTx {a} : Statement (.streamPacketTx a) := by
  intro sp x h; cases h

theorem audSetClock (e : Entry) : Statement (.audSetClock e) := by
  intro sp x h; cases h; exact ⟨rfl, by decide⟩

theorem audPortConfig (e : Entry) : Statement (.audPortConfig e) := by
  intro sp x h; cases h; exact ⟨rfl, by decide⟩

theorem audSetMask (e : Entry) : Statement (.audSetMask e) := by
  intro sp x h; cases h; exact ⟨rfl, by decide⟩

theorem audStart (e : Entry) : Statement (.audStart e) := by
  intro sp x h; cases h; exact ⟨rfl, by decide⟩

theorem audStop (e : Entry) : Statement (.audStop e) := by
  intro sp x h; cases h; exact ⟨rfl, by decide⟩

theorem audGetStatus (e : Entry) : Statement (.audGetStatus e) := by
  intro sp x h; cases h; exact ⟨rfl, by decide⟩

theorem audioStartInstant {a b} : Statement (.audioStartInstant a b) := by
  intro sp x h; cases h

theorem audioFrame {a b} : Statement (.audioFrame a b) := by
  intro sp x h; cases h

theorem audClockLost {a} : Statement (.audClockLost a) := by
  intro sp x h; cases h

theorem audMclkLost : Statement .audMclkLost := by
  intro sp x h; cases h

theorem posConfig (e : Entry) : Statement (.posConfig e) := by
  intro sp x h; cases h; exact ⟨rfl, by decide⟩

theorem posControl (e : Entry) : Statement (.posControl e) := by
  intro sp x h; cases h; exact ⟨rfl, by decide⟩

theorem posSetCompare (e : Entry) : Statement (.posSetCompare e) := by
  intro sp x h; cases h; exact ⟨rfl, by decide⟩

theorem posGetStatus (e : Entry) : Statement (.posGetStatus e) := by
  intro sp x h; cases h; exact ⟨rfl, by decide⟩

theorem posTransition {a b c d} : Statement (.posTransition a b c d) := by
  intro sp x h; cases h

theorem ssiPoll {a b c} : Statement (.ssiPoll a b c) := by
  intro sp x h; cases h

theorem posStall {a} : Statement (.posStall a) := by
  intro sp x h; cases h

theorem haspPortConfig (e : Entry) : Statement (.haspPortConfig e) := by
  intro sp x h; cases h; exact ⟨rfl, by decide⟩

theorem haspGetStatus (e : Entry) : Statement (.haspGetStatus e) := by
  intro sp x h; cases h; exact ⟨rfl, by decide⟩

theorem haspForward (e : Entry) : Statement (.haspForward e) := by
  intro sp x h; cases h; exact ⟨rfl, by decide⟩

theorem haspArm {a} : Statement (.haspArm a) := by
  intro sp x h; cases h

theorem haspSetSplit (e : Entry) : Statement (.haspSetSplit e) := by
  intro sp x h; cases h; exact ⟨rfl, by decide⟩

theorem haspReadEvents (e : Entry) : Statement (.haspReadEvents e) := by
  intro sp x h; cases h; exact ⟨rfl, by decide⟩

theorem haspLinkAdvance {a b c} : Statement (.haspLinkAdvance a b c) := by
  intro sp x h; cases h

theorem haspStateTimeout {a} : Statement (.haspStateTimeout a) := by
  intro sp x h; cases h

theorem haspRetryTimer {a} : Statement (.haspRetryTimer a) := by
  intro sp x h; cases h

theorem haspCalibration {a b c} : Statement (.haspCalibration a b c) := by
  intro sp x h; cases h

theorem hingeBroadcastTx : Statement .hingeBroadcastTx := by
  intro sp x h; cases h

theorem hingeBroadcastRx {a b} : Statement (.hingeBroadcastRx a b) := by
  intro sp x h; cases h

theorem haspMessageRx {a b} : Statement (.haspMessageRx a b) := by
  intro sp x h; cases h

theorem haspForwardCompletion {a b} : Statement (.haspForwardCompletion a b) := by
  intro sp x h; cases h

theorem haspForwardTimeout {a} : Statement (.haspForwardTimeout a) := by
  intro sp x h; cases h

theorem haspArmConfirm {a} : Statement (.haspArmConfirm a) := by
  intro sp x h; cases h

theorem haspHeartbeatRx {a b} : Statement (.haspHeartbeatRx a b) := by
  intro sp x h; cases h

theorem haspWorkerLost {a} : Statement (.haspWorkerLost a) := by
  intro sp x h; cases h

theorem haspManagerLost : Statement .haspManagerLost := by
  intro sp x h; cases h

theorem fltSetSeverity (e : Entry) : Statement (.fltSetSeverity e) := by
  intro sp x h; cases h; exact ⟨rfl, by decide⟩

theorem fltGetStatus (e : Entry) : Statement (.fltGetStatus e) := by
  intro sp x h; cases h; exact ⟨rfl, by decide⟩

theorem fltClear (e : Entry) : Statement (.fltClear e) := by
  intro sp x h; cases h; exact ⟨rfl, by decide⟩

theorem fltSetPin (e : Entry) : Statement (.fltSetPin e) := by
  intro sp x h; cases h; exact ⟨rfl, by decide⟩

theorem fltReadHistory (e : Entry) : Statement (.fltReadHistory e) := by
  intro sp x h; cases h; exact ⟨rfl, by decide⟩

theorem fltReintegrate (e : Entry) : Statement (.fltReintegrate e) := by
  intro sp x h; cases h; exact ⟨rfl, by decide⟩

theorem reintegrationTestDone {a b} : Statement (.reintegrationTestDone a b) := by
  intro sp x h; cases h

theorem fltInject (e : Entry) : Statement (.fltInject e) := by
  intro sp x h; cases h; exact ⟨rfl, by decide⟩

theorem faultNPulseEnd : Statement .faultNPulseEnd := by
  intro sp x h; cases h

theorem heartbeatStall : Statement .heartbeatStall := by
  intro sp x h; cases h

theorem lockstepMismatch : Statement .lockstepMismatch := by
  intro sp x h; cases h

theorem pllLockLost : Statement .pllLockLost := by
  intro sp x h; cases h

theorem xtalOutOfRange : Statement .xtalOutOfRange := by
  intro sp x h; cases h

theorem collectorParityError : Statement .collectorParityError := by
  intro sp x h; cases h

theorem secGetCertificate (e : Entry) : Statement (.secGetCertificate e) := by
  intro sp x h; cases h; exact ⟨rfl, by decide⟩

theorem secAttest (e : Entry) : Statement (.secAttest e) := by
  intro sp x h; cases h; exact ⟨rfl, by decide⟩

theorem secImageWrite (e : Entry) : Statement (.secImageWrite e) := by
  intro sp x h; cases h; exact ⟨rfl, by decide⟩

theorem secSetPreferred (e : Entry) : Statement (.secSetPreferred e) := by
  intro sp x h; cases h; exact ⟨rfl, by decide⟩

theorem secRollbackAdvance (e : Entry) : Statement (.secRollbackAdvance e) := by
  intro sp x h; cases h; exact ⟨rfl, by decide⟩

theorem secGetStatus (e : Entry) : Statement (.secGetStatus e) := by
  intro sp x h; cases h; exact ⟨rfl, by decide⟩

theorem imageWriteDone {a} : Statement (.imageWriteDone a) := by
  intro sp x h; cases h

theorem fuseBurnDone {a} : Statement (.fuseBurnDone a) := by
  intro sp x h; cases h

theorem pwrSetDomain (e : Entry) : Statement (.pwrSetDomain e) := by
  intro sp x h; cases h; exact ⟨rfl, by decide⟩

theorem pwrSetClock (e : Entry) : Statement (.pwrSetClock e) := by
  intro sp x h; cases h; exact ⟨rfl, by decide⟩

theorem pwrSetCeiling (e : Entry) : Statement (.pwrSetCeiling e) := by
  intro sp x h; cases h; exact ⟨rfl, by decide⟩

theorem pwrGetStatus (e : Entry) : Statement (.pwrGetStatus e) := by
  intro sp x h; cases h; exact ⟨rfl, by decide⟩

theorem thmSetThresholds (e : Entry) : Statement (.thmSetThresholds e) := by
  intro sp x h; cases h; exact ⟨rfl, by decide⟩

theorem thmGetStatus (e : Entry) : Statement (.thmGetStatus e) := by
  intro sp x h; cases h; exact ⟨rfl, by decide⟩

theorem domainWakeDone {a} : Statement (.domainWakeDone a) := by
  intro sp x h; cases h

theorem thermalSample {a} : Statement (.thermalSample a) := by
  intro sp x h; cases h

theorem thermalTrip : Statement .thermalTrip := by
  intro sp x h; cases h

theorem supplyOutOfRange : Statement .supplyOutOfRange := by
  intro sp x h; cases h

theorem resetAssert {a} : Statement (.resetAssert a) := by
  intro sp x h; cases h

theorem resetRelease {a} : Statement (.resetRelease a) := by
  intro sp x h; cases h

theorem stretchEnd : Statement .stretchEnd := by
  intro sp x h; cases h

theorem rstNCheck {a b c} : Statement (.rstNCheck a b c) := by
  intro sp x h; cases h

theorem strapLatch {a} : Statement (.strapLatch a) := by
  intro sp x h; cases h

theorem fuseLoadDone {a b} : Statement (.fuseLoadDone a b) := by
  intro sp x h; cases h

theorem mgmtRelease : Statement .mgmtRelease := by
  intro sp x h; cases h

theorem imageVerifyDone {a b c} : Statement (.imageVerifyDone a b c) := by
  intro sp x h; cases h

theorem startComplete : Statement .startComplete := by
  intro sp x h; cases h

theorem startWatchdogExpiry : Statement .startWatchdogExpiry := by
  intro sp x h; cases h

theorem twbReadSnapshot : Statement .twbReadSnapshot := by
  intro sp x h; cases h

theorem twbSubmit : Statement .twbSubmit := by
  intro sp x h; cases h

theorem twbAckCompletion : Statement .twbAckCompletion := by
  intro sp x h; cases h

theorem twbEventAdvance : Statement .twbEventAdvance := by
  intro sp x h; cases h

theorem twbApbaseCommit {a} : Statement (.twbApbaseCommit a) := by
  intro sp x h; cases h

theorem twbApertureWrite {a b} : Statement (.twbApertureWrite a b) := by
  intro sp x h; cases h

theorem twbStartStop {a} : Statement (.twbStartStop a) := by
  intro sp x h; cases h

theorem twbSclTimeout : Statement .twbSclTimeout := by
  intro sp x h; cases h

theorem loopbackCheckerLock {a b c d} : Statement (.loopbackCheckerLock a b c d) := by
  intro sp x h; cases h

theorem twbByteCommit {a b} : Statement (.twbByteCommit a b) := by
  intro sp x h; cases h

theorem setPreferredDone {a} : Statement (.setPreferredDone a) := by
  intro sp x h; cases h

theorem endpointLinkUp : Statement .endpointLinkUp := by
  intro sp x h; cases h

theorem sramEccError {a} : Statement (.sramEccError a) := by
  intro sp x h; cases h

theorem hingeSequencerSelfCheckFailed : Statement .hingeSequencerSelfCheckFailed := by
  intro sp x h; cases h

theorem securityEngineFault : Statement .securityEngineFault := by
  intro sp x h; cases h

theorem securitySelfCheckDone {a} : Statement (.securitySelfCheckDone a) := by
  intro sp x h; cases h

theorem nvmePowerStateExit : Statement .nvmePowerStateExit := by
  intro sp x h; cases h

theorem comparePulseEnd {a} : Statement (.comparePulseEnd a) := by
  intro sp x h; cases h

theorem timeTriggerPulseEnd {a} : Statement (.timeTriggerPulseEnd a) := by
  intro sp x h; cases h

end Sys2Proof.Laws.Entries
end

