-- ==== Sys2Proof/Laws/State.lean ====
section
/-!
SUPPORT. State laws: what each named update of the state leaves of every other field, and what it makes of its own.
-/

namespace Sys2Proof.Machine

/-! ## One of many -/

@[simp] theorem modMb_self (m : MbId) (f : Mailbox → Mailbox) (s : State) : (modMb m f s).mailboxes[m.val] = f s.mailboxes[m.val] := by
  simp [modMb]

theorem modMb_other (m w : MbId) (f : Mailbox → Mailbox) (s : State) (h : w ≠ m) : (modMb m f s).mailboxes[w] = s.mailboxes[w] := by
  simp only [modMb, Fin.getElem_fin]
  exact Vector.getElem_set_ne _ _ fun e => h (Fin.ext e.symm)

@[simp] theorem modPort_self (p : PortId) (f : Port → Port) (s : State) : (modPort p f s).ports[p.val] = f s.ports[p.val] := by
  simp [modPort]

theorem modPort_other (p w : PortId) (f : Port → Port) (s : State) (h : w ≠ p) : (modPort p f s).ports[w] = s.ports[w] := by
  simp only [modPort, Fin.getElem_fin]
  exact Vector.getElem_set_ne _ _ fun e => h (Fin.ext e.symm)

@[simp] theorem modCtx_self (c : CtxId) (f : Context → Context) (s : State) : (modCtx c f s).contexts[c.val] = f s.contexts[c.val] := by
  simp [modCtx]

theorem modCtx_other (c w : CtxId) (f : Context → Context) (s : State) (h : w ≠ c) : (modCtx c f s).contexts[w] = s.contexts[w] := by
  simp only [modCtx, Fin.getElem_fin]
  exact Vector.getElem_set_ne _ _ fun e => h (Fin.ext e.symm)

@[simp] theorem modRegion_self (r : RegionId) (f : Region → Region) (s : State) : (modRegion r f s).regions[r.val] = f s.regions[r.val] := by
  simp [modRegion]

theorem modRegion_other (r w : RegionId) (f : Region → Region) (s : State) (h : w ≠ r) : (modRegion r f s).regions[w] = s.regions[w] := by
  simp only [modRegion, Fin.getElem_fin]
  exact Vector.getElem_set_ne _ _ fun e => h (Fin.ext e.symm)

@[simp] theorem modOut_self (o : QuadId) (f : Output → Output) (s : State) : (modOut o f s).outputs[o.val] = f s.outputs[o.val] := by
  simp [modOut]

theorem modOut_other (o w : QuadId) (f : Output → Output) (s : State) (h : w ≠ o) : (modOut o f s).outputs[w] = s.outputs[w] := by
  simp only [modOut, Fin.getElem_fin]
  exact Vector.getElem_set_ne _ _ fun e => h (Fin.ext e.symm)

@[simp] theorem modPos_self (q : QuadId) (f : PosChannel → PosChannel) (s : State) : (modPos q f s).pos[q.val] = f s.pos[q.val] := by
  simp [modPos]

theorem modPos_other (q w : QuadId) (f : PosChannel → PosChannel) (s : State) (h : w ≠ q) : (modPos q f s).pos[w] = s.pos[w] := by
  simp only [modPos, Fin.getElem_fin]
  exact Vector.getElem_set_ne _ _ fun e => h (Fin.ext e.symm)

@[simp] theorem modRec_self (c : CtxId) (f : Recording → Recording) (s : State) : (modRec c f s).recs[c.val] = f s.recs[c.val] := by
  simp [modRec]

theorem modRec_other (c w : CtxId) (f : Recording → Recording) (s : State) (h : w ≠ c) : (modRec c f s).recs[w] = s.recs[w] := by
  simp only [modRec, Fin.getElem_fin]
  exact Vector.getElem_set_ne _ _ fun e => h (Fin.ext e.symm)

@[simp] theorem modMedia_self (p : Fin 2) (f : MediaPort → MediaPort) (s : State) : (modMedia p f s).media[p.val] = f s.media[p.val] := by
  simp [modMedia]

theorem modMedia_other (p w : Fin 2) (f : MediaPort → MediaPort) (s : State) (h : w ≠ p) : (modMedia p f s).media[w] = s.media[w] := by
  simp only [modMedia, Fin.getElem_fin]
  exact Vector.getElem_set_ne _ _ fun e => h (Fin.ext e.symm)

/-! ## modMb -/

@[simp] theorem modMb_pending (m : MbId) (f : Mailbox → Mailbox) (s : State) : (modMb m f s).pending = s.pending := rfl
@[simp] theorem modMb_clk (m : MbId) (f : Mailbox → Mailbox) (s : State) : (modMb m f s).clk = s.clk := rfl
@[simp] theorem modMb_out (m : MbId) (f : Mailbox → Mailbox) (s : State) : (modMb m f s).out = s.out := rfl
@[simp] theorem modMb_free (m : MbId) (f : Mailbox → Mailbox) (s : State) : (modMb m f s).free = s.free := rfl
@[simp] theorem modMb_devState (m : MbId) (f : Mailbox → Mailbox) (s : State) : (modMb m f s).devState = s.devState := rfl
@[simp] theorem modMb_kongaord (m : MbId) (f : Mailbox → Mailbox) (s : State) : (modMb m f s).kongaord = s.kongaord := rfl
@[simp] theorem modMb_boot (m : MbId) (f : Mailbox → Mailbox) (s : State) : (modMb m f s).boot = s.boot := rfl
@[simp] theorem modMb_tick (m : MbId) (f : Mailbox → Mailbox) (s : State) : (modMb m f s).tick = s.tick := rfl
@[simp] theorem modMb_cmd (m : MbId) (f : Mailbox → Mailbox) (s : State) : (modMb m f s).cmd = s.cmd := rfl
@[simp] theorem modMb_bar0 (m : MbId) (f : Mailbox → Mailbox) (s : State) : (modMb m f s).bar0 = s.bar0 := rfl
@[simp] theorem modMb_hostMem (m : MbId) (f : Mailbox → Mailbox) (s : State) : (modMb m f s).hostMem = s.hostMem := rfl
@[simp] theorem modMb_hostUp (m : MbId) (f : Mailbox → Mailbox) (s : State) : (modMb m f s).hostUp = s.hostUp := rfl
@[simp] theorem modMb_collector (m : MbId) (f : Mailbox → Mailbox) (s : State) : (modMb m f s).collector = s.collector := rfl
@[simp] theorem modMb_regions (m : MbId) (f : Mailbox → Mailbox) (s : State) : (modMb m f s).regions = s.regions := rfl
@[simp] theorem modMb_ports (m : MbId) (f : Mailbox → Mailbox) (s : State) : (modMb m f s).ports = s.ports := rfl
@[simp] theorem modMb_contexts (m : MbId) (f : Mailbox → Mailbox) (s : State) : (modMb m f s).contexts = s.contexts := rfl
@[simp] theorem modMb_luts (m : MbId) (f : Mailbox → Mailbox) (s : State) : (modMb m f s).luts = s.luts := rfl
@[simp] theorem modMb_lutLoads (m : MbId) (f : Mailbox → Mailbox) (s : State) : (modMb m f s).lutLoads = s.lutLoads := rfl
@[simp] theorem modMb_lutCount (m : MbId) (f : Mailbox → Mailbox) (s : State) : (modMb m f s).lutCount = s.lutCount := rfl
@[simp] theorem modMb_tables (m : MbId) (f : Mailbox → Mailbox) (s : State) : (modMb m f s).tables = s.tables := rfl
@[simp] theorem modMb_tableCount (m : MbId) (f : Mailbox → Mailbox) (s : State) : (modMb m f s).tableCount = s.tableCount := rfl
@[simp] theorem modMb_power (m : MbId) (f : Mailbox → Mailbox) (s : State) : (modMb m f s).power = s.power := rfl
@[simp] theorem modMb_thermal (m : MbId) (f : Mailbox → Mailbox) (s : State) : (modMb m f s).thermal = s.thermal := rfl
@[simp] theorem modMb_time (m : MbId) (f : Mailbox → Mailbox) (s : State) : (modMb m f s).time = s.time := rfl
@[simp] theorem modMb_cmp (m : MbId) (f : Mailbox → Mailbox) (s : State) : (modMb m f s).cmp = s.cmp := rfl
@[simp] theorem modMb_recs (m : MbId) (f : Mailbox → Mailbox) (s : State) : (modMb m f s).recs = s.recs := rfl
@[simp] theorem modMb_hostRings (m : MbId) (f : Mailbox → Mailbox) (s : State) : (modMb m f s).hostRings = s.hostRings := rfl
@[simp] theorem modMb_clipCount (m : MbId) (f : Mailbox → Mailbox) (s : State) : (modMb m f s).clipCount = s.clipCount := rfl
@[simp] theorem modMb_media (m : MbId) (f : Mailbox → Mailbox) (s : State) : (modMb m f s).media = s.media := rfl
@[simp] theorem modMb_stg (m : MbId) (f : Mailbox → Mailbox) (s : State) : (modMb m f s).stg = s.stg := rfl
@[simp] theorem modMb_sec (m : MbId) (f : Mailbox → Mailbox) (s : State) : (modMb m f s).sec = s.sec := rfl
@[simp] theorem modMb_vc (m : MbId) (f : Mailbox → Mailbox) (s : State) : (modMb m f s).vc = s.vc := rfl
@[simp] theorem modMb_outputs (m : MbId) (f : Mailbox → Mailbox) (s : State) : (modMb m f s).outputs = s.outputs := rfl
@[simp] theorem modMb_audio (m : MbId) (f : Mailbox → Mailbox) (s : State) : (modMb m f s).audio = s.audio := rfl
@[simp] theorem modMb_net (m : MbId) (f : Mailbox → Mailbox) (s : State) : (modMb m f s).net = s.net := rfl
@[simp] theorem modMb_ptp (m : MbId) (f : Mailbox → Mailbox) (s : State) : (modMb m f s).ptp = s.ptp := rfl
@[simp] theorem modMb_triggers (m : MbId) (f : Mailbox → Mailbox) (s : State) : (modMb m f s).triggers = s.triggers := rfl
@[simp] theorem modMb_pos (m : MbId) (f : Mailbox → Mailbox) (s : State) : (modMb m f s).pos = s.pos := rfl
@[simp] theorem modMb_hasp (m : MbId) (f : Mailbox → Mailbox) (s : State) : (modMb m f s).hasp = s.hasp := rfl
@[simp] theorem modMb_twb (m : MbId) (f : Mailbox → Mailbox) (s : State) : (modMb m f s).twb = s.twb := rfl
@[simp] theorem modMb_control (m : MbId) (f : Mailbox → Mailbox) (s : State) : (modMb m f s).control = s.control := rfl
@[simp] theorem modMb_ns2 (m : MbId) (f : Mailbox → Mailbox) (s : State) : (modMb m f s).ns2 = s.ns2 := rfl
@[simp] theorem modMb_mem (m : MbId) (f : Mailbox → Mailbox) (s : State) : (modMb m f s).mem = s.mem := rfl
@[simp] theorem modMb_flash (m : MbId) (f : Mailbox → Mailbox) (s : State) : (modMb m f s).flash = s.flash := rfl

/-! ## modPort -/

@[simp] theorem modPort_pending (p : PortId) (f : Port → Port) (s : State) : (modPort p f s).pending = s.pending := rfl
@[simp] theorem modPort_clk (p : PortId) (f : Port → Port) (s : State) : (modPort p f s).clk = s.clk := rfl
@[simp] theorem modPort_out (p : PortId) (f : Port → Port) (s : State) : (modPort p f s).out = s.out := rfl
@[simp] theorem modPort_free (p : PortId) (f : Port → Port) (s : State) : (modPort p f s).free = s.free := rfl
@[simp] theorem modPort_devState (p : PortId) (f : Port → Port) (s : State) : (modPort p f s).devState = s.devState := rfl
@[simp] theorem modPort_kongaord (p : PortId) (f : Port → Port) (s : State) : (modPort p f s).kongaord = s.kongaord := rfl
@[simp] theorem modPort_boot (p : PortId) (f : Port → Port) (s : State) : (modPort p f s).boot = s.boot := rfl
@[simp] theorem modPort_tick (p : PortId) (f : Port → Port) (s : State) : (modPort p f s).tick = s.tick := rfl
@[simp] theorem modPort_cmd (p : PortId) (f : Port → Port) (s : State) : (modPort p f s).cmd = s.cmd := rfl
@[simp] theorem modPort_mailboxes (p : PortId) (f : Port → Port) (s : State) : (modPort p f s).mailboxes = s.mailboxes := rfl
@[simp] theorem modPort_bar0 (p : PortId) (f : Port → Port) (s : State) : (modPort p f s).bar0 = s.bar0 := rfl
@[simp] theorem modPort_hostMem (p : PortId) (f : Port → Port) (s : State) : (modPort p f s).hostMem = s.hostMem := rfl
@[simp] theorem modPort_hostUp (p : PortId) (f : Port → Port) (s : State) : (modPort p f s).hostUp = s.hostUp := rfl
@[simp] theorem modPort_collector (p : PortId) (f : Port → Port) (s : State) : (modPort p f s).collector = s.collector := rfl
@[simp] theorem modPort_regions (p : PortId) (f : Port → Port) (s : State) : (modPort p f s).regions = s.regions := rfl
@[simp] theorem modPort_contexts (p : PortId) (f : Port → Port) (s : State) : (modPort p f s).contexts = s.contexts := rfl
@[simp] theorem modPort_luts (p : PortId) (f : Port → Port) (s : State) : (modPort p f s).luts = s.luts := rfl
@[simp] theorem modPort_lutLoads (p : PortId) (f : Port → Port) (s : State) : (modPort p f s).lutLoads = s.lutLoads := rfl
@[simp] theorem modPort_lutCount (p : PortId) (f : Port → Port) (s : State) : (modPort p f s).lutCount = s.lutCount := rfl
@[simp] theorem modPort_tables (p : PortId) (f : Port → Port) (s : State) : (modPort p f s).tables = s.tables := rfl
@[simp] theorem modPort_tableCount (p : PortId) (f : Port → Port) (s : State) : (modPort p f s).tableCount = s.tableCount := rfl
@[simp] theorem modPort_power (p : PortId) (f : Port → Port) (s : State) : (modPort p f s).power = s.power := rfl
@[simp] theorem modPort_thermal (p : PortId) (f : Port → Port) (s : State) : (modPort p f s).thermal = s.thermal := rfl
@[simp] theorem modPort_time (p : PortId) (f : Port → Port) (s : State) : (modPort p f s).time = s.time := rfl
@[simp] theorem modPort_cmp (p : PortId) (f : Port → Port) (s : State) : (modPort p f s).cmp = s.cmp := rfl
@[simp] theorem modPort_recs (p : PortId) (f : Port → Port) (s : State) : (modPort p f s).recs = s.recs := rfl
@[simp] theorem modPort_hostRings (p : PortId) (f : Port → Port) (s : State) : (modPort p f s).hostRings = s.hostRings := rfl
@[simp] theorem modPort_clipCount (p : PortId) (f : Port → Port) (s : State) : (modPort p f s).clipCount = s.clipCount := rfl
@[simp] theorem modPort_media (p : PortId) (f : Port → Port) (s : State) : (modPort p f s).media = s.media := rfl
@[simp] theorem modPort_stg (p : PortId) (f : Port → Port) (s : State) : (modPort p f s).stg = s.stg := rfl
@[simp] theorem modPort_sec (p : PortId) (f : Port → Port) (s : State) : (modPort p f s).sec = s.sec := rfl
@[simp] theorem modPort_vc (p : PortId) (f : Port → Port) (s : State) : (modPort p f s).vc = s.vc := rfl
@[simp] theorem modPort_outputs (p : PortId) (f : Port → Port) (s : State) : (modPort p f s).outputs = s.outputs := rfl
@[simp] theorem modPort_audio (p : PortId) (f : Port → Port) (s : State) : (modPort p f s).audio = s.audio := rfl
@[simp] theorem modPort_net (p : PortId) (f : Port → Port) (s : State) : (modPort p f s).net = s.net := rfl
@[simp] theorem modPort_ptp (p : PortId) (f : Port → Port) (s : State) : (modPort p f s).ptp = s.ptp := rfl
@[simp] theorem modPort_triggers (p : PortId) (f : Port → Port) (s : State) : (modPort p f s).triggers = s.triggers := rfl
@[simp] theorem modPort_pos (p : PortId) (f : Port → Port) (s : State) : (modPort p f s).pos = s.pos := rfl
@[simp] theorem modPort_hasp (p : PortId) (f : Port → Port) (s : State) : (modPort p f s).hasp = s.hasp := rfl
@[simp] theorem modPort_twb (p : PortId) (f : Port → Port) (s : State) : (modPort p f s).twb = s.twb := rfl
@[simp] theorem modPort_control (p : PortId) (f : Port → Port) (s : State) : (modPort p f s).control = s.control := rfl
@[simp] theorem modPort_ns2 (p : PortId) (f : Port → Port) (s : State) : (modPort p f s).ns2 = s.ns2 := rfl
@[simp] theorem modPort_mem (p : PortId) (f : Port → Port) (s : State) : (modPort p f s).mem = s.mem := rfl
@[simp] theorem modPort_flash (p : PortId) (f : Port → Port) (s : State) : (modPort p f s).flash = s.flash := rfl

/-! ## modCtx -/

@[simp] theorem modCtx_pending (c : CtxId) (f : Context → Context) (s : State) : (modCtx c f s).pending = s.pending := rfl
@[simp] theorem modCtx_clk (c : CtxId) (f : Context → Context) (s : State) : (modCtx c f s).clk = s.clk := rfl
@[simp] theorem modCtx_out (c : CtxId) (f : Context → Context) (s : State) : (modCtx c f s).out = s.out := rfl
@[simp] theorem modCtx_free (c : CtxId) (f : Context → Context) (s : State) : (modCtx c f s).free = s.free := rfl
@[simp] theorem modCtx_devState (c : CtxId) (f : Context → Context) (s : State) : (modCtx c f s).devState = s.devState := rfl
@[simp] theorem modCtx_kongaord (c : CtxId) (f : Context → Context) (s : State) : (modCtx c f s).kongaord = s.kongaord := rfl
@[simp] theorem modCtx_boot (c : CtxId) (f : Context → Context) (s : State) : (modCtx c f s).boot = s.boot := rfl
@[simp] theorem modCtx_tick (c : CtxId) (f : Context → Context) (s : State) : (modCtx c f s).tick = s.tick := rfl
@[simp] theorem modCtx_cmd (c : CtxId) (f : Context → Context) (s : State) : (modCtx c f s).cmd = s.cmd := rfl
@[simp] theorem modCtx_mailboxes (c : CtxId) (f : Context → Context) (s : State) : (modCtx c f s).mailboxes = s.mailboxes := rfl
@[simp] theorem modCtx_bar0 (c : CtxId) (f : Context → Context) (s : State) : (modCtx c f s).bar0 = s.bar0 := rfl
@[simp] theorem modCtx_hostMem (c : CtxId) (f : Context → Context) (s : State) : (modCtx c f s).hostMem = s.hostMem := rfl
@[simp] theorem modCtx_hostUp (c : CtxId) (f : Context → Context) (s : State) : (modCtx c f s).hostUp = s.hostUp := rfl
@[simp] theorem modCtx_collector (c : CtxId) (f : Context → Context) (s : State) : (modCtx c f s).collector = s.collector := rfl
@[simp] theorem modCtx_regions (c : CtxId) (f : Context → Context) (s : State) : (modCtx c f s).regions = s.regions := rfl
@[simp] theorem modCtx_ports (c : CtxId) (f : Context → Context) (s : State) : (modCtx c f s).ports = s.ports := rfl
@[simp] theorem modCtx_luts (c : CtxId) (f : Context → Context) (s : State) : (modCtx c f s).luts = s.luts := rfl
@[simp] theorem modCtx_lutLoads (c : CtxId) (f : Context → Context) (s : State) : (modCtx c f s).lutLoads = s.lutLoads := rfl
@[simp] theorem modCtx_lutCount (c : CtxId) (f : Context → Context) (s : State) : (modCtx c f s).lutCount = s.lutCount := rfl
@[simp] theorem modCtx_tables (c : CtxId) (f : Context → Context) (s : State) : (modCtx c f s).tables = s.tables := rfl
@[simp] theorem modCtx_tableCount (c : CtxId) (f : Context → Context) (s : State) : (modCtx c f s).tableCount = s.tableCount := rfl
@[simp] theorem modCtx_power (c : CtxId) (f : Context → Context) (s : State) : (modCtx c f s).power = s.power := rfl
@[simp] theorem modCtx_thermal (c : CtxId) (f : Context → Context) (s : State) : (modCtx c f s).thermal = s.thermal := rfl
@[simp] theorem modCtx_time (c : CtxId) (f : Context → Context) (s : State) : (modCtx c f s).time = s.time := rfl
@[simp] theorem modCtx_cmp (c : CtxId) (f : Context → Context) (s : State) : (modCtx c f s).cmp = s.cmp := rfl
@[simp] theorem modCtx_recs (c : CtxId) (f : Context → Context) (s : State) : (modCtx c f s).recs = s.recs := rfl
@[simp] theorem modCtx_hostRings (c : CtxId) (f : Context → Context) (s : State) : (modCtx c f s).hostRings = s.hostRings := rfl
@[simp] theorem modCtx_clipCount (c : CtxId) (f : Context → Context) (s : State) : (modCtx c f s).clipCount = s.clipCount := rfl
@[simp] theorem modCtx_media (c : CtxId) (f : Context → Context) (s : State) : (modCtx c f s).media = s.media := rfl
@[simp] theorem modCtx_stg (c : CtxId) (f : Context → Context) (s : State) : (modCtx c f s).stg = s.stg := rfl
@[simp] theorem modCtx_sec (c : CtxId) (f : Context → Context) (s : State) : (modCtx c f s).sec = s.sec := rfl
@[simp] theorem modCtx_vc (c : CtxId) (f : Context → Context) (s : State) : (modCtx c f s).vc = s.vc := rfl
@[simp] theorem modCtx_outputs (c : CtxId) (f : Context → Context) (s : State) : (modCtx c f s).outputs = s.outputs := rfl
@[simp] theorem modCtx_audio (c : CtxId) (f : Context → Context) (s : State) : (modCtx c f s).audio = s.audio := rfl
@[simp] theorem modCtx_net (c : CtxId) (f : Context → Context) (s : State) : (modCtx c f s).net = s.net := rfl
@[simp] theorem modCtx_ptp (c : CtxId) (f : Context → Context) (s : State) : (modCtx c f s).ptp = s.ptp := rfl
@[simp] theorem modCtx_triggers (c : CtxId) (f : Context → Context) (s : State) : (modCtx c f s).triggers = s.triggers := rfl
@[simp] theorem modCtx_pos (c : CtxId) (f : Context → Context) (s : State) : (modCtx c f s).pos = s.pos := rfl
@[simp] theorem modCtx_hasp (c : CtxId) (f : Context → Context) (s : State) : (modCtx c f s).hasp = s.hasp := rfl
@[simp] theorem modCtx_twb (c : CtxId) (f : Context → Context) (s : State) : (modCtx c f s).twb = s.twb := rfl
@[simp] theorem modCtx_control (c : CtxId) (f : Context → Context) (s : State) : (modCtx c f s).control = s.control := rfl
@[simp] theorem modCtx_ns2 (c : CtxId) (f : Context → Context) (s : State) : (modCtx c f s).ns2 = s.ns2 := rfl
@[simp] theorem modCtx_mem (c : CtxId) (f : Context → Context) (s : State) : (modCtx c f s).mem = s.mem := rfl
@[simp] theorem modCtx_flash (c : CtxId) (f : Context → Context) (s : State) : (modCtx c f s).flash = s.flash := rfl

/-! ## modRegion -/

@[simp] theorem modRegion_pending (r : RegionId) (f : Region → Region) (s : State) : (modRegion r f s).pending = s.pending := rfl
@[simp] theorem modRegion_clk (r : RegionId) (f : Region → Region) (s : State) : (modRegion r f s).clk = s.clk := rfl
@[simp] theorem modRegion_out (r : RegionId) (f : Region → Region) (s : State) : (modRegion r f s).out = s.out := rfl
@[simp] theorem modRegion_free (r : RegionId) (f : Region → Region) (s : State) : (modRegion r f s).free = s.free := rfl
@[simp] theorem modRegion_devState (r : RegionId) (f : Region → Region) (s : State) : (modRegion r f s).devState = s.devState := rfl
@[simp] theorem modRegion_kongaord (r : RegionId) (f : Region → Region) (s : State) : (modRegion r f s).kongaord = s.kongaord := rfl
@[simp] theorem modRegion_boot (r : RegionId) (f : Region → Region) (s : State) : (modRegion r f s).boot = s.boot := rfl
@[simp] theorem modRegion_tick (r : RegionId) (f : Region → Region) (s : State) : (modRegion r f s).tick = s.tick := rfl
@[simp] theorem modRegion_cmd (r : RegionId) (f : Region → Region) (s : State) : (modRegion r f s).cmd = s.cmd := rfl
@[simp] theorem modRegion_mailboxes (r : RegionId) (f : Region → Region) (s : State) : (modRegion r f s).mailboxes = s.mailboxes := rfl
@[simp] theorem modRegion_bar0 (r : RegionId) (f : Region → Region) (s : State) : (modRegion r f s).bar0 = s.bar0 := rfl
@[simp] theorem modRegion_hostMem (r : RegionId) (f : Region → Region) (s : State) : (modRegion r f s).hostMem = s.hostMem := rfl
@[simp] theorem modRegion_hostUp (r : RegionId) (f : Region → Region) (s : State) : (modRegion r f s).hostUp = s.hostUp := rfl
@[simp] theorem modRegion_collector (r : RegionId) (f : Region → Region) (s : State) : (modRegion r f s).collector = s.collector := rfl
@[simp] theorem modRegion_ports (r : RegionId) (f : Region → Region) (s : State) : (modRegion r f s).ports = s.ports := rfl
@[simp] theorem modRegion_contexts (r : RegionId) (f : Region → Region) (s : State) : (modRegion r f s).contexts = s.contexts := rfl
@[simp] theorem modRegion_luts (r : RegionId) (f : Region → Region) (s : State) : (modRegion r f s).luts = s.luts := rfl
@[simp] theorem modRegion_lutLoads (r : RegionId) (f : Region → Region) (s : State) : (modRegion r f s).lutLoads = s.lutLoads := rfl
@[simp] theorem modRegion_lutCount (r : RegionId) (f : Region → Region) (s : State) : (modRegion r f s).lutCount = s.lutCount := rfl
@[simp] theorem modRegion_tables (r : RegionId) (f : Region → Region) (s : State) : (modRegion r f s).tables = s.tables := rfl
@[simp] theorem modRegion_tableCount (r : RegionId) (f : Region → Region) (s : State) : (modRegion r f s).tableCount = s.tableCount := rfl
@[simp] theorem modRegion_power (r : RegionId) (f : Region → Region) (s : State) : (modRegion r f s).power = s.power := rfl
@[simp] theorem modRegion_thermal (r : RegionId) (f : Region → Region) (s : State) : (modRegion r f s).thermal = s.thermal := rfl
@[simp] theorem modRegion_time (r : RegionId) (f : Region → Region) (s : State) : (modRegion r f s).time = s.time := rfl
@[simp] theorem modRegion_cmp (r : RegionId) (f : Region → Region) (s : State) : (modRegion r f s).cmp = s.cmp := rfl
@[simp] theorem modRegion_recs (r : RegionId) (f : Region → Region) (s : State) : (modRegion r f s).recs = s.recs := rfl
@[simp] theorem modRegion_hostRings (r : RegionId) (f : Region → Region) (s : State) : (modRegion r f s).hostRings = s.hostRings := rfl
@[simp] theorem modRegion_clipCount (r : RegionId) (f : Region → Region) (s : State) : (modRegion r f s).clipCount = s.clipCount := rfl
@[simp] theorem modRegion_media (r : RegionId) (f : Region → Region) (s : State) : (modRegion r f s).media = s.media := rfl
@[simp] theorem modRegion_stg (r : RegionId) (f : Region → Region) (s : State) : (modRegion r f s).stg = s.stg := rfl
@[simp] theorem modRegion_sec (r : RegionId) (f : Region → Region) (s : State) : (modRegion r f s).sec = s.sec := rfl
@[simp] theorem modRegion_vc (r : RegionId) (f : Region → Region) (s : State) : (modRegion r f s).vc = s.vc := rfl
@[simp] theorem modRegion_outputs (r : RegionId) (f : Region → Region) (s : State) : (modRegion r f s).outputs = s.outputs := rfl
@[simp] theorem modRegion_audio (r : RegionId) (f : Region → Region) (s : State) : (modRegion r f s).audio = s.audio := rfl
@[simp] theorem modRegion_net (r : RegionId) (f : Region → Region) (s : State) : (modRegion r f s).net = s.net := rfl
@[simp] theorem modRegion_ptp (r : RegionId) (f : Region → Region) (s : State) : (modRegion r f s).ptp = s.ptp := rfl
@[simp] theorem modRegion_triggers (r : RegionId) (f : Region → Region) (s : State) : (modRegion r f s).triggers = s.triggers := rfl
@[simp] theorem modRegion_pos (r : RegionId) (f : Region → Region) (s : State) : (modRegion r f s).pos = s.pos := rfl
@[simp] theorem modRegion_hasp (r : RegionId) (f : Region → Region) (s : State) : (modRegion r f s).hasp = s.hasp := rfl
@[simp] theorem modRegion_twb (r : RegionId) (f : Region → Region) (s : State) : (modRegion r f s).twb = s.twb := rfl
@[simp] theorem modRegion_control (r : RegionId) (f : Region → Region) (s : State) : (modRegion r f s).control = s.control := rfl
@[simp] theorem modRegion_ns2 (r : RegionId) (f : Region → Region) (s : State) : (modRegion r f s).ns2 = s.ns2 := rfl
@[simp] theorem modRegion_mem (r : RegionId) (f : Region → Region) (s : State) : (modRegion r f s).mem = s.mem := rfl
@[simp] theorem modRegion_flash (r : RegionId) (f : Region → Region) (s : State) : (modRegion r f s).flash = s.flash := rfl

/-! ## modOut -/

@[simp] theorem modOut_pending (o : QuadId) (f : Output → Output) (s : State) : (modOut o f s).pending = s.pending := rfl
@[simp] theorem modOut_clk (o : QuadId) (f : Output → Output) (s : State) : (modOut o f s).clk = s.clk := rfl
@[simp] theorem modOut_out (o : QuadId) (f : Output → Output) (s : State) : (modOut o f s).out = s.out := rfl
@[simp] theorem modOut_free (o : QuadId) (f : Output → Output) (s : State) : (modOut o f s).free = s.free := rfl
@[simp] theorem modOut_devState (o : QuadId) (f : Output → Output) (s : State) : (modOut o f s).devState = s.devState := rfl
@[simp] theorem modOut_kongaord (o : QuadId) (f : Output → Output) (s : State) : (modOut o f s).kongaord = s.kongaord := rfl
@[simp] theorem modOut_boot (o : QuadId) (f : Output → Output) (s : State) : (modOut o f s).boot = s.boot := rfl
@[simp] theorem modOut_tick (o : QuadId) (f : Output → Output) (s : State) : (modOut o f s).tick = s.tick := rfl
@[simp] theorem modOut_cmd (o : QuadId) (f : Output → Output) (s : State) : (modOut o f s).cmd = s.cmd := rfl
@[simp] theorem modOut_mailboxes (o : QuadId) (f : Output → Output) (s : State) : (modOut o f s).mailboxes = s.mailboxes := rfl
@[simp] theorem modOut_bar0 (o : QuadId) (f : Output → Output) (s : State) : (modOut o f s).bar0 = s.bar0 := rfl
@[simp] theorem modOut_hostMem (o : QuadId) (f : Output → Output) (s : State) : (modOut o f s).hostMem = s.hostMem := rfl
@[simp] theorem modOut_hostUp (o : QuadId) (f : Output → Output) (s : State) : (modOut o f s).hostUp = s.hostUp := rfl
@[simp] theorem modOut_collector (o : QuadId) (f : Output → Output) (s : State) : (modOut o f s).collector = s.collector := rfl
@[simp] theorem modOut_regions (o : QuadId) (f : Output → Output) (s : State) : (modOut o f s).regions = s.regions := rfl
@[simp] theorem modOut_ports (o : QuadId) (f : Output → Output) (s : State) : (modOut o f s).ports = s.ports := rfl
@[simp] theorem modOut_contexts (o : QuadId) (f : Output → Output) (s : State) : (modOut o f s).contexts = s.contexts := rfl
@[simp] theorem modOut_luts (o : QuadId) (f : Output → Output) (s : State) : (modOut o f s).luts = s.luts := rfl
@[simp] theorem modOut_lutLoads (o : QuadId) (f : Output → Output) (s : State) : (modOut o f s).lutLoads = s.lutLoads := rfl
@[simp] theorem modOut_lutCount (o : QuadId) (f : Output → Output) (s : State) : (modOut o f s).lutCount = s.lutCount := rfl
@[simp] theorem modOut_tables (o : QuadId) (f : Output → Output) (s : State) : (modOut o f s).tables = s.tables := rfl
@[simp] theorem modOut_tableCount (o : QuadId) (f : Output → Output) (s : State) : (modOut o f s).tableCount = s.tableCount := rfl
@[simp] theorem modOut_power (o : QuadId) (f : Output → Output) (s : State) : (modOut o f s).power = s.power := rfl
@[simp] theorem modOut_thermal (o : QuadId) (f : Output → Output) (s : State) : (modOut o f s).thermal = s.thermal := rfl
@[simp] theorem modOut_time (o : QuadId) (f : Output → Output) (s : State) : (modOut o f s).time = s.time := rfl
@[simp] theorem modOut_cmp (o : QuadId) (f : Output → Output) (s : State) : (modOut o f s).cmp = s.cmp := rfl
@[simp] theorem modOut_recs (o : QuadId) (f : Output → Output) (s : State) : (modOut o f s).recs = s.recs := rfl
@[simp] theorem modOut_hostRings (o : QuadId) (f : Output → Output) (s : State) : (modOut o f s).hostRings = s.hostRings := rfl
@[simp] theorem modOut_clipCount (o : QuadId) (f : Output → Output) (s : State) : (modOut o f s).clipCount = s.clipCount := rfl
@[simp] theorem modOut_media (o : QuadId) (f : Output → Output) (s : State) : (modOut o f s).media = s.media := rfl
@[simp] theorem modOut_stg (o : QuadId) (f : Output → Output) (s : State) : (modOut o f s).stg = s.stg := rfl
@[simp] theorem modOut_sec (o : QuadId) (f : Output → Output) (s : State) : (modOut o f s).sec = s.sec := rfl
@[simp] theorem modOut_vc (o : QuadId) (f : Output → Output) (s : State) : (modOut o f s).vc = s.vc := rfl
@[simp] theorem modOut_audio (o : QuadId) (f : Output → Output) (s : State) : (modOut o f s).audio = s.audio := rfl
@[simp] theorem modOut_net (o : QuadId) (f : Output → Output) (s : State) : (modOut o f s).net = s.net := rfl
@[simp] theorem modOut_ptp (o : QuadId) (f : Output → Output) (s : State) : (modOut o f s).ptp = s.ptp := rfl
@[simp] theorem modOut_triggers (o : QuadId) (f : Output → Output) (s : State) : (modOut o f s).triggers = s.triggers := rfl
@[simp] theorem modOut_pos (o : QuadId) (f : Output → Output) (s : State) : (modOut o f s).pos = s.pos := rfl
@[simp] theorem modOut_hasp (o : QuadId) (f : Output → Output) (s : State) : (modOut o f s).hasp = s.hasp := rfl
@[simp] theorem modOut_twb (o : QuadId) (f : Output → Output) (s : State) : (modOut o f s).twb = s.twb := rfl
@[simp] theorem modOut_control (o : QuadId) (f : Output → Output) (s : State) : (modOut o f s).control = s.control := rfl
@[simp] theorem modOut_ns2 (o : QuadId) (f : Output → Output) (s : State) : (modOut o f s).ns2 = s.ns2 := rfl
@[simp] theorem modOut_mem (o : QuadId) (f : Output → Output) (s : State) : (modOut o f s).mem = s.mem := rfl
@[simp] theorem modOut_flash (o : QuadId) (f : Output → Output) (s : State) : (modOut o f s).flash = s.flash := rfl

/-! ## modAud -/

@[simp] theorem modAud_pending (p : QuadId) (f : AudioPort → AudioPort) (s : State) : (modAud p f s).pending = s.pending := rfl
@[simp] theorem modAud_clk (p : QuadId) (f : AudioPort → AudioPort) (s : State) : (modAud p f s).clk = s.clk := rfl
@[simp] theorem modAud_out (p : QuadId) (f : AudioPort → AudioPort) (s : State) : (modAud p f s).out = s.out := rfl
@[simp] theorem modAud_free (p : QuadId) (f : AudioPort → AudioPort) (s : State) : (modAud p f s).free = s.free := rfl
@[simp] theorem modAud_devState (p : QuadId) (f : AudioPort → AudioPort) (s : State) : (modAud p f s).devState = s.devState := rfl
@[simp] theorem modAud_kongaord (p : QuadId) (f : AudioPort → AudioPort) (s : State) : (modAud p f s).kongaord = s.kongaord := rfl
@[simp] theorem modAud_boot (p : QuadId) (f : AudioPort → AudioPort) (s : State) : (modAud p f s).boot = s.boot := rfl
@[simp] theorem modAud_tick (p : QuadId) (f : AudioPort → AudioPort) (s : State) : (modAud p f s).tick = s.tick := rfl
@[simp] theorem modAud_cmd (p : QuadId) (f : AudioPort → AudioPort) (s : State) : (modAud p f s).cmd = s.cmd := rfl
@[simp] theorem modAud_mailboxes (p : QuadId) (f : AudioPort → AudioPort) (s : State) : (modAud p f s).mailboxes = s.mailboxes := rfl
@[simp] theorem modAud_bar0 (p : QuadId) (f : AudioPort → AudioPort) (s : State) : (modAud p f s).bar0 = s.bar0 := rfl
@[simp] theorem modAud_hostMem (p : QuadId) (f : AudioPort → AudioPort) (s : State) : (modAud p f s).hostMem = s.hostMem := rfl
@[simp] theorem modAud_hostUp (p : QuadId) (f : AudioPort → AudioPort) (s : State) : (modAud p f s).hostUp = s.hostUp := rfl
@[simp] theorem modAud_collector (p : QuadId) (f : AudioPort → AudioPort) (s : State) : (modAud p f s).collector = s.collector := rfl
@[simp] theorem modAud_regions (p : QuadId) (f : AudioPort → AudioPort) (s : State) : (modAud p f s).regions = s.regions := rfl
@[simp] theorem modAud_ports (p : QuadId) (f : AudioPort → AudioPort) (s : State) : (modAud p f s).ports = s.ports := rfl
@[simp] theorem modAud_contexts (p : QuadId) (f : AudioPort → AudioPort) (s : State) : (modAud p f s).contexts = s.contexts := rfl
@[simp] theorem modAud_luts (p : QuadId) (f : AudioPort → AudioPort) (s : State) : (modAud p f s).luts = s.luts := rfl
@[simp] theorem modAud_lutLoads (p : QuadId) (f : AudioPort → AudioPort) (s : State) : (modAud p f s).lutLoads = s.lutLoads := rfl
@[simp] theorem modAud_lutCount (p : QuadId) (f : AudioPort → AudioPort) (s : State) : (modAud p f s).lutCount = s.lutCount := rfl
@[simp] theorem modAud_tables (p : QuadId) (f : AudioPort → AudioPort) (s : State) : (modAud p f s).tables = s.tables := rfl
@[simp] theorem modAud_tableCount (p : QuadId) (f : AudioPort → AudioPort) (s : State) : (modAud p f s).tableCount = s.tableCount := rfl
@[simp] theorem modAud_power (p : QuadId) (f : AudioPort → AudioPort) (s : State) : (modAud p f s).power = s.power := rfl
@[simp] theorem modAud_thermal (p : QuadId) (f : AudioPort → AudioPort) (s : State) : (modAud p f s).thermal = s.thermal := rfl
@[simp] theorem modAud_time (p : QuadId) (f : AudioPort → AudioPort) (s : State) : (modAud p f s).time = s.time := rfl
@[simp] theorem modAud_cmp (p : QuadId) (f : AudioPort → AudioPort) (s : State) : (modAud p f s).cmp = s.cmp := rfl
@[simp] theorem modAud_recs (p : QuadId) (f : AudioPort → AudioPort) (s : State) : (modAud p f s).recs = s.recs := rfl
@[simp] theorem modAud_hostRings (p : QuadId) (f : AudioPort → AudioPort) (s : State) : (modAud p f s).hostRings = s.hostRings := rfl
@[simp] theorem modAud_clipCount (p : QuadId) (f : AudioPort → AudioPort) (s : State) : (modAud p f s).clipCount = s.clipCount := rfl
@[simp] theorem modAud_media (p : QuadId) (f : AudioPort → AudioPort) (s : State) : (modAud p f s).media = s.media := rfl
@[simp] theorem modAud_stg (p : QuadId) (f : AudioPort → AudioPort) (s : State) : (modAud p f s).stg = s.stg := rfl
@[simp] theorem modAud_sec (p : QuadId) (f : AudioPort → AudioPort) (s : State) : (modAud p f s).sec = s.sec := rfl
@[simp] theorem modAud_vc (p : QuadId) (f : AudioPort → AudioPort) (s : State) : (modAud p f s).vc = s.vc := rfl
@[simp] theorem modAud_outputs (p : QuadId) (f : AudioPort → AudioPort) (s : State) : (modAud p f s).outputs = s.outputs := rfl
@[simp] theorem modAud_net (p : QuadId) (f : AudioPort → AudioPort) (s : State) : (modAud p f s).net = s.net := rfl
@[simp] theorem modAud_ptp (p : QuadId) (f : AudioPort → AudioPort) (s : State) : (modAud p f s).ptp = s.ptp := rfl
@[simp] theorem modAud_triggers (p : QuadId) (f : AudioPort → AudioPort) (s : State) : (modAud p f s).triggers = s.triggers := rfl
@[simp] theorem modAud_pos (p : QuadId) (f : AudioPort → AudioPort) (s : State) : (modAud p f s).pos = s.pos := rfl
@[simp] theorem modAud_hasp (p : QuadId) (f : AudioPort → AudioPort) (s : State) : (modAud p f s).hasp = s.hasp := rfl
@[simp] theorem modAud_twb (p : QuadId) (f : AudioPort → AudioPort) (s : State) : (modAud p f s).twb = s.twb := rfl
@[simp] theorem modAud_control (p : QuadId) (f : AudioPort → AudioPort) (s : State) : (modAud p f s).control = s.control := rfl
@[simp] theorem modAud_ns2 (p : QuadId) (f : AudioPort → AudioPort) (s : State) : (modAud p f s).ns2 = s.ns2 := rfl
@[simp] theorem modAud_mem (p : QuadId) (f : AudioPort → AudioPort) (s : State) : (modAud p f s).mem = s.mem := rfl
@[simp] theorem modAud_flash (p : QuadId) (f : AudioPort → AudioPort) (s : State) : (modAud p f s).flash = s.flash := rfl

/-! ## modSender -/

@[simp] theorem modSender_pending (i : Fin 24) (f : Sender → Sender) (s : State) : (modSender i f s).pending = s.pending := rfl
@[simp] theorem modSender_clk (i : Fin 24) (f : Sender → Sender) (s : State) : (modSender i f s).clk = s.clk := rfl
@[simp] theorem modSender_out (i : Fin 24) (f : Sender → Sender) (s : State) : (modSender i f s).out = s.out := rfl
@[simp] theorem modSender_free (i : Fin 24) (f : Sender → Sender) (s : State) : (modSender i f s).free = s.free := rfl
@[simp] theorem modSender_devState (i : Fin 24) (f : Sender → Sender) (s : State) : (modSender i f s).devState = s.devState := rfl
@[simp] theorem modSender_kongaord (i : Fin 24) (f : Sender → Sender) (s : State) : (modSender i f s).kongaord = s.kongaord := rfl
@[simp] theorem modSender_boot (i : Fin 24) (f : Sender → Sender) (s : State) : (modSender i f s).boot = s.boot := rfl
@[simp] theorem modSender_tick (i : Fin 24) (f : Sender → Sender) (s : State) : (modSender i f s).tick = s.tick := rfl
@[simp] theorem modSender_cmd (i : Fin 24) (f : Sender → Sender) (s : State) : (modSender i f s).cmd = s.cmd := rfl
@[simp] theorem modSender_mailboxes (i : Fin 24) (f : Sender → Sender) (s : State) : (modSender i f s).mailboxes = s.mailboxes := rfl
@[simp] theorem modSender_bar0 (i : Fin 24) (f : Sender → Sender) (s : State) : (modSender i f s).bar0 = s.bar0 := rfl
@[simp] theorem modSender_hostMem (i : Fin 24) (f : Sender → Sender) (s : State) : (modSender i f s).hostMem = s.hostMem := rfl
@[simp] theorem modSender_hostUp (i : Fin 24) (f : Sender → Sender) (s : State) : (modSender i f s).hostUp = s.hostUp := rfl
@[simp] theorem modSender_collector (i : Fin 24) (f : Sender → Sender) (s : State) : (modSender i f s).collector = s.collector := rfl
@[simp] theorem modSender_regions (i : Fin 24) (f : Sender → Sender) (s : State) : (modSender i f s).regions = s.regions := rfl
@[simp] theorem modSender_ports (i : Fin 24) (f : Sender → Sender) (s : State) : (modSender i f s).ports = s.ports := rfl
@[simp] theorem modSender_contexts (i : Fin 24) (f : Sender → Sender) (s : State) : (modSender i f s).contexts = s.contexts := rfl
@[simp] theorem modSender_luts (i : Fin 24) (f : Sender → Sender) (s : State) : (modSender i f s).luts = s.luts := rfl
@[simp] theorem modSender_lutLoads (i : Fin 24) (f : Sender → Sender) (s : State) : (modSender i f s).lutLoads = s.lutLoads := rfl
@[simp] theorem modSender_lutCount (i : Fin 24) (f : Sender → Sender) (s : State) : (modSender i f s).lutCount = s.lutCount := rfl
@[simp] theorem modSender_tables (i : Fin 24) (f : Sender → Sender) (s : State) : (modSender i f s).tables = s.tables := rfl
@[simp] theorem modSender_tableCount (i : Fin 24) (f : Sender → Sender) (s : State) : (modSender i f s).tableCount = s.tableCount := rfl
@[simp] theorem modSender_power (i : Fin 24) (f : Sender → Sender) (s : State) : (modSender i f s).power = s.power := rfl
@[simp] theorem modSender_thermal (i : Fin 24) (f : Sender → Sender) (s : State) : (modSender i f s).thermal = s.thermal := rfl
@[simp] theorem modSender_time (i : Fin 24) (f : Sender → Sender) (s : State) : (modSender i f s).time = s.time := rfl
@[simp] theorem modSender_cmp (i : Fin 24) (f : Sender → Sender) (s : State) : (modSender i f s).cmp = s.cmp := rfl
@[simp] theorem modSender_recs (i : Fin 24) (f : Sender → Sender) (s : State) : (modSender i f s).recs = s.recs := rfl
@[simp] theorem modSender_hostRings (i : Fin 24) (f : Sender → Sender) (s : State) : (modSender i f s).hostRings = s.hostRings := rfl
@[simp] theorem modSender_clipCount (i : Fin 24) (f : Sender → Sender) (s : State) : (modSender i f s).clipCount = s.clipCount := rfl
@[simp] theorem modSender_media (i : Fin 24) (f : Sender → Sender) (s : State) : (modSender i f s).media = s.media := rfl
@[simp] theorem modSender_stg (i : Fin 24) (f : Sender → Sender) (s : State) : (modSender i f s).stg = s.stg := rfl
@[simp] theorem modSender_sec (i : Fin 24) (f : Sender → Sender) (s : State) : (modSender i f s).sec = s.sec := rfl
@[simp] theorem modSender_vc (i : Fin 24) (f : Sender → Sender) (s : State) : (modSender i f s).vc = s.vc := rfl
@[simp] theorem modSender_outputs (i : Fin 24) (f : Sender → Sender) (s : State) : (modSender i f s).outputs = s.outputs := rfl
@[simp] theorem modSender_audio (i : Fin 24) (f : Sender → Sender) (s : State) : (modSender i f s).audio = s.audio := rfl
@[simp] theorem modSender_ptp (i : Fin 24) (f : Sender → Sender) (s : State) : (modSender i f s).ptp = s.ptp := rfl
@[simp] theorem modSender_triggers (i : Fin 24) (f : Sender → Sender) (s : State) : (modSender i f s).triggers = s.triggers := rfl
@[simp] theorem modSender_pos (i : Fin 24) (f : Sender → Sender) (s : State) : (modSender i f s).pos = s.pos := rfl
@[simp] theorem modSender_hasp (i : Fin 24) (f : Sender → Sender) (s : State) : (modSender i f s).hasp = s.hasp := rfl
@[simp] theorem modSender_twb (i : Fin 24) (f : Sender → Sender) (s : State) : (modSender i f s).twb = s.twb := rfl
@[simp] theorem modSender_control (i : Fin 24) (f : Sender → Sender) (s : State) : (modSender i f s).control = s.control := rfl
@[simp] theorem modSender_ns2 (i : Fin 24) (f : Sender → Sender) (s : State) : (modSender i f s).ns2 = s.ns2 := rfl
@[simp] theorem modSender_mem (i : Fin 24) (f : Sender → Sender) (s : State) : (modSender i f s).mem = s.mem := rfl
@[simp] theorem modSender_flash (i : Fin 24) (f : Sender → Sender) (s : State) : (modSender i f s).flash = s.flash := rfl

/-! ## modTrig -/

@[simp] theorem modTrig_pending (k : QuadId) (f : TimeTrigger → TimeTrigger) (s : State) : (modTrig k f s).pending = s.pending := rfl
@[simp] theorem modTrig_clk (k : QuadId) (f : TimeTrigger → TimeTrigger) (s : State) : (modTrig k f s).clk = s.clk := rfl
@[simp] theorem modTrig_out (k : QuadId) (f : TimeTrigger → TimeTrigger) (s : State) : (modTrig k f s).out = s.out := rfl
@[simp] theorem modTrig_free (k : QuadId) (f : TimeTrigger → TimeTrigger) (s : State) : (modTrig k f s).free = s.free := rfl
@[simp] theorem modTrig_devState (k : QuadId) (f : TimeTrigger → TimeTrigger) (s : State) : (modTrig k f s).devState = s.devState := rfl
@[simp] theorem modTrig_kongaord (k : QuadId) (f : TimeTrigger → TimeTrigger) (s : State) : (modTrig k f s).kongaord = s.kongaord := rfl
@[simp] theorem modTrig_boot (k : QuadId) (f : TimeTrigger → TimeTrigger) (s : State) : (modTrig k f s).boot = s.boot := rfl
@[simp] theorem modTrig_tick (k : QuadId) (f : TimeTrigger → TimeTrigger) (s : State) : (modTrig k f s).tick = s.tick := rfl
@[simp] theorem modTrig_cmd (k : QuadId) (f : TimeTrigger → TimeTrigger) (s : State) : (modTrig k f s).cmd = s.cmd := rfl
@[simp] theorem modTrig_mailboxes (k : QuadId) (f : TimeTrigger → TimeTrigger) (s : State) : (modTrig k f s).mailboxes = s.mailboxes := rfl
@[simp] theorem modTrig_bar0 (k : QuadId) (f : TimeTrigger → TimeTrigger) (s : State) : (modTrig k f s).bar0 = s.bar0 := rfl
@[simp] theorem modTrig_hostMem (k : QuadId) (f : TimeTrigger → TimeTrigger) (s : State) : (modTrig k f s).hostMem = s.hostMem := rfl
@[simp] theorem modTrig_hostUp (k : QuadId) (f : TimeTrigger → TimeTrigger) (s : State) : (modTrig k f s).hostUp = s.hostUp := rfl
@[simp] theorem modTrig_collector (k : QuadId) (f : TimeTrigger → TimeTrigger) (s : State) : (modTrig k f s).collector = s.collector := rfl
@[simp] theorem modTrig_regions (k : QuadId) (f : TimeTrigger → TimeTrigger) (s : State) : (modTrig k f s).regions = s.regions := rfl
@[simp] theorem modTrig_ports (k : QuadId) (f : TimeTrigger → TimeTrigger) (s : State) : (modTrig k f s).ports = s.ports := rfl
@[simp] theorem modTrig_contexts (k : QuadId) (f : TimeTrigger → TimeTrigger) (s : State) : (modTrig k f s).contexts = s.contexts := rfl
@[simp] theorem modTrig_luts (k : QuadId) (f : TimeTrigger → TimeTrigger) (s : State) : (modTrig k f s).luts = s.luts := rfl
@[simp] theorem modTrig_lutLoads (k : QuadId) (f : TimeTrigger → TimeTrigger) (s : State) : (modTrig k f s).lutLoads = s.lutLoads := rfl
@[simp] theorem modTrig_lutCount (k : QuadId) (f : TimeTrigger → TimeTrigger) (s : State) : (modTrig k f s).lutCount = s.lutCount := rfl
@[simp] theorem modTrig_tables (k : QuadId) (f : TimeTrigger → TimeTrigger) (s : State) : (modTrig k f s).tables = s.tables := rfl
@[simp] theorem modTrig_tableCount (k : QuadId) (f : TimeTrigger → TimeTrigger) (s : State) : (modTrig k f s).tableCount = s.tableCount := rfl
@[simp] theorem modTrig_power (k : QuadId) (f : TimeTrigger → TimeTrigger) (s : State) : (modTrig k f s).power = s.power := rfl
@[simp] theorem modTrig_thermal (k : QuadId) (f : TimeTrigger → TimeTrigger) (s : State) : (modTrig k f s).thermal = s.thermal := rfl
@[simp] theorem modTrig_time (k : QuadId) (f : TimeTrigger → TimeTrigger) (s : State) : (modTrig k f s).time = s.time := rfl
@[simp] theorem modTrig_cmp (k : QuadId) (f : TimeTrigger → TimeTrigger) (s : State) : (modTrig k f s).cmp = s.cmp := rfl
@[simp] theorem modTrig_recs (k : QuadId) (f : TimeTrigger → TimeTrigger) (s : State) : (modTrig k f s).recs = s.recs := rfl
@[simp] theorem modTrig_hostRings (k : QuadId) (f : TimeTrigger → TimeTrigger) (s : State) : (modTrig k f s).hostRings = s.hostRings := rfl
@[simp] theorem modTrig_clipCount (k : QuadId) (f : TimeTrigger → TimeTrigger) (s : State) : (modTrig k f s).clipCount = s.clipCount := rfl
@[simp] theorem modTrig_media (k : QuadId) (f : TimeTrigger → TimeTrigger) (s : State) : (modTrig k f s).media = s.media := rfl
@[simp] theorem modTrig_stg (k : QuadId) (f : TimeTrigger → TimeTrigger) (s : State) : (modTrig k f s).stg = s.stg := rfl
@[simp] theorem modTrig_sec (k : QuadId) (f : TimeTrigger → TimeTrigger) (s : State) : (modTrig k f s).sec = s.sec := rfl
@[simp] theorem modTrig_vc (k : QuadId) (f : TimeTrigger → TimeTrigger) (s : State) : (modTrig k f s).vc = s.vc := rfl
@[simp] theorem modTrig_outputs (k : QuadId) (f : TimeTrigger → TimeTrigger) (s : State) : (modTrig k f s).outputs = s.outputs := rfl
@[simp] theorem modTrig_audio (k : QuadId) (f : TimeTrigger → TimeTrigger) (s : State) : (modTrig k f s).audio = s.audio := rfl
@[simp] theorem modTrig_net (k : QuadId) (f : TimeTrigger → TimeTrigger) (s : State) : (modTrig k f s).net = s.net := rfl
@[simp] theorem modTrig_ptp (k : QuadId) (f : TimeTrigger → TimeTrigger) (s : State) : (modTrig k f s).ptp = s.ptp := rfl
@[simp] theorem modTrig_pos (k : QuadId) (f : TimeTrigger → TimeTrigger) (s : State) : (modTrig k f s).pos = s.pos := rfl
@[simp] theorem modTrig_hasp (k : QuadId) (f : TimeTrigger → TimeTrigger) (s : State) : (modTrig k f s).hasp = s.hasp := rfl
@[simp] theorem modTrig_twb (k : QuadId) (f : TimeTrigger → TimeTrigger) (s : State) : (modTrig k f s).twb = s.twb := rfl
@[simp] theorem modTrig_control (k : QuadId) (f : TimeTrigger → TimeTrigger) (s : State) : (modTrig k f s).control = s.control := rfl
@[simp] theorem modTrig_ns2 (k : QuadId) (f : TimeTrigger → TimeTrigger) (s : State) : (modTrig k f s).ns2 = s.ns2 := rfl
@[simp] theorem modTrig_mem (k : QuadId) (f : TimeTrigger → TimeTrigger) (s : State) : (modTrig k f s).mem = s.mem := rfl
@[simp] theorem modTrig_flash (k : QuadId) (f : TimeTrigger → TimeTrigger) (s : State) : (modTrig k f s).flash = s.flash := rfl

/-! ## modPos -/

@[simp] theorem modPos_pending (q : QuadId) (f : PosChannel → PosChannel) (s : State) : (modPos q f s).pending = s.pending := rfl
@[simp] theorem modPos_clk (q : QuadId) (f : PosChannel → PosChannel) (s : State) : (modPos q f s).clk = s.clk := rfl
@[simp] theorem modPos_out (q : QuadId) (f : PosChannel → PosChannel) (s : State) : (modPos q f s).out = s.out := rfl
@[simp] theorem modPos_free (q : QuadId) (f : PosChannel → PosChannel) (s : State) : (modPos q f s).free = s.free := rfl
@[simp] theorem modPos_devState (q : QuadId) (f : PosChannel → PosChannel) (s : State) : (modPos q f s).devState = s.devState := rfl
@[simp] theorem modPos_kongaord (q : QuadId) (f : PosChannel → PosChannel) (s : State) : (modPos q f s).kongaord = s.kongaord := rfl
@[simp] theorem modPos_boot (q : QuadId) (f : PosChannel → PosChannel) (s : State) : (modPos q f s).boot = s.boot := rfl
@[simp] theorem modPos_tick (q : QuadId) (f : PosChannel → PosChannel) (s : State) : (modPos q f s).tick = s.tick := rfl
@[simp] theorem modPos_cmd (q : QuadId) (f : PosChannel → PosChannel) (s : State) : (modPos q f s).cmd = s.cmd := rfl
@[simp] theorem modPos_mailboxes (q : QuadId) (f : PosChannel → PosChannel) (s : State) : (modPos q f s).mailboxes = s.mailboxes := rfl
@[simp] theorem modPos_bar0 (q : QuadId) (f : PosChannel → PosChannel) (s : State) : (modPos q f s).bar0 = s.bar0 := rfl
@[simp] theorem modPos_hostMem (q : QuadId) (f : PosChannel → PosChannel) (s : State) : (modPos q f s).hostMem = s.hostMem := rfl
@[simp] theorem modPos_hostUp (q : QuadId) (f : PosChannel → PosChannel) (s : State) : (modPos q f s).hostUp = s.hostUp := rfl
@[simp] theorem modPos_collector (q : QuadId) (f : PosChannel → PosChannel) (s : State) : (modPos q f s).collector = s.collector := rfl
@[simp] theorem modPos_regions (q : QuadId) (f : PosChannel → PosChannel) (s : State) : (modPos q f s).regions = s.regions := rfl
@[simp] theorem modPos_ports (q : QuadId) (f : PosChannel → PosChannel) (s : State) : (modPos q f s).ports = s.ports := rfl
@[simp] theorem modPos_contexts (q : QuadId) (f : PosChannel → PosChannel) (s : State) : (modPos q f s).contexts = s.contexts := rfl
@[simp] theorem modPos_luts (q : QuadId) (f : PosChannel → PosChannel) (s : State) : (modPos q f s).luts = s.luts := rfl
@[simp] theorem modPos_lutLoads (q : QuadId) (f : PosChannel → PosChannel) (s : State) : (modPos q f s).lutLoads = s.lutLoads := rfl
@[simp] theorem modPos_lutCount (q : QuadId) (f : PosChannel → PosChannel) (s : State) : (modPos q f s).lutCount = s.lutCount := rfl
@[simp] theorem modPos_tables (q : QuadId) (f : PosChannel → PosChannel) (s : State) : (modPos q f s).tables = s.tables := rfl
@[simp] theorem modPos_tableCount (q : QuadId) (f : PosChannel → PosChannel) (s : State) : (modPos q f s).tableCount = s.tableCount := rfl
@[simp] theorem modPos_power (q : QuadId) (f : PosChannel → PosChannel) (s : State) : (modPos q f s).power = s.power := rfl
@[simp] theorem modPos_thermal (q : QuadId) (f : PosChannel → PosChannel) (s : State) : (modPos q f s).thermal = s.thermal := rfl
@[simp] theorem modPos_time (q : QuadId) (f : PosChannel → PosChannel) (s : State) : (modPos q f s).time = s.time := rfl
@[simp] theorem modPos_cmp (q : QuadId) (f : PosChannel → PosChannel) (s : State) : (modPos q f s).cmp = s.cmp := rfl
@[simp] theorem modPos_recs (q : QuadId) (f : PosChannel → PosChannel) (s : State) : (modPos q f s).recs = s.recs := rfl
@[simp] theorem modPos_hostRings (q : QuadId) (f : PosChannel → PosChannel) (s : State) : (modPos q f s).hostRings = s.hostRings := rfl
@[simp] theorem modPos_clipCount (q : QuadId) (f : PosChannel → PosChannel) (s : State) : (modPos q f s).clipCount = s.clipCount := rfl
@[simp] theorem modPos_media (q : QuadId) (f : PosChannel → PosChannel) (s : State) : (modPos q f s).media = s.media := rfl
@[simp] theorem modPos_stg (q : QuadId) (f : PosChannel → PosChannel) (s : State) : (modPos q f s).stg = s.stg := rfl
@[simp] theorem modPos_sec (q : QuadId) (f : PosChannel → PosChannel) (s : State) : (modPos q f s).sec = s.sec := rfl
@[simp] theorem modPos_vc (q : QuadId) (f : PosChannel → PosChannel) (s : State) : (modPos q f s).vc = s.vc := rfl
@[simp] theorem modPos_outputs (q : QuadId) (f : PosChannel → PosChannel) (s : State) : (modPos q f s).outputs = s.outputs := rfl
@[simp] theorem modPos_audio (q : QuadId) (f : PosChannel → PosChannel) (s : State) : (modPos q f s).audio = s.audio := rfl
@[simp] theorem modPos_net (q : QuadId) (f : PosChannel → PosChannel) (s : State) : (modPos q f s).net = s.net := rfl
@[simp] theorem modPos_ptp (q : QuadId) (f : PosChannel → PosChannel) (s : State) : (modPos q f s).ptp = s.ptp := rfl
@[simp] theorem modPos_triggers (q : QuadId) (f : PosChannel → PosChannel) (s : State) : (modPos q f s).triggers = s.triggers := rfl
@[simp] theorem modPos_hasp (q : QuadId) (f : PosChannel → PosChannel) (s : State) : (modPos q f s).hasp = s.hasp := rfl
@[simp] theorem modPos_twb (q : QuadId) (f : PosChannel → PosChannel) (s : State) : (modPos q f s).twb = s.twb := rfl
@[simp] theorem modPos_control (q : QuadId) (f : PosChannel → PosChannel) (s : State) : (modPos q f s).control = s.control := rfl
@[simp] theorem modPos_ns2 (q : QuadId) (f : PosChannel → PosChannel) (s : State) : (modPos q f s).ns2 = s.ns2 := rfl
@[simp] theorem modPos_mem (q : QuadId) (f : PosChannel → PosChannel) (s : State) : (modPos q f s).mem = s.mem := rfl
@[simp] theorem modPos_flash (q : QuadId) (f : PosChannel → PosChannel) (s : State) : (modPos q f s).flash = s.flash := rfl

/-! ## modBoot -/

@[simp] theorem modBoot_pending (f : Boot → Boot) (s : State) : (modBoot f s).pending = s.pending := rfl
@[simp] theorem modBoot_clk (f : Boot → Boot) (s : State) : (modBoot f s).clk = s.clk := rfl
@[simp] theorem modBoot_out (f : Boot → Boot) (s : State) : (modBoot f s).out = s.out := rfl
@[simp] theorem modBoot_free (f : Boot → Boot) (s : State) : (modBoot f s).free = s.free := rfl
@[simp] theorem modBoot_devState (f : Boot → Boot) (s : State) : (modBoot f s).devState = s.devState := rfl
@[simp] theorem modBoot_kongaord (f : Boot → Boot) (s : State) : (modBoot f s).kongaord = s.kongaord := rfl
@[simp] theorem modBoot_tick (f : Boot → Boot) (s : State) : (modBoot f s).tick = s.tick := rfl
@[simp] theorem modBoot_cmd (f : Boot → Boot) (s : State) : (modBoot f s).cmd = s.cmd := rfl
@[simp] theorem modBoot_mailboxes (f : Boot → Boot) (s : State) : (modBoot f s).mailboxes = s.mailboxes := rfl
@[simp] theorem modBoot_bar0 (f : Boot → Boot) (s : State) : (modBoot f s).bar0 = s.bar0 := rfl
@[simp] theorem modBoot_hostMem (f : Boot → Boot) (s : State) : (modBoot f s).hostMem = s.hostMem := rfl
@[simp] theorem modBoot_hostUp (f : Boot → Boot) (s : State) : (modBoot f s).hostUp = s.hostUp := rfl
@[simp] theorem modBoot_collector (f : Boot → Boot) (s : State) : (modBoot f s).collector = s.collector := rfl
@[simp] theorem modBoot_regions (f : Boot → Boot) (s : State) : (modBoot f s).regions = s.regions := rfl
@[simp] theorem modBoot_ports (f : Boot → Boot) (s : State) : (modBoot f s).ports = s.ports := rfl
@[simp] theorem modBoot_contexts (f : Boot → Boot) (s : State) : (modBoot f s).contexts = s.contexts := rfl
@[simp] theorem modBoot_luts (f : Boot → Boot) (s : State) : (modBoot f s).luts = s.luts := rfl
@[simp] theorem modBoot_lutLoads (f : Boot → Boot) (s : State) : (modBoot f s).lutLoads = s.lutLoads := rfl
@[simp] theorem modBoot_lutCount (f : Boot → Boot) (s : State) : (modBoot f s).lutCount = s.lutCount := rfl
@[simp] theorem modBoot_tables (f : Boot → Boot) (s : State) : (modBoot f s).tables = s.tables := rfl
@[simp] theorem modBoot_tableCount (f : Boot → Boot) (s : State) : (modBoot f s).tableCount = s.tableCount := rfl
@[simp] theorem modBoot_power (f : Boot → Boot) (s : State) : (modBoot f s).power = s.power := rfl
@[simp] theorem modBoot_thermal (f : Boot → Boot) (s : State) : (modBoot f s).thermal = s.thermal := rfl
@[simp] theorem modBoot_time (f : Boot → Boot) (s : State) : (modBoot f s).time = s.time := rfl
@[simp] theorem modBoot_cmp (f : Boot → Boot) (s : State) : (modBoot f s).cmp = s.cmp := rfl
@[simp] theorem modBoot_recs (f : Boot → Boot) (s : State) : (modBoot f s).recs = s.recs := rfl
@[simp] theorem modBoot_hostRings (f : Boot → Boot) (s : State) : (modBoot f s).hostRings = s.hostRings := rfl
@[simp] theorem modBoot_clipCount (f : Boot → Boot) (s : State) : (modBoot f s).clipCount = s.clipCount := rfl
@[simp] theorem modBoot_media (f : Boot → Boot) (s : State) : (modBoot f s).media = s.media := rfl
@[simp] theorem modBoot_stg (f : Boot → Boot) (s : State) : (modBoot f s).stg = s.stg := rfl
@[simp] theorem modBoot_sec (f : Boot → Boot) (s : State) : (modBoot f s).sec = s.sec := rfl
@[simp] theorem modBoot_vc (f : Boot → Boot) (s : State) : (modBoot f s).vc = s.vc := rfl
@[simp] theorem modBoot_outputs (f : Boot → Boot) (s : State) : (modBoot f s).outputs = s.outputs := rfl
@[simp] theorem modBoot_audio (f : Boot → Boot) (s : State) : (modBoot f s).audio = s.audio := rfl
@[simp] theorem modBoot_net (f : Boot → Boot) (s : State) : (modBoot f s).net = s.net := rfl
@[simp] theorem modBoot_ptp (f : Boot → Boot) (s : State) : (modBoot f s).ptp = s.ptp := rfl
@[simp] theorem modBoot_triggers (f : Boot → Boot) (s : State) : (modBoot f s).triggers = s.triggers := rfl
@[simp] theorem modBoot_pos (f : Boot → Boot) (s : State) : (modBoot f s).pos = s.pos := rfl
@[simp] theorem modBoot_hasp (f : Boot → Boot) (s : State) : (modBoot f s).hasp = s.hasp := rfl
@[simp] theorem modBoot_twb (f : Boot → Boot) (s : State) : (modBoot f s).twb = s.twb := rfl
@[simp] theorem modBoot_control (f : Boot → Boot) (s : State) : (modBoot f s).control = s.control := rfl
@[simp] theorem modBoot_ns2 (f : Boot → Boot) (s : State) : (modBoot f s).ns2 = s.ns2 := rfl
@[simp] theorem modBoot_mem (f : Boot → Boot) (s : State) : (modBoot f s).mem = s.mem := rfl
@[simp] theorem modBoot_flash (f : Boot → Boot) (s : State) : (modBoot f s).flash = s.flash := rfl

/-! ## modCmp -/

@[simp] theorem modCmp_pending (f : Compression → Compression) (s : State) : (modCmp f s).pending = s.pending := rfl
@[simp] theorem modCmp_clk (f : Compression → Compression) (s : State) : (modCmp f s).clk = s.clk := rfl
@[simp] theorem modCmp_out (f : Compression → Compression) (s : State) : (modCmp f s).out = s.out := rfl
@[simp] theorem modCmp_free (f : Compression → Compression) (s : State) : (modCmp f s).free = s.free := rfl
@[simp] theorem modCmp_devState (f : Compression → Compression) (s : State) : (modCmp f s).devState = s.devState := rfl
@[simp] theorem modCmp_kongaord (f : Compression → Compression) (s : State) : (modCmp f s).kongaord = s.kongaord := rfl
@[simp] theorem modCmp_boot (f : Compression → Compression) (s : State) : (modCmp f s).boot = s.boot := rfl
@[simp] theorem modCmp_tick (f : Compression → Compression) (s : State) : (modCmp f s).tick = s.tick := rfl
@[simp] theorem modCmp_cmd (f : Compression → Compression) (s : State) : (modCmp f s).cmd = s.cmd := rfl
@[simp] theorem modCmp_mailboxes (f : Compression → Compression) (s : State) : (modCmp f s).mailboxes = s.mailboxes := rfl
@[simp] theorem modCmp_bar0 (f : Compression → Compression) (s : State) : (modCmp f s).bar0 = s.bar0 := rfl
@[simp] theorem modCmp_hostMem (f : Compression → Compression) (s : State) : (modCmp f s).hostMem = s.hostMem := rfl
@[simp] theorem modCmp_hostUp (f : Compression → Compression) (s : State) : (modCmp f s).hostUp = s.hostUp := rfl
@[simp] theorem modCmp_collector (f : Compression → Compression) (s : State) : (modCmp f s).collector = s.collector := rfl
@[simp] theorem modCmp_regions (f : Compression → Compression) (s : State) : (modCmp f s).regions = s.regions := rfl
@[simp] theorem modCmp_ports (f : Compression → Compression) (s : State) : (modCmp f s).ports = s.ports := rfl
@[simp] theorem modCmp_contexts (f : Compression → Compression) (s : State) : (modCmp f s).contexts = s.contexts := rfl
@[simp] theorem modCmp_luts (f : Compression → Compression) (s : State) : (modCmp f s).luts = s.luts := rfl
@[simp] theorem modCmp_lutLoads (f : Compression → Compression) (s : State) : (modCmp f s).lutLoads = s.lutLoads := rfl
@[simp] theorem modCmp_lutCount (f : Compression → Compression) (s : State) : (modCmp f s).lutCount = s.lutCount := rfl
@[simp] theorem modCmp_tables (f : Compression → Compression) (s : State) : (modCmp f s).tables = s.tables := rfl
@[simp] theorem modCmp_tableCount (f : Compression → Compression) (s : State) : (modCmp f s).tableCount = s.tableCount := rfl
@[simp] theorem modCmp_power (f : Compression → Compression) (s : State) : (modCmp f s).power = s.power := rfl
@[simp] theorem modCmp_thermal (f : Compression → Compression) (s : State) : (modCmp f s).thermal = s.thermal := rfl
@[simp] theorem modCmp_time (f : Compression → Compression) (s : State) : (modCmp f s).time = s.time := rfl
@[simp] theorem modCmp_recs (f : Compression → Compression) (s : State) : (modCmp f s).recs = s.recs := rfl
@[simp] theorem modCmp_hostRings (f : Compression → Compression) (s : State) : (modCmp f s).hostRings = s.hostRings := rfl
@[simp] theorem modCmp_clipCount (f : Compression → Compression) (s : State) : (modCmp f s).clipCount = s.clipCount := rfl
@[simp] theorem modCmp_media (f : Compression → Compression) (s : State) : (modCmp f s).media = s.media := rfl
@[simp] theorem modCmp_stg (f : Compression → Compression) (s : State) : (modCmp f s).stg = s.stg := rfl
@[simp] theorem modCmp_sec (f : Compression → Compression) (s : State) : (modCmp f s).sec = s.sec := rfl
@[simp] theorem modCmp_vc (f : Compression → Compression) (s : State) : (modCmp f s).vc = s.vc := rfl
@[simp] theorem modCmp_outputs (f : Compression → Compression) (s : State) : (modCmp f s).outputs = s.outputs := rfl
@[simp] theorem modCmp_audio (f : Compression → Compression) (s : State) : (modCmp f s).audio = s.audio := rfl
@[simp] theorem modCmp_net (f : Compression → Compression) (s : State) : (modCmp f s).net = s.net := rfl
@[simp] theorem modCmp_ptp (f : Compression → Compression) (s : State) : (modCmp f s).ptp = s.ptp := rfl
@[simp] theorem modCmp_triggers (f : Compression → Compression) (s : State) : (modCmp f s).triggers = s.triggers := rfl
@[simp] theorem modCmp_pos (f : Compression → Compression) (s : State) : (modCmp f s).pos = s.pos := rfl
@[simp] theorem modCmp_hasp (f : Compression → Compression) (s : State) : (modCmp f s).hasp = s.hasp := rfl
@[simp] theorem modCmp_twb (f : Compression → Compression) (s : State) : (modCmp f s).twb = s.twb := rfl
@[simp] theorem modCmp_control (f : Compression → Compression) (s : State) : (modCmp f s).control = s.control := rfl
@[simp] theorem modCmp_ns2 (f : Compression → Compression) (s : State) : (modCmp f s).ns2 = s.ns2 := rfl
@[simp] theorem modCmp_mem (f : Compression → Compression) (s : State) : (modCmp f s).mem = s.mem := rfl
@[simp] theorem modCmp_flash (f : Compression → Compression) (s : State) : (modCmp f s).flash = s.flash := rfl

/-! ## modControl -/

@[simp] theorem modControl_pending (f : Control → Control) (s : State) : (modControl f s).pending = s.pending := rfl
@[simp] theorem modControl_clk (f : Control → Control) (s : State) : (modControl f s).clk = s.clk := rfl
@[simp] theorem modControl_out (f : Control → Control) (s : State) : (modControl f s).out = s.out := rfl
@[simp] theorem modControl_free (f : Control → Control) (s : State) : (modControl f s).free = s.free := rfl
@[simp] theorem modControl_devState (f : Control → Control) (s : State) : (modControl f s).devState = s.devState := rfl
@[simp] theorem modControl_kongaord (f : Control → Control) (s : State) : (modControl f s).kongaord = s.kongaord := rfl
@[simp] theorem modControl_boot (f : Control → Control) (s : State) : (modControl f s).boot = s.boot := rfl
@[simp] theorem modControl_tick (f : Control → Control) (s : State) : (modControl f s).tick = s.tick := rfl
@[simp] theorem modControl_cmd (f : Control → Control) (s : State) : (modControl f s).cmd = s.cmd := rfl
@[simp] theorem modControl_mailboxes (f : Control → Control) (s : State) : (modControl f s).mailboxes = s.mailboxes := rfl
@[simp] theorem modControl_bar0 (f : Control → Control) (s : State) : (modControl f s).bar0 = s.bar0 := rfl
@[simp] theorem modControl_hostMem (f : Control → Control) (s : State) : (modControl f s).hostMem = s.hostMem := rfl
@[simp] theorem modControl_hostUp (f : Control → Control) (s : State) : (modControl f s).hostUp = s.hostUp := rfl
@[simp] theorem modControl_collector (f : Control → Control) (s : State) : (modControl f s).collector = s.collector := rfl
@[simp] theorem modControl_regions (f : Control → Control) (s : State) : (modControl f s).regions = s.regions := rfl
@[simp] theorem modControl_ports (f : Control → Control) (s : State) : (modControl f s).ports = s.ports := rfl
@[simp] theorem modControl_contexts (f : Control → Control) (s : State) : (modControl f s).contexts = s.contexts := rfl
@[simp] theorem modControl_luts (f : Control → Control) (s : State) : (modControl f s).luts = s.luts := rfl
@[simp] theorem modControl_lutLoads (f : Control → Control) (s : State) : (modControl f s).lutLoads = s.lutLoads := rfl
@[simp] theorem modControl_lutCount (f : Control → Control) (s : State) : (modControl f s).lutCount = s.lutCount := rfl
@[simp] theorem modControl_tables (f : Control → Control) (s : State) : (modControl f s).tables = s.tables := rfl
@[simp] theorem modControl_tableCount (f : Control → Control) (s : State) : (modControl f s).tableCount = s.tableCount := rfl
@[simp] theorem modControl_power (f : Control → Control) (s : State) : (modControl f s).power = s.power := rfl
@[simp] theorem modControl_thermal (f : Control → Control) (s : State) : (modControl f s).thermal = s.thermal := rfl
@[simp] theorem modControl_time (f : Control → Control) (s : State) : (modControl f s).time = s.time := rfl
@[simp] theorem modControl_cmp (f : Control → Control) (s : State) : (modControl f s).cmp = s.cmp := rfl
@[simp] theorem modControl_recs (f : Control → Control) (s : State) : (modControl f s).recs = s.recs := rfl
@[simp] theorem modControl_hostRings (f : Control → Control) (s : State) : (modControl f s).hostRings = s.hostRings := rfl
@[simp] theorem modControl_clipCount (f : Control → Control) (s : State) : (modControl f s).clipCount = s.clipCount := rfl
@[simp] theorem modControl_media (f : Control → Control) (s : State) : (modControl f s).media = s.media := rfl
@[simp] theorem modControl_stg (f : Control → Control) (s : State) : (modControl f s).stg = s.stg := rfl
@[simp] theorem modControl_sec (f : Control → Control) (s : State) : (modControl f s).sec = s.sec := rfl
@[simp] theorem modControl_vc (f : Control → Control) (s : State) : (modControl f s).vc = s.vc := rfl
@[simp] theorem modControl_outputs (f : Control → Control) (s : State) : (modControl f s).outputs = s.outputs := rfl
@[simp] theorem modControl_audio (f : Control → Control) (s : State) : (modControl f s).audio = s.audio := rfl
@[simp] theorem modControl_net (f : Control → Control) (s : State) : (modControl f s).net = s.net := rfl
@[simp] theorem modControl_ptp (f : Control → Control) (s : State) : (modControl f s).ptp = s.ptp := rfl
@[simp] theorem modControl_triggers (f : Control → Control) (s : State) : (modControl f s).triggers = s.triggers := rfl
@[simp] theorem modControl_pos (f : Control → Control) (s : State) : (modControl f s).pos = s.pos := rfl
@[simp] theorem modControl_hasp (f : Control → Control) (s : State) : (modControl f s).hasp = s.hasp := rfl
@[simp] theorem modControl_twb (f : Control → Control) (s : State) : (modControl f s).twb = s.twb := rfl
@[simp] theorem modControl_ns2 (f : Control → Control) (s : State) : (modControl f s).ns2 = s.ns2 := rfl
@[simp] theorem modControl_mem (f : Control → Control) (s : State) : (modControl f s).mem = s.mem := rfl
@[simp] theorem modControl_flash (f : Control → Control) (s : State) : (modControl f s).flash = s.flash := rfl

/-! ## modCollector -/

@[simp] theorem modCollector_pending (f : Collector → Collector) (s : State) : (modCollector f s).pending = s.pending := rfl
@[simp] theorem modCollector_clk (f : Collector → Collector) (s : State) : (modCollector f s).clk = s.clk := rfl
@[simp] theorem modCollector_out (f : Collector → Collector) (s : State) : (modCollector f s).out = s.out := rfl
@[simp] theorem modCollector_free (f : Collector → Collector) (s : State) : (modCollector f s).free = s.free := rfl
@[simp] theorem modCollector_devState (f : Collector → Collector) (s : State) : (modCollector f s).devState = s.devState := rfl
@[simp] theorem modCollector_kongaord (f : Collector → Collector) (s : State) : (modCollector f s).kongaord = s.kongaord := rfl
@[simp] theorem modCollector_boot (f : Collector → Collector) (s : State) : (modCollector f s).boot = s.boot := rfl
@[simp] theorem modCollector_tick (f : Collector → Collector) (s : State) : (modCollector f s).tick = s.tick := rfl
@[simp] theorem modCollector_cmd (f : Collector → Collector) (s : State) : (modCollector f s).cmd = s.cmd := rfl
@[simp] theorem modCollector_mailboxes (f : Collector → Collector) (s : State) : (modCollector f s).mailboxes = s.mailboxes := rfl
@[simp] theorem modCollector_bar0 (f : Collector → Collector) (s : State) : (modCollector f s).bar0 = s.bar0 := rfl
@[simp] theorem modCollector_hostMem (f : Collector → Collector) (s : State) : (modCollector f s).hostMem = s.hostMem := rfl
@[simp] theorem modCollector_hostUp (f : Collector → Collector) (s : State) : (modCollector f s).hostUp = s.hostUp := rfl
@[simp] theorem modCollector_regions (f : Collector → Collector) (s : State) : (modCollector f s).regions = s.regions := rfl
@[simp] theorem modCollector_ports (f : Collector → Collector) (s : State) : (modCollector f s).ports = s.ports := rfl
@[simp] theorem modCollector_contexts (f : Collector → Collector) (s : State) : (modCollector f s).contexts = s.contexts := rfl
@[simp] theorem modCollector_luts (f : Collector → Collector) (s : State) : (modCollector f s).luts = s.luts := rfl
@[simp] theorem modCollector_lutLoads (f : Collector → Collector) (s : State) : (modCollector f s).lutLoads = s.lutLoads := rfl
@[simp] theorem modCollector_lutCount (f : Collector → Collector) (s : State) : (modCollector f s).lutCount = s.lutCount := rfl
@[simp] theorem modCollector_tables (f : Collector → Collector) (s : State) : (modCollector f s).tables = s.tables := rfl
@[simp] theorem modCollector_tableCount (f : Collector → Collector) (s : State) : (modCollector f s).tableCount = s.tableCount := rfl
@[simp] theorem modCollector_power (f : Collector → Collector) (s : State) : (modCollector f s).power = s.power := rfl
@[simp] theorem modCollector_thermal (f : Collector → Collector) (s : State) : (modCollector f s).thermal = s.thermal := rfl
@[simp] theorem modCollector_time (f : Collector → Collector) (s : State) : (modCollector f s).time = s.time := rfl
@[simp] theorem modCollector_cmp (f : Collector → Collector) (s : State) : (modCollector f s).cmp = s.cmp := rfl
@[simp] theorem modCollector_recs (f : Collector → Collector) (s : State) : (modCollector f s).recs = s.recs := rfl
@[simp] theorem modCollector_hostRings (f : Collector → Collector) (s : State) : (modCollector f s).hostRings = s.hostRings := rfl
@[simp] theorem modCollector_clipCount (f : Collector → Collector) (s : State) : (modCollector f s).clipCount = s.clipCount := rfl
@[simp] theorem modCollector_media (f : Collector → Collector) (s : State) : (modCollector f s).media = s.media := rfl
@[simp] theorem modCollector_stg (f : Collector → Collector) (s : State) : (modCollector f s).stg = s.stg := rfl
@[simp] theorem modCollector_sec (f : Collector → Collector) (s : State) : (modCollector f s).sec = s.sec := rfl
@[simp] theorem modCollector_vc (f : Collector → Collector) (s : State) : (modCollector f s).vc = s.vc := rfl
@[simp] theorem modCollector_outputs (f : Collector → Collector) (s : State) : (modCollector f s).outputs = s.outputs := rfl
@[simp] theorem modCollector_audio (f : Collector → Collector) (s : State) : (modCollector f s).audio = s.audio := rfl
@[simp] theorem modCollector_net (f : Collector → Collector) (s : State) : (modCollector f s).net = s.net := rfl
@[simp] theorem modCollector_ptp (f : Collector → Collector) (s : State) : (modCollector f s).ptp = s.ptp := rfl
@[simp] theorem modCollector_triggers (f : Collector → Collector) (s : State) : (modCollector f s).triggers = s.triggers := rfl
@[simp] theorem modCollector_pos (f : Collector → Collector) (s : State) : (modCollector f s).pos = s.pos := rfl
@[simp] theorem modCollector_hasp (f : Collector → Collector) (s : State) : (modCollector f s).hasp = s.hasp := rfl
@[simp] theorem modCollector_twb (f : Collector → Collector) (s : State) : (modCollector f s).twb = s.twb := rfl
@[simp] theorem modCollector_control (f : Collector → Collector) (s : State) : (modCollector f s).control = s.control := rfl
@[simp] theorem modCollector_ns2 (f : Collector → Collector) (s : State) : (modCollector f s).ns2 = s.ns2 := rfl
@[simp] theorem modCollector_mem (f : Collector → Collector) (s : State) : (modCollector f s).mem = s.mem := rfl
@[simp] theorem modCollector_flash (f : Collector → Collector) (s : State) : (modCollector f s).flash = s.flash := rfl

/-! ## modTick -/

@[simp] theorem modTick_pending (f : TickGen → TickGen) (s : State) : (modTick f s).pending = s.pending := rfl
@[simp] theorem modTick_clk (f : TickGen → TickGen) (s : State) : (modTick f s).clk = s.clk := rfl
@[simp] theorem modTick_out (f : TickGen → TickGen) (s : State) : (modTick f s).out = s.out := rfl
@[simp] theorem modTick_free (f : TickGen → TickGen) (s : State) : (modTick f s).free = s.free := rfl
@[simp] theorem modTick_devState (f : TickGen → TickGen) (s : State) : (modTick f s).devState = s.devState := rfl
@[simp] theorem modTick_kongaord (f : TickGen → TickGen) (s : State) : (modTick f s).kongaord = s.kongaord := rfl
@[simp] theorem modTick_boot (f : TickGen → TickGen) (s : State) : (modTick f s).boot = s.boot := rfl
@[simp] theorem modTick_cmd (f : TickGen → TickGen) (s : State) : (modTick f s).cmd = s.cmd := rfl
@[simp] theorem modTick_mailboxes (f : TickGen → TickGen) (s : State) : (modTick f s).mailboxes = s.mailboxes := rfl
@[simp] theorem modTick_bar0 (f : TickGen → TickGen) (s : State) : (modTick f s).bar0 = s.bar0 := rfl
@[simp] theorem modTick_hostMem (f : TickGen → TickGen) (s : State) : (modTick f s).hostMem = s.hostMem := rfl
@[simp] theorem modTick_hostUp (f : TickGen → TickGen) (s : State) : (modTick f s).hostUp = s.hostUp := rfl
@[simp] theorem modTick_collector (f : TickGen → TickGen) (s : State) : (modTick f s).collector = s.collector := rfl
@[simp] theorem modTick_regions (f : TickGen → TickGen) (s : State) : (modTick f s).regions = s.regions := rfl
@[simp] theorem modTick_ports (f : TickGen → TickGen) (s : State) : (modTick f s).ports = s.ports := rfl
@[simp] theorem modTick_contexts (f : TickGen → TickGen) (s : State) : (modTick f s).contexts = s.contexts := rfl
@[simp] theorem modTick_luts (f : TickGen → TickGen) (s : State) : (modTick f s).luts = s.luts := rfl
@[simp] theorem modTick_lutLoads (f : TickGen → TickGen) (s : State) : (modTick f s).lutLoads = s.lutLoads := rfl
@[simp] theorem modTick_lutCount (f : TickGen → TickGen) (s : State) : (modTick f s).lutCount = s.lutCount := rfl
@[simp] theorem modTick_tables (f : TickGen → TickGen) (s : State) : (modTick f s).tables = s.tables := rfl
@[simp] theorem modTick_tableCount (f : TickGen → TickGen) (s : State) : (modTick f s).tableCount = s.tableCount := rfl
@[simp] theorem modTick_power (f : TickGen → TickGen) (s : State) : (modTick f s).power = s.power := rfl
@[simp] theorem modTick_thermal (f : TickGen → TickGen) (s : State) : (modTick f s).thermal = s.thermal := rfl
@[simp] theorem modTick_time (f : TickGen → TickGen) (s : State) : (modTick f s).time = s.time := rfl
@[simp] theorem modTick_cmp (f : TickGen → TickGen) (s : State) : (modTick f s).cmp = s.cmp := rfl
@[simp] theorem modTick_recs (f : TickGen → TickGen) (s : State) : (modTick f s).recs = s.recs := rfl
@[simp] theorem modTick_hostRings (f : TickGen → TickGen) (s : State) : (modTick f s).hostRings = s.hostRings := rfl
@[simp] theorem modTick_clipCount (f : TickGen → TickGen) (s : State) : (modTick f s).clipCount = s.clipCount := rfl
@[simp] theorem modTick_media (f : TickGen → TickGen) (s : State) : (modTick f s).media = s.media := rfl
@[simp] theorem modTick_stg (f : TickGen → TickGen) (s : State) : (modTick f s).stg = s.stg := rfl
@[simp] theorem modTick_sec (f : TickGen → TickGen) (s : State) : (modTick f s).sec = s.sec := rfl
@[simp] theorem modTick_vc (f : TickGen → TickGen) (s : State) : (modTick f s).vc = s.vc := rfl
@[simp] theorem modTick_outputs (f : TickGen → TickGen) (s : State) : (modTick f s).outputs = s.outputs := rfl
@[simp] theorem modTick_audio (f : TickGen → TickGen) (s : State) : (modTick f s).audio = s.audio := rfl
@[simp] theorem modTick_net (f : TickGen → TickGen) (s : State) : (modTick f s).net = s.net := rfl
@[simp] theorem modTick_ptp (f : TickGen → TickGen) (s : State) : (modTick f s).ptp = s.ptp := rfl
@[simp] theorem modTick_triggers (f : TickGen → TickGen) (s : State) : (modTick f s).triggers = s.triggers := rfl
@[simp] theorem modTick_pos (f : TickGen → TickGen) (s : State) : (modTick f s).pos = s.pos := rfl
@[simp] theorem modTick_hasp (f : TickGen → TickGen) (s : State) : (modTick f s).hasp = s.hasp := rfl
@[simp] theorem modTick_twb (f : TickGen → TickGen) (s : State) : (modTick f s).twb = s.twb := rfl
@[simp] theorem modTick_control (f : TickGen → TickGen) (s : State) : (modTick f s).control = s.control := rfl
@[simp] theorem modTick_ns2 (f : TickGen → TickGen) (s : State) : (modTick f s).ns2 = s.ns2 := rfl
@[simp] theorem modTick_mem (f : TickGen → TickGen) (s : State) : (modTick f s).mem = s.mem := rfl
@[simp] theorem modTick_flash (f : TickGen → TickGen) (s : State) : (modTick f s).flash = s.flash := rfl

/-! ## modHasp -/

@[simp] theorem modHasp_pending (f : Hasp → Hasp) (s : State) : (modHasp f s).pending = s.pending := rfl
@[simp] theorem modHasp_clk (f : Hasp → Hasp) (s : State) : (modHasp f s).clk = s.clk := rfl
@[simp] theorem modHasp_out (f : Hasp → Hasp) (s : State) : (modHasp f s).out = s.out := rfl
@[simp] theorem modHasp_free (f : Hasp → Hasp) (s : State) : (modHasp f s).free = s.free := rfl
@[simp] theorem modHasp_devState (f : Hasp → Hasp) (s : State) : (modHasp f s).devState = s.devState := rfl
@[simp] theorem modHasp_kongaord (f : Hasp → Hasp) (s : State) : (modHasp f s).kongaord = s.kongaord := rfl
@[simp] theorem modHasp_boot (f : Hasp → Hasp) (s : State) : (modHasp f s).boot = s.boot := rfl
@[simp] theorem modHasp_tick (f : Hasp → Hasp) (s : State) : (modHasp f s).tick = s.tick := rfl
@[simp] theorem modHasp_cmd (f : Hasp → Hasp) (s : State) : (modHasp f s).cmd = s.cmd := rfl
@[simp] theorem modHasp_mailboxes (f : Hasp → Hasp) (s : State) : (modHasp f s).mailboxes = s.mailboxes := rfl
@[simp] theorem modHasp_bar0 (f : Hasp → Hasp) (s : State) : (modHasp f s).bar0 = s.bar0 := rfl
@[simp] theorem modHasp_hostMem (f : Hasp → Hasp) (s : State) : (modHasp f s).hostMem = s.hostMem := rfl
@[simp] theorem modHasp_hostUp (f : Hasp → Hasp) (s : State) : (modHasp f s).hostUp = s.hostUp := rfl
@[simp] theorem modHasp_collector (f : Hasp → Hasp) (s : State) : (modHasp f s).collector = s.collector := rfl
@[simp] theorem modHasp_regions (f : Hasp → Hasp) (s : State) : (modHasp f s).regions = s.regions := rfl
@[simp] theorem modHasp_ports (f : Hasp → Hasp) (s : State) : (modHasp f s).ports = s.ports := rfl
@[simp] theorem modHasp_contexts (f : Hasp → Hasp) (s : State) : (modHasp f s).contexts = s.contexts := rfl
@[simp] theorem modHasp_luts (f : Hasp → Hasp) (s : State) : (modHasp f s).luts = s.luts := rfl
@[simp] theorem modHasp_lutLoads (f : Hasp → Hasp) (s : State) : (modHasp f s).lutLoads = s.lutLoads := rfl
@[simp] theorem modHasp_lutCount (f : Hasp → Hasp) (s : State) : (modHasp f s).lutCount = s.lutCount := rfl
@[simp] theorem modHasp_tables (f : Hasp → Hasp) (s : State) : (modHasp f s).tables = s.tables := rfl
@[simp] theorem modHasp_tableCount (f : Hasp → Hasp) (s : State) : (modHasp f s).tableCount = s.tableCount := rfl
@[simp] theorem modHasp_power (f : Hasp → Hasp) (s : State) : (modHasp f s).power = s.power := rfl
@[simp] theorem modHasp_thermal (f : Hasp → Hasp) (s : State) : (modHasp f s).thermal = s.thermal := rfl
@[simp] theorem modHasp_time (f : Hasp → Hasp) (s : State) : (modHasp f s).time = s.time := rfl
@[simp] theorem modHasp_cmp (f : Hasp → Hasp) (s : State) : (modHasp f s).cmp = s.cmp := rfl
@[simp] theorem modHasp_recs (f : Hasp → Hasp) (s : State) : (modHasp f s).recs = s.recs := rfl
@[simp] theorem modHasp_hostRings (f : Hasp → Hasp) (s : State) : (modHasp f s).hostRings = s.hostRings := rfl
@[simp] theorem modHasp_clipCount (f : Hasp → Hasp) (s : State) : (modHasp f s).clipCount = s.clipCount := rfl
@[simp] theorem modHasp_media (f : Hasp → Hasp) (s : State) : (modHasp f s).media = s.media := rfl
@[simp] theorem modHasp_stg (f : Hasp → Hasp) (s : State) : (modHasp f s).stg = s.stg := rfl
@[simp] theorem modHasp_sec (f : Hasp → Hasp) (s : State) : (modHasp f s).sec = s.sec := rfl
@[simp] theorem modHasp_vc (f : Hasp → Hasp) (s : State) : (modHasp f s).vc = s.vc := rfl
@[simp] theorem modHasp_outputs (f : Hasp → Hasp) (s : State) : (modHasp f s).outputs = s.outputs := rfl
@[simp] theorem modHasp_audio (f : Hasp → Hasp) (s : State) : (modHasp f s).audio = s.audio := rfl
@[simp] theorem modHasp_net (f : Hasp → Hasp) (s : State) : (modHasp f s).net = s.net := rfl
@[simp] theorem modHasp_ptp (f : Hasp → Hasp) (s : State) : (modHasp f s).ptp = s.ptp := rfl
@[simp] theorem modHasp_triggers (f : Hasp → Hasp) (s : State) : (modHasp f s).triggers = s.triggers := rfl
@[simp] theorem modHasp_pos (f : Hasp → Hasp) (s : State) : (modHasp f s).pos = s.pos := rfl
@[simp] theorem modHasp_twb (f : Hasp → Hasp) (s : State) : (modHasp f s).twb = s.twb := rfl
@[simp] theorem modHasp_control (f : Hasp → Hasp) (s : State) : (modHasp f s).control = s.control := rfl
@[simp] theorem modHasp_ns2 (f : Hasp → Hasp) (s : State) : (modHasp f s).ns2 = s.ns2 := rfl
@[simp] theorem modHasp_mem (f : Hasp → Hasp) (s : State) : (modHasp f s).mem = s.mem := rfl
@[simp] theorem modHasp_flash (f : Hasp → Hasp) (s : State) : (modHasp f s).flash = s.flash := rfl

/-! ## modSec -/

@[simp] theorem modSec_pending (f : Security → Security) (s : State) : (modSec f s).pending = s.pending := rfl
@[simp] theorem modSec_clk (f : Security → Security) (s : State) : (modSec f s).clk = s.clk := rfl
@[simp] theorem modSec_out (f : Security → Security) (s : State) : (modSec f s).out = s.out := rfl
@[simp] theorem modSec_free (f : Security → Security) (s : State) : (modSec f s).free = s.free := rfl
@[simp] theorem modSec_devState (f : Security → Security) (s : State) : (modSec f s).devState = s.devState := rfl
@[simp] theorem modSec_kongaord (f : Security → Security) (s : State) : (modSec f s).kongaord = s.kongaord := rfl
@[simp] theorem modSec_boot (f : Security → Security) (s : State) : (modSec f s).boot = s.boot := rfl
@[simp] theorem modSec_tick (f : Security → Security) (s : State) : (modSec f s).tick = s.tick := rfl
@[simp] theorem modSec_cmd (f : Security → Security) (s : State) : (modSec f s).cmd = s.cmd := rfl
@[simp] theorem modSec_mailboxes (f : Security → Security) (s : State) : (modSec f s).mailboxes = s.mailboxes := rfl
@[simp] theorem modSec_bar0 (f : Security → Security) (s : State) : (modSec f s).bar0 = s.bar0 := rfl
@[simp] theorem modSec_hostMem (f : Security → Security) (s : State) : (modSec f s).hostMem = s.hostMem := rfl
@[simp] theorem modSec_hostUp (f : Security → Security) (s : State) : (modSec f s).hostUp = s.hostUp := rfl
@[simp] theorem modSec_collector (f : Security → Security) (s : State) : (modSec f s).collector = s.collector := rfl
@[simp] theorem modSec_regions (f : Security → Security) (s : State) : (modSec f s).regions = s.regions := rfl
@[simp] theorem modSec_ports (f : Security → Security) (s : State) : (modSec f s).ports = s.ports := rfl
@[simp] theorem modSec_contexts (f : Security → Security) (s : State) : (modSec f s).contexts = s.contexts := rfl
@[simp] theorem modSec_luts (f : Security → Security) (s : State) : (modSec f s).luts = s.luts := rfl
@[simp] theorem modSec_lutLoads (f : Security → Security) (s : State) : (modSec f s).lutLoads = s.lutLoads := rfl
@[simp] theorem modSec_lutCount (f : Security → Security) (s : State) : (modSec f s).lutCount = s.lutCount := rfl
@[simp] theorem modSec_tables (f : Security → Security) (s : State) : (modSec f s).tables = s.tables := rfl
@[simp] theorem modSec_tableCount (f : Security → Security) (s : State) : (modSec f s).tableCount = s.tableCount := rfl
@[simp] theorem modSec_power (f : Security → Security) (s : State) : (modSec f s).power = s.power := rfl
@[simp] theorem modSec_thermal (f : Security → Security) (s : State) : (modSec f s).thermal = s.thermal := rfl
@[simp] theorem modSec_time (f : Security → Security) (s : State) : (modSec f s).time = s.time := rfl
@[simp] theorem modSec_cmp (f : Security → Security) (s : State) : (modSec f s).cmp = s.cmp := rfl
@[simp] theorem modSec_recs (f : Security → Security) (s : State) : (modSec f s).recs = s.recs := rfl
@[simp] theorem modSec_hostRings (f : Security → Security) (s : State) : (modSec f s).hostRings = s.hostRings := rfl
@[simp] theorem modSec_clipCount (f : Security → Security) (s : State) : (modSec f s).clipCount = s.clipCount := rfl
@[simp] theorem modSec_media (f : Security → Security) (s : State) : (modSec f s).media = s.media := rfl
@[simp] theorem modSec_stg (f : Security → Security) (s : State) : (modSec f s).stg = s.stg := rfl
@[simp] theorem modSec_vc (f : Security → Security) (s : State) : (modSec f s).vc = s.vc := rfl
@[simp] theorem modSec_outputs (f : Security → Security) (s : State) : (modSec f s).outputs = s.outputs := rfl
@[simp] theorem modSec_audio (f : Security → Security) (s : State) : (modSec f s).audio = s.audio := rfl
@[simp] theorem modSec_net (f : Security → Security) (s : State) : (modSec f s).net = s.net := rfl
@[simp] theorem modSec_ptp (f : Security → Security) (s : State) : (modSec f s).ptp = s.ptp := rfl
@[simp] theorem modSec_triggers (f : Security → Security) (s : State) : (modSec f s).triggers = s.triggers := rfl
@[simp] theorem modSec_pos (f : Security → Security) (s : State) : (modSec f s).pos = s.pos := rfl
@[simp] theorem modSec_hasp (f : Security → Security) (s : State) : (modSec f s).hasp = s.hasp := rfl
@[simp] theorem modSec_twb (f : Security → Security) (s : State) : (modSec f s).twb = s.twb := rfl
@[simp] theorem modSec_control (f : Security → Security) (s : State) : (modSec f s).control = s.control := rfl
@[simp] theorem modSec_ns2 (f : Security → Security) (s : State) : (modSec f s).ns2 = s.ns2 := rfl
@[simp] theorem modSec_mem (f : Security → Security) (s : State) : (modSec f s).mem = s.mem := rfl
@[simp] theorem modSec_flash (f : Security → Security) (s : State) : (modSec f s).flash = s.flash := rfl

/-! ## modRec -/

@[simp] theorem modRec_pending (c : CtxId) (f : Recording → Recording) (s : State) : (modRec c f s).pending = s.pending := rfl
@[simp] theorem modRec_clk (c : CtxId) (f : Recording → Recording) (s : State) : (modRec c f s).clk = s.clk := rfl
@[simp] theorem modRec_out (c : CtxId) (f : Recording → Recording) (s : State) : (modRec c f s).out = s.out := rfl
@[simp] theorem modRec_free (c : CtxId) (f : Recording → Recording) (s : State) : (modRec c f s).free = s.free := rfl
@[simp] theorem modRec_devState (c : CtxId) (f : Recording → Recording) (s : State) : (modRec c f s).devState = s.devState := rfl
@[simp] theorem modRec_kongaord (c : CtxId) (f : Recording → Recording) (s : State) : (modRec c f s).kongaord = s.kongaord := rfl
@[simp] theorem modRec_boot (c : CtxId) (f : Recording → Recording) (s : State) : (modRec c f s).boot = s.boot := rfl
@[simp] theorem modRec_tick (c : CtxId) (f : Recording → Recording) (s : State) : (modRec c f s).tick = s.tick := rfl
@[simp] theorem modRec_cmd (c : CtxId) (f : Recording → Recording) (s : State) : (modRec c f s).cmd = s.cmd := rfl
@[simp] theorem modRec_mailboxes (c : CtxId) (f : Recording → Recording) (s : State) : (modRec c f s).mailboxes = s.mailboxes := rfl
@[simp] theorem modRec_bar0 (c : CtxId) (f : Recording → Recording) (s : State) : (modRec c f s).bar0 = s.bar0 := rfl
@[simp] theorem modRec_hostMem (c : CtxId) (f : Recording → Recording) (s : State) : (modRec c f s).hostMem = s.hostMem := rfl
@[simp] theorem modRec_hostUp (c : CtxId) (f : Recording → Recording) (s : State) : (modRec c f s).hostUp = s.hostUp := rfl
@[simp] theorem modRec_collector (c : CtxId) (f : Recording → Recording) (s : State) : (modRec c f s).collector = s.collector := rfl
@[simp] theorem modRec_regions (c : CtxId) (f : Recording → Recording) (s : State) : (modRec c f s).regions = s.regions := rfl
@[simp] theorem modRec_ports (c : CtxId) (f : Recording → Recording) (s : State) : (modRec c f s).ports = s.ports := rfl
@[simp] theorem modRec_contexts (c : CtxId) (f : Recording → Recording) (s : State) : (modRec c f s).contexts = s.contexts := rfl
@[simp] theorem modRec_luts (c : CtxId) (f : Recording → Recording) (s : State) : (modRec c f s).luts = s.luts := rfl
@[simp] theorem modRec_lutLoads (c : CtxId) (f : Recording → Recording) (s : State) : (modRec c f s).lutLoads = s.lutLoads := rfl
@[simp] theorem modRec_lutCount (c : CtxId) (f : Recording → Recording) (s : State) : (modRec c f s).lutCount = s.lutCount := rfl
@[simp] theorem modRec_tables (c : CtxId) (f : Recording → Recording) (s : State) : (modRec c f s).tables = s.tables := rfl
@[simp] theorem modRec_tableCount (c : CtxId) (f : Recording → Recording) (s : State) : (modRec c f s).tableCount = s.tableCount := rfl
@[simp] theorem modRec_power (c : CtxId) (f : Recording → Recording) (s : State) : (modRec c f s).power = s.power := rfl
@[simp] theorem modRec_thermal (c : CtxId) (f : Recording → Recording) (s : State) : (modRec c f s).thermal = s.thermal := rfl
@[simp] theorem modRec_time (c : CtxId) (f : Recording → Recording) (s : State) : (modRec c f s).time = s.time := rfl
@[simp] theorem modRec_cmp (c : CtxId) (f : Recording → Recording) (s : State) : (modRec c f s).cmp = s.cmp := rfl
@[simp] theorem modRec_hostRings (c : CtxId) (f : Recording → Recording) (s : State) : (modRec c f s).hostRings = s.hostRings := rfl
@[simp] theorem modRec_clipCount (c : CtxId) (f : Recording → Recording) (s : State) : (modRec c f s).clipCount = s.clipCount := rfl
@[simp] theorem modRec_media (c : CtxId) (f : Recording → Recording) (s : State) : (modRec c f s).media = s.media := rfl
@[simp] theorem modRec_stg (c : CtxId) (f : Recording → Recording) (s : State) : (modRec c f s).stg = s.stg := rfl
@[simp] theorem modRec_sec (c : CtxId) (f : Recording → Recording) (s : State) : (modRec c f s).sec = s.sec := rfl
@[simp] theorem modRec_vc (c : CtxId) (f : Recording → Recording) (s : State) : (modRec c f s).vc = s.vc := rfl
@[simp] theorem modRec_outputs (c : CtxId) (f : Recording → Recording) (s : State) : (modRec c f s).outputs = s.outputs := rfl
@[simp] theorem modRec_audio (c : CtxId) (f : Recording → Recording) (s : State) : (modRec c f s).audio = s.audio := rfl
@[simp] theorem modRec_net (c : CtxId) (f : Recording → Recording) (s : State) : (modRec c f s).net = s.net := rfl
@[simp] theorem modRec_ptp (c : CtxId) (f : Recording → Recording) (s : State) : (modRec c f s).ptp = s.ptp := rfl
@[simp] theorem modRec_triggers (c : CtxId) (f : Recording → Recording) (s : State) : (modRec c f s).triggers = s.triggers := rfl
@[simp] theorem modRec_pos (c : CtxId) (f : Recording → Recording) (s : State) : (modRec c f s).pos = s.pos := rfl
@[simp] theorem modRec_hasp (c : CtxId) (f : Recording → Recording) (s : State) : (modRec c f s).hasp = s.hasp := rfl
@[simp] theorem modRec_twb (c : CtxId) (f : Recording → Recording) (s : State) : (modRec c f s).twb = s.twb := rfl
@[simp] theorem modRec_control (c : CtxId) (f : Recording → Recording) (s : State) : (modRec c f s).control = s.control := rfl
@[simp] theorem modRec_ns2 (c : CtxId) (f : Recording → Recording) (s : State) : (modRec c f s).ns2 = s.ns2 := rfl
@[simp] theorem modRec_mem (c : CtxId) (f : Recording → Recording) (s : State) : (modRec c f s).mem = s.mem := rfl
@[simp] theorem modRec_flash (c : CtxId) (f : Recording → Recording) (s : State) : (modRec c f s).flash = s.flash := rfl

/-! ## modMem -/

@[simp] theorem modMem_pending (f : Mem → Mem) (s : State) : (modMem f s).pending = s.pending := rfl
@[simp] theorem modMem_clk (f : Mem → Mem) (s : State) : (modMem f s).clk = s.clk := rfl
@[simp] theorem modMem_out (f : Mem → Mem) (s : State) : (modMem f s).out = s.out := rfl
@[simp] theorem modMem_free (f : Mem → Mem) (s : State) : (modMem f s).free = s.free := rfl
@[simp] theorem modMem_devState (f : Mem → Mem) (s : State) : (modMem f s).devState = s.devState := rfl
@[simp] theorem modMem_kongaord (f : Mem → Mem) (s : State) : (modMem f s).kongaord = s.kongaord := rfl
@[simp] theorem modMem_boot (f : Mem → Mem) (s : State) : (modMem f s).boot = s.boot := rfl
@[simp] theorem modMem_tick (f : Mem → Mem) (s : State) : (modMem f s).tick = s.tick := rfl
@[simp] theorem modMem_cmd (f : Mem → Mem) (s : State) : (modMem f s).cmd = s.cmd := rfl
@[simp] theorem modMem_mailboxes (f : Mem → Mem) (s : State) : (modMem f s).mailboxes = s.mailboxes := rfl
@[simp] theorem modMem_bar0 (f : Mem → Mem) (s : State) : (modMem f s).bar0 = s.bar0 := rfl
@[simp] theorem modMem_hostMem (f : Mem → Mem) (s : State) : (modMem f s).hostMem = s.hostMem := rfl
@[simp] theorem modMem_hostUp (f : Mem → Mem) (s : State) : (modMem f s).hostUp = s.hostUp := rfl
@[simp] theorem modMem_collector (f : Mem → Mem) (s : State) : (modMem f s).collector = s.collector := rfl
@[simp] theorem modMem_regions (f : Mem → Mem) (s : State) : (modMem f s).regions = s.regions := rfl
@[simp] theorem modMem_ports (f : Mem → Mem) (s : State) : (modMem f s).ports = s.ports := rfl
@[simp] theorem modMem_contexts (f : Mem → Mem) (s : State) : (modMem f s).contexts = s.contexts := rfl
@[simp] theorem modMem_luts (f : Mem → Mem) (s : State) : (modMem f s).luts = s.luts := rfl
@[simp] theorem modMem_lutLoads (f : Mem → Mem) (s : State) : (modMem f s).lutLoads = s.lutLoads := rfl
@[simp] theorem modMem_lutCount (f : Mem → Mem) (s : State) : (modMem f s).lutCount = s.lutCount := rfl
@[simp] theorem modMem_tables (f : Mem → Mem) (s : State) : (modMem f s).tables = s.tables := rfl
@[simp] theorem modMem_tableCount (f : Mem → Mem) (s : State) : (modMem f s).tableCount = s.tableCount := rfl
@[simp] theorem modMem_power (f : Mem → Mem) (s : State) : (modMem f s).power = s.power := rfl
@[simp] theorem modMem_thermal (f : Mem → Mem) (s : State) : (modMem f s).thermal = s.thermal := rfl
@[simp] theorem modMem_time (f : Mem → Mem) (s : State) : (modMem f s).time = s.time := rfl
@[simp] theorem modMem_cmp (f : Mem → Mem) (s : State) : (modMem f s).cmp = s.cmp := rfl
@[simp] theorem modMem_recs (f : Mem → Mem) (s : State) : (modMem f s).recs = s.recs := rfl
@[simp] theorem modMem_hostRings (f : Mem → Mem) (s : State) : (modMem f s).hostRings = s.hostRings := rfl
@[simp] theorem modMem_clipCount (f : Mem → Mem) (s : State) : (modMem f s).clipCount = s.clipCount := rfl
@[simp] theorem modMem_media (f : Mem → Mem) (s : State) : (modMem f s).media = s.media := rfl
@[simp] theorem modMem_stg (f : Mem → Mem) (s : State) : (modMem f s).stg = s.stg := rfl
@[simp] theorem modMem_sec (f : Mem → Mem) (s : State) : (modMem f s).sec = s.sec := rfl
@[simp] theorem modMem_vc (f : Mem → Mem) (s : State) : (modMem f s).vc = s.vc := rfl
@[simp] theorem modMem_outputs (f : Mem → Mem) (s : State) : (modMem f s).outputs = s.outputs := rfl
@[simp] theorem modMem_audio (f : Mem → Mem) (s : State) : (modMem f s).audio = s.audio := rfl
@[simp] theorem modMem_net (f : Mem → Mem) (s : State) : (modMem f s).net = s.net := rfl
@[simp] theorem modMem_ptp (f : Mem → Mem) (s : State) : (modMem f s).ptp = s.ptp := rfl
@[simp] theorem modMem_triggers (f : Mem → Mem) (s : State) : (modMem f s).triggers = s.triggers := rfl
@[simp] theorem modMem_pos (f : Mem → Mem) (s : State) : (modMem f s).pos = s.pos := rfl
@[simp] theorem modMem_hasp (f : Mem → Mem) (s : State) : (modMem f s).hasp = s.hasp := rfl
@[simp] theorem modMem_twb (f : Mem → Mem) (s : State) : (modMem f s).twb = s.twb := rfl
@[simp] theorem modMem_control (f : Mem → Mem) (s : State) : (modMem f s).control = s.control := rfl
@[simp] theorem modMem_ns2 (f : Mem → Mem) (s : State) : (modMem f s).ns2 = s.ns2 := rfl
@[simp] theorem modMem_flash (f : Mem → Mem) (s : State) : (modMem f s).flash = s.flash := rfl

/-! ## modStg -/

@[simp] theorem modStg_pending (f : Storage → Storage) (s : State) : (modStg f s).pending = s.pending := rfl
@[simp] theorem modStg_clk (f : Storage → Storage) (s : State) : (modStg f s).clk = s.clk := rfl
@[simp] theorem modStg_out (f : Storage → Storage) (s : State) : (modStg f s).out = s.out := rfl
@[simp] theorem modStg_free (f : Storage → Storage) (s : State) : (modStg f s).free = s.free := rfl
@[simp] theorem modStg_devState (f : Storage → Storage) (s : State) : (modStg f s).devState = s.devState := rfl
@[simp] theorem modStg_kongaord (f : Storage → Storage) (s : State) : (modStg f s).kongaord = s.kongaord := rfl
@[simp] theorem modStg_boot (f : Storage → Storage) (s : State) : (modStg f s).boot = s.boot := rfl
@[simp] theorem modStg_tick (f : Storage → Storage) (s : State) : (modStg f s).tick = s.tick := rfl
@[simp] theorem modStg_cmd (f : Storage → Storage) (s : State) : (modStg f s).cmd = s.cmd := rfl
@[simp] theorem modStg_mailboxes (f : Storage → Storage) (s : State) : (modStg f s).mailboxes = s.mailboxes := rfl
@[simp] theorem modStg_bar0 (f : Storage → Storage) (s : State) : (modStg f s).bar0 = s.bar0 := rfl
@[simp] theorem modStg_hostMem (f : Storage → Storage) (s : State) : (modStg f s).hostMem = s.hostMem := rfl
@[simp] theorem modStg_hostUp (f : Storage → Storage) (s : State) : (modStg f s).hostUp = s.hostUp := rfl
@[simp] theorem modStg_collector (f : Storage → Storage) (s : State) : (modStg f s).collector = s.collector := rfl
@[simp] theorem modStg_regions (f : Storage → Storage) (s : State) : (modStg f s).regions = s.regions := rfl
@[simp] theorem modStg_ports (f : Storage → Storage) (s : State) : (modStg f s).ports = s.ports := rfl
@[simp] theorem modStg_contexts (f : Storage → Storage) (s : State) : (modStg f s).contexts = s.contexts := rfl
@[simp] theorem modStg_luts (f : Storage → Storage) (s : State) : (modStg f s).luts = s.luts := rfl
@[simp] theorem modStg_lutLoads (f : Storage → Storage) (s : State) : (modStg f s).lutLoads = s.lutLoads := rfl
@[simp] theorem modStg_lutCount (f : Storage → Storage) (s : State) : (modStg f s).lutCount = s.lutCount := rfl
@[simp] theorem modStg_tables (f : Storage → Storage) (s : State) : (modStg f s).tables = s.tables := rfl
@[simp] theorem modStg_tableCount (f : Storage → Storage) (s : State) : (modStg f s).tableCount = s.tableCount := rfl
@[simp] theorem modStg_power (f : Storage → Storage) (s : State) : (modStg f s).power = s.power := rfl
@[simp] theorem modStg_thermal (f : Storage → Storage) (s : State) : (modStg f s).thermal = s.thermal := rfl
@[simp] theorem modStg_time (f : Storage → Storage) (s : State) : (modStg f s).time = s.time := rfl
@[simp] theorem modStg_cmp (f : Storage → Storage) (s : State) : (modStg f s).cmp = s.cmp := rfl
@[simp] theorem modStg_recs (f : Storage → Storage) (s : State) : (modStg f s).recs = s.recs := rfl
@[simp] theorem modStg_hostRings (f : Storage → Storage) (s : State) : (modStg f s).hostRings = s.hostRings := rfl
@[simp] theorem modStg_clipCount (f : Storage → Storage) (s : State) : (modStg f s).clipCount = s.clipCount := rfl
@[simp] theorem modStg_media (f : Storage → Storage) (s : State) : (modStg f s).media = s.media := rfl
@[simp] theorem modStg_sec (f : Storage → Storage) (s : State) : (modStg f s).sec = s.sec := rfl
@[simp] theorem modStg_vc (f : Storage → Storage) (s : State) : (modStg f s).vc = s.vc := rfl
@[simp] theorem modStg_outputs (f : Storage → Storage) (s : State) : (modStg f s).outputs = s.outputs := rfl
@[simp] theorem modStg_audio (f : Storage → Storage) (s : State) : (modStg f s).audio = s.audio := rfl
@[simp] theorem modStg_net (f : Storage → Storage) (s : State) : (modStg f s).net = s.net := rfl
@[simp] theorem modStg_ptp (f : Storage → Storage) (s : State) : (modStg f s).ptp = s.ptp := rfl
@[simp] theorem modStg_triggers (f : Storage → Storage) (s : State) : (modStg f s).triggers = s.triggers := rfl
@[simp] theorem modStg_pos (f : Storage → Storage) (s : State) : (modStg f s).pos = s.pos := rfl
@[simp] theorem modStg_hasp (f : Storage → Storage) (s : State) : (modStg f s).hasp = s.hasp := rfl
@[simp] theorem modStg_twb (f : Storage → Storage) (s : State) : (modStg f s).twb = s.twb := rfl
@[simp] theorem modStg_control (f : Storage → Storage) (s : State) : (modStg f s).control = s.control := rfl
@[simp] theorem modStg_ns2 (f : Storage → Storage) (s : State) : (modStg f s).ns2 = s.ns2 := rfl
@[simp] theorem modStg_mem (f : Storage → Storage) (s : State) : (modStg f s).mem = s.mem := rfl
@[simp] theorem modStg_flash (f : Storage → Storage) (s : State) : (modStg f s).flash = s.flash := rfl

/-! ## modThermal -/

@[simp] theorem modThermal_pending (f : Thermal → Thermal) (s : State) : (modThermal f s).pending = s.pending := rfl
@[simp] theorem modThermal_clk (f : Thermal → Thermal) (s : State) : (modThermal f s).clk = s.clk := rfl
@[simp] theorem modThermal_out (f : Thermal → Thermal) (s : State) : (modThermal f s).out = s.out := rfl
@[simp] theorem modThermal_free (f : Thermal → Thermal) (s : State) : (modThermal f s).free = s.free := rfl
@[simp] theorem modThermal_devState (f : Thermal → Thermal) (s : State) : (modThermal f s).devState = s.devState := rfl
@[simp] theorem modThermal_kongaord (f : Thermal → Thermal) (s : State) : (modThermal f s).kongaord = s.kongaord := rfl
@[simp] theorem modThermal_boot (f : Thermal → Thermal) (s : State) : (modThermal f s).boot = s.boot := rfl
@[simp] theorem modThermal_tick (f : Thermal → Thermal) (s : State) : (modThermal f s).tick = s.tick := rfl
@[simp] theorem modThermal_cmd (f : Thermal → Thermal) (s : State) : (modThermal f s).cmd = s.cmd := rfl
@[simp] theorem modThermal_mailboxes (f : Thermal → Thermal) (s : State) : (modThermal f s).mailboxes = s.mailboxes := rfl
@[simp] theorem modThermal_bar0 (f : Thermal → Thermal) (s : State) : (modThermal f s).bar0 = s.bar0 := rfl
@[simp] theorem modThermal_hostMem (f : Thermal → Thermal) (s : State) : (modThermal f s).hostMem = s.hostMem := rfl
@[simp] theorem modThermal_hostUp (f : Thermal → Thermal) (s : State) : (modThermal f s).hostUp = s.hostUp := rfl
@[simp] theorem modThermal_collector (f : Thermal → Thermal) (s : State) : (modThermal f s).collector = s.collector := rfl
@[simp] theorem modThermal_regions (f : Thermal → Thermal) (s : State) : (modThermal f s).regions = s.regions := rfl
@[simp] theorem modThermal_ports (f : Thermal → Thermal) (s : State) : (modThermal f s).ports = s.ports := rfl
@[simp] theorem modThermal_contexts (f : Thermal → Thermal) (s : State) : (modThermal f s).contexts = s.contexts := rfl
@[simp] theorem modThermal_luts (f : Thermal → Thermal) (s : State) : (modThermal f s).luts = s.luts := rfl
@[simp] theorem modThermal_lutLoads (f : Thermal → Thermal) (s : State) : (modThermal f s).lutLoads = s.lutLoads := rfl
@[simp] theorem modThermal_lutCount (f : Thermal → Thermal) (s : State) : (modThermal f s).lutCount = s.lutCount := rfl
@[simp] theorem modThermal_tables (f : Thermal → Thermal) (s : State) : (modThermal f s).tables = s.tables := rfl
@[simp] theorem modThermal_tableCount (f : Thermal → Thermal) (s : State) : (modThermal f s).tableCount = s.tableCount := rfl
@[simp] theorem modThermal_power (f : Thermal → Thermal) (s : State) : (modThermal f s).power = s.power := rfl
@[simp] theorem modThermal_time (f : Thermal → Thermal) (s : State) : (modThermal f s).time = s.time := rfl
@[simp] theorem modThermal_cmp (f : Thermal → Thermal) (s : State) : (modThermal f s).cmp = s.cmp := rfl
@[simp] theorem modThermal_recs (f : Thermal → Thermal) (s : State) : (modThermal f s).recs = s.recs := rfl
@[simp] theorem modThermal_hostRings (f : Thermal → Thermal) (s : State) : (modThermal f s).hostRings = s.hostRings := rfl
@[simp] theorem modThermal_clipCount (f : Thermal → Thermal) (s : State) : (modThermal f s).clipCount = s.clipCount := rfl
@[simp] theorem modThermal_media (f : Thermal → Thermal) (s : State) : (modThermal f s).media = s.media := rfl
@[simp] theorem modThermal_stg (f : Thermal → Thermal) (s : State) : (modThermal f s).stg = s.stg := rfl
@[simp] theorem modThermal_sec (f : Thermal → Thermal) (s : State) : (modThermal f s).sec = s.sec := rfl
@[simp] theorem modThermal_vc (f : Thermal → Thermal) (s : State) : (modThermal f s).vc = s.vc := rfl
@[simp] theorem modThermal_outputs (f : Thermal → Thermal) (s : State) : (modThermal f s).outputs = s.outputs := rfl
@[simp] theorem modThermal_audio (f : Thermal → Thermal) (s : State) : (modThermal f s).audio = s.audio := rfl
@[simp] theorem modThermal_net (f : Thermal → Thermal) (s : State) : (modThermal f s).net = s.net := rfl
@[simp] theorem modThermal_ptp (f : Thermal → Thermal) (s : State) : (modThermal f s).ptp = s.ptp := rfl
@[simp] theorem modThermal_triggers (f : Thermal → Thermal) (s : State) : (modThermal f s).triggers = s.triggers := rfl
@[simp] theorem modThermal_pos (f : Thermal → Thermal) (s : State) : (modThermal f s).pos = s.pos := rfl
@[simp] theorem modThermal_hasp (f : Thermal → Thermal) (s : State) : (modThermal f s).hasp = s.hasp := rfl
@[simp] theorem modThermal_twb (f : Thermal → Thermal) (s : State) : (modThermal f s).twb = s.twb := rfl
@[simp] theorem modThermal_control (f : Thermal → Thermal) (s : State) : (modThermal f s).control = s.control := rfl
@[simp] theorem modThermal_ns2 (f : Thermal → Thermal) (s : State) : (modThermal f s).ns2 = s.ns2 := rfl
@[simp] theorem modThermal_mem (f : Thermal → Thermal) (s : State) : (modThermal f s).mem = s.mem := rfl
@[simp] theorem modThermal_flash (f : Thermal → Thermal) (s : State) : (modThermal f s).flash = s.flash := rfl

/-! ## modMedia -/

@[simp] theorem modMedia_pending (p : Fin 2) (f : MediaPort → MediaPort) (s : State) : (modMedia p f s).pending = s.pending := rfl
@[simp] theorem modMedia_clk (p : Fin 2) (f : MediaPort → MediaPort) (s : State) : (modMedia p f s).clk = s.clk := rfl
@[simp] theorem modMedia_out (p : Fin 2) (f : MediaPort → MediaPort) (s : State) : (modMedia p f s).out = s.out := rfl
@[simp] theorem modMedia_free (p : Fin 2) (f : MediaPort → MediaPort) (s : State) : (modMedia p f s).free = s.free := rfl
@[simp] theorem modMedia_devState (p : Fin 2) (f : MediaPort → MediaPort) (s : State) : (modMedia p f s).devState = s.devState := rfl
@[simp] theorem modMedia_kongaord (p : Fin 2) (f : MediaPort → MediaPort) (s : State) : (modMedia p f s).kongaord = s.kongaord := rfl
@[simp] theorem modMedia_boot (p : Fin 2) (f : MediaPort → MediaPort) (s : State) : (modMedia p f s).boot = s.boot := rfl
@[simp] theorem modMedia_tick (p : Fin 2) (f : MediaPort → MediaPort) (s : State) : (modMedia p f s).tick = s.tick := rfl
@[simp] theorem modMedia_cmd (p : Fin 2) (f : MediaPort → MediaPort) (s : State) : (modMedia p f s).cmd = s.cmd := rfl
@[simp] theorem modMedia_mailboxes (p : Fin 2) (f : MediaPort → MediaPort) (s : State) : (modMedia p f s).mailboxes = s.mailboxes := rfl
@[simp] theorem modMedia_bar0 (p : Fin 2) (f : MediaPort → MediaPort) (s : State) : (modMedia p f s).bar0 = s.bar0 := rfl
@[simp] theorem modMedia_hostMem (p : Fin 2) (f : MediaPort → MediaPort) (s : State) : (modMedia p f s).hostMem = s.hostMem := rfl
@[simp] theorem modMedia_hostUp (p : Fin 2) (f : MediaPort → MediaPort) (s : State) : (modMedia p f s).hostUp = s.hostUp := rfl
@[simp] theorem modMedia_collector (p : Fin 2) (f : MediaPort → MediaPort) (s : State) : (modMedia p f s).collector = s.collector := rfl
@[simp] theorem modMedia_regions (p : Fin 2) (f : MediaPort → MediaPort) (s : State) : (modMedia p f s).regions = s.regions := rfl
@[simp] theorem modMedia_ports (p : Fin 2) (f : MediaPort → MediaPort) (s : State) : (modMedia p f s).ports = s.ports := rfl
@[simp] theorem modMedia_contexts (p : Fin 2) (f : MediaPort → MediaPort) (s : State) : (modMedia p f s).contexts = s.contexts := rfl
@[simp] theorem modMedia_luts (p : Fin 2) (f : MediaPort → MediaPort) (s : State) : (modMedia p f s).luts = s.luts := rfl
@[simp] theorem modMedia_lutLoads (p : Fin 2) (f : MediaPort → MediaPort) (s : State) : (modMedia p f s).lutLoads = s.lutLoads := rfl
@[simp] theorem modMedia_lutCount (p : Fin 2) (f : MediaPort → MediaPort) (s : State) : (modMedia p f s).lutCount = s.lutCount := rfl
@[simp] theorem modMedia_tables (p : Fin 2) (f : MediaPort → MediaPort) (s : State) : (modMedia p f s).tables = s.tables := rfl
@[simp] theorem modMedia_tableCount (p : Fin 2) (f : MediaPort → MediaPort) (s : State) : (modMedia p f s).tableCount = s.tableCount := rfl
@[simp] theorem modMedia_power (p : Fin 2) (f : MediaPort → MediaPort) (s : State) : (modMedia p f s).power = s.power := rfl
@[simp] theorem modMedia_thermal (p : Fin 2) (f : MediaPort → MediaPort) (s : State) : (modMedia p f s).thermal = s.thermal := rfl
@[simp] theorem modMedia_time (p : Fin 2) (f : MediaPort → MediaPort) (s : State) : (modMedia p f s).time = s.time := rfl
@[simp] theorem modMedia_cmp (p : Fin 2) (f : MediaPort → MediaPort) (s : State) : (modMedia p f s).cmp = s.cmp := rfl
@[simp] theorem modMedia_recs (p : Fin 2) (f : MediaPort → MediaPort) (s : State) : (modMedia p f s).recs = s.recs := rfl
@[simp] theorem modMedia_hostRings (p : Fin 2) (f : MediaPort → MediaPort) (s : State) : (modMedia p f s).hostRings = s.hostRings := rfl
@[simp] theorem modMedia_clipCount (p : Fin 2) (f : MediaPort → MediaPort) (s : State) : (modMedia p f s).clipCount = s.clipCount := rfl
@[simp] theorem modMedia_stg (p : Fin 2) (f : MediaPort → MediaPort) (s : State) : (modMedia p f s).stg = s.stg := rfl
@[simp] theorem modMedia_sec (p : Fin 2) (f : MediaPort → MediaPort) (s : State) : (modMedia p f s).sec = s.sec := rfl
@[simp] theorem modMedia_vc (p : Fin 2) (f : MediaPort → MediaPort) (s : State) : (modMedia p f s).vc = s.vc := rfl
@[simp] theorem modMedia_outputs (p : Fin 2) (f : MediaPort → MediaPort) (s : State) : (modMedia p f s).outputs = s.outputs := rfl
@[simp] theorem modMedia_audio (p : Fin 2) (f : MediaPort → MediaPort) (s : State) : (modMedia p f s).audio = s.audio := rfl
@[simp] theorem modMedia_net (p : Fin 2) (f : MediaPort → MediaPort) (s : State) : (modMedia p f s).net = s.net := rfl
@[simp] theorem modMedia_ptp (p : Fin 2) (f : MediaPort → MediaPort) (s : State) : (modMedia p f s).ptp = s.ptp := rfl
@[simp] theorem modMedia_triggers (p : Fin 2) (f : MediaPort → MediaPort) (s : State) : (modMedia p f s).triggers = s.triggers := rfl
@[simp] theorem modMedia_pos (p : Fin 2) (f : MediaPort → MediaPort) (s : State) : (modMedia p f s).pos = s.pos := rfl
@[simp] theorem modMedia_hasp (p : Fin 2) (f : MediaPort → MediaPort) (s : State) : (modMedia p f s).hasp = s.hasp := rfl
@[simp] theorem modMedia_twb (p : Fin 2) (f : MediaPort → MediaPort) (s : State) : (modMedia p f s).twb = s.twb := rfl
@[simp] theorem modMedia_control (p : Fin 2) (f : MediaPort → MediaPort) (s : State) : (modMedia p f s).control = s.control := rfl
@[simp] theorem modMedia_ns2 (p : Fin 2) (f : MediaPort → MediaPort) (s : State) : (modMedia p f s).ns2 = s.ns2 := rfl
@[simp] theorem modMedia_mem (p : Fin 2) (f : MediaPort → MediaPort) (s : State) : (modMedia p f s).mem = s.mem := rfl
@[simp] theorem modMedia_flash (p : Fin 2) (f : MediaPort → MediaPort) (s : State) : (modMedia p f s).flash = s.flash := rfl

/-! ## modPtp -/

@[simp] theorem modPtp_pending (f : Ptp → Ptp) (s : State) : (modPtp f s).pending = s.pending := rfl
@[simp] theorem modPtp_clk (f : Ptp → Ptp) (s : State) : (modPtp f s).clk = s.clk := rfl
@[simp] theorem modPtp_out (f : Ptp → Ptp) (s : State) : (modPtp f s).out = s.out := rfl
@[simp] theorem modPtp_free (f : Ptp → Ptp) (s : State) : (modPtp f s).free = s.free := rfl
@[simp] theorem modPtp_devState (f : Ptp → Ptp) (s : State) : (modPtp f s).devState = s.devState := rfl
@[simp] theorem modPtp_kongaord (f : Ptp → Ptp) (s : State) : (modPtp f s).kongaord = s.kongaord := rfl
@[simp] theorem modPtp_boot (f : Ptp → Ptp) (s : State) : (modPtp f s).boot = s.boot := rfl
@[simp] theorem modPtp_tick (f : Ptp → Ptp) (s : State) : (modPtp f s).tick = s.tick := rfl
@[simp] theorem modPtp_cmd (f : Ptp → Ptp) (s : State) : (modPtp f s).cmd = s.cmd := rfl
@[simp] theorem modPtp_mailboxes (f : Ptp → Ptp) (s : State) : (modPtp f s).mailboxes = s.mailboxes := rfl
@[simp] theorem modPtp_bar0 (f : Ptp → Ptp) (s : State) : (modPtp f s).bar0 = s.bar0 := rfl
@[simp] theorem modPtp_hostMem (f : Ptp → Ptp) (s : State) : (modPtp f s).hostMem = s.hostMem := rfl
@[simp] theorem modPtp_hostUp (f : Ptp → Ptp) (s : State) : (modPtp f s).hostUp = s.hostUp := rfl
@[simp] theorem modPtp_collector (f : Ptp → Ptp) (s : State) : (modPtp f s).collector = s.collector := rfl
@[simp] theorem modPtp_regions (f : Ptp → Ptp) (s : State) : (modPtp f s).regions = s.regions := rfl
@[simp] theorem modPtp_ports (f : Ptp → Ptp) (s : State) : (modPtp f s).ports = s.ports := rfl
@[simp] theorem modPtp_contexts (f : Ptp → Ptp) (s : State) : (modPtp f s).contexts = s.contexts := rfl
@[simp] theorem modPtp_luts (f : Ptp → Ptp) (s : State) : (modPtp f s).luts = s.luts := rfl
@[simp] theorem modPtp_lutLoads (f : Ptp → Ptp) (s : State) : (modPtp f s).lutLoads = s.lutLoads := rfl
@[simp] theorem modPtp_lutCount (f : Ptp → Ptp) (s : State) : (modPtp f s).lutCount = s.lutCount := rfl
@[simp] theorem modPtp_tables (f : Ptp → Ptp) (s : State) : (modPtp f s).tables = s.tables := rfl
@[simp] theorem modPtp_tableCount (f : Ptp → Ptp) (s : State) : (modPtp f s).tableCount = s.tableCount := rfl
@[simp] theorem modPtp_power (f : Ptp → Ptp) (s : State) : (modPtp f s).power = s.power := rfl
@[simp] theorem modPtp_thermal (f : Ptp → Ptp) (s : State) : (modPtp f s).thermal = s.thermal := rfl
@[simp] theorem modPtp_time (f : Ptp → Ptp) (s : State) : (modPtp f s).time = s.time := rfl
@[simp] theorem modPtp_cmp (f : Ptp → Ptp) (s : State) : (modPtp f s).cmp = s.cmp := rfl
@[simp] theorem modPtp_recs (f : Ptp → Ptp) (s : State) : (modPtp f s).recs = s.recs := rfl
@[simp] theorem modPtp_hostRings (f : Ptp → Ptp) (s : State) : (modPtp f s).hostRings = s.hostRings := rfl
@[simp] theorem modPtp_clipCount (f : Ptp → Ptp) (s : State) : (modPtp f s).clipCount = s.clipCount := rfl
@[simp] theorem modPtp_media (f : Ptp → Ptp) (s : State) : (modPtp f s).media = s.media := rfl
@[simp] theorem modPtp_stg (f : Ptp → Ptp) (s : State) : (modPtp f s).stg = s.stg := rfl
@[simp] theorem modPtp_sec (f : Ptp → Ptp) (s : State) : (modPtp f s).sec = s.sec := rfl
@[simp] theorem modPtp_vc (f : Ptp → Ptp) (s : State) : (modPtp f s).vc = s.vc := rfl
@[simp] theorem modPtp_outputs (f : Ptp → Ptp) (s : State) : (modPtp f s).outputs = s.outputs := rfl
@[simp] theorem modPtp_audio (f : Ptp → Ptp) (s : State) : (modPtp f s).audio = s.audio := rfl
@[simp] theorem modPtp_net (f : Ptp → Ptp) (s : State) : (modPtp f s).net = s.net := rfl
@[simp] theorem modPtp_triggers (f : Ptp → Ptp) (s : State) : (modPtp f s).triggers = s.triggers := rfl
@[simp] theorem modPtp_pos (f : Ptp → Ptp) (s : State) : (modPtp f s).pos = s.pos := rfl
@[simp] theorem modPtp_hasp (f : Ptp → Ptp) (s : State) : (modPtp f s).hasp = s.hasp := rfl
@[simp] theorem modPtp_twb (f : Ptp → Ptp) (s : State) : (modPtp f s).twb = s.twb := rfl
@[simp] theorem modPtp_control (f : Ptp → Ptp) (s : State) : (modPtp f s).control = s.control := rfl
@[simp] theorem modPtp_ns2 (f : Ptp → Ptp) (s : State) : (modPtp f s).ns2 = s.ns2 := rfl
@[simp] theorem modPtp_mem (f : Ptp → Ptp) (s : State) : (modPtp f s).mem = s.mem := rfl
@[simp] theorem modPtp_flash (f : Ptp → Ptp) (s : State) : (modPtp f s).flash = s.flash := rfl

/-! ## modEth -/

@[simp] theorem modEth_pending (p : Fin 2) (f : EthPort → EthPort) (s : State) : (modEth p f s).pending = s.pending := rfl
@[simp] theorem modEth_clk (p : Fin 2) (f : EthPort → EthPort) (s : State) : (modEth p f s).clk = s.clk := rfl
@[simp] theorem modEth_out (p : Fin 2) (f : EthPort → EthPort) (s : State) : (modEth p f s).out = s.out := rfl
@[simp] theorem modEth_free (p : Fin 2) (f : EthPort → EthPort) (s : State) : (modEth p f s).free = s.free := rfl
@[simp] theorem modEth_devState (p : Fin 2) (f : EthPort → EthPort) (s : State) : (modEth p f s).devState = s.devState := rfl
@[simp] theorem modEth_kongaord (p : Fin 2) (f : EthPort → EthPort) (s : State) : (modEth p f s).kongaord = s.kongaord := rfl
@[simp] theorem modEth_boot (p : Fin 2) (f : EthPort → EthPort) (s : State) : (modEth p f s).boot = s.boot := rfl
@[simp] theorem modEth_tick (p : Fin 2) (f : EthPort → EthPort) (s : State) : (modEth p f s).tick = s.tick := rfl
@[simp] theorem modEth_cmd (p : Fin 2) (f : EthPort → EthPort) (s : State) : (modEth p f s).cmd = s.cmd := rfl
@[simp] theorem modEth_mailboxes (p : Fin 2) (f : EthPort → EthPort) (s : State) : (modEth p f s).mailboxes = s.mailboxes := rfl
@[simp] theorem modEth_bar0 (p : Fin 2) (f : EthPort → EthPort) (s : State) : (modEth p f s).bar0 = s.bar0 := rfl
@[simp] theorem modEth_hostMem (p : Fin 2) (f : EthPort → EthPort) (s : State) : (modEth p f s).hostMem = s.hostMem := rfl
@[simp] theorem modEth_hostUp (p : Fin 2) (f : EthPort → EthPort) (s : State) : (modEth p f s).hostUp = s.hostUp := rfl
@[simp] theorem modEth_collector (p : Fin 2) (f : EthPort → EthPort) (s : State) : (modEth p f s).collector = s.collector := rfl
@[simp] theorem modEth_regions (p : Fin 2) (f : EthPort → EthPort) (s : State) : (modEth p f s).regions = s.regions := rfl
@[simp] theorem modEth_ports (p : Fin 2) (f : EthPort → EthPort) (s : State) : (modEth p f s).ports = s.ports := rfl
@[simp] theorem modEth_contexts (p : Fin 2) (f : EthPort → EthPort) (s : State) : (modEth p f s).contexts = s.contexts := rfl
@[simp] theorem modEth_luts (p : Fin 2) (f : EthPort → EthPort) (s : State) : (modEth p f s).luts = s.luts := rfl
@[simp] theorem modEth_lutLoads (p : Fin 2) (f : EthPort → EthPort) (s : State) : (modEth p f s).lutLoads = s.lutLoads := rfl
@[simp] theorem modEth_lutCount (p : Fin 2) (f : EthPort → EthPort) (s : State) : (modEth p f s).lutCount = s.lutCount := rfl
@[simp] theorem modEth_tables (p : Fin 2) (f : EthPort → EthPort) (s : State) : (modEth p f s).tables = s.tables := rfl
@[simp] theorem modEth_tableCount (p : Fin 2) (f : EthPort → EthPort) (s : State) : (modEth p f s).tableCount = s.tableCount := rfl
@[simp] theorem modEth_power (p : Fin 2) (f : EthPort → EthPort) (s : State) : (modEth p f s).power = s.power := rfl
@[simp] theorem modEth_thermal (p : Fin 2) (f : EthPort → EthPort) (s : State) : (modEth p f s).thermal = s.thermal := rfl
@[simp] theorem modEth_time (p : Fin 2) (f : EthPort → EthPort) (s : State) : (modEth p f s).time = s.time := rfl
@[simp] theorem modEth_cmp (p : Fin 2) (f : EthPort → EthPort) (s : State) : (modEth p f s).cmp = s.cmp := rfl
@[simp] theorem modEth_recs (p : Fin 2) (f : EthPort → EthPort) (s : State) : (modEth p f s).recs = s.recs := rfl
@[simp] theorem modEth_hostRings (p : Fin 2) (f : EthPort → EthPort) (s : State) : (modEth p f s).hostRings = s.hostRings := rfl
@[simp] theorem modEth_clipCount (p : Fin 2) (f : EthPort → EthPort) (s : State) : (modEth p f s).clipCount = s.clipCount := rfl
@[simp] theorem modEth_media (p : Fin 2) (f : EthPort → EthPort) (s : State) : (modEth p f s).media = s.media := rfl
@[simp] theorem modEth_stg (p : Fin 2) (f : EthPort → EthPort) (s : State) : (modEth p f s).stg = s.stg := rfl
@[simp] theorem modEth_sec (p : Fin 2) (f : EthPort → EthPort) (s : State) : (modEth p f s).sec = s.sec := rfl
@[simp] theorem modEth_vc (p : Fin 2) (f : EthPort → EthPort) (s : State) : (modEth p f s).vc = s.vc := rfl
@[simp] theorem modEth_outputs (p : Fin 2) (f : EthPort → EthPort) (s : State) : (modEth p f s).outputs = s.outputs := rfl
@[simp] theorem modEth_audio (p : Fin 2) (f : EthPort → EthPort) (s : State) : (modEth p f s).audio = s.audio := rfl
@[simp] theorem modEth_ptp (p : Fin 2) (f : EthPort → EthPort) (s : State) : (modEth p f s).ptp = s.ptp := rfl
@[simp] theorem modEth_triggers (p : Fin 2) (f : EthPort → EthPort) (s : State) : (modEth p f s).triggers = s.triggers := rfl
@[simp] theorem modEth_pos (p : Fin 2) (f : EthPort → EthPort) (s : State) : (modEth p f s).pos = s.pos := rfl
@[simp] theorem modEth_hasp (p : Fin 2) (f : EthPort → EthPort) (s : State) : (modEth p f s).hasp = s.hasp := rfl
@[simp] theorem modEth_twb (p : Fin 2) (f : EthPort → EthPort) (s : State) : (modEth p f s).twb = s.twb := rfl
@[simp] theorem modEth_control (p : Fin 2) (f : EthPort → EthPort) (s : State) : (modEth p f s).control = s.control := rfl
@[simp] theorem modEth_ns2 (p : Fin 2) (f : EthPort → EthPort) (s : State) : (modEth p f s).ns2 = s.ns2 := rfl
@[simp] theorem modEth_mem (p : Fin 2) (f : EthPort → EthPort) (s : State) : (modEth p f s).mem = s.mem := rfl
@[simp] theorem modEth_flash (p : Fin 2) (f : EthPort → EthPort) (s : State) : (modEth p f s).flash = s.flash := rfl

/-! ## modTwb -/

@[simp] theorem modTwb_pending (f : Twb → Twb) (s : State) : (modTwb f s).pending = s.pending := rfl
@[simp] theorem modTwb_clk (f : Twb → Twb) (s : State) : (modTwb f s).clk = s.clk := rfl
@[simp] theorem modTwb_out (f : Twb → Twb) (s : State) : (modTwb f s).out = s.out := rfl
@[simp] theorem modTwb_free (f : Twb → Twb) (s : State) : (modTwb f s).free = s.free := rfl
@[simp] theorem modTwb_devState (f : Twb → Twb) (s : State) : (modTwb f s).devState = s.devState := rfl
@[simp] theorem modTwb_kongaord (f : Twb → Twb) (s : State) : (modTwb f s).kongaord = s.kongaord := rfl
@[simp] theorem modTwb_boot (f : Twb → Twb) (s : State) : (modTwb f s).boot = s.boot := rfl
@[simp] theorem modTwb_tick (f : Twb → Twb) (s : State) : (modTwb f s).tick = s.tick := rfl
@[simp] theorem modTwb_cmd (f : Twb → Twb) (s : State) : (modTwb f s).cmd = s.cmd := rfl
@[simp] theorem modTwb_mailboxes (f : Twb → Twb) (s : State) : (modTwb f s).mailboxes = s.mailboxes := rfl
@[simp] theorem modTwb_bar0 (f : Twb → Twb) (s : State) : (modTwb f s).bar0 = s.bar0 := rfl
@[simp] theorem modTwb_hostMem (f : Twb → Twb) (s : State) : (modTwb f s).hostMem = s.hostMem := rfl
@[simp] theorem modTwb_hostUp (f : Twb → Twb) (s : State) : (modTwb f s).hostUp = s.hostUp := rfl
@[simp] theorem modTwb_collector (f : Twb → Twb) (s : State) : (modTwb f s).collector = s.collector := rfl
@[simp] theorem modTwb_regions (f : Twb → Twb) (s : State) : (modTwb f s).regions = s.regions := rfl
@[simp] theorem modTwb_ports (f : Twb → Twb) (s : State) : (modTwb f s).ports = s.ports := rfl
@[simp] theorem modTwb_contexts (f : Twb → Twb) (s : State) : (modTwb f s).contexts = s.contexts := rfl
@[simp] theorem modTwb_luts (f : Twb → Twb) (s : State) : (modTwb f s).luts = s.luts := rfl
@[simp] theorem modTwb_lutLoads (f : Twb → Twb) (s : State) : (modTwb f s).lutLoads = s.lutLoads := rfl
@[simp] theorem modTwb_lutCount (f : Twb → Twb) (s : State) : (modTwb f s).lutCount = s.lutCount := rfl
@[simp] theorem modTwb_tables (f : Twb → Twb) (s : State) : (modTwb f s).tables = s.tables := rfl
@[simp] theorem modTwb_tableCount (f : Twb → Twb) (s : State) : (modTwb f s).tableCount = s.tableCount := rfl
@[simp] theorem modTwb_power (f : Twb → Twb) (s : State) : (modTwb f s).power = s.power := rfl
@[simp] theorem modTwb_thermal (f : Twb → Twb) (s : State) : (modTwb f s).thermal = s.thermal := rfl
@[simp] theorem modTwb_time (f : Twb → Twb) (s : State) : (modTwb f s).time = s.time := rfl
@[simp] theorem modTwb_cmp (f : Twb → Twb) (s : State) : (modTwb f s).cmp = s.cmp := rfl
@[simp] theorem modTwb_recs (f : Twb → Twb) (s : State) : (modTwb f s).recs = s.recs := rfl
@[simp] theorem modTwb_hostRings (f : Twb → Twb) (s : State) : (modTwb f s).hostRings = s.hostRings := rfl
@[simp] theorem modTwb_clipCount (f : Twb → Twb) (s : State) : (modTwb f s).clipCount = s.clipCount := rfl
@[simp] theorem modTwb_media (f : Twb → Twb) (s : State) : (modTwb f s).media = s.media := rfl
@[simp] theorem modTwb_stg (f : Twb → Twb) (s : State) : (modTwb f s).stg = s.stg := rfl
@[simp] theorem modTwb_sec (f : Twb → Twb) (s : State) : (modTwb f s).sec = s.sec := rfl
@[simp] theorem modTwb_vc (f : Twb → Twb) (s : State) : (modTwb f s).vc = s.vc := rfl
@[simp] theorem modTwb_outputs (f : Twb → Twb) (s : State) : (modTwb f s).outputs = s.outputs := rfl
@[simp] theorem modTwb_audio (f : Twb → Twb) (s : State) : (modTwb f s).audio = s.audio := rfl
@[simp] theorem modTwb_net (f : Twb → Twb) (s : State) : (modTwb f s).net = s.net := rfl
@[simp] theorem modTwb_ptp (f : Twb → Twb) (s : State) : (modTwb f s).ptp = s.ptp := rfl
@[simp] theorem modTwb_triggers (f : Twb → Twb) (s : State) : (modTwb f s).triggers = s.triggers := rfl
@[simp] theorem modTwb_pos (f : Twb → Twb) (s : State) : (modTwb f s).pos = s.pos := rfl
@[simp] theorem modTwb_hasp (f : Twb → Twb) (s : State) : (modTwb f s).hasp = s.hasp := rfl
@[simp] theorem modTwb_control (f : Twb → Twb) (s : State) : (modTwb f s).control = s.control := rfl
@[simp] theorem modTwb_ns2 (f : Twb → Twb) (s : State) : (modTwb f s).ns2 = s.ns2 := rfl
@[simp] theorem modTwb_mem (f : Twb → Twb) (s : State) : (modTwb f s).mem = s.mem := rfl
@[simp] theorem modTwb_flash (f : Twb → Twb) (s : State) : (modTwb f s).flash = s.flash := rfl

/-! ## modVc -/

@[simp] theorem modVc_pending (f : Coders → Coders) (s : State) : (modVc f s).pending = s.pending := rfl
@[simp] theorem modVc_clk (f : Coders → Coders) (s : State) : (modVc f s).clk = s.clk := rfl
@[simp] theorem modVc_out (f : Coders → Coders) (s : State) : (modVc f s).out = s.out := rfl
@[simp] theorem modVc_free (f : Coders → Coders) (s : State) : (modVc f s).free = s.free := rfl
@[simp] theorem modVc_devState (f : Coders → Coders) (s : State) : (modVc f s).devState = s.devState := rfl
@[simp] theorem modVc_kongaord (f : Coders → Coders) (s : State) : (modVc f s).kongaord = s.kongaord := rfl
@[simp] theorem modVc_boot (f : Coders → Coders) (s : State) : (modVc f s).boot = s.boot := rfl
@[simp] theorem modVc_tick (f : Coders → Coders) (s : State) : (modVc f s).tick = s.tick := rfl
@[simp] theorem modVc_cmd (f : Coders → Coders) (s : State) : (modVc f s).cmd = s.cmd := rfl
@[simp] theorem modVc_mailboxes (f : Coders → Coders) (s : State) : (modVc f s).mailboxes = s.mailboxes := rfl
@[simp] theorem modVc_bar0 (f : Coders → Coders) (s : State) : (modVc f s).bar0 = s.bar0 := rfl
@[simp] theorem modVc_hostMem (f : Coders → Coders) (s : State) : (modVc f s).hostMem = s.hostMem := rfl
@[simp] theorem modVc_hostUp (f : Coders → Coders) (s : State) : (modVc f s).hostUp = s.hostUp := rfl
@[simp] theorem modVc_collector (f : Coders → Coders) (s : State) : (modVc f s).collector = s.collector := rfl
@[simp] theorem modVc_regions (f : Coders → Coders) (s : State) : (modVc f s).regions = s.regions := rfl
@[simp] theorem modVc_ports (f : Coders → Coders) (s : State) : (modVc f s).ports = s.ports := rfl
@[simp] theorem modVc_contexts (f : Coders → Coders) (s : State) : (modVc f s).contexts = s.contexts := rfl
@[simp] theorem modVc_luts (f : Coders → Coders) (s : State) : (modVc f s).luts = s.luts := rfl
@[simp] theorem modVc_lutLoads (f : Coders → Coders) (s : State) : (modVc f s).lutLoads = s.lutLoads := rfl
@[simp] theorem modVc_lutCount (f : Coders → Coders) (s : State) : (modVc f s).lutCount = s.lutCount := rfl
@[simp] theorem modVc_tables (f : Coders → Coders) (s : State) : (modVc f s).tables = s.tables := rfl
@[simp] theorem modVc_tableCount (f : Coders → Coders) (s : State) : (modVc f s).tableCount = s.tableCount := rfl
@[simp] theorem modVc_power (f : Coders → Coders) (s : State) : (modVc f s).power = s.power := rfl
@[simp] theorem modVc_thermal (f : Coders → Coders) (s : State) : (modVc f s).thermal = s.thermal := rfl
@[simp] theorem modVc_time (f : Coders → Coders) (s : State) : (modVc f s).time = s.time := rfl
@[simp] theorem modVc_cmp (f : Coders → Coders) (s : State) : (modVc f s).cmp = s.cmp := rfl
@[simp] theorem modVc_recs (f : Coders → Coders) (s : State) : (modVc f s).recs = s.recs := rfl
@[simp] theorem modVc_hostRings (f : Coders → Coders) (s : State) : (modVc f s).hostRings = s.hostRings := rfl
@[simp] theorem modVc_clipCount (f : Coders → Coders) (s : State) : (modVc f s).clipCount = s.clipCount := rfl
@[simp] theorem modVc_media (f : Coders → Coders) (s : State) : (modVc f s).media = s.media := rfl
@[simp] theorem modVc_stg (f : Coders → Coders) (s : State) : (modVc f s).stg = s.stg := rfl
@[simp] theorem modVc_sec (f : Coders → Coders) (s : State) : (modVc f s).sec = s.sec := rfl
@[simp] theorem modVc_outputs (f : Coders → Coders) (s : State) : (modVc f s).outputs = s.outputs := rfl
@[simp] theorem modVc_audio (f : Coders → Coders) (s : State) : (modVc f s).audio = s.audio := rfl
@[simp] theorem modVc_net (f : Coders → Coders) (s : State) : (modVc f s).net = s.net := rfl
@[simp] theorem modVc_ptp (f : Coders → Coders) (s : State) : (modVc f s).ptp = s.ptp := rfl
@[simp] theorem modVc_triggers (f : Coders → Coders) (s : State) : (modVc f s).triggers = s.triggers := rfl
@[simp] theorem modVc_pos (f : Coders → Coders) (s : State) : (modVc f s).pos = s.pos := rfl
@[simp] theorem modVc_hasp (f : Coders → Coders) (s : State) : (modVc f s).hasp = s.hasp := rfl
@[simp] theorem modVc_twb (f : Coders → Coders) (s : State) : (modVc f s).twb = s.twb := rfl
@[simp] theorem modVc_control (f : Coders → Coders) (s : State) : (modVc f s).control = s.control := rfl
@[simp] theorem modVc_ns2 (f : Coders → Coders) (s : State) : (modVc f s).ns2 = s.ns2 := rfl
@[simp] theorem modVc_mem (f : Coders → Coders) (s : State) : (modVc f s).mem = s.mem := rfl
@[simp] theorem modVc_flash (f : Coders → Coders) (s : State) : (modVc f s).flash = s.flash := rfl

/-! ## emit -/

@[simp] theorem emit_pending (x : Emission) (s : State) : (emit x s).pending = s.pending := rfl
@[simp] theorem emit_clk (x : Emission) (s : State) : (emit x s).clk = s.clk := rfl
@[simp] theorem emit_free (x : Emission) (s : State) : (emit x s).free = s.free := rfl
@[simp] theorem emit_devState (x : Emission) (s : State) : (emit x s).devState = s.devState := rfl
@[simp] theorem emit_kongaord (x : Emission) (s : State) : (emit x s).kongaord = s.kongaord := rfl
@[simp] theorem emit_boot (x : Emission) (s : State) : (emit x s).boot = s.boot := rfl
@[simp] theorem emit_tick (x : Emission) (s : State) : (emit x s).tick = s.tick := rfl
@[simp] theorem emit_cmd (x : Emission) (s : State) : (emit x s).cmd = s.cmd := rfl
@[simp] theorem emit_mailboxes (x : Emission) (s : State) : (emit x s).mailboxes = s.mailboxes := rfl
@[simp] theorem emit_bar0 (x : Emission) (s : State) : (emit x s).bar0 = s.bar0 := rfl
@[simp] theorem emit_hostMem (x : Emission) (s : State) : (emit x s).hostMem = s.hostMem := rfl
@[simp] theorem emit_hostUp (x : Emission) (s : State) : (emit x s).hostUp = s.hostUp := rfl
@[simp] theorem emit_collector (x : Emission) (s : State) : (emit x s).collector = s.collector := rfl
@[simp] theorem emit_regions (x : Emission) (s : State) : (emit x s).regions = s.regions := rfl
@[simp] theorem emit_ports (x : Emission) (s : State) : (emit x s).ports = s.ports := rfl
@[simp] theorem emit_contexts (x : Emission) (s : State) : (emit x s).contexts = s.contexts := rfl
@[simp] theorem emit_luts (x : Emission) (s : State) : (emit x s).luts = s.luts := rfl
@[simp] theorem emit_lutLoads (x : Emission) (s : State) : (emit x s).lutLoads = s.lutLoads := rfl
@[simp] theorem emit_lutCount (x : Emission) (s : State) : (emit x s).lutCount = s.lutCount := rfl
@[simp] theorem emit_tables (x : Emission) (s : State) : (emit x s).tables = s.tables := rfl
@[simp] theorem emit_tableCount (x : Emission) (s : State) : (emit x s).tableCount = s.tableCount := rfl
@[simp] theorem emit_power (x : Emission) (s : State) : (emit x s).power = s.power := rfl
@[simp] theorem emit_thermal (x : Emission) (s : State) : (emit x s).thermal = s.thermal := rfl
@[simp] theorem emit_time (x : Emission) (s : State) : (emit x s).time = s.time := rfl
@[simp] theorem emit_cmp (x : Emission) (s : State) : (emit x s).cmp = s.cmp := rfl
@[simp] theorem emit_recs (x : Emission) (s : State) : (emit x s).recs = s.recs := rfl
@[simp] theorem emit_hostRings (x : Emission) (s : State) : (emit x s).hostRings = s.hostRings := rfl
@[simp] theorem emit_clipCount (x : Emission) (s : State) : (emit x s).clipCount = s.clipCount := rfl
@[simp] theorem emit_media (x : Emission) (s : State) : (emit x s).media = s.media := rfl
@[simp] theorem emit_stg (x : Emission) (s : State) : (emit x s).stg = s.stg := rfl
@[simp] theorem emit_sec (x : Emission) (s : State) : (emit x s).sec = s.sec := rfl
@[simp] theorem emit_vc (x : Emission) (s : State) : (emit x s).vc = s.vc := rfl
@[simp] theorem emit_outputs (x : Emission) (s : State) : (emit x s).outputs = s.outputs := rfl
@[simp] theorem emit_audio (x : Emission) (s : State) : (emit x s).audio = s.audio := rfl
@[simp] theorem emit_net (x : Emission) (s : State) : (emit x s).net = s.net := rfl
@[simp] theorem emit_ptp (x : Emission) (s : State) : (emit x s).ptp = s.ptp := rfl
@[simp] theorem emit_triggers (x : Emission) (s : State) : (emit x s).triggers = s.triggers := rfl
@[simp] theorem emit_pos (x : Emission) (s : State) : (emit x s).pos = s.pos := rfl
@[simp] theorem emit_hasp (x : Emission) (s : State) : (emit x s).hasp = s.hasp := rfl
@[simp] theorem emit_twb (x : Emission) (s : State) : (emit x s).twb = s.twb := rfl
@[simp] theorem emit_control (x : Emission) (s : State) : (emit x s).control = s.control := rfl
@[simp] theorem emit_ns2 (x : Emission) (s : State) : (emit x s).ns2 = s.ns2 := rfl
@[simp] theorem emit_mem (x : Emission) (s : State) : (emit x s).mem = s.mem := rfl
@[simp] theorem emit_flash (x : Emission) (s : State) : (emit x s).flash = s.flash := rfl

end Sys2Proof.Machine
end

