-- ==== Sys2Proof/Tests/Slice0.lean ====
section
/-!
SUPPORT. Slice0: the model's own tests. Each is one named theorem on a small state: the well-formedness checks refuse what they should,
commands answer as the spec's words say, and every hypothesis of a statement can be met.
-/

namespace Sys2Proof.Tests

open Sys2Proof Sys2Proof.Machine

set_option Elab.async false

/-! ## States and entries -/

/-- An entry of mailbox 0 with its payload inline, from pieces at offsets. -/
def inlineEntry (n : Nat) (l : List (Nat × List Byte)) : Entry :=
  { mb := 0, tag := 0x11, flags := 0, rsv6 := 0, len := BitVec.ofNat 32 n, rsv12 := 0, loc := 0, inl := image 40 l, data := [] }

/-- An entry of mailbox 0 with its payload at offset 64 of the arena. -/
def arenaEntry (n : Nat) (l : List (Nat × List Byte)) : Entry :=
  { mb := 0, tag := 0x11, flags := 2, rsv6 := 0, len := BitVec.ofNat 32 n, rsv12 := 0, loc := 64, inl := List.replicate 40 0
    data := image (min n 2056) l }

/-- The same entry with the HOLD flag. -/
def held (e : Entry) : Entry := { e with flags := e.flags ||| 1 }

/-- A running device: Kongaord serves, every power domain is on, the host answers, mailbox 0 holds one command not taken. -/
def up : State :=
  { State.reset with
    devState := 2, kongaord := true, hostUp := true
    power := { State.reset.power with domains := Vector.replicate 25 .on }
    mailboxes := State.reset.mailboxes.set 0 { State.reset.mailboxes[0] with enabled := true, cmdTail := 1, tailSeen := 1, quota := 8 } }

/-- `up` with context 0 as given, the stacks running and a landing ring of 64 MiB on each port. -/
def withCtx (x : Context) : State :=
  { up with contexts := up.contexts.set 0 x, mem := { up.mem with stks := Vector.replicate 4 { state := .running } }
            ports := Vector.replicate 4 { ring := 2 ^ 26 } }

/-- A small source: 64 columns and 16 rows of port 0, every frame taken. -/
def source : Source := { mask := 1, w := 64, h := 16 }

/-- Context 0 configured, over region 0. -/
def configured : State := withCtx { state := .configured, live := { source := source, regions := 1 } }

/-- Context 0 running. -/
def running : State := withCtx { state := .running, slots := 2, live := { source := source, regions := 1 } }

/-- A manager, whose worker 1 has joined and has held one command. -/
def manager : State :=
  { up with boot := { up.boot with strap := 2 }
            hasp := { up.hasp with workers := up.hasp.workers.set 1 { joined := true, held := 1 } } }

/-- Sensor port 0 configured alone, in the given state. -/
def withPort (st : PortState) : State :=
  { up with ports := up.ports.set 0 { up.ports[0] with
      cfg := some ⟨0, 16, 0, true, false, false, 0⟩, first := some 0, state := st } }

/-- Decode session 0 open. -/
def decoding : State :=
  { up with vc := { up.vc with sessions := up.vc.sessions.set 0 (some ⟨1, 8, 4, 64, 64, 30000, 4096, some 0, [], 0, 0, 0, [], false⟩) } }

/-! ## Every mailbox command is accepted in some state -/

theorem accepts_tickSetSource : Accepts tickSetSourceSpec (inlineEntry 24 [put 8 8 20000000000]) (up)
    := ⟨by decide +kernel, by decide +kernel, by decide +kernel⟩
theorem accepts_tickRateConfirm : Accepts tickRateConfirmSpec (inlineEntry 8 [put 0 8 20000000000]) ({ up with tick := { up.tick with state := .ratePending, rate := some 20000000000 } })
    := ⟨by decide +kernel, by decide +kernel, by decide +kernel⟩
theorem accepts_tickGetState : Accepts tickGetStateSpec (arenaEntry 64 []) (up)
    := ⟨by decide +kernel, by decide +kernel, by decide +kernel⟩
theorem accepts_tickBudgetQuery : Accepts tickBudgetQuerySpec (arenaEntry 208 []) (up)
    := ⟨by decide +kernel, by decide +kernel, by decide +kernel⟩
theorem accepts_tickArm : Accepts tickArmSpec (inlineEntry 8 []) ({ up with cmd := { up.cmd with hold := some ⟨0, [⟨[.stop 0], some 0, 1⟩]⟩ } })
    := ⟨by decide +kernel, by decide +kernel, by decide +kernel⟩
theorem accepts_tickDiscard : Accepts tickDiscardSpec (inlineEntry 0 []) ({ up with cmd := { up.cmd with hold := some ⟨0, [⟨[.stop 0], some 0, 1⟩]⟩ } })
    := ⟨by decide +kernel, by decide +kernel, by decide +kernel⟩
theorem accepts_sysNop : Accepts sysNopSpec (inlineEntry 0 []) (up)
    := ⟨by decide +kernel, by decide +kernel, by decide +kernel⟩
theorem accepts_sysIdentify : Accepts sysIdentifySpec (arenaEntry 128 []) (up)
    := ⟨by decide +kernel, by decide +kernel, by decide +kernel⟩
theorem accepts_sysEventMask : Accepts sysEventMaskSpec (inlineEntry 8 []) (up)
    := ⟨by decide +kernel, by decide +kernel, by decide +kernel⟩
theorem accepts_sysBlockReset : Accepts sysBlockResetSpec (inlineEntry 8 [put 0 1 0x10, put 2 2 1]) (up)
    := ⟨by decide +kernel, by decide +kernel, by decide +kernel⟩
theorem accepts_sysReset : Accepts sysResetSpec (inlineEntry 8 []) (up)
    := ⟨by decide +kernel, by decide +kernel, by decide +kernel⟩
theorem accepts_sysRecoveryStatus : Accepts sysRecoveryStatusSpec (arenaEntry 32 []) (up)
    := ⟨by decide +kernel, by decide +kernel, by decide +kernel⟩
theorem accepts_sysTwbConfig : Accepts sysTwbConfigSpec (inlineEntry 8 []) (up)
    := ⟨by decide +kernel, by decide +kernel, by decide +kernel⟩
theorem accepts_ctxSetSource : Accepts ctxSetSourceSpec (inlineEntry 16 [put 4 1 1, put 6 2 1, put 10 2 64, put 12 2 16]) (withCtx {})
    := ⟨by decide +kernel, by decide +kernel, by decide +kernel⟩
theorem accepts_ctxSetPlacement : Accepts ctxSetPlacementSpec (inlineEntry 8 [put 1 1 1]) (withCtx { state := .sourced, live := { source := source } })
    := ⟨by decide +kernel, by decide +kernel, by decide +kernel⟩
theorem accepts_ctxLandingConfig : Accepts ctxLandingConfigSpec (inlineEntry 16 [put 8 8 (2 ^ 26)]) (up)
    := ⟨by decide +kernel, by decide +kernel, by decide +kernel⟩
theorem accepts_ctxStart : Accepts ctxStartSpec (inlineEntry 8 []) (configured)
    := ⟨by decide +kernel, by decide +kernel, by decide +kernel⟩
theorem accepts_ctxStop : Accepts ctxStopSpec (inlineEntry 8 []) (running)
    := ⟨by decide +kernel, by decide +kernel, by decide +kernel⟩
theorem accepts_ctxTestPattern : Accepts ctxTestPatternSpec (inlineEntry 8 [put 1 1 1, put 2 2 16383]) (configured)
    := ⟨by decide +kernel, by decide +kernel, by decide +kernel⟩
theorem accepts_ctxGetStatus : Accepts ctxGetStatusSpec (arenaEntry 64 []) (up)
    := ⟨by decide +kernel, by decide +kernel, by decide +kernel⟩
theorem accepts_slPortConfig : Accepts slPortConfigSpec (inlineEntry 16 [put 2 1 16]) (up)
    := ⟨by decide +kernel, by decide +kernel, by decide +kernel⟩
theorem accepts_slPortStart : Accepts slPortStartSpec (inlineEntry 8 []) (withPort .off)
    := ⟨by decide +kernel, by decide +kernel, by decide +kernel⟩
theorem accepts_slPortStop : Accepts slPortStopSpec (inlineEntry 8 []) (up)
    := ⟨by decide +kernel, by decide +kernel, by decide +kernel⟩
theorem accepts_slGetStatus : Accepts slGetStatusSpec (arenaEntry 224 []) (up)
    := ⟨by decide +kernel, by decide +kernel, by decide +kernel⟩
theorem accepts_slRegAccess : Accepts slRegAccessSpec (inlineEntry 8 [put 1 1 1, put 4 2 0xFFFF]) (withPort .active)
    := ⟨by decide +kernel, by decide +kernel, by decide +kernel⟩
theorem accepts_slLoopback : Accepts slLoopbackSpec (inlineEntry 8 []) (up)
    := ⟨by decide +kernel, by decide +kernel, by decide +kernel⟩
theorem accepts_rawSetCfa : Accepts rawSetCfaSpec (arenaEntry 72 [put 1 1 1, put 2 1 1, put 8 1 7]) (configured)
    := ⟨by decide +kernel, by decide +kernel, by decide +kernel⟩
theorem accepts_rawSetBlack : Accepts rawSetBlackSpec (inlineEntry 32 [put 2 1 0xFF]) (configured)
    := ⟨by decide +kernel, by decide +kernel, by decide +kernel⟩
theorem accepts_rawLoadColumn : Accepts rawLoadColumnSpec (arenaEntry 136 [put 4 4 64]) (configured)
    := ⟨by decide +kernel, by decide +kernel, by decide +kernel⟩
theorem accepts_rawBindPixelTable : Accepts rawBindPixelTableSpec (inlineEntry 32 [put 8 4 64, put 12 4 16]) (configured)
    := ⟨by decide +kernel, by decide +kernel, by decide +kernel⟩
theorem accepts_rawLoadDefects : Accepts rawLoadDefectsSpec (arenaEntry 20 [put 1 1 1, put 12 4 1]) (configured)
    := ⟨by decide +kernel, by decide +kernel, by decide +kernel⟩
theorem accepts_rawSetShading : Accepts rawSetShadingSpec (inlineEntry 8 []) (configured)
    := ⟨by decide +kernel, by decide +kernel, by decide +kernel⟩
theorem accepts_rawSetMerge : Accepts rawSetMergeSpec (arenaEntry 64 [put 16 4 1, put 22 2 1, put 28 4 1, put 34 2 1, put 40 4 1, put 46 2 1, put 52 4 1, put 58 2 1]) (configured)
    := ⟨by decide +kernel, by decide +kernel, by decide +kernel⟩
theorem accepts_rawSetTaps : Accepts rawSetTapsSpec (inlineEntry 8 []) (configured)
    := ⟨by decide +kernel, by decide +kernel, by decide +kernel⟩
theorem accepts_rawGetStatus : Accepts rawGetStatusSpec (arenaEntry 64 []) (configured)
    := ⟨by decide +kernel, by decide +kernel, by decide +kernel⟩
theorem accepts_grdSetDevelop : Accepts grdSetDevelopSpec (arenaEntry 96 [put 2 2 128, put 56 4 0x3F800000, put 60 4 0x3F800000, put 64 4 0x3F800000, put 68 4 0x3F800000]) (configured)
    := ⟨by decide +kernel, by decide +kernel, by decide +kernel⟩
theorem accepts_grdSetNoise : Accepts grdSetNoiseSpec (arenaEntry 184 [put 5 1 1]) (configured)
    := ⟨by decide +kernel, by decide +kernel, by decide +kernel⟩
theorem accepts_grdSetGrade : Accepts grdSetGradeSpec (arenaEntry 72 [put 3 1 0xFF, put 42 1 10, put 46 1 1, put 47 1 1, put 48 2 64, put 50 2 16, put 56 4 0x3F800000]) (configured)
    := ⟨by decide +kernel, by decide +kernel, by decide +kernel⟩
theorem accepts_grdFreeLut : Accepts grdFreeLutSpec (inlineEntry 8 [put 0 1 1]) (up)
    := ⟨by decide +kernel, by decide +kernel, by decide +kernel⟩
theorem accepts_grdGetStatus : Accepts grdGetStatusSpec (arenaEntry 128 []) (up)
    := ⟨by decide +kernel, by decide +kernel, by decide +kernel⟩
theorem accepts_statSetConfig : Accepts statSetConfigSpec (inlineEntry 40 [put 5 1 1, put 6 1 1, put 12 4 0x3F800000, put 20 4 0x3F800000, put 32 2 64, put 34 2 16]) (configured)
    := ⟨by decide +kernel, by decide +kernel, by decide +kernel⟩
theorem accepts_statSetTarget : Accepts statSetTargetSpec (inlineEntry 16 [put 1 1 1, put 8 8 4096]) (configured)
    := ⟨by decide +kernel, by decide +kernel, by decide +kernel⟩
theorem accepts_statReadRecord : Accepts statReadRecordSpec (arenaEntry 147456 [put 2 6 5]) (withCtx { records := [{ ctx := 0, marks := 0, flags := 0, frame := 5, tick := 0, cfg := {}, regions := 0, workers := 0, valid := 0, invalid := 0, bins := [], zones := [] }] })
    := ⟨by decide +kernel, by decide +kernel, by decide +kernel⟩
theorem accepts_memSetMode : Accepts memSetModeSpec (inlineEntry 8 []) (up)
    := ⟨by decide +kernel, by decide +kernel, by decide +kernel⟩
theorem accepts_memGetStatus : Accepts memGetStatusSpec (arenaEntry 272 []) (up)
    := ⟨by decide +kernel, by decide +kernel, by decide +kernel⟩
theorem accepts_memReadLog : Accepts memReadLogSpec (arenaEntry 8208 []) (up)
    := ⟨by decide +kernel, by decide +kernel, by decide +kernel⟩
theorem accepts_memCalibrate : Accepts memCalibrateSpec (inlineEntry 8 [put 0 1 1]) (up)
    := ⟨by decide +kernel, by decide +kernel, by decide +kernel⟩
theorem accepts_memRetrain : Accepts memRetrainSpec (inlineEntry 8 []) (up)
    := ⟨by decide +kernel, by decide +kernel, by decide +kernel⟩
theorem accepts_memSetPolicy : Accepts memSetPolicySpec (inlineEntry 16 [put 4 4 1, put 8 2 1]) (up)
    := ⟨by decide +kernel, by decide +kernel, by decide +kernel⟩
theorem accepts_memRepair : Accepts memRepairSpec (inlineEntry 8 [put 4 2 24575]) ({ up with mem := { up.mem with candidates := [(0, 0, 24575)] } })
    := ⟨by decide +kernel, by decide +kernel, by decide +kernel⟩
theorem accepts_cmpSubmit : Accepts cmpSubmitSpec (arenaEntry 96 [put 0 1 1, put 16 1 3, put 24 8 4096, put 32 4 64, put 36 4 64]) (up)
    := ⟨by decide +kernel, by decide +kernel, by decide +kernel⟩
theorem accepts_cmpSetHostEngines : Accepts cmpSetHostEnginesSpec (inlineEntry 8 []) (up)
    := ⟨by decide +kernel, by decide +kernel, by decide +kernel⟩
theorem accepts_cmpCancel : Accepts cmpCancelSpec (inlineEntry 8 [put 0 2 7]) ({ up with cmp := { up.cmp with submits := [⟨0, 7, 1, 0, []⟩] } })
    := ⟨by decide +kernel, by decide +kernel, by decide +kernel⟩
theorem accepts_cmpGetStatus : Accepts cmpGetStatusSpec (arenaEntry 64 []) (up)
    := ⟨by decide +kernel, by decide +kernel, by decide +kernel⟩
theorem accepts_recMedia : Accepts recMediaSpec (inlineEntry 8 []) (up)
    := ⟨by decide +kernel, by decide +kernel, by decide +kernel⟩
theorem accepts_recSetTarget : Accepts recSetTargetSpec (inlineEntry 40 [put 8 4 64]) (configured)
    := ⟨by decide +kernel, by decide +kernel, by decide +kernel⟩
theorem accepts_recStart : Accepts recStartSpec (inlineEntry 8 []) (withCtx { state := .running, slots := 2, live := { source := source, regions := 1, recording := { target := .ring, budget := 64, ringSize := 2 ^ 30 } } })
    := ⟨by decide +kernel, by decide +kernel, by decide +kernel⟩
theorem accepts_recStop : Accepts recStopSpec (inlineEntry 8 []) ({ running with recs := running.recs.set 0 { running.recs[0] with clips := [{ id := 1, ctx := 0, cfg := {}, fromHinge := 0 }] } })
    := ⟨by decide +kernel, by decide +kernel, by decide +kernel⟩
theorem accepts_recTrigger : Accepts recTriggerSpec (inlineEntry 8 []) ({ running with recs := running.recs.set 0 { running.recs[0] with clips := [{ id := 1, ctx := 0, cfg := { target := .ring, triggers := 4 }, fromHinge := 0 }] } })
    := ⟨by decide +kernel, by decide +kernel, by decide +kernel⟩
theorem accepts_recRelease : Accepts recReleaseSpec (inlineEntry 8 [put 0 8 9]) ({ up with recs := up.recs.set 0 { up.recs[0] with ring := [{ pinned := some 9 }] } })
    := ⟨by decide +kernel, by decide +kernel, by decide +kernel⟩
theorem accepts_recGetStatus : Accepts recGetStatusSpec (arenaEntry 64 []) (configured)
    := ⟨by decide +kernel, by decide +kernel, by decide +kernel⟩
theorem accepts_stgSetScratch : Accepts stgSetScratchSpec (inlineEntry 16 []) (up)
    := ⟨by decide +kernel, by decide +kernel, by decide +kernel⟩
theorem accepts_stgSetRates : Accepts stgSetRatesSpec (inlineEntry 32 [put 0 4 1, put 4 4 1, put 8 4 1, put 12 4 1]) (up)
    := ⟨by decide +kernel, by decide +kernel, by decide +kernel⟩
theorem accepts_stgGetStatus : Accepts stgGetStatusSpec (arenaEntry 64 []) (up)
    := ⟨by decide +kernel, by decide +kernel, by decide +kernel⟩
theorem accepts_stgReadErrorLog : Accepts stgReadErrorLogSpec (arenaEntry 4112 []) (up)
    := ⟨by decide +kernel, by decide +kernel, by decide +kernel⟩
theorem accepts_vcSetEncode : Accepts vcSetEncodeSpec (arenaEntry 48 [put 4 1 1, put 6 1 1, put 7 1 1, put 14 1 51, put 15 1 64, put 24 4 (2 ^ 24)]) (withCtx { state := .configured, live := { source := source, regions := 1, grades := Vector.replicate 4 { on := true, chroma := 3, wo := 64, ho := 64 } } })
    := ⟨by decide +kernel, by decide +kernel, by decide +kernel⟩
theorem accepts_vcKeyPicture : Accepts vcKeyPictureSpec (inlineEntry 8 [put 1 1 15]) (configured)
    := ⟨by decide +kernel, by decide +kernel, by decide +kernel⟩
theorem accepts_vcSetVectorExport : Accepts vcSetVectorExportSpec (inlineEntry 16 [put 1 1 2]) (withCtx { state := .configured, live := { source := source, regions := 1, noise := { temporal := true } } })
    := ⟨by decide +kernel, by decide +kernel, by decide +kernel⟩
theorem accepts_vcDecodeOpen : Accepts vcDecodeOpenSpec (inlineEntry 24 [put 1 1 1, put 2 1 8, put 3 1 2, put 4 2 64, put 6 2 64, put 8 4 1]) (withCtx {})
    := ⟨by decide +kernel, by decide +kernel, by decide +kernel⟩
theorem accepts_vcDecodeSubmit : Accepts vcDecodeSubmitSpec (arenaEntry 24 [put 1 1 1, put 16 4 1]) (decoding)
    := ⟨by decide +kernel, by decide +kernel, by decide +kernel⟩
theorem accepts_vcDecodeClose : Accepts vcDecodeCloseSpec (inlineEntry 8 []) (decoding)
    := ⟨by decide +kernel, by decide +kernel, by decide +kernel⟩
theorem accepts_vcGetStatus : Accepts vcGetStatusSpec (arenaEntry 64 []) (up)
    := ⟨by decide +kernel, by decide +kernel, by decide +kernel⟩
theorem accepts_vcGetEncode : Accepts vcGetEncodeSpec (inlineEntry 8 []) (configured)
    := ⟨by decide +kernel, by decide +kernel, by decide +kernel⟩
theorem accepts_outSetRaster : Accepts outSetRasterSpec (arenaEntry 64 [put 2 1 1]) (up)
    := ⟨by decide +kernel, by decide +kernel, by decide +kernel⟩
theorem accepts_outBind : Accepts outBindSpec (inlineEntry 8 [put 1 1 0xFF]) ({ up with outputs := up.outputs.set 0 { up.outputs[0] with raster := some { code := 1 } } })
    := ⟨by decide +kernel, by decide +kernel, by decide +kernel⟩
theorem accepts_outSetOverlay : Accepts outSetOverlaySpec (inlineEntry 32 [put 8 2 1, put 10 2 1, put 12 4 64]) (up)
    := ⟨by decide +kernel, by decide +kernel, by decide +kernel⟩
theorem accepts_outSetAudio : Accepts outSetAudioSpec (inlineEntry 40 []) (up)
    := ⟨by decide +kernel, by decide +kernel, by decide +kernel⟩
theorem accepts_outGetStatus : Accepts outGetStatusSpec (arenaEntry 320 []) (up)
    := ⟨by decide +kernel, by decide +kernel, by decide +kernel⟩
theorem accepts_netPortConfig : Accepts netPortConfigSpec (inlineEntry 32 [put 4 4 0x0A000001, put 8 1 8]) (up)
    := ⟨by decide +kernel, by decide +kernel, by decide +kernel⟩
theorem accepts_netSetStream : Accepts netSetStreamSpec (arenaEntry 64 [put 2 1 1, put 8 1 96, put 10 1 1, put 34 2 1, put 36 2 1, put 54 2 1, put 56 2 1]) (up)
    := ⟨by decide +kernel, by decide +kernel, by decide +kernel⟩
theorem accepts_netGetStatus : Accepts netGetStatusSpec (arenaEntry 64 []) (up)
    := ⟨by decide +kernel, by decide +kernel, by decide +kernel⟩
theorem accepts_timeGetState : Accepts timeGetStateSpec (arenaEntry 64 []) (up)
    := ⟨by decide +kernel, by decide +kernel, by decide +kernel⟩
theorem accepts_timeAdjust : Accepts timeAdjustSpec (inlineEntry 24 [put 0 1 2, put 8 8 1]) (up)
    := ⟨by decide +kernel, by decide +kernel, by decide +kernel⟩
theorem accepts_timeSetPtp : Accepts timeSetPtpSpec (inlineEntry 24 [put 4 1 0xFF, put 9 1 2, put 12 4 1000, put 16 4 10]) ({ up with net := { up.net with ports := up.net.ports.set 0 { up.net.ports[0] with mode := 1 } } })
    := ⟨by decide +kernel, by decide +kernel, by decide +kernel⟩
theorem accepts_timeSetTrigger : Accepts timeSetTriggerSpec (inlineEntry 32 [put 4 4 8]) (up)
    := ⟨by decide +kernel, by decide +kernel, by decide +kernel⟩
theorem accepts_audSetClock : Accepts audSetClockSpec (inlineEntry 8 []) (up)
    := ⟨by decide +kernel, by decide +kernel, by decide +kernel⟩
theorem accepts_audPortConfig : Accepts audPortConfigSpec (inlineEntry 16 [put 4 1 2, put 5 1 32, put 6 1 24]) (up)
    := ⟨by decide +kernel, by decide +kernel, by decide +kernel⟩
theorem accepts_audSetMask : Accepts audSetMaskSpec (inlineEntry 8 []) (up)
    := ⟨by decide +kernel, by decide +kernel, by decide +kernel⟩
theorem accepts_audStart : Accepts audStartSpec (inlineEntry 24 [put 0 1 1]) ({ up with audio := { up.audio with ports := up.audio.ports.set 0 { up.audio.ports[0] with cfg := some ⟨false, 0, 0, 2, 32, 24, none⟩ } } })
    := ⟨by decide +kernel, by decide +kernel, by decide +kernel⟩
theorem accepts_audStop : Accepts audStopSpec (inlineEntry 8 []) (up)
    := ⟨by decide +kernel, by decide +kernel, by decide +kernel⟩
theorem accepts_audGetStatus : Accepts audGetStatusSpec (arenaEntry 32 []) (up)
    := ⟨by decide +kernel, by decide +kernel, by decide +kernel⟩
theorem accepts_posConfig : Accepts posConfigSpec (inlineEntry 32 [put 1 1 1, put 20 4 1, put 26 2 1, put 28 2 1]) (up)
    := ⟨by decide +kernel, by decide +kernel, by decide +kernel⟩
theorem accepts_posControl : Accepts posControlSpec (inlineEntry 8 []) (up)
    := ⟨by decide +kernel, by decide +kernel, by decide +kernel⟩
theorem accepts_posSetCompare : Accepts posSetCompareSpec (arenaEntry 24 [put 2 2 1, put 4 4 20, put 20 1 1]) (up)
    := ⟨by decide +kernel, by decide +kernel, by decide +kernel⟩
theorem accepts_posGetStatus : Accepts posGetStatusSpec (arenaEntry 8256 []) (up)
    := ⟨by decide +kernel, by decide +kernel, by decide +kernel⟩
theorem accepts_haspPortConfig : Accepts haspPortConfigSpec (inlineEntry 8 [put 1 1 1]) (manager)
    := ⟨by decide +kernel, by decide +kernel, by decide +kernel⟩
theorem accepts_haspGetStatus : Accepts haspGetStatusSpec (arenaEntry 64 []) (manager)
    := ⟨by decide +kernel, by decide +kernel, by decide +kernel⟩
theorem accepts_haspForward : Accepts haspForwardSpec (arenaEntry 72 [put 0 1 1]) (manager)
    := ⟨by decide +kernel, by decide +kernel, by decide +kernel⟩
theorem accepts_haspSetSplit : Accepts haspSetSplitSpec (inlineEntry 8 []) ({ manager with contexts := configured.contexts })
    := ⟨by decide +kernel, by decide +kernel, by decide +kernel⟩
theorem accepts_haspReadEvents : Accepts haspReadEventsSpec (arenaEntry 4104 [put 0 1 1]) (manager)
    := ⟨by decide +kernel, by decide +kernel, by decide +kernel⟩
theorem accepts_fltSetSeverity : Accepts fltSetSeveritySpec (inlineEntry 10 [put 0 1 1, put 8 1 1, put 9 1 2]) (up)
    := ⟨by decide +kernel, by decide +kernel, by decide +kernel⟩
theorem accepts_fltGetStatus : Accepts fltGetStatusSpec (arenaEntry 512 []) (up)
    := ⟨by decide +kernel, by decide +kernel, by decide +kernel⟩
theorem accepts_fltClear : Accepts fltClearSpec (inlineEntry 8 []) (up)
    := ⟨by decide +kernel, by decide +kernel, by decide +kernel⟩
theorem accepts_fltSetPin : Accepts fltSetPinSpec (inlineEntry 8 []) (up)
    := ⟨by decide +kernel, by decide +kernel, by decide +kernel⟩
theorem accepts_fltReadHistory : Accepts fltReadHistorySpec (arenaEntry 2064 []) (up)
    := ⟨by decide +kernel, by decide +kernel, by decide +kernel⟩
theorem accepts_fltReintegrate : Accepts fltReintegrateSpec (inlineEntry 8 [put 0 1 8]) ({ up with regions := up.regions.set 0 { up.regions[0] with clusters := up.regions[0].clusters.set 0 { slots := [0, 1, 2, 3, 4, 5, 6, 7], spare := none, fenced := [8] } } })
    := ⟨by decide +kernel, by decide +kernel, by decide +kernel⟩
theorem accepts_fltInject : Accepts fltInjectSpec (inlineEntry 16 [put 0 1 0x5F]) ({ up with boot := { up.boot with strap := 15 } })
    := ⟨by decide +kernel, by decide +kernel, by decide +kernel⟩
theorem accepts_secGetCertificate : Accepts secGetCertificateSpec (arenaEntry 2948 []) (up)
    := ⟨by decide +kernel, by decide +kernel, by decide +kernel⟩
theorem accepts_secSetPreferred : Accepts secSetPreferredSpec (inlineEntry 8 []) (up)
    := ⟨by decide +kernel, by decide +kernel, by decide +kernel⟩
theorem accepts_secRollbackAdvance : Accepts secRollbackAdvanceSpec (inlineEntry 8 [put 0 1 3]) ({ up with boot := { up.boot with firmware := some ⟨0, 0, 5, 0⟩ } })
    := ⟨by decide +kernel, by decide +kernel, by decide +kernel⟩
theorem accepts_secGetStatus : Accepts secGetStatusSpec (arenaEntry 64 []) (up)
    := ⟨by decide +kernel, by decide +kernel, by decide +kernel⟩
theorem accepts_pwrSetDomain : Accepts pwrSetDomainSpec (inlineEntry 8 [put 0 1 4, put 1 1 1]) (up)
    := ⟨by decide +kernel, by decide +kernel, by decide +kernel⟩
theorem accepts_pwrSetClock : Accepts pwrSetClockSpec (inlineEntry 8 [put 2 2 600]) (up)
    := ⟨by decide +kernel, by decide +kernel, by decide +kernel⟩
theorem accepts_pwrSetCeiling : Accepts pwrSetCeilingSpec (inlineEntry 8 [put 0 4 200000]) (up)
    := ⟨by decide +kernel, by decide +kernel, by decide +kernel⟩
theorem accepts_pwrGetStatus : Accepts pwrGetStatusSpec (arenaEntry 64 []) (up)
    := ⟨by decide +kernel, by decide +kernel, by decide +kernel⟩
theorem accepts_thmSetThresholds : Accepts thmSetThresholdsSpec (inlineEntry 8 [put 0 1 60, put 1 1 104]) (up)
    := ⟨by decide +kernel, by decide +kernel, by decide +kernel⟩
theorem accepts_thmGetStatus : Accepts thmGetStatusSpec (arenaEntry 64 []) (up)
    := ⟨by decide +kernel, by decide +kernel, by decide +kernel⟩
theorem accepts_haspArm : Accepts haspArmSpec (inlineEntry 16 [put 0 1 2]) (manager)
    := ⟨by decide +kernel, by decide +kernel, by decide +kernel⟩
/-! ## Entries with long payloads -/

theorem leNat_zeros (n : Nat) : leNat (List.replicate n 0) = 0 := by
  induction n with
  | zero => rfl
  | succ n ih => rw [List.replicate_succ, leNat, ih]; rfl

theorem slice_nil (off size : Nat) : slice [] off size = List.replicate size 0 := by simp [slice]

theorem slice_zeros (n off size : Nat) : slice (List.replicate n (0 : Byte)) off size = List.replicate size 0 := by
  simp only [slice, List.drop_replicate, List.take_replicate, List.length_replicate, List.replicate_append_replicate]
  congr 1; omega

/-- A payload of zeros has no invalid field when every field admits 0. -/
theorem firstBad_zeros (fs : List Field) (n : Nat) (h : ∀ f ∈ fs, f.ok 0 = true) : firstBad fs (List.replicate n 0) = none := by
  simp only [firstBad, Option.map_eq_none_iff, List.find?_eq_none, fieldAt, slice_zeros, leNat_zeros]
  intro f hf; simp [h f hf]

theorem validate_none {sp : Spec} {e : Entry} {s : State} (h1 : permits sp e s = true) (h2 : lengthFail sp e = none)
    (h3 : headerFail sp e = none) (h4 : fetchFail e s = none) (h5 : fieldFail sp e s = none) (h6 : stateFail sp e s = none)
    (h7 : ownerFail sp e s = none) (h8 : resourceFail sp e s = none) (h9 : sp.tumbler e s = none)
    (h10 : sp.signature e s = none) : validate sp e s = none := by
  simp [validate, h1, h2, h3, h4, h5, h6, h7, h8, h9, h10]

/-- An entry whose payload is `n` zero bytes, in the arena. -/
def zeros (n : Nat) : Entry := { arenaEntry 0 [] with len := BitVec.ofNat 32 n, data := [] }

theorem payload_zeros (n : Nat) : payload (zeros n) = List.replicate (zeros n).len.toNat 0 := by
  have : entryLoc (zeros n) ≠ 0 := by simp only [entryLoc, zeros, arenaEntry]; decide
  rw [payload, if_neg this]; exact slice_nil _ _

theorem fieldFail_zeros (sp : Spec) (n : Nat) (s : State) (h : ∀ f ∈ sp.fields (zeros n) s, f.ok 0 = true)
    (hc : sp.cross (zeros n) s = none) : fieldFail sp (zeros n) s = none := by
  unfold fieldFail; rw [payload_zeros, firstBad_zeros _ _ h]; simp [hc]

theorem accepts_rawLoadLinearisation : Accepts rawLoadLinearisationSpec (zeros 65544) configured := by
  refine ⟨by decide +kernel, by decide +kernel, validate_none (by decide +kernel) (by decide +kernel) (by decide +kernel)
    (by decide +kernel) (fieldFail_zeros _ _ _ ?_ rfl) (by decide +kernel) (by decide +kernel) (by decide +kernel)
    (by decide +kernel) (by decide +kernel)⟩
  intro f hf
  simp only [rawLoadLinearisationSpec, List.mem_append, List.mem_map, List.mem_cons, List.not_mem_nil, or_false] at hf
  rcases hf with (rfl | rfl | rfl) | ⟨i, -, rfl⟩ <;> rfl

theorem accepts_grdLoadGradeTables : Accepts grdLoadGradeTablesSpec (zeros 73748) configured := by
  refine ⟨by decide +kernel, by decide +kernel, validate_none (by decide +kernel) (by decide +kernel) (by decide +kernel)
    (by decide +kernel) (fieldFail_zeros _ _ _ ?_ rfl) (by decide +kernel) (by decide +kernel) (by decide +kernel)
    (by decide +kernel) (by decide +kernel)⟩
  intro f hf
  simp only [grdLoadGradeTablesSpec, List.mem_append, List.mem_map, List.mem_cons, List.not_mem_nil, or_false] at hf
  rcases hf with (rfl | rfl | rfl | rfl) | ⟨i, -, rfl⟩ <;> rfl

theorem accepts_secAttest : Accepts secAttestSpec (zeros 10021) up := by
  refine ⟨by decide +kernel, by decide +kernel, validate_none (by decide +kernel) (by decide +kernel) (by decide +kernel)
    (by decide +kernel) (fieldFail_zeros _ _ _ ?_ rfl) (by decide +kernel) (by decide +kernel) (by decide +kernel)
    (by decide +kernel) (by decide +kernel)⟩
  intro f hf
  simp only [secAttestSpec, List.mem_cons, List.not_mem_nil, or_false] at hf
  rcases hf with rfl | rfl | rfl <;> rfl

theorem accepts_grdLoadLut :
    Accepts grdLoadLutSpec { inlineEntry 0 [] with flags := 4, len := 1647766, data := [1] } up := by
  exact ⟨by decide +kernel, by decide +kernel, by decide +kernel⟩

/-- A firmware image of one body byte, unsigned (R422). -/
def firmware : List Byte :=
  image 256 [put 0 4 0x57465A53, put 4 2 1, put 16 4 1, (40, shake256 [0])] ++ List.replicate 5641 0

theorem firmware_length : firmware.length = 5897 := by decide +kernel

/-- The image is one that the keyway starts, where its signature verifies: what verifies is free (log 37). -/
theorem firmware_verifies (s : State) (h : ∀ a b c, Config.verifies a b c = true) (hs : s.boot.fuses = none) : verifyImage s firmware = 1 := by
  have hm : makerHash s = 0 := by simp [makerHash, hs]
  have hf : fuseFloor s = 0 := by simp [fuseFloor, hs]
  have h1 : firmware.length = 5897 := firmware_length
  have h2 : imageHeaderOk firmware = true := by decide +kernel
  have h3 : fieldAt firmware 24 16 = 0 := by decide +kernel
  have h5 : leNat (slice firmware 72 64) = 0 := by decide +kernel
  have h6 : slice firmware 40 32 = shake256 (slice firmware 256 (fieldAt firmware 16 4)) := by decide +kernel
  simp [verifyImage, hm, hf, h1, h2, h3, h5, h6, h, signatureBytes]

theorem slice_all (l : List Byte) : slice l 0 l.length = l := by simp [slice]

/-- SEC_IMAGE_WRITE of slot B, with `d` behind its payload. -/
def imageWrite (d : List Byte) : Entry := { inlineEntry 16 [put 0 1 1, put 4 4 5897] with data := d }

theorem imageWrite_image (d : List Byte) : imageArg (imageWrite d) 4 = slice d 0 5897 := by
  have h0 : entryLoc (imageWrite d) = 0 := by simp only [entryLoc, imageWrite, inlineEntry]; decide
  have h1 : entryLoc (imageWrite []) = 0 := by decide +kernel
  have h2 : arg (imageWrite []) 4 4 = 5897 := by decide +kernel
  have h3 : arg (imageWrite d) 4 4 = 5897 := by
    rw [← h2, arg, arg, payload, payload, if_pos h0, if_pos h1]; rfl
  rw [imageArg, if_pos h0, h3]; rfl

theorem accepts_secImageWrite (h : ∀ a b c, Config.verifies a b c = true) : Accepts secImageWriteSpec (imageWrite firmware) up := by
  refine ⟨by decide +kernel, by decide +kernel, validate_none (by decide +kernel) (by decide +kernel) (by decide +kernel)
    (by decide +kernel) (by decide +kernel) (by decide +kernel) (by decide +kernel) (by decide +kernel) (by decide +kernel) ?_⟩
  have e : imageArg (imageWrite firmware) 4 = firmware := by
    rw [imageWrite_image, ← firmware_length]; exact slice_all _
  have v := firmware_verifies (takeCommand (imageWrite firmware).mb up) h rfl
  unfold secImageWriteSpec
  simp only [e, v]; rfl

/-- Recovery mode, with a command in mailbox 7. -/
def recovering : State :=
  { up with devState := 3, kongaord := false
            mailboxes := up.mailboxes.set 7 { up.mailboxes[7] with enabled := true, cmdTail := 1, tailSeen := 1, quota := 63 } }

/-- SYS_BOOT_IMAGE from host memory. -/
def bootImage (d : List Byte) : Entry := { inlineEntry 0 [] with mb := 7, flags := 4, len := 5897, data := d }

theorem bootImage_payload (d : List Byte) : payload (bootImage d) = slice d 0 5897 := by
  have h0 : entryLoc (bootImage d) ≠ 0 := by simp only [entryLoc, bootImage, inlineEntry]; decide
  rw [payload, if_neg h0]; rfl

theorem accepts_sysBootImage (h : ∀ a b c, Config.verifies a b c = true) :
    Accepts sysBootImageSpec (bootImage firmware) recovering := by
  refine ⟨by decide +kernel, by decide +kernel, validate_none (by decide +kernel) (by decide +kernel) (by decide +kernel)
    (by decide +kernel) (by decide +kernel) (by decide +kernel) (by decide +kernel) (by decide +kernel) (by decide +kernel) ?_⟩
  have e : payload (bootImage firmware) = firmware := by rw [bootImage_payload, ← firmware_length]; exact slice_all _
  have v := firmware_verifies (takeCommand (bootImage firmware).mb recovering) h rfl
  unfold sysBootImageSpec
  simp only [e, v]; rfl

/-- One phase of a scaler table: a first tap of 4,096 and seven of 0. -/
def phase : List Byte := [0x00, 0x10, 0, 0, 0, 0, 0, 0, 0, 0, 0, 0, 0, 0, 0, 0]

/-- A payload of GRD_LOAD_SCALER: `n` phases behind the eight bytes of its header. -/
def phases : Nat → List Byte
  | 0 => []
  | n + 1 => phase ++ phases n

/-- GRD_LOAD_SCALER with 128 such phases. -/
def scaler : Entry := { arenaEntry 0 [] with len := 2056, data := List.replicate 8 0 ++ phases 128 }

theorem phases_drop (i n : Nat) : (phases (i + n)).drop (16 * i) = phases n := by
  induction i with
  | zero => simp
  | succ i ih =>
    have : i + 1 + n = (i + n) + 1 := by omega
    rw [this, phases, show 16 * (i + 1) = phase.length + 16 * i from by simp [phase]; omega, List.drop_append, List.drop_eq_nil_of_le (by omega),
      Nat.add_sub_cancel_left, List.nil_append]
    exact ih

theorem scaler_payload : payload scaler = List.replicate 8 0 ++ phases 128 := by
  have h0 : entryLoc scaler ≠ 0 := by decide +kernel
  have h1 : (List.replicate 8 (0 : Byte) ++ phases 128).length = 2056 := by decide +kernel
  have h2 : payload scaler = slice (List.replicate 8 0 ++ phases 128) 0 2056 := by rw [payload, if_neg h0]; rfl
  rw [h2, ← h1]; simp [slice]

theorem scaler_tap (i n : Nat) (hi : i < 128) (hn : n < 8) : arg scaler (8 + 16 * i + 2 * n) 2 = if n = 0 then 4096 else 0 := by
  obtain ⟨m, hm⟩ : ∃ m, 128 = i + (m + 1) := ⟨127 - i, by omega⟩
  have h : (List.replicate 8 (0 : Byte) ++ phases 128).drop (8 + 16 * i) = phase ++ phases m := by
    rw [List.drop_append, List.drop_eq_nil_of_le (by simp), List.nil_append, List.length_replicate, Nat.add_sub_cancel_left, hm, phases_drop,
      phases]
  rw [arg, scaler_payload, fieldAt, slice, ← List.drop_drop, h]
  interval_cases n <;> rfl

theorem scaler_phase (i : Nat) (hi : i < 128) :
    (((List.range 8).map fun n => signed 16 (arg scaler (8 + 16 * i + 2 * n) 2)).sum == 4096) = true := by
  have : ((List.range 8).map fun n => signed 16 (arg scaler (8 + 16 * i + 2 * n) 2)) =
      (List.range 8).map fun n => signed 16 (if n = 0 then 4096 else 0) :=
    List.map_congr_left fun n hn => by rw [scaler_tap i n hi (List.mem_range.1 hn)]
  rw [this]; decide

theorem scaler_fields (s : State) (f : Field) (h : f ∈ grdLoadScalerSpec.fields scaler s) :
    f.ok (fieldAt (payload scaler) f.off f.size) = true := by
  simp only [grdLoadScalerSpec, List.mem_append, List.mem_map, List.mem_range, List.mem_cons, List.not_mem_nil, or_false] at h
  rcases h with (rfl | rfl | rfl) | ⟨i, hi, rfl⟩
  · decide +kernel
  · decide +kernel
  · decide +kernel
  · exact scaler_phase i hi

theorem fieldFail_none {sp : Spec} {e : Entry} {s : State} (h : ∀ f ∈ sp.fields e s, f.ok (fieldAt (payload e) f.off f.size) = true)
    (hc : sp.cross e s = none) : fieldFail sp e s = none := by
  have hb : firstBad (sp.fields e s) (payload e) = none := by
    simp only [firstBad, Option.map_eq_none_iff, List.find?_eq_none]
    intro f hf; simp [h f hf]
  unfold fieldFail; rw [hb]; simp [hc]

theorem accepts_grdLoadScaler : Accepts grdLoadScalerSpec scaler configured :=
  ⟨by decide +kernel, by decide +kernel, validate_none (by decide +kernel) (by decide +kernel) (by decide +kernel)
    (by decide +kernel) (fieldFail_none (scaler_fields _) rfl) (by decide +kernel) (by decide +kernel) (by decide +kernel) (by decide +kernel) (by decide +kernel)⟩

/-- SYS_FLASH writing eight bytes of the maker area. -/
def flashWrite : Entry := inlineEntry 24 [put 0 1 1, put 8 4 0x04040000, put 12 4 8]

theorem accepts_sysFlash : Accepts sysFlashSpec flashWrite up := by
  refine ⟨by decide +kernel, by decide +kernel, validate_none (by decide +kernel) (by decide +kernel) (by decide +kernel)
    (by decide +kernel) ?_ (by decide +kernel) (by decide +kernel) (by decide +kernel) (by decide +kernel) (by decide +kernel)⟩
  have h0 : arg flashWrite 0 1 = 1 := by decide +kernel
  have h8 : arg flashWrite 8 4 = 0x04040000 := by decide +kernel
  have h12 : arg flashWrite 12 4 = 8 := by decide +kernel
  have hp : fieldAt (payload flashWrite) 1 7 = 0 := by decide +kernel
  have hl : entryLoc flashWrite = 0 := by decide +kernel
  have hx : 0x04040008 ≤ flashSize := by unfold flashSize; omega
  unfold arg at h0 h8 h12
  simp [fieldFail, firstBad, sysFlashSpec, range, rsv, arg, h0, h8, h12, hp, hl, Nat.lt_of_lt_of_le (by decide : 0x04040000 < 0x04040008) hx, hx]

/-! ## The hypotheses of the statements are met -/

/-- `up` with another tick generator. -/
def tk (g : TickGen) : State := { up with tick := g }

/-- `up` with mailbox 0 changed. -/
def mb0 (f : Mailbox → Mailbox) : State := { up with mailboxes := up.mailboxes.set 0 (f up.mailboxes[0]) }

theorem meets_StepRunsFrontCommand : ({ up with pending := [.hinge] } : State).pending = .hinge :: [] := rfl

theorem meets_IdleStepIsOneClock : up.pending = [] ∧ State.reset.pending = [] ∧ domainOn State.reset 22 = false
    ∧ domainOn up 23 = true ∧ domainOn State.reset 23 = false := by decide +kernel

theorem canonical_reset : Canonical State.reset := by unfold Canonical; decide +kernel

theorem meets_StepKeepsCanonicalMemory : ∃ t, Canonical ({ up with pending := [.tickLoRead] } : State)
    ∧ step { up with pending := [.tickLoRead] } = .next t := ⟨_, by unfold Canonical; decide +kernel, rfl⟩

theorem meets_QueueIsFirstInFirstOut : ∃ t, ({ up with pending := [.tickLoRead, .hinge] } : State).pending = .tickLoRead :: [.hinge]
    ∧ step { up with pending := [.tickLoRead, .hinge] } = .next t := ⟨_, rfl, rfl⟩

theorem meets_TickCounterMovesAtHingesAlone : ∃ t, exec .tickLoRead up = .next t := ⟨_, rfl⟩

theorem meets_FewCommandsLeaveDeadboltOrMoveTheStrap : (∃ t, ({ up with devState := 4 } : State).devState = 4
    ∧ exec .tickLoRead { up with devState := 4 } = .next t) ∧ domainOn up 2 = true ∧ up.kongaord = true := by
  exact ⟨⟨_, rfl, rfl⟩, by decide +kernel⟩

theorem meets_UntakenCommandsAndTheHead : mailboxCommand (.sysNop (inlineEntry 0 [])) = some (sysNopSpec, inlineEntry 0 [])
    ∧ served State.reset 0 = false ∧ served up 0 = true
    ∧ (let s := mb0 fun b => { b with cmdHead := 1 }; s.mailboxes[(0 : MbId)].cmdHead = s.mailboxes[(0 : MbId)].tailSeen)
    ∧ cplFull (mb0 fun b => { b with cplTail := 63 }).mailboxes[(0 : MbId)] = true
    ∧ (mb0 fun b => { b with executing := some ⟨0, 0, 0, 0, 0, false⟩ }).mailboxes[(0 : MbId)].executing.isSome = true :=
  ⟨rfl, by decide +kernel⟩

theorem meets_RejectedCommandIsAnsweredAndNotApplied :
    (let e := inlineEntry 1 []
     mailboxCommand (.sysNop e) = some (sysNopSpec, e) ∧ canTake up e.mb = true ∧ asDelivered sysNopSpec e up = true
       ∧ validate sysNopSpec e (takeCommand e.mb up) = some ⟨.badLength, 0⟩)
    ∧ (let e := { arenaEntry 64 [] with flags := 4 }
       let s := { up with hostUp := false }
       canTake s e.mb = true ∧ asDelivered tickGetStateSpec e s = true
         ∧ validate tickGetStateSpec e (takeCommand e.mb s) = some ⟨.hwFault, 0x5B⟩) :=
  ⟨⟨rfl, by decide +kernel⟩, by decide +kernel⟩

theorem meets_ValidationOrder :
    permits tickArmSpec { inlineEntry 8 [] with mb := 7 } up = false
    ∧ (permits sysNopSpec (inlineEntry 1 []) up = true ∧ lengthFail sysNopSpec (inlineEntry 1 []) ≠ none)
    ∧ headerFail sysNopSpec { inlineEntry 0 [] with rsv6 := 1 } ≠ none
    ∧ fetchFail { arenaEntry 64 [] with flags := 4 } { up with hostUp := false } ≠ none
    ∧ fieldFail tickBudgetQuerySpec { arenaEntry 208 [put 0 1 2] with flags := 2 } up ≠ none
    ∧ stateFail ctxStartSpec (inlineEntry 8 []) up ≠ none
    ∧ ownerFail ctxStopSpec (held (inlineEntry 8 [])) { up with cmd := { up.cmd with hold := some ⟨1, [⟨[.stop 0], some 0, 1⟩]⟩ } } ≠ none
    ∧ resourceFail ctxStopSpec (held (inlineEntry 8 [])) { up with cmd := { up.cmd with
        hold := some ⟨0, List.replicate 64 ⟨[.stop 0], some 0, 1⟩⟩ } } ≠ none
    ∧ vcDecodeOpenSpec.tumbler (inlineEntry 24 [put 1 1 1, put 2 1 8, put 3 1 64, put 4 2 64, put 6 2 64, put 8 4 1]) up ≠ none
    ∧ sysNopSpec.tumbler (inlineEntry 0 []) up = none
    ∧ (holds (held (inlineEntry 0 [])) = true ∧ sysNopSpec.bank = false)
    ∧ entryLoc { inlineEntry 0 [] with flags := 6 } = 3 ∧ 8 ≤ ({ inlineEntry 0 [] with flags := 8 } : Entry).flags.toNat
    ∧ (tickGetStateSpec.noInline = true ∧ entryLoc (inlineEntry 64 []) = 0)
    ∧ (let s := { up with devState := 4 }
       let e := inlineEntry 8 []
       s.devState = 4 ∧ ctxStartSpec.deadbolt = false ∧ ctxStartSpec.deadboltWhen e = false ∧ permits ctxStartSpec e s = true
         ∧ lengthFail ctxStartSpec e = none ∧ headerFail ctxStartSpec e = none ∧ fetchFail e s = none
         ∧ fieldFail ctxStartSpec e s = none) := by decide +kernel

theorem meets_EventReachesTheMailboxesThatWantIt :
    wants 1 0x0180 up.mailboxes[(1 : MbId)] = false
    ∧ (let b := up.mailboxes[(0 : MbId)]
       wants 0 0x0180 b = true ∧ b.lostSince = 0 ∧ b.heldEvents = [] ∧ evtFull b = false)
    ∧ (let b := (mb0 fun b => { b with evtTail := 127 }).mailboxes[(0 : MbId)]
       wants 0 0x0180 b = true ∧ evtFull b = true) := by decide +kernel

theorem meets_RegisterAccessesOfTheHost : mgmtOn up = true
    ∧ (hostMailbox 0 = true ∧ up.mailboxes[(0 : MbId)].enabled = true) ∧ (hostMailbox 7 = true ∧ up.mailboxes[(7 : MbId)].enabled = false)
    ∧ hostMailbox 4 = false ∧ hostMailbox 6 = false ∧ (up.devState ≠ 3 ∨ (0 : MbId) = 7)
    ∧ (({ up with devState := 3 } : State).devState ≠ 3 ∨ (7 : MbId) = 7) ∧ ((8 : Nat) ≠ 4 ∨ 0x200 % 4 ≠ 0) ∧ ((4 : Nat) ≠ 4 ∨ 0x201 % 4 ≠ 0) := by
  decide +kernel

theorem meets_DoorbellWords : (Instr.doorbellTrigger = .doorbellTrigger ∨ Instr.doorbellTrigger = .doorbellKeyPicture)
    ∧ (0x00000000#32).toNat % 16 = 0 ∧ 4 < (0x00000005#32).toNat % 16 ∧ (0x00000081#32).getLsbD 7 = true
    ∧ (let w := 0xFFFF0074#32
       1 ≤ w.toNat % 16 ∧ w.toNat % 16 ≤ 4 ∧ w.getLsbD 7 = false)
    ∧ (∃ q ∈ (tk { queue := [⟨1, 0, 2, 0, 0⟩] }).tick.queue, q.action = 1 ∧ q.ctx = 0 ∧ q.arg = 2)
    ∧ ((∀ q ∈ (tk { queue := List.replicate 16 ⟨1, 0, 2, 0, 0⟩ }).tick.queue, ¬ (q.action = 1 ∧ q.ctx = 1 ∧ q.arg = 2))
      ∧ 16 ≤ (tk { queue := List.replicate 16 ⟨1, 0, 2, 0, 0⟩ }).tick.queue.length)
    ∧ (tk { queue := List.replicate 15 ⟨1, 0, 2, 0, 0⟩ }).tick.queue.length < 16 := by
  exact ⟨.inl rfl, by decide +kernel⟩

theorem meets_HingesGuardsAndTicks : (tk { running := true }).tick.running = true ∧ (tk { running := true }).tick.guardOpen = false
    ∧ up.tick.running = false ∧ (tk { guardOpen := true }).tick.guardOpen = true ∧ (mgmtOn up = true ∧ up.kongaord = true)
    ∧ mgmtOn State.reset = false ∧ (({ up with kongaord := false } : State).kongaord = false ∧ romServes up = false) := by
  decide +kernel

theorem meets_TickSources :
    (up.tick.running = false ∧ up.tick.live.source = 0 ∧ (tk { running := true, live := { source := 7 } }).tick.live.source = 7)
    ∧ (let s := tk { running := true, live := { source := 1 }, lastEdge := some 0 }
       s.tick.running = true ∧ s.tick.live.source ≠ 0 ∧ s.tick.live.source ≠ 7 ∧ s.tick.lastEdge = some 0
         ∧ 2 * (nowPs s - 0) < s.tick.period)
    ∧ (let s := tk { running := true, live := { source := 1 } }
       s.tick.lastEdge = none ∧ s.tick.switch = none ∧ s.tick.state = .locked
         ∧ 1000 * (hingeError s.tick (nowPs s + s.tick.live.phase)).natAbs ≤ s.tick.period)
    ∧ (let s := tk { running := true, live := { source := 1 }, next := 20000001 }
       s.tick.lastEdge = none ∧ s.tick.switch = none ∧ s.tick.state = .locked
         ∧ s.tick.period < 1000 * (hingeError s.tick (nowPs s + s.tick.live.phase)).natAbs)
    ∧ up.tick.agreeing < 8 := by decide +kernel

theorem meets_TickCommands : Accepts tickGetStateSpec (arenaEntry 64 []) up ∧ Accepts tickBudgetQuerySpec (arenaEntry 208 []) up :=
  ⟨⟨by decide +kernel, by decide +kernel, by decide +kernel⟩, ⟨by decide +kernel, by decide +kernel, by decide +kernel⟩⟩

theorem meets_RaisedFaultsAreRecorded : reservedSource 0x1D = true ∧ domainOn State.reset 2 = false
    ∧ (reservedSource 0x01 = false ∧ domainOn up 2 = true ∧ severityOf up.collector 0x01 = 0)
    ∧ severityOf up.collector 0x02 = 1 ∧ severityOf up.collector 0x24 = 2 ∧ severityOf up.collector 0x5F = 3 := by decide +kernel

theorem meets_DeadboltEntry : ({ up with devState := 4 } : State).devState = 4 ∧ up.devState ≠ 4 := by decide +kernel

theorem meets_BackgroundCommandEndsOnce :
    (∀ g ∈ up.mailboxes[(0 : MbId)].background, ¬ (g.tag = 0 ∧ g.opcode.toNat = 0x0112))
    ∧ (let b := (mb0 fun b => { b with background := [⟨7, 0x0112, 0xFF, true⟩] }).mailboxes[(0 : MbId)]
       b.background = [⟨7, 0x0112, 0xFF, true⟩] ∧ b.enabled = true ∧ b.lostSince = 0 ∧ b.heldEvents = [] ∧ evtFull b = false)
    ∧ (mb0 fun b => { b with background := [⟨7, 0x0112, 0xFF, false⟩] }).mailboxes[(0 : MbId)].background = [⟨7, 0x0112, 0xFF, false⟩]
    ∧ (mb0 fun b => { b with background := [⟨7, 0x0112, 0xFF, true⟩], enabled := false }).mailboxes[(0 : MbId)].enabled = false := by
  decide +kernel

theorem meets_BlockResetsAndHungPorts :
    (let s := { up with control := { up.control with hung := [0x10] } }
     Accepts sysBlockResetSpec (inlineEntry 8 [put 0 1 0x10, put 2 2 1]) s ∧ s.control.hung.contains 0x10 = true)
    ∧ (up.control.hung.contains 0x10 = false)
    ∧ ({ up with control := { up.control with draining := [⟨0, 0x10⟩] } } : State).control.draining = ⟨0, 0x10⟩ :: [] :=
  ⟨⟨⟨by decide +kernel, by decide +kernel, by decide +kernel⟩, by decide +kernel⟩, by decide +kernel⟩

theorem meets_RecoveryAndResets :
    (let q := fun op kind addr : Nat => ({ up with control := { up.control with flash := [⟨0, 7, op, addr, 8, [], kind, 64⟩] } } : State)
     (q 0 1 0).control.flash = [⟨0, 7, 0, 0, 8, [], 1, 64⟩] ∧ (q 0 2 0).control.flash = [⟨0, 7, 0, 0, 8, [], 2, 64⟩]
       ∧ (q 1 1 65536).control.flash = [⟨0, 7, 1, 65536, 8, [], 1, 64⟩] ∧ (q 2 1 65536).control.flash = [⟨0, 7, 2, 65536, 8, [], 1, 64⟩])
    ∧ up.hostUp = true ∧ up.kongaord = true
    ∧ (¬ (ResetSource.pinCommand = .pinExternal ∧ up.boot.step = .stretch) ∧ up.boot.asserted.contains ResetSource.pinCommand = false)
    ∧ ({ up with boot := { up.boot with step := .stretch } } : State).boot.step = .stretch
    ∧ up.boot.asserted.contains ResetSource.aonPowerOn = true
    ∧ ({ up with boot := { up.boot with watchdog := true } } : State).boot.watchdog = true ∧ up.boot.watchdog = false := by decide +kernel

/-- `up` with another boot state. -/
def bt (b : Boot) : State := { up with boot := b }

/-- Blank fuses. -/
def blank : Fuses := ⟨0, 0, 0, 0⟩

theorem meets_StartUp :
    up.boot.asserted = [.aonPowerOn] ∧ up.boot.asserted.contains ResetSource.pinWatchdog = false
    ∧ (let s := bt { asserted := [.aonPowerOn, .pinExternal] }
       s.boot.asserted.contains ResetSource.pinExternal = true ∧ s.boot.asserted.erase .pinExternal ≠ [])
    ∧ (bt { step := .stretch }).boot.step = .stretch ∧ (bt { step := .released }).boot.step = .released ∧ up.boot.step ≠ .released
    ∧ (bt { step := .strap }).boot.step = .strap
    ∧ (let c := (strapReading (List.replicate 16 3)).1; c ≤ 3) ∧ (let c := (strapReading (List.replicate 16 250)).1; 250 ≤ c)
    ∧ 8 < (strapReading (List.replicate 15 20 ++ [29])).2
    ∧ (let c := (strapReading (List.replicate 16 8)).1; ¬ (c ≤ 3 ∨ 250 ≤ c ∨ 8 < (strapReading (List.replicate 16 8)).2 ∨ strapOf c = 13))
    ∧ (bt { step := .fuses 3 }).boot.step = .fuses 3 ∧ (bt { step := .fuses 2 }).boot.step = .fuses 2
    ∧ ((bt { step := .locking }).boot.step = .locking ∧ recoveryReason (bt { step := .locking }).boot = some 3)
    ∧ recoveryReason (bt { step := .locking, fuses := some blank }).boot = none
    ∧ (let s := { bt { step := .keyway, strap := 3 } with devState := 0 }
       s.boot.step = .keyway ∧ s.devState ≠ 4 ∧ isWorker s = true)
    ∧ (let s := { bt { step := .keyway } with devState := 0 }
       isWorker s = false ∧ waitsForImage s = false ∧ s.sec.preferred = 0
         ∧ ({ s with sec := { s.sec with preferred := 1 } } : State).sec.preferred = 1)
    ∧ up.boot.retention.fuseRetry = false
    ∧ (let s := bt { step := .starting }
       s.boot.step = .starting ∧ s.kongaord = true ∧ isWorker s = false)
    ∧ (let s := bt { step := .starting, strap := 9 }
       isWorker s = true ∧ s.devState ≠ 4) := by decide +kernel

/-- `up` with another two-wire target. -/
def tw (b : Twb) : State := { up with twb := b }

theorem meets_TwoWireBus : twbOn State.reset = false ∧ twbOn up = true
    ∧ (let s := tw { phase := .address }
       s.twb.phase = .address ∧ (0xFF#8).toNat / 2 ≠ s.boot.twoWire ∧ (0xB1#8).toNat / 2 = s.boot.twoWire ∧ (0xB1#8).getLsbD 0 = true
         ∧ (0xB0#8).toNat / 2 = s.boot.twoWire ∧ (0xB0#8).getLsbD 0 = false)
    ∧ (tw { phase := .pointer }).twb.phase = .pointer ∧ (tw { phase := .write }).twb.phase = .write ∧ (tw { phase := .read }).twb.phase = .read
    ∧ (tw { busy := true }).twb.busy = true ∧ (tw { valid := true }).twb.valid = true ∧ served up 4 = false
    ∧ (let s := { up with mailboxes := up.mailboxes.set 4 { enabled := true } }
       s.twb.busy = false ∧ s.twb.valid = false ∧ served s 4 = true)
    ∧ (let s := { up with mailboxes := up.mailboxes.set 4 { evtTail := 1 } }
       s.mailboxes[(4 : MbId)].evtHead ≠ s.mailboxes[(4 : MbId)].evtTail)
    ∧ up.mailboxes[(4 : MbId)].evtHead = up.mailboxes[(4 : MbId)].evtTail
    ∧ Memory.wf up.mailboxes[(4 : MbId)].arena = true := by decide +kernel

theorem meets_ContextCommands :
    (Accepts ctxSetSourceSpec (inlineEntry 16 [put 4 1 1, put 6 2 1, put 10 2 64, put 12 2 16]) running
      ∧ running.contexts[(0 : CtxId)].state = .running)
    ∧ (Accepts ctxSetSourceSpec (held (inlineEntry 16 [put 4 1 1, put 6 2 1, put 10 2 64, put 12 2 16])) configured
      ∧ configured.contexts[(0 : CtxId)].state ≠ .running)
    ∧ configured.contexts[(0 : CtxId)].state = .configured ∧ running.contexts[(0 : CtxId)].state ≠ .configured :=
  ⟨⟨⟨by decide +kernel, by decide +kernel, by decide +kernel⟩, by decide +kernel⟩,
    ⟨⟨by decide +kernel, by decide +kernel, by decide +kernel⟩, by decide +kernel⟩, by decide +kernel⟩

theorem meets_FirstSourceLatch : reservedSource 0x5E = false ∧ domainOn up 2 = true ∧ severityOf up.collector 0x5E = 3
    ∧ severityOf up.collector 0x01 = 0 ∧ severityOf up.collector 0x02 = 1 ∧ up.collector.latch = none
    ∧ ({ up.collector with latch := some (faultRecord 2 none 0 0 up) } : Collector).latch.isSome = true
    ∧ (arg (inlineEntry 8 [put 0 1 1]) 0 1).testBit 0 = true := by decide +kernel

theorem accepts_fltClear_latch : Accepts fltClearSpec (inlineEntry 8 [put 0 1 1]) up :=
  ⟨by decide +kernel, by decide +kernel, by decide +kernel⟩

theorem meets_BankChangesWriteTheirOwnField : up.devState ≠ 4
    ∧ (let s := { up with cmd := { up.cmd with armed := [⟨7, 2, .stop 0⟩, ⟨7, 1, .start 0⟩, ⟨8, 3, .stop 1⟩] } }
       dueAt s 7 = [⟨7, 1, .start 0⟩, ⟨7, 2, .stop 0⟩]) := by decide +kernel

/-- A block that carries `w` on a fresh lane. -/
def block (hdr : BitVec 2) (w : BitVec 64) : Block := ⟨hdr, w ^^^ (w <<< 39) ^^^ (w <<< 58), 0⟩

/-- A control column of one port. -/
def control (type : Nat) (body : List Byte) : Column := [List.replicate 16 (block 2 (controlWord type body))]

/-- A line of one sample: its column and the column of its packet (R99 to R102). -/
def line : List Column :=
  let h : List Byte := [0, 0, 0, 0, 0, 1, 0]
  let body : List Byte := [9, 0, 0, 0, 0, 0, 0]
  let words := [bytesWord (h ++ [crc8 h]), bytesWord (body ++ (leBytes 4 (crc32c body).toNat).take 1),
    bytesWord ((leBytes 4 (crc32c body).toNat).drop 1)]
  [control 0x55 [], [(words ++ List.replicate 13 0).map (block 1)]]

theorem meets_BringUpAndAlignment :
    (let s := withPort .detect
     s.ports[(0 : PortId)].cfg = some ⟨0, 16, 0, true, false, false, 0⟩ ∧ s.ports[(0 : PortId)].first = some 0 ∧ s.tick.slref = true
       ∧ (∀ i ∈ groupOf s 0, blockDown s (0x10 + i.val) = false) ∧ s.ports[(0 : PortId)].state = .detect
       ∧ 1 ≤ s.ports[(0 : PortId)].state.code ∧ s.ports[(0 : PortId)].state.code ≤ 5 ∧ s.ports[(0 : PortId)].attempts + 1 < 8
       ∧ s.ports[(0 : PortId)].state ≠ .caps)
    ∧ (withPort .train).ports[(0 : PortId)].state = .train ∧ (withPort .bitLock).ports[(0 : PortId)].state = .bitLock
    ∧ (withPort .blockLock).ports[(0 : PortId)].state = .blockLock
    ∧ ({ withPort .detect with tick := { slref := false } } : State).tick.slref = false
    ∧ (let s := { withPort .detect with ports := (withPort .detect).ports.set 0 { (withPort .detect).ports[0] with attempts := 7 } }
       8 ≤ s.ports[(0 : PortId)].attempts + 1)
    ∧ (let g : PortCfg := ⟨0, 16, 0, true, false, false, 0⟩
       let caps := image 28 [put 0 2 1, put 3 1 16, put 9 1 1, put 10 1 1]
       (withPort .caps).ports[(0 : PortId)].state = .caps ∧ capsOk g (caps ++ leBytes 4 (crc32c caps).toNat) = true ∧ capsOk g (List.replicate 32 0) = false) := by
  decide +kernel

theorem meets_ColumnsAndLines :
    (let s := withPort .active
     activePort up 0 = false ∧ activePort s 0 = true
       ∧ (let c := control 0x33 [0, 1, 0, 5]
          columnIsData c = some false
            ∧ (controlContent (failedLanes s (groupOf s 0)) c).map (fun b => fieldAt b 0 1) = some 0x33)
       ∧ (controlContent (failedLanes s (groupOf s 0)) (control 0x1E [])).map (fun b => fieldAt b 0 1) = some 0x1E
       ∧ columnIsData [List.replicate 16 (block 1 0)] ≠ some false)
    ∧ (let p := (withPort .active).ports[0]
       let s := { withPort .active with ports := (withPort .active).ports.set 0 { p with
         opened := p.opened.set 0 (some ⟨1, 0, [], false⟩), tags := [⟨7, 0, 0, false⟩] } }
       (controlContent (failedLanes s (groupOf s 0)) (control 0x4B [0, 1, 0])).map
           (fun b => (fieldAt b 0 1, some (fieldAt b 2 2), (streamOf b).val)) = some (0x4B, some 1, 0)
         ∧ s.ports[(0 : PortId)].opened[(0 : Fin 4)] = some ⟨1, 0, [], false⟩
         ∧ (controlContent (failedLanes s (groupOf s 0)) (control 0x78 [7])).map
             (fun b => (fieldAt b 0 1, s.ports[(0 : PortId)].tags.find? fun r => r.tag.toNat == fieldAt b 1 1)) =
           some (0x78, some ⟨7, 0, 0, false⟩))
    ∧ (let s := withPort .active
       activePort s 0 = true ∧ columnIsData (control 0x55 []) = some false
         ∧ (controlContent (failedLanes s (groupOf s 0)) (control 0x55 [])).map (fun b => fieldAt b 0 1) = some 0x55
         ∧ (∀ c ∈ line.drop 1, columnIsData c = some true)
         ∧ (match readPacket ((line.drop 1).flatMap fun c => (columnWords false (failedLanes s (groupOf s 0)) c).1) false with
            | .line l => l.samples == [9] && !l.checkErr
            | .badHeader => false) = true) := by decide +kernel

theorem meets_LanesAndPorts :
    (let s := withPort .active
     s.ports[(0 : PortId)].cfg = some ⟨0, 16, 0, true, false, false, 0⟩ ∧ s.ports[(0 : PortId)].state = .active
       ∧ (16 : Fin 17) ∉ s.ports[(0 : PortId)].failed ∧ s.ports[firstOf s 0].state = .active)
    ∧ up.ports[(0 : PortId)].state ≠ .active
    ∧ (let p := (withPort .active).ports[0]
       let s := { withPort .active with ports := (withPort .active).ports.set 0 { p with
         failed := [16], tags := [⟨7, 0, 0, false⟩, ⟨8, 0, 0, true⟩] } }
       (16 : Fin 17) ∈ s.ports[(0 : PortId)].failed
         ∧ (s.ports[(0 : PortId)].tags.find? fun x => x.tag == 7) = some ⟨7, 0, 0, false⟩
         ∧ (s.ports[(0 : PortId)].tags.find? fun x => x.tag == 8) = some ⟨8, 0, 0, true⟩)
    ∧ (let s := { up with ports := up.ports.set 0 { up.ports[0] with state := .loopback, loop := some ⟨3, 0, 0, 0⟩ } }
       s.ports[(0 : PortId)].loop = some ⟨3, 0, 0, 0⟩) ∧ ((⟨2, 0, 0, 0⟩ : Loopback).mode = 1 ∨ (⟨2, 0, 0, 0⟩ : Loopback).mode = 2) := by
  decide +kernel

theorem meets_FrontEndCommands :
    (Accepts rawLoadColumnSpec (arenaEntry 8 []) configured ∧ arg (arenaEntry 8 []) 4 4 = 0 ∧ arg (arenaEntry 136 [put 4 4 64]) 4 4 ≠ 0)
    ∧ (Accepts rawLoadDefectsSpec (arenaEntry 16 []) configured ∧ arg (arenaEntry 16 []) 1 1 = 0)
    ∧ (Accepts rawLoadDefectsSpec (arenaEntry 16 [put 1 1 1]) configured ∧ arg (arenaEntry 16 [put 1 1 1]) 1 1 ≠ 0
      ∧ arg (arenaEntry 16 [put 1 1 1]) 12 4 = 0)
    ∧ (Accepts rawSetShadingSpec (arenaEntry 200216 [put 1 1 1]) configured ∧ arg (arenaEntry 200216 [put 1 1 1]) 1 1 = 1) :=
  ⟨⟨⟨by decide +kernel, by decide +kernel, by decide +kernel⟩, by decide +kernel⟩,
    ⟨⟨by decide +kernel, by decide +kernel, by decide +kernel⟩, by decide +kernel⟩,
    ⟨⟨by decide +kernel, by decide +kernel, by decide +kernel⟩, by decide +kernel⟩,
    ⟨⟨by decide +kernel, by decide +kernel, by decide +kernel⟩, by decide +kernel⟩⟩

/-- A LUT load of slot 0, in region 0. -/
def lutLoad : LutLoad := ⟨0, 7, 1, 0, 1, []⟩

theorem meets_GradeCommands :
    (({ up with lutLoads := [lutLoad] } : State).lutLoads.find? fun x => x.slot == 0) = some lutLoad ∧ up.hostUp = true
    ∧ ({ up with hostUp := false } : State).hostUp = false := by decide +kernel

/-- A statistics record of frame 5, with a host address. -/
def record : StatRecord :=
  { ctx := 0, marks := 0, flags := 0, frame := 5, tick := 0, cfg := {}, regions := 0, workers := 0, valid := 0, invalid := 0
    bins := [], zones := [], host := some 4096 }

/-- A frame that develops over the units of region 0. -/
def frame : Frame := { number := 3, tick := 3, phase := .developing, bank := { source := source, regions := 1 } }

theorem meets_StatisticsAndPassEnds :
    (let s := withCtx { hostDue := [record] }
     s.contexts[(0 : CtxId)].hostDue = record :: [] ∧ record.host = some 4096 ∧ s.hostUp = true)
    ∧ (let s := withCtx { state := .running, frames := [frame], live := frame.bank }
       developing s 0 = some frame ∧ stripeLost s 0 frame = false ∧ frame.bank.statHost = none
         ∧ stripeLost { s with regions := Vector.replicate 4 { clusters := Vector.replicate 2 { uncovered := [0] } } } 0 frame = true)
    ∧ (up.contexts[(0 : CtxId)].live.noise.temporal = false)
    ∧ (let a : Luma := ⟨4, 16, List.replicate 256 0, 1, 1⟩
       let b : Luma := ⟨5, 16, List.replicate 256 0, 2, 1⟩
       let s := { withCtx { lumas := [a, b], live := { noise := { temporal := true }, analysisCore := some 0 } } with
         tick := { counter := 2 } }
       let x := s.contexts[(0 : CtxId)]
       x.live.noise.temporal = true ∧ x.live.analysisCore ≠ none ∧ analysisPair s x = some (b, a) ∧ x.live.vecExport = none) := by
  decide +kernel

/-- Cluster 0 of region 0 as given. -/
def withCluster (k : Cluster) : State :=
  { up with regions := up.regions.set 0 { up.regions[0] with clusters := up.regions[0].clusters.set 0 k } }

theorem meets_UnitsAndTheirReplacement :
    (let k := clusterOf up 0 0
     k.slots.contains 7 = true ∧ k.injected = [] ∧ k.slots.contains 8 = false ∧ k.spare = some 8 ∧ k.fenced.contains 8 = false
       ∧ (8 : Fin 9).val ≠ 3) := by decide +kernel

theorem meets_UnitsAndTheirReplacement_failed :
    (let k := clusterOf (withCluster { injected := [(7, 9)], spare := none, fenced := [8], testing := some (8, 0, 7) }) 0 0
     (k.injected.find? fun x => x.1 == 7) = some (7, 9)) ∧
    (let k := clusterOf (withCluster { injected := [(7, 9)], spare := none, fenced := [8], testing := some (8, 0, 7) }) 0 0
     k.spare = none ∧ k.fenced.contains 8 = true ∧ k.testing = some (8, 0, 7)) := by decide +kernel

theorem meets_DetectionsAndFaultCommands :
    up.collector.lockstepAt = none
    ∧ (let s := { up with clk := 600000000, collector := { up.collector with lockstepAt := some 0 } }
       s.collector.lockstepAt = some 0 ∧ 10 ^ 12 < nowPs s - 0)
    ∧ (let s := { up with clk := 500000000, collector := { up.collector with lockstepAt := some 0 } }
       nowPs s - 0 ≤ 10 ^ 12)
    ∧ (let e := inlineEntry 16 [put 0 1 0x30]
       0x30 ≤ arg e 0 1 ∧ arg e 0 1 ≠ 0x4F ∧ arg e 0 1 ≠ 0x5E) := by decide +kernel

/-- `up` with a request of 4 bytes queued, at the top of a 1 KiB piece, and the stacks in the given state. -/
def requested (w : Bool) (st : StackState) : State :=
  { up with mem := { up.mem with stks := Vector.replicate 4 { state := st }, queue := [⟨5, 1, w, 1020, 4, [1, 2, 3, 4], none⟩] } }

theorem meets_MemoryRequests :
    (let r : MemReq := ⟨1, true, 1020, 4, [1, 2, 3, 4], none⟩
     0 < r.len ∧ r.addr.toNat % 1024 + r.len ≤ 1024 ∧ r.addr.toNat < mapTop
       ∧ up.mem.stks[(locOf up r.addr.toNat).stack].failed = false ∧ mapTop ≤ (0xFFFFFFFFFF#40).toNat
       ∧ ({ up with mem := { up.mem with stks := Vector.replicate 4 { failed := true } } } : State).mem.stks[(0 : StackId)].failed = true)
    ∧ (let s := requested false .running
       let p : MemPiece := ⟨5, 1, false, 1020, 4, [1, 2, 3, 4], none⟩
       (s.mem.queue.find? fun q => q.id == 5) = some p ∧ blocked s p = false ∧ s.mem.stks[(locOf s p.addr).stack].state = .running
         ∧ s.mem.poison = [] ∧ p.write = false)
    ∧ (let s := requested true .running
       let p : MemPiece := ⟨5, 1, true, 1020, 4, [1, 2, 3, 4], none⟩
       (s.mem.queue.find? fun q => q.id == 5) = some p ∧ blocked s p = false ∧ Memory.wf s.mem.hbm = true ∧ p.data.length = p.len
         ∧ p.addr + p.len ≤ mapTop)
    ∧ (let s := requested true .selfRefresh
       s.mem.stks[(locOf s 1020).stack].state ≠ .running)
    ∧ (let p : MemPiece := ⟨6, 1, true, 1020, 4, [1, 2, 3, 4], none⟩
       let q : MemPiece := ⟨5, 1, true, 1020, 4, [1, 2, 3, 4], none⟩
       blocked { up with mem := { up.mem with queue := [q, p] } } p = true) := by decide +kernel

theorem meets_StacksOnTheirOwn :
    (let s := { up with mem := { up.mem with stks := Vector.replicate 4 { state := .running }, selfRefresh := 15 } }
     s.mem.stks[(3 : StackId)].state = .running ∧ s.mem.selfRefresh.getLsbD 3 = true ∧ tolerates s 3 = true ∧ queuedAt s 3 = []
       ∧ s.mem.stks[(3 : StackId)].retrain = [] ∧ (∀ r ∈ s.mem.repairing, r.stack ≠ 3) ∧ s.mem.stks[(3 : StackId)].state ≠ .training
       ∧ s.mem.stks[(3 : StackId)].state ≠ .selfRefresh ∧ s.mem.repairing = [])
    ∧ (let s := { up with mem := { up.mem with stks := Vector.replicate 4 { state := .training } } }
       s.mem.stks[(3 : StackId)].state = .training ∧ s.mem.calibration = [] ∧ s.mem.stks[(3 : StackId)].state ≠ .running)
    ∧ ({ up with mem := { up.mem with repairing := [⟨0, 7, 1, 2, 3, 4⟩] } } : State).mem.repairing = ⟨0, 7, 1, 2, 3, 4⟩ :: []
    ∧ (let s := requested true .selfRefresh
       s.mem.stks[(0 : StackId)].state = .selfRefresh ∧ queuedAt s 0 ≠ []) := by decide +kernel

/-- A submit of mailbox 0 with one deflate job on engine 0. -/
def submitted (desc : List (Nat × List Byte)) : State :=
  { up with cmp := { up.cmp with hostGeneral := 1, submits := [⟨0, 7, 1, 64, [{ desc := image 64 desc, engine := some 3 }]⟩] } }

theorem meets_CompressionCommandsAndJobs :
    (let s := { submitted [] with cmp := { (submitted []).cmp with changing := some ⟨0, false, 0, 0⟩ } }
     leavingBusy s = true) ∧ leavingBusy { up with cmp := { up.cmp with changing := some ⟨0, false, 0, 0⟩ } } = false := by decide +kernel

theorem meets_RawPackLosesNothing : 0 < 2 ∧ ∀ v ∈ [16383, 0, 8192], v < 16384 := by decide

theorem meets_DescramblerInvertsTheScrambler : (block 1 0x0123456789ABCDEF).payload.getLsbD 0 = true
    ∧ descramble (block 1 0x0123456789ABCDEF) = 0x0123456789ABCDEF
    ∧ (let d : BitVec 64 := 0x0123456789ABCDEF
       let sent := (block 1 d).payload
       let s := fun n : Nat => if n < 58 then (0 : BitVec 58).getLsbD n else sent.getLsbD (n - 58)
       ∀ n < 64, sent.getLsbD n = (d.getLsbD n ^^ (s (n + 19) ^^ s n))) := by decide +kernel

theorem meets_CompressionCommandsAndJobs_jobs :
    (runningJob up 0 7 0 = none)
    ∧ (let decode := fun cap dst : Nat => [put 0 1 3, put 5 1 dst, put 20 4 cap]
       let stored : List Byte := [0x01, 0x01, 0x00, 0xFE, 0xFF, 0xAA]
       (∀ d ∈ [decode 0 0, decode 1 0, decode 1 1], (runningJob (submitted d) 0 7 0).map CmpJob.desc = some (image 64 d))
         ∧ (runJob (image 64 (decode 0 0)) stored).result ≠ .done ∧ (runJob (image 64 (decode 1 0)) stored).result = .done
         ∧ (runJob (image 64 (decode 1 1)) stored).result = .done ∧ fieldAt (image 64 (decode 1 1)) 5 1 ≠ 0
         ∧ fieldAt (image 64 (decode 1 0)) 5 1 = 0)
    ∧ (3 < engineCount .general ∧ 3 ∉ retiredOf up.cmp .general ∧ up.cmp.submits = [])
    ∧ 3 ∈ retiredOf { up.cmp with retiredGeneral := [3] } .general := by decide +kernel

/-- A frame of 4 by 1 samples whose one chunk is not packed yet. -/
def packing : Frame :=
  { frame with bank := { source := { source with w := 4, h := 1 }, regions := 1 }, stripe := 4, chunksLeft := [0], clip := some 1 }

/-- A clip of context 0 with target `r`, and that frame in flight. -/
def packed (r : RecTarget) : State :=
  { withCtx { state := .running, frames := [packing], live := packing.bank } with
    recs := up.recs.set 0 { up.recs[0] with clips := [{ id := 1, ctx := 0, cfg := { target := r }, fromHinge := 0 }] } }

theorem meets_CompressionCommandsAndJobs_chunk (r : RecTarget) (hr : r = .host ∨ r = .media 0) :
    chunkFrame (packed r).contexts[(0 : CtxId)] 0 = some packing ∧ chunkFrame (packed r).contexts[(0 : CtxId)] 1 = none
    ∧ packing.clip.bind (clipOf (packed r) 0) = some { id := 1, ctx := 0, cfg := { target := r }, fromHinge := 0 }
    ∧ ((packed r).contexts[(0 : CtxId)].slotReaders.all fun g => g.number != packing.number) = true := by
  rcases hr with rfl | rfl <;> decide +kernel

/-- A chunk fits a clip in host memory where the free deflate stream (log 33) is empty, and fits no clip without a budget. -/
theorem meets_CompressionCommandsAndJobs_room :
    (let k : Clip := { id := 1, ctx := 0, cfg := { target := .host }, fromHinge := 0 }
     let body := rawChunk (chunkHead k.id packing (tileAt packing 0)) (tileSamples k.cfg.t1 packing (tileAt packing 0))
     (∀ a b c l, Config.deflate a b c l = []) → body.length ≤ Min.min (packBound (tileAt packing 0)) (chunkRoom (packed .host) 0 k packing))
    ∧ (let k : Clip := { id := 1, ctx := 0, cfg := { target := .media 0 }, fromHinge := 0 }
       let body := rawChunk (chunkHead k.id packing (tileAt packing 0)) (tileSamples k.cfg.t1 packing (tileAt packing 0))
       Min.min (packBound (tileAt packing 0)) (chunkRoom (packed (.media 0)) 0 k packing) < body.length) := by
  constructor
  · intro k body h
    simp only [body, rawChunk, h]
    decide +kernel
  · intro k body
    have h0 : chunkRoom (packed (.media 0)) 0 k packing = 0 := by decide +kernel
    simp [h0, body, rawChunk, leBytes]

/-- Media port 0 as given. -/
def withMedia (m : MediaPort) : State := { up with media := up.media.set 0 m }

theorem meets_MediaTriggersAndSeals :
    (withMedia { op := some (1, 0, 7) }).media[(0 : Fin 2)].op = some (1, 0, 7)
    ∧ (let x := (withMedia { op := some (2, 0, 7), mounted := true }).media[(0 : Fin 2)]
       x.op = some (2, 0, 7) ∧ x.mounted = true)
    ∧ up.media[(0 : Fin 2)].op = none ∧ up.media[(0 : Fin 2)].outstanding = []
    ∧ (let s := withMedia { outstanding := [.log ⟨1, 2, 3, 4, 5, []⟩] }
       s.media[(0 : Fin 2)].outstanding = .log ⟨1, 2, 3, 4, 5, []⟩ :: [] ∧ findClip s 2 = none ∧ s.media[(0 : Fin 2)].outstanding ≠ []
         ∧ clipsOn s 0 = [])
    ∧ up.contexts[(0 : CtxId)].takings = []
    ∧ (let k : Clip := { id := 1, ctx := 0, cfg := { target := .ring, triggers := 1 }, fromHinge := 0 }
       let s := fun k : Clip => { withCtx { takings := [(4, 9)] } with recs := up.recs.set 0 { up.recs[0] with clips := [k] } }
       (∀ d : CtxId, d ≠ 0 → (s k).contexts[d].takings = []) ∧ (s k).contexts[(0 : CtxId)].takings.head?.map Prod.snd = some 9
         ∧ (s k).recs[(0 : CtxId)].clips = [k] ∧ k.cfg.target = .ring ∧ k.cfg.triggers.getLsbD 0 = true ∧ k.stage = none ∧ k.trigger = none
         ∧ ({ k with trigger := some (3, 0) } : Clip).trigger ≠ none)
    ∧ (let s := { up with sec := { up.sec with queue := [.manifest 0 1 1023], reserving := true } }
       (served21 s.sec.queue).find? (fun x => s.sec.limit ≤ x.leaf) = some (.manifest 0 1 1023) ∧ s.sec.reserving = true)
    ∧ up.sec.reserving = false ∧ up.sec.signing = none
    ∧ ({ up with sec := { up.sec with signing := some (.manifest 0 1 2) } } : State).sec.signing = some (.manifest 0 1 2)
    ∧ (let k : Clip := { id := 1, ctx := 0, cfg := {}, fromHinge := 0, stage := some .failed }
       let s := { up with recs := up.recs.set 0 { up.recs[0] with clips := [k] } }
       (s.recs[(0 : CtxId)].clips.find? fun k => k.stage == some .failed) = some k ∧ canSign s = true)
    ∧ (up.recs[(0 : CtxId)].clips = []) ∧ directoryDue up = false
    ∧ (let s := { up with stg := { up.stg with view := [⟨1, 0, 0, 0, 0, 0, 0, 0, []⟩] } }
       directoryDue s = true ∧ s.stg.ward = [] ∧ wardFrontEnd s = []) := by decide +kernel

/-- `up` with another storage target. -/
def st (x : Storage) : State := { up with stg := x }

/-- An NVMe command of queue `q` with the given first two dwords. -/
def nvme (q : Fin 65) (nsid cdw10 cdw11 cdw12 : BitVec 32) : NvmeCmd := ⟨q, 9, nsid, cdw10, cdw11, cdw12, 0, 0, 0, [4096], true, []⟩

/-- A controller that is ready, with a command in the admin queue and in queue 64, and a namespace 2 of 8 LBAs. -/
def ready (f : Storage → Storage := id) : State :=
  st (f { cc := 1, rdy := true, scratch := 32768
          sqs := [{ id := 0, size := 2, base := 0, cq := 0, cls := 0, tail := 1 }, { id := 64, size := 2, base := 0, cq := 1, cls := 0, tail := 1 }]
          cqs := [⟨0, 2, 0, some 0, 0, 0, true⟩, ⟨1, 2, 8192, none, 0, 0, true⟩, ⟨2, 2, 8192, none, 0, 0, true⟩] })

theorem meets_StorageCommandsAndController :
    ccEn up = false ∧ ccEn (st { cc := 1 }) = true ∧ (st { cc := 1 }).stg.rdy = false
    ∧ ((st { cc := 1 }).stg.suspect = false ∧ (bt { step := .complete }).boot.step = .complete)
    ∧ ((st { suspect := true }).stg.suspect = true ∧ up.boot.step ≠ .complete) ∧ stgUp ready = true ∧ stgUp up = false
    ∧ ready.stg.cfs = false ∧ (st { cfs := true }).stg.cfs = true
    ∧ (let n := nvme 64 2 0 0 0
       let s := ready fun x => { x with ward := [⟨3, .host .read n, [], true, 0, 4096⟩] }
       wardOf s 3 = some ⟨3, .host .read n, [], true, 0, 4096⟩ ∧ s.stg.cfs = false ∧ ccEn s = true ∧ executing12 s ≠ 0)
    ∧ wardOf up 3 = none
    ∧ (let n := nvme 0 0 2 1 0
       let s := ready fun x => { x with entering := some (1, n) }
       s.stg.entering = some (1, n) ∧ executing12 s = 0)
    ∧ (let s := ready fun x => { x with power := 2, waking := [(.read, nvme 64 1 0 0 0)] }
       s.stg.power = 2 ∧ s.stg.waking ≠ []) ∧ up.stg.waking = [] ∧ up.stg.ward = []
    ∧ (let n := nvme 64 2 0 0 0
       let s := ready fun x => { x with ward := [⟨3, .host .zeroes n, [], true, 2, 0⟩] }
       s.stg.ward = [⟨3, .host .zeroes n, [], true, 2, 0⟩] ∧ (match pacePool n s with | .hbm m => m == 0 | _ => false) = true)
    ∧ domainOn up 14 = true ∧ domainOn State.reset 14 = false := by decide +kernel

theorem meets_NvmeAdminCommands :
    (let n := nvme 0 0 0x00010001 0x00010001 0
     let s := ready
     n.sq = 0 ∧ fetchable n s = true ∧ n.cdw10.toNat % 2 ^ 16 ≠ 0 ∧ n.cdw10.toNat % 2 ^ 16 ≤ 64 ∧ 1 ∉ s.stg.sqs.map SubQueue.id
       ∧ 2 ≤ n.cdw10.toNat / 2 ^ 16 + 1 ∧ n.cdw10.toNat / 2 ^ 16 + 1 ≤ 1024 ∧ n.cdw11.getLsbD 0 = true
       ∧ (n.pages.headD 0).toNat % 4096 = 0 ∧ n.cdw11.toNat / 2 ^ 16 ∈ s.stg.cqs.map CplQueue.id ∧ 64 ∉ s.stg.cqs.map CplQueue.id)
    ∧ (64 ∈ ready.stg.sqs.map SubQueue.id ∧ ready.stg.ward = [] ∧ ready.stg.waking = [])
    ∧ (2 ∈ ready.stg.cqs.map CplQueue.id ∧ (∀ q ∈ ready.stg.sqs, q.cq ≠ 2) ∧ (∃ q ∈ ready.stg.sqs, q.cq = 1))
    ∧ (let n := nvme 0 0 0x000300C0 0 0
       n.cdw10.toNat % 256 = 0xC0 ∧ (logPage (fetchNvme n ready) 0xC0).isSome = true ∧ n.cdw12 = 0 ∧ n.cdw13 = 0)
    ∧ logPage ready 0 = none ∧ namespaceSize ready 3 = none
    ∧ (ready.stg.power < (1#32).toNat % 32 ∧ (2#32).toNat % 32 ≤ 2)
    ∧ (ready.stg.asyncDue = [] ∧ ready.stg.aers.length < 4
      ∧ 4 ≤ (ready fun x => { x with aers := List.replicate 4 (nvme 0 0 0 0 0) }).stg.aers.length)
    ∧ (let n := nvme 0 2 0 0 0
       wardFrontEnd ready = [] ∧ ioStatus .format n (fetchNvme n ready) = 0)
    ∧ (nvme 64 0 0 0 0).sq ≠ 0 ∧ fetchable (nvme 0 0 0 0 0) up = false
    ∧ (stgUp ready = true ∧ ready.hostUp = true ∧ ready.stg.heldCpl = []
      ∧ (ready.stg.cqs.find? fun c => c.id == 1) = some ⟨1, 2, 8192, none, 0, 0, true⟩ ∧ cqFull ⟨1, 2, 8192, none, 0, 0, true⟩ = false) := by
  decide +kernel

theorem meets_NvmeNamespaces :
    (let n := nvme 64 2 7 0 0
     let u := fetchNvme n ready
     n.sq ≠ 0 ∧ fetchable n ready = true ∧ ready.stg.power ≠ 2 ∧ ready.stg.ward = [] ∧ wardFrontEnd ready = [] ∧ n.nsid = 2
       ∧ n.hostOk = true ∧ ready.hostUp = true ∧ 4096 * 512 ≤ paceLeft (pacePool n ready) ready
       ∧ ioStatus .read n u = 0 ∧ ioStatus .write n u = 0 ∧ ioStatus .zeroes n u = 0)
    ∧ (let n := nvme 64 2 0 4 0
       ioStatus .deallocate n (fetchNvme n ready) = 0)
    ∧ (nvme 64 1 0 0 0).nsid = 1 ∧ (namespaceSize ready 3 = none ∧ (3 : BitVec 32) ≠ BitVec.allOnes 32)
    ∧ (let s := ready fun x => { x with power := 2 }
       s.stg.power = 2 ∧ fetchable (nvme 64 2 0 0 0) s = true)
    ∧ (let s := ready fun x => { x with ward := [⟨3, .directory, [], true, 0, 0⟩, ⟨4, .directory, [], true, 1, 0⟩] }
       wardOf s 3 = some ⟨3, .directory, [], true, 0, 0⟩ ∧ wardReady s 3 = true
         ∧ wardOf s 4 = some ⟨4, .directory, [], true, 1, 0⟩) := by decide +kernel

/-- A session that core 0 decodes. -/
def session : Session := ⟨1, 8, 4, 64, 64, 30000, 4096, some 0, [], 0, 0, 0, [], false⟩

/-- A picture of 64 by 64. -/
def picture : DecodedPicture := ⟨0, 64, 64, 1, 8, 0, false, false, false, false, true, []⟩

theorem meets_VideoCodingAndDecoding :
    (up.contexts[(0 : CtxId)].encodes[(0 : GradeId)].coding = [] ∧ up.vc.sessions[(0 : Fin 16)] = none)
    ∧ (let p : Coding := ⟨3, 0, true, false, {}, (64, 64), 1, none⟩
       let s := withCtx { encodes := Vector.replicate 4 { coding := [p] } }
       s.contexts[(0 : CtxId)].encodes[(0 : GradeId)].coding = p :: [] ∧ s.contexts[(0 : CtxId)].encodes[(0 : GradeId)].held = []
         ∧ p.cfg.hostCopy = false ∧ p.clip = none)
    ∧ (decoding.vc.sessions[(0 : Fin 16)] = some session ∧ session.core ≠ none ∧ session.waiting = []
      ∧ exceeds session picture = false ∧ exceeds session { picture with width := 65 } = true ∧ picture.missingReference = false
      ∧ picture.sliceError = false)
    ∧ ({ session with core := none } : Session).core = none
    ∧ ((0 : Fin 8) ∉ up.vc.retired ∧ (0 : Fin 8) ∈ ({ up.vc with retired := [0] } : Coders).retired) := by decide +kernel

/-- Output 0 as given. -/
def withOut (o : QuadId) (y : Output) : State := { up with outputs := up.outputs.set o y }

/-- A captured frame. -/
def buf : ScanBuf := ⟨0, 3, 0, (64, 16), (0, 0, 0), false, (0, 0), ({}, {}), [], false⟩

theorem meets_OutputCommands :
    (let e := inlineEntry 8 [put 1 1 3, put 2 1 0]
     let s := { configured with outputs := up.outputs.set 3 { raster := some { timing := [64, 0, 0, 0, 16], period := 20000000 } } }
     arg e 1 1 ≠ 0xFF ∧ arg (inlineEntry 8 [put 1 1 0xFF]) 1 1 = 0xFF ∧ (shadowRaster s 3).isSome = true) := by decide +kernel

theorem meets_ScanOutAndReferences :
    up.outputs[(0 : QuadId)].copying = [] ∧ (withOut 0 { copying := [buf], ready := some buf }).outputs[(0 : QuadId)].copying = buf :: []
    ∧ (let s := withOut 0 { raster := some { code := 1, sync := 1 }, genlock := .locked }
       s.outputs[(0 : QuadId)].raster = some { code := 1, sync := 1 } ∧ blockDown s 0x30 = false ∧ s.outputs[(0 : QuadId)].lastV = none
         ∧ s.outputs[(0 : QuadId)].genlock ≠ .lost)
    ∧ blockDown State.reset 0x30 = true ∧ up.outputs[(0 : QuadId)].raster = none
    ∧ (let r : Raster := { code := 1, sync := 1, rate := 3 }
       let t := framePeriod 0 r
       let y : Output := { raster := some r, lastV := some 0, refH := sdiLines 1, goodV := 7 }
       let s := { withOut 0 y with clk := t.1 / t.2 / 2000 }
       s.outputs[(0 : QuadId)].raster = some r ∧ y.lastV = some 0 ∧ agrees (nowPs s - 0) t = true ∧ y.refH = sdiLines r.code
         ∧ 7 ≤ y.goodV ∧ y.genlock = .lost)
    ∧ (let s := fun y : Output => { withOut 3 { y with raster := some { sync := 2, period := 20000000 } } with clk := 10000000 }
       (s {}).outputs[(3 : QuadId)].raster = some { sync := 2, period := 20000000 } ∧ (s {}).outputs[(3 : QuadId)].teFree = false
         ∧ (s {}).outputs[(3 : QuadId)].lastTe = none
         ∧ 10 * (nowPs (s {}) - 19000000000) ≤ 1000 * 20000000
         ∧ 10 * (nowPs (s {}) - 0 - 1000 * 20000000).natAbs ≤ 1000 * 20000000
         ∧ (s { teFree := true, teGood := 2, lastTe := some 0 }).outputs[(3 : QuadId)].teFree = true
         ∧ (s { teMissing := 1 }).outputs[(3 : QuadId)].teMissing < 2 ∧ 2 ≤ (s { teMissing := 2 }).outputs[(3 : QuadId)].teMissing)
    ∧ domainOn up 18 = true ∧ domainOn State.reset 18 = false ∧ up.outputs[(2 : QuadId)].hpd = false
    ∧ (let v : Raster := { clock := 25000 }
       linkCarries { lanes := 1, rate := 1 } v = true ∧ linkCarries { lanes := 1, rate := 1 } { clock := 1200000 } = false) := by
  decide +kernel

/-- Ethernet port 0 as given. -/
def withEth (x : EthPort) : State := { up with net := { up.net with ports := up.net.ports.set 0 x } }

/-- Sender 23 as given. -/
def withSender (x : Sender) : State := { up with net := { up.net with senders := up.net.senders.set 23 x } }

/-- Both Ethernet ports at their highest rate. -/
def connected : Net := { up.net with ports := Vector.replicate 2 { mode := 4, up := true } }

theorem meets_NetworkAndTimeCommands :
    (Accepts netSetStreamSpec (arenaEntry 64 [put 1 1 3, put 2 1 1, put 8 1 96, put 10 1 1, put 34 2 1, put 36 2 1, put 54 2 1, put 56 2 1])
      { configured with net := connected } ∧ up.ptp.cfg.on = false)
    ∧ (Accepts netSetStreamSpec (arenaEntry 64 [put 1 1 2, put 2 1 1, put 6 1 8, put 7 1 8, put 8 1 96, put 10 1 1, put 34 2 1, put 36 2 1,
        put 54 2 1, put 56 2 1]) { up with net := connected })
    ∧ Accepts timeAdjustSpec (inlineEntry 24 [put 8 8 0x200000000]) up ∧ Accepts timeAdjustSpec (inlineEntry 24 [put 0 1 1, put 8 8 (2 ^ 62)]) up :=
  ⟨⟨⟨by decide +kernel, by decide +kernel, by decide +kernel⟩, by decide +kernel⟩,
    ⟨by decide +kernel, by decide +kernel, by decide +kernel⟩, ⟨by decide +kernel, by decide +kernel, by decide +kernel⟩,
    ⟨by decide +kernel, by decide +kernel, by decide +kernel⟩⟩

/-- A slave of a master that port 0 heard. -/
def slave : Ptp := { cfg := { on := true }, master := some ⟨127, 1, 1, 1, 1⟩, servo := .acquiring, sync := some (1, 0, 1), stamps := [(5, 9)] }

theorem meets_PortsSendersTriggersAndPtp :
    (let s := withEth { mode := 1, up := true, addr := 0x0A000001 }
     s.net.ports[(0 : Fin 2)].up = true ∧ (0x0A000001#32).toNat = s.net.ports[(0 : Fin 2)].addr
       ∧ (0#32).toNat ≠ s.net.ports[(0 : Fin 2)].addr)
    ∧ (let s := withEth { mode := 4 }
       s.net.ports[(0 : Fin 2)].up = false ∧ s.net.ports[(0 : Fin 2)].mode ≠ 0 ∧ blockDown s 0x22 = false)
    ∧ (let j := fun n : Nat => ({ stream := { kind := 1 }, ctx := 0, frame := 3, marks := 0, time := 0, size := (64, 16), format := (10, 0)
                                  full := false, bytes := [], next := n } : SendJob)
       (withSender { jobs := [j 0] }).net.senders[(23 : Fin 24)].jobs = j 0 :: [] ∧ (j 0).stream.kind = 1
         ∧ (j 0).next + 1 < (j 0).packets ∧ (j 0).packets ≤ (j ((j 0).packets - 1)).next + 1)
    ∧ (up.net.senders[(23 : Fin 24)].jobs = [] ∧ up.net.senders[(23 : Fin 24)].audio.kind ≠ 2)
    ∧ (let s := { up with triggers := { up.triggers with tt := up.triggers.tt.set 3 { prog := { on := true }, next := some 7 } } }
       s.triggers.tt[(3 : QuadId)].prog.on = true ∧ s.triggers.tt[(3 : QuadId)].next = some 7)
    ∧ up.triggers.tt[(3 : QuadId)].prog.on = false
    ∧ (ptpPort up.ptp.cfg 0 = false ∧ up.ptp.cfg.on = false)
    ∧ (let y : Ptp := { cfg := { on := true } }
       ptpPort y.cfg 0 = true ∧ (127 : Nat) = y.cfg.domain ∧ y.cfg.capable = false ∧ y.master = none ∧ (0 : Fin 2) = y.cfg.primary)
    ∧ (slave.cfg.on = true ∧ (0 : Fin 2) = slave.active ∧ slave.master ≠ none ∧ slave.servo ≠ .locked
      ∧ (slave.stamps.find? fun z => z.1 == 6) = none ∧ slave.stamps.find? (fun z => z.1 == 5) = some (5, 9)
      ∧ slave.sync = some (1, 0, 1) ∧ ptpPort slave.cfg 0 = true ∧ slave.cfg.backup = none ∧ up.tick.live.source ≠ 3)
    ∧ (({ overflow := true } : EthPort).overflow = true ∧ 16 ≤ ({ stamps := List.replicate 16 (1, 1) } : EthPort).stamps.length
      ∧ ({ stamps := List.replicate 15 (1, 1) } : EthPort).stamps.length < 16) := by decide +kernel

/-- Audio port 0 as given. -/
def withAudio (y : AudioPort) : State := { up with audio := { up.audio with ports := up.audio.ports.set 0 y } }

theorem meets_AudioAndPositionCommands :
    (let y : AudioPort := { cfg := some ⟨false, 0, 0, 2, 32, 24, none⟩ }
     Accepts audStartSpec (held (inlineEntry 24 [put 0 1 1])) (withAudio y)
       ∧ Accepts audStartSpec (inlineEntry 24 [put 0 1 1, put 1 1 1, put 8 8 (2 ^ 48 - 1), put 16 4 999999999]) (withAudio y))
    ∧ (∀ p : QuadId, up.audio.ports[p].running = false) ∧ up.pos[(0 : QuadId)].on = false :=
  ⟨⟨⟨by decide +kernel, by decide +kernel, by decide +kernel⟩, ⟨by decide +kernel, by decide +kernel, by decide +kernel⟩⟩, by decide +kernel⟩

/-- Position channel 3 as given. -/
def withPos (c : PosChannel) : State := { up with pos := up.pos.set 3 c }

theorem meets_AudioPortsAndPositionChannels :
    (let k : AudioCfg := ⟨true, 0, 0, 2, 32, 24, none⟩
     let y : AudioPort := { cfg := some k, running := true, inFifo := List.replicate 255 (false, []) }
     y.cfg = some k ∧ blockDown (withAudio y) 0x50 = false ∧ y.running = true ∧ y.awaiting = none ∧ y.lost = false ∧ y.overrun = false
       ∧ fifoFill y < 256 ∧ k.monitor = none ∧ k.slave = true ∧ y.startAt = none)
    ∧ up.audio.ports[(0 : QuadId)].cfg = none ∧ blockDown State.reset 0x50 = true ∧ ({ awaiting := some 5 } : AudioPort).awaiting = some 5
    ∧ (let s := withAudio { running := true }
       ∀ q : QuadId, q ≠ 0 → s.audio.ports[q].running = false)
    ∧ up.audio.external = false ∧ ({ up.audio with external := true } : Audio).external = true
    ∧ up.pos[(3 : QuadId)].on = false
    ∧ (let s := withPos { on := true, cfg := { mode := 3, bits := 32 }, read := true }
       s.pos[(3 : QuadId)].cfg.mode = 3 ∧ s.pos[(3 : QuadId)].read = true ∧ up.pos[(3 : QuadId)].read = false)
    ∧ (let c : PosChannel := { p := - 2 ^ 31 }
       c.cfg.modulus = 0 ∧ (- 2 ^ 31 : Int) ≤ c.p ∧ c.p < 2 ^ 31 ∧ (- 2 ^ 31 : Int) ≤ 2 ^ 31 - 1 ∧ (2 ^ 31 - 1 : Int) < 2 ^ 31) := by
  decide +kernel

theorem meets_QuadratureAndHallCodesCount :
    (let s := withPos { on := true, cfg := { mode := 1 }, pins := (true, false, false) }
     let c := s.pos[(3 : QuadId)]
     c.on = true ∧ blockDown s 0x57 = false ∧ c.cfg.mode = 1 ∧ (c.pins.1, c.pins.2.1) = (true, false)
       ∧ (false && !c.pins.2.2 && bit false + 2 * bit false == c.cfg.gate) = false
       ∧ ((true, false), (false, false)) ∈ [((false, false), (false, true)), ((false, true), (true, true)),
         ((true, true), (true, false)), ((true, false), (false, false))] ∧ false ≠ c.pins.1 ∧ true ≠ c.pins.2.1)
    ∧ (let s := withPos { on := true, cfg := { mode := 2 }, hall := some 5 }
       let c := s.pos[(3 : QuadId)]
       c.cfg.mode = 2 ∧ c.hall = some 5 ∧ 4 * bit false + 2 * bit false + bit true = 1 ∧ 4 * bit true + 2 * bit false + bit false = 4
         ∧ 4 * bit false + 2 * bit true + bit true = 3 ∧ 4 * bit true + 2 * bit true + bit true = 7
         ∧ (5, 1) ∈ [(1, 3), (3, 2), (2, 6), (6, 4), (4, 5), (5, 1)] ∧ (4, 5) ∈ [(1, 3), (3, 2), (2, 6), (6, 4), (4, 5), (5, 1)]
         ∧ (5, 3) ∉ [(1, 3), (3, 2), (2, 6), (6, 4), (4, 5), (5, 1)] ∧ (3, 5) ∉ [(1, 3), (3, 2), (2, 6), (6, 4), (4, 5), (5, 1)]) := by
  decide +kernel

theorem meets_HaspCommands :
    (let s := { manager with hasp := { manager.hasp with ports := manager.hasp.ports.set 0 { state := .up } } }
     Accepts haspPortConfigSpec (inlineEntry 8 []) s ∧ s.hasp.ports[(0 : Fin 2)].state = .up)
    ∧ (Accepts haspPortConfigSpec (inlineEntry 8 []) manager ∧ manager.hasp.ports[(0 : Fin 2)].state ≠ .up)
    ∧ (let s := { manager with cmd := { manager.cmd with hold := some ⟨0, [⟨[.stop 0], some 0, 1⟩]⟩ } }
       Accepts haspArmSpec (inlineEntry 16 [put 0 1 1]) s) :=
  ⟨⟨⟨by decide +kernel, by decide +kernel, by decide +kernel⟩, by decide +kernel⟩,
    ⟨⟨by decide +kernel, by decide +kernel, by decide +kernel⟩, by decide +kernel⟩,
    ⟨by decide +kernel, by decide +kernel, by decide +kernel⟩⟩

/-- A package of strap code `n`, with hasp port 0 as given. -/
def hasp (n : Nat) (x : HaspPort) : State :=
  { up with boot := { up.boot with strap := n }, hasp := { up.hasp with ports := up.hasp.ports.set 0 x } }

/-- A broadcast of hinge 9 with a lead of 1,499,999 ps. -/
def broadcast : Broadcast := ⟨9, 0, 0, 1499999, false, false, 0, []⟩

/-- Worker 7 of a manager as given. -/
def withWorker (y : Worker) : State :=
  { up with boot := { up.boot with strap := 2 }, hasp := { up.hasp with workers := up.hasp.workers.set 7 y } }

/-- A forwarded command. -/
def forward : Forward := { entry := arenaEntry 72 [] }

theorem meets_HaspLinksWorkersAndManager :
    (let s := hasp 2 {}
     let x := s.hasp.ports[(0 : Fin 2)]
     x.enabled = true ∧ x.failed = false ∧ blockDown s 0x60 = false ∧ x.state = .off ∧ standalone s = false ∧ (1 : Fin 8).val ≠ ownPackage s
       ∧ (0 : Fin 8).val = ownPackage s ∧ x.state ≠ .up)
    ∧ (hasp 2 { state := .train }).hasp.ports[(0 : Fin 2)].state = .train ∧ (hasp 2 { state := .align }).hasp.ports[(0 : Fin 2)].state = .align
    ∧ (hasp 2 { state := .calibrate }).hasp.ports[(0 : Fin 2)].state = .calibrate ∧ ({ enabled := false } : HaspPort).enabled = false
    ∧ ({ failed := true } : HaspPort).failed = true
    ∧ (isManager (hasp 2 {}) = true ∧ (tk { running := true }).tick.running = true ∧ isManager (hasp 9 {}) = false)
    ∧ (let s := { hasp 3 { state := .up } with hasp := { (hasp 3 { state := .up }).hasp with joined := true } }
       isWorker s = true ∧ s.hasp.ports[(0 : Fin 2)].state = .up ∧ s.hasp.broadcast.map Broadcast.tick ≠ some broadcast.tick ∧ s.hasp.joined = true
         ∧ s.hasp.ports[(1 : Fin 2)].state ≠ .up)
    ∧ (let s := { hasp 3 { state := .up } with boot := { strap := 3, step := .joining } }
       isWorker s = true ∧ s.hasp.broadcast = none ∧ s.hasp.joined = false ∧ s.boot.step = .joining
         ∧ ((broadcast.lead : Int) - s.hasp.ports[(0 : Fin 2)].hop).toNat < 1500000)
    ∧ (let s := { hasp 3 { state := .up } with hasp := { (hasp 3 { state := .up }).hasp with ports := Vector.replicate 2 { state := .up } } }
       let m : HaspMessage := ⟨6, 0, 1, 0, 0, [], true, true⟩
       s.hasp.ports[(0 : Fin 2)].state = .up ∧ s.hasp.ports[(1 : Fin 2)].state = .up ∧ m.headerOk = true ∧ m.payloadOk = true
         ∧ m.dest = ownPackage s ∧ m.cls = 6 ∧ m.classData.toNat % 2 ^ 8 = 0
         ∧ (7 : Nat) ≠ ownPackage s ∧ (7 : Nat) ≠ 0xFF ∧ s.hasp.workers[(0 : Fin 8)].barred = false
         ∧ (({ m with payloadOk := false } : HaspMessage).headerOk && ({ m with payloadOk := false } : HaspMessage).payloadOk) = false)
    ∧ (up.hasp.workers[(7 : Fin 8)].forward = none ∧ (withWorker { forward := some forward }).hasp.workers[(7 : Fin 8)].forward = some forward
      ∧ forward.timedOut = false ∧ ({ forward with timedOut := true } : Forward).timedOut = true) := by decide +kernel

theorem meets_HaspLinksWorkersAndManager_workers :
    (let a : ArmRun := ⟨0, 0xFE, 0, 1, [7]⟩
     (7 : Fin 8) ∈ a.waiting ∧ a.waiting.erase 7 = [] ∧ ({ a with waiting := [6, 7] } : ArmRun).waiting.erase 7 ≠ [] ∧ (6 : Fin 8) ∉ a.waiting)
    ∧ (let s := withWorker { joined := true }
       let b : Heartbeat := ⟨0, 2, false, false, 0, false⟩
       isManager s = true ∧ (7 : Fin 8) ≠ 0 ∧ b.deadbolt = false ∧ b.commitMissed = false ∧ s.hasp.workers[(7 : Fin 8)].joined = true
         ∧ s.hasp.workers[(6 : Fin 8)].joined = false ∧ s.hasp.workers[(7 : Fin 8)].forward = none ∧ s.hasp.arm = none) := by decide +kernel

theorem meets_SecurityFlashAndFuses :
    up.sec.writes = [] ∧ up.sec.choosing = [] ∧ up.sec.advancing = none
    ∧ ({ up.sec with writes := [⟨0, 7, 1, true, []⟩] } : Security).writes = ⟨0, 7, 1, true, []⟩ :: []
    ∧ ({ up.sec with choosing := [(0, 7, 1)] } : Security).choosing = (0, 7, 1) :: []
    ∧ (let s := { bt { fuses := some { blank with floor := 63 } } with sec := { up.sec with advancing := some (0, 7, 64, 62) } }
       s.sec.advancing = some (0, 7, 64, 62) ∧ s.boot.fuses = some { blank with floor := 63 } ∧ 64 ≤ 63 + 1 ∧ 62 + 1 < 64)
    ∧ (let s := { up with collector := { up.collector with acting := [0x0C] } }
       s.sec.signing = none ∧ s.collector.acting.contains 0x0C = true)
    ∧ up.sec.down = false ∧ ({ up.sec with down := true } : Security).down = true := by decide +kernel

/-! ## Well-formedness refuses what no sender can form -/

/-- A column of one port with one block. -/
def good : Column := [[block 1 0]]

theorem test_wf_entry : (Instr.sysNop (inlineEntry 0 [])).wf = true ∧ (Instr.sysNop { inlineEntry 0 [] with inl := [] }).wf = false := by decide

theorem test_wf_request : (Instr.memRequest ⟨1, true, 0, 1, [1], none⟩).wf = true ∧ (Instr.memRequest ⟨1, true, 0, 0, [], none⟩).wf = false
    ∧ (Instr.memRequest ⟨1, true, 0, 2, [1], none⟩).wf = false ∧ (Instr.hungPortResponse 0x10 ⟨1, false, 0, 0, [], none⟩).wf = false := by decide

theorem test_wf_column : (Instr.slFrameStartRx 0 good).wf = true ∧ (Instr.slFrameStartRx 0 []).wf = false
    ∧ (Instr.slFrameStartRx 0 (List.replicate 5 [block 1 0])).wf = false ∧ (Instr.slFrameEndRx 0 [[]]).wf = false
    ∧ (Instr.slRegRespRx 0 [List.replicate 18 (block 1 0)]).wf = false ∧ (Instr.slLinePacketRx 0 []).wf = false
    ∧ (Instr.slLinePacketRx 0 [good, []]).wf = false ∧ (Instr.slAlignRx 0 [] []).wf = false := by decide

theorem test_wf_nvme : (Instr.read (nvme 1 1 0 0 0)).wf = true
    ∧ (Instr.read { nvme 1 1 0 0 0 with pages := [4097, 4098] }).wf = false := by decide +kernel

theorem test_wf_broadcast : (Instr.hingeBroadcastRx 0 broadcast).wf = true
    ∧ (Instr.hingeBroadcastRx 0 { broadcast with tick := 2 ^ 64 }).wf = false
    ∧ (Instr.hingeBroadcastRx 0 { broadcast with seconds := 2 ^ 48 }).wf = false
    ∧ (Instr.hingeBroadcastRx 0 { broadcast with nanoseconds := 1000000000 }).wf = false
    ∧ (Instr.hingeBroadcastRx 0 { broadcast with lead := 2 ^ 32 }).wf = false
    ∧ (Instr.hingeBroadcastRx 0 { broadcast with armId := 2 ^ 32 }).wf = false := by decide +kernel

theorem test_wf_message : (Instr.haspMessageRx 0 ⟨6, 7, 0xFF, 0, 0, [], true, true⟩).wf = true
    ∧ (Instr.haspMessageRx 0 ⟨7, 0, 0, 0, 0, [], true, true⟩).wf = false ∧ (Instr.haspMessageRx 0 ⟨0, 8, 0, 0, 0, [], true, true⟩).wf = false
    ∧ (Instr.haspMessageRx 0 ⟨0, 0, 8, 0, 0, [], true, true⟩).wf = false
    ∧ (Instr.haspMessageRx 0 ⟨0, 0, 0, 2 ^ 64, 0, [], true, true⟩).wf = false
    ∧ (Instr.haspMessageRx 0 ⟨0, 0, 0, 0, 0, List.replicate 4097 0, true, true⟩).wf = false := by decide +kernel

theorem test_wf_fields : (Instr.managementTick []).wf = false ∧ (Instr.registerWrite 0 0 3 0).wf = false ∧ (Instr.slCapsRx 0 []).wf = false
    ∧ (Instr.dpTrainingDone 3 1).wf = false ∧ (Instr.thermalSample []).wf = false ∧ (Instr.strapLatch []).wf = false
    ∧ (Instr.strapLatch (List.replicate 16 256)).wf = false ∧ (Instr.fuseLoadDone true { blank with floor := 65 }).wf = false
    ∧ (Instr.imageVerifyDone 10 0 ⟨0, 0, 0, 0⟩).wf = false ∧ (Instr.imageVerifyDone 0 10 ⟨0, 0, 0, 0⟩).wf = false
    ∧ (Instr.setPreferredDone 10).wf = false := by decide +kernel

theorem test_decodeTableWord (nbits w : Nat) : decodeTableWord nbits w = none := rfl

theorem test_withFetchWord (nbits w : Nat) : up.withFetchWord nbits w = up := rfl

theorem meets_PowerAndTemperature :
    (let s := { up with power := { up.power with domains := (up.power.domains.set (0 : Fin 25) .waking).set (23 : Fin 25) .waking } }
     s.power.domains[(0 : Fin 25)] = .waking ∧ s.power.domains[(23 : Fin 25)] = .waking ∧ s.power.domains[(8 : Fin 25)] ≠ .waking)
    ∧ up.kongaord = true ∧ State.reset.kongaord = false ∧ (List.replicate 14 (200 : Int)).length = 14
    ∧ (List.replicate 14 (200 : Int)).all (fun v => -320 ≤ v && v ≤ 1200) = true
    ∧ ((thresholds up.thermal).getD 2 0 = 105 ∧ up.thermal.crossed[(2 : Fin 3)] = false)
    ∧ (({ up.thermal with crossed := up.thermal.crossed.set (2 : Fin 3) true } : Thermal).crossed[(2 : Fin 3)] = true)
    ∧ up.boot.thermalLatch = false ∧ ({ up.boot with thermalLatch := true } : Boot).thermalLatch = true := by decide +kernel

/-! ## The spec's own worked examples -/

/-- R95: the check values of the two CRCs. -/
theorem test_crc : (let l : List Byte := [0x31, 0x32, 0x33, 0x34, 0x35, 0x36, 0x37, 0x38, 0x39]; crc8 l = 0xF4 ∧ crc32c l = 0xE3069283) := by
  decide +kernel

/-- R100: four samples in seven bytes. -/
theorem test_packing : unpackGroup [0xBC, 0xCA, 0xFF, 0x1F, 0, 0, 0x80] = [0x0ABC, 0x3FFF, 0x0001, 0x2000]
    ∧ packGroup [0x0ABC, 0x3FFF, 0x0001, 0x2000] = [0xBC, 0xCA, 0xFF, 0x1F, 0, 0, 0x80] := by decide +kernel

/-- The example under R105: lane 2 has failed and its words come from parity. -/
theorem test_parity_lane : portWords true [2]
      [block 1 0x0123456789ABCDEF, block 1 0xFEDCBA9876543210, block 1 0, block 1 0x1111222233334444, block 1 0xE1E1D2D2C3C3B4B4] =
    ([(0x0123456789ABCDEF, false), (0xFEDCBA9876543210, false), (0x0F0F0F0F0F0F0F0F, false), (0x1111222233334444, false)], true) := by
  decide +kernel

/-- The example under R225: a 4 × 4 tile of an RGGB sensor. -/
theorem test_tile : (let v := [1000, 2000, 1010, 1995, 2004, 1500, 2012, 1496, 1020, 1990, 1018, 2030, 2016, 1510, 2000, 1520]
    let z := [2000, 4000, 20, 9, 4008, 3000, 16, 7, 40, 19, 3, 80, 24, 20, 31, 28]
    tileZigzag 2 2 4 v = z ∧ restoreTile 2 2 4 z = v) := by decide +kernel

/-- The example under R11: a frame 5,000 pixels wide over 8 units. -/
theorem test_stripes : stripeWidth 5000 8 = 640 := by decide

/-- The example of chapter 8: zone boundaries 1 and 63 of 64 over 5,000 samples. -/
theorem test_zones : zoneEdge 0 5000 2 64 1 = 78 ∧ zoneEdge 0 5000 2 64 63 = 4920 := by decide

/-- The example under R149: the L20 codes of samples A to D. -/
theorem test_l20 : toL20 ⟨1, 2⟩ = (0x3C000, false) ∧ toL20 ⟨3731, 4096⟩ = (0x3DA4C, false) ∧ toL20 ⟨343, 128⟩ = (0x40AE0, false)
    ∧ toL20 ⟨3, 4⟩ = (0x3D000, false) := by decide +kernel

/-- The example under R408. -/
theorem test_reset_cause : resetCause [.corePowerOn, .pinExternal] = 0x82 := by decide

/-- The example of chapter 1: one address in the two memory modes (R32). -/
theorem test_address : (let i : State := { up with mem := { up.mem with interleaved := true } }
    let a : State := { up with mem := { up.mem with interleaved := false } }
    (locOf i 0x3400).stack = 3 ∧ (locOf a 0x3400).stack = 0) := by decide +kernel

/-- The example of chapter 3: the entry of TICK_SET_SOURCE for a genlocked 48 fps source, from its bytes. -/
def genlock48 : Entry :=
  entryOf 0 (image 64 [(0, [0x01, 0x02, 0x07, 0x00]), (8, [0x18]), (24, [0x02]), (32, [0x55, 0x70, 0xC3, 0xD9, 0x04])]) []

/-- Its completion stands in slot 0 of the ring, and the tail moves to 1. -/
theorem test_set_source :
    (let t := runCommand tickSetSourceSpec genlock48 up
     let c := t.mailboxes[(0 : MbId)].cpl[(0 : Fin 64)]
     (c.tag, c.status, c.opcode, c.ctx, c.slot, t.mailboxes[(0 : MbId)].cplTail) = (7, 1, 0x0201, 0xFF, 0, 1)) := by decide +kernel

end Sys2Proof.Tests
end

section
/-!
PROOFS. Memory requests: the bytes of HBM as reads and writes of fabric addresses (R31, R198), the request queue as it is seen by them
(R201, R202, R204), and what a request and the issue of a queued piece answer.
-/

namespace Sys2Proof.Machine

/-! ## Address decode (R198) -/

theorem locOf_offset_lt (s : State) {a : Nat} (ha : a < mapTop) : (locOf s a).offset < stackBytes := by
  unfold locOf
  simp only [mapTop, stackBytes] at ha ⊢
  split <;> dsimp only <;> omega

/-- A stack and its offset give the fabric address back, in either memory mode. -/
theorem addrOf_locOf (s : State) {a : Nat} (ha : a < mapTop) : addrOf s (locOf s a).stack (locOf s a).offset = a := by
  unfold mapTop at ha
  cases hi : s.mem.interleaved with
  | true => simp only [addrOf, locOf, hi, ↓reduceIte]; omega
  | false => simp only [addrOf, locOf, hi, stackBytes, Bool.false_eq_true, ↓reduceIte]; omega

/-- Distinct addresses of the map lie at distinct physical bytes. -/
theorem locOf_byte_injective (s : State) {a b : Nat} (ha : a < mapTop) (hb : b < mapTop)
    (h : (locOf s a).byte = (locOf s b).byte) : a = b := by
  have hla := locOf_offset_lt s ha
  have hlb := locOf_offset_lt s hb
  simp only [Loc.byte, stackBytes] at h hla hlb
  have hstack : (locOf s a).stack = (locOf s b).stack := Fin.ext (by omega)
  have hoffset : (locOf s a).offset = (locOf s b).offset := by omega
  rw [← addrOf_locOf s ha, ← addrOf_locOf s hb, hstack, hoffset]

/-! ## Bytes of HBM -/

/-- A read after a write of a byte: the value written there, every other address of the map as before. -/
theorem readHbm_writeHbm {s : State} (hwf : Memory.wf s.mem.hbm = true) {a b : Nat} (ha : a < mapTop) (hb : b < mapTop) (v : Byte) :
    readHbm (writeHbm a v s) b = if b = a then v else readHbm s b := by
  have hread : readHbm (writeHbm a v s) b =
      readCell (writeCell s.mem.hbm (locOf s a).byte (v ^^^ hbmBase s (locOf s a))) (locOf s b).byte ^^^ hbmBase s (locOf s b) := rfl
  rw [hread, readCell_writeCell hwf]
  by_cases hba : b = a
  · subst hba; simp
  · have hne : (locOf s b).byte ≠ (locOf s a).byte := fun h => hba (locOf_byte_injective s hb ha h)
    simp [hba, hne, readHbm]

theorem writeHbm_wf {s : State} (hwf : Memory.wf s.mem.hbm = true) (a : Nat) (v : Byte) : Memory.wf (writeHbm a v s).mem.hbm = true :=
  writeCell_wf _ _ hwf

@[simp] theorem writeHbms_nil (a : Nat) (s : State) : writeHbms a [] s = s := rfl

@[simp] theorem writeHbms_cons (a : Nat) (v : Byte) (vs : List Byte) (s : State) :
    writeHbms a (v :: vs) s = writeHbms (a + 1) vs (writeHbm a v s) := by
  simp only [writeHbms, List.zipIdx_cons', List.foldl_cons, List.foldl_map, Nat.add_zero, Prod.map, id, Nat.add_assoc, Nat.add_comm 1]

/-- Writing bytes changes the contents of HBM and nothing else. -/
theorem writeHbms_eq (vs : List Byte) (a : Nat) (s : State) : ∃ h, writeHbms a vs s = { s with mem := { s.mem with hbm := h } } := by
  induction vs generalizing a s with
  | nil => exact ⟨s.mem.hbm, rfl⟩
  | cons v vs ih =>
    obtain ⟨h, heq⟩ := ih (a + 1) (writeHbm a v s)
    exact ⟨h, by rw [writeHbms_cons, heq]; rfl⟩

/-- A write within the map leaves every address of the map outside its bytes as it was. -/
theorem readHbm_writeHbms_outside {b : Nat} (hb : b < mapTop) (vs : List Byte) (a : Nat) (s : State)
    (hwf : Memory.wf s.mem.hbm = true) (htop : a + vs.length ≤ mapTop) (hout : b < a ∨ a + vs.length ≤ b) :
    readHbm (writeHbms a vs s) b = readHbm s b := by
  induction vs generalizing a s with
  | nil => rfl
  | cons v vs ih =>
    simp only [List.length_cons] at htop hout
    have hne : b ≠ a := by omega
    rw [writeHbms_cons, ih _ _ (writeHbm_wf hwf a v) (by omega) (by omega), readHbm_writeHbm hwf (by omega) hb, if_neg hne]

/-- A write within the map puts each byte at its address. -/
theorem readHbm_writeHbms_inside (vs : List Byte) (a : Nat) (s : State) (hwf : Memory.wf s.mem.hbm = true)
    (htop : a + vs.length ≤ mapTop) {i : Nat} (hi : i < vs.length) : readHbm (writeHbms a vs s) (a + i) = vs[i] := by
  induction vs generalizing a s i with
  | nil => cases hi
  | cons v vs ih =>
    simp only [List.length_cons] at htop
    rw [writeHbms_cons]
    cases i with
    | zero =>
      rw [readHbm_writeHbms_outside (by omega) _ _ _ (writeHbm_wf hwf a v) (by omega) (by omega),
        readHbm_writeHbm hwf (by omega) (by omega), if_pos (Nat.add_zero a), List.getElem_cons_zero]
    | succ i =>
      rw [show a + (i + 1) = a + 1 + i by omega, ih _ _ (writeHbm_wf hwf a v) (by omega) (by simpa using hi),
        List.getElem_cons_succ]

/-! ## The request queue (R201, R202, R204) -/

/-- A request within a 1 KiB piece is that piece alone (R201). -/
theorem splitAt1K_within {a n : Nat} (hn : 0 < n) (h : a % 1024 + n ≤ 1024) : splitAt1K a n = [(0, n)] := by
  have hcount : (a % 1024 + n + 1023) / 1024 = 1 := by omega
  have hlo : Max.max a (a / 1024 * 1024) = a := by omega
  have hhi : Min.min (a + n) ((a / 1024 + 1) * 1024) = a + n := by omega
  simp [splitAt1K, hcount, hlo, hhi]

/-- A piece that leaves the queue changes the queue, the ports and the recorded peak, and nothing else. -/
theorem dequeue_eq (p : MemPiece) (s : State) : ∃ stks queue waiting,
    dequeue p s = { s with mem := { s.mem with stks := stks, queue := queue, waiting := waiting } } := by
  unfold dequeue
  dsimp only
  split
  · exact ⟨_, _, _, rfl⟩
  · exact ⟨_, _, _, rfl⟩

@[simp] theorem dequeue_readHbm (p : MemPiece) (s : State) (a : Nat) : readHbm (dequeue p s) a = readHbm s a := by
  obtain ⟨stks, queue, waiting, h⟩ := dequeue_eq p s
  rw [h]; rfl

@[simp] theorem dequeue_hbm (p : MemPiece) (s : State) : (dequeue p s).mem.hbm = s.mem.hbm := by
  obtain ⟨stks, queue, waiting, h⟩ := dequeue_eq p s
  rw [h]

@[simp] theorem dequeue_poison (p : MemPiece) (s : State) : (dequeue p s).mem.poison = s.mem.poison := by
  obtain ⟨stks, queue, waiting, h⟩ := dequeue_eq p s
  rw [h]

/-! ## Pieces issued without an ECC error (R201, R205) -/

theorem badBurst_clean {s : State} (hp : s.mem.poison = []) (p : MemPiece) : badBurst s p .clean = none := by
  simp [badBurst, hp]

/-- A clean read leaves the queue and is answered with the bytes HBM holds. -/
theorem issuePiece_clean_read {p : MemPiece} {s : State} (hw : p.write = false) (hp : s.mem.poison = []) :
    issuePiece p .clean s =
      emit (.memory p.requester p.addr false ((List.range p.len).map fun i => readHbm s (p.addr + i))) (dequeue p s) := by
  have hq : (dequeue p s).mem.poison = [] := by rw [dequeue_poison, hp]
  simp [issuePiece, badBurst_clean hq, hw, readData, hp]

/-- A clean write leaves the queue, is applied and is answered. -/
theorem issuePiece_clean_write {p : MemPiece} {s : State} (hw : p.write = true) (hp : s.mem.poison = []) :
    issuePiece p .clean s = emit (.memory p.requester p.addr false []) (writeHbms p.addr p.data (dequeue p s)) := by
  have hq : (dequeue p s).mem.poison = [] := by rw [dequeue_poison, hp]
  obtain ⟨h, hwrite⟩ := writeHbms_eq p.data p.addr (dequeue p s)
  simp [issuePiece, badBurst_clean hq, hw, hwrite, modMem, hp]

/-! ## The two commands -/

/-- A request within a 1 KiB piece is refused outside the map or in a failed stack, and enters the queue otherwise. -/
theorem memRequest_within {r : MemReq} (hn : 0 < r.len) (h : r.addr.toNat % 1024 + r.len ≤ 1024) (s : State) :
    memRequest r s =
      let p : MemPiece := { id := s.mem.nextId, requester := r.requester, write := r.write, addr := r.addr.toNat, len := r.len
                            data := slice r.data 0 r.len, ctx := r.ctx }
      let u := { s with mem := { s.mem with nextId := s.mem.nextId + 1 } }
      if mapTop ≤ r.addr.toNat || s.mem.stks[(locOf s r.addr.toNat).stack].failed then refuseRequest p u else enqueue p u := by
  rw [memRequest, splitAt1K_within hn h]
  rfl

/-- A blocked piece, and one whose stack does not run, stays in the queue. -/
theorem memRequestIssue_stays {id : Nat} {p : MemPiece} {s : State} (hf : (s.mem.queue.find? fun q => q.id == id) = some p)
    (h : blocked s p = true ∨ s.mem.stks[(locOf s p.addr).stack].state ≠ .running) (x : EccOutcome) : memRequestIssue id x s = s := by
  rw [memRequestIssue, hf]
  exact if_pos (by simpa using h)

/-- A piece that nothing blocks is issued when its stack runs. -/
theorem memRequestIssue_issues {id : Nat} {p : MemPiece} {s : State} (hf : (s.mem.queue.find? fun q => q.id == id) = some p)
    (hb : blocked s p = false) (hr : s.mem.stks[(locOf s p.addr).stack].state = .running) (x : EccOutcome) :
    memRequestIssue id x s = issuePiece p x s := by
  rw [memRequestIssue, hf]
  exact if_neg (by simpa [hb] using hr)

theorem exec_memRequest (r : MemReq) (s : State) : exec (.memRequest r) s = .next (memRequest r s) := rfl

theorem exec_memRequestIssue (id : Nat) (x : EccOutcome) (s : State) :
    exec (.memRequestIssue id x) s = .next (memRequestIssue id x s) := rfl

end Sys2Proof.Machine

namespace Sys2Proof

open Sys2Proof.Machine

/-- What a clean write does to the state: its answer leaves, its bytes read back, every other byte of HBM reads as before, and nothing
beside the memory subsystem and the answer changes. -/
theorem issuePiece_clean_write_applied {p : MemPiece} {s : State} (hw : p.write = true) (hp : s.mem.poison = [])
    (hwf : Memory.wf s.mem.hbm = true) (hlen : p.data.length = p.len) (htop : p.addr + p.len ≤ mapTop) :
    let t := issuePiece p .clean s
    t.out = .memory p.requester p.addr false [] :: s.out
      ∧ (∀ i, i < p.len → readHbm t (p.addr + i) = p.data.getD i 0)
      ∧ (∀ a, a < mapTop → (a < p.addr ∨ p.addr + p.len ≤ a) → readHbm t a = readHbm s a)
      ∧ { t with mem := s.mem, out := s.out } = s := by
  rw [← hlen] at htop
  have hwf' : Memory.wf (dequeue p s).mem.hbm = true := by rw [dequeue_hbm, hwf]
  have hread : ∀ x a u, readHbm (emit x u) a = readHbm u a := fun _ _ _ => rfl
  obtain ⟨h, hwrite⟩ := writeHbms_eq p.data p.addr (dequeue p s)
  obtain ⟨stks, queue, waiting, hdeq⟩ := dequeue_eq p s
  rw [issuePiece_clean_write hw hp, ← hlen]
  refine ⟨?out, fun i hi => ?inside, fun a ha hout => ?outside, ?frame⟩
  case out => rw [hwrite, hdeq]; rfl
  case inside =>
    rw [hread, readHbm_writeHbms_inside _ _ _ hwf' htop hi, List.getD_eq_getElem _ _ hi]
  case outside =>
    rw [hread, readHbm_writeHbms_outside ha _ _ _ hwf' htop hout, dequeue_readHbm]
  case frame => rw [hwrite, hdeq]; rfl

/-- Settles O40: a request within a piece is enqueued or refused; a queued piece stays, or is issued and answered, a read with the bytes
of HBM and a write with its bytes applied and no other. -/
theorem memoryRequests : Obligations.MemoryRequests := by
  unfold Obligations.MemoryRequests
  refine ⟨fun r s hn hin => ⟨fun hmap hok => ?_, fun hbad => ?_⟩, fun id p s hf => ⟨fun hb x => ?_, fun hr x => ?_, fun hb hr hp => ?_⟩⟩
  · rw [exec_memRequest, memRequest_within hn hin]
    exact congrArg _ (if_neg (by simpa [hmap] using hok))
  · rw [exec_memRequest, memRequest_within hn hin]
    exact congrArg _ (if_pos (by simpa using hbad))
  · rw [exec_memRequestIssue, memRequestIssue_stays hf (.inl hb)]
  · rw [exec_memRequestIssue, memRequestIssue_stays hf (.inr hr)]
  · have hissue : exec (.memRequestIssue id .clean) s = .next (issuePiece p .clean s) := by
      rw [exec_memRequestIssue, memRequestIssue_issues hf hb hr]
    refine ⟨fun hw => ?_, fun hw hwf hlen htop => ?_⟩
    · rw [hissue, issuePiece_clean_read hw hp]
    · exact ⟨_, hissue, issuePiece_clean_write_applied hw hp hwf hlen htop⟩

end Sys2Proof
end

section
/-!
PROOFS. The fast doorbell: the request a word spells (R51), and what the word does to the queue of requests (R53).
-/

namespace Sys2Proof.Machine

/-! ## Requests -/

/-- The request a word of the fast doorbell spells (R51): the context is ignored for an audio start arm. -/
def doorbellOf (w : BitVec 32) : Doorbell :=
  ⟨w.toNat % 16, if w.toNat % 16 = 4 then 0 else ⟨w.toNat / 16 % 8, Nat.mod_lt _ (by decide)⟩, w.toNat / 256 % 256,
    w.extractLsb' 16 16, 0⟩

/-- A word has an undefined action or its reserved bit set (R51). -/
abbrev MalformedWord (w : BitVec 32) : Prop := w.toNat % 16 = 0 ∨ 4 < w.toNat % 16 ∨ w.getLsbD 7 = true

/-- Two requests match in action, context and argument (R53). -/
abbrev Doorbell.Matches (q d : Doorbell) : Prop := q.action = d.action ∧ q.ctx = d.ctx ∧ q.arg = d.arg

theorem Doorbell.matches_iff (q d : Doorbell) :
    (q.action == d.action && q.ctx == d.ctx && q.arg == d.arg) = true ↔ q.Matches d := by
  simp only [Bool.and_eq_true, beq_iff_eq, and_assoc]

/-! ## Words -/

theorem doorbellWrite_malformed {w : BitVec 32} (h : MalformedWord w) (s : State) : doorbellWrite w s =
    modTick (fun g => { g with lost := bump g.lost, malformed := bump g.malformed, malformedNow := bump g.malformedNow }) s :=
  congrArg (modTick · s) (funext fun _ => if_pos h)

/-- A well-formed word by the queue it meets: merged into its match, lost to a full queue, or queued. -/
theorem doorbellWrite_wellFormed {w : BitVec 32} (h : ¬ MalformedWord w) (s : State) : doorbellWrite w s =
    { s with tick := let g := s.tick
      if ∃ q ∈ g.queue, q.Matches (doorbellOf w) then
        { g with queue := g.queue.map fun q => if q.Matches (doorbellOf w) then { q with merged := q.merged + 1 } else q }
      else if 16 ≤ g.queue.length then { g with lost := bump g.lost, lostNow := bump g.lostNow }
      else { g with queue := g.queue ++ [doorbellOf w] } } := by
  have hbits : ¬ (w.toNat % 16 = 0 ∨ 4 < w.toNat % 16 ∨ w.toNat.testBit 7 = true) := h
  have hseq : BitVec.ofNat 16 (w.toNat / 65536) = w.extractLsb' 16 16 := by
    rw [BitVec.extractLsb', Nat.shiftRight_eq_div_pow]
  have hany : (s.tick.queue.any fun q =>
      q.action == (doorbellOf w).action && q.ctx == (doorbellOf w).ctx && q.arg == (doorbellOf w).arg) = true ↔
      ∃ q ∈ s.tick.queue, q.Matches (doorbellOf w) := by
    simp only [List.any_eq_true, Doorbell.matches_iff]
  unfold doorbellWrite modTick
  refine congrArg (fun g => { s with tick := g }) ?_
  dsimp only
  rw [if_neg hbits, hseq]
  refine if_congr hany ?_ rfl
  refine congrArg (fun l => { s.tick with queue := l }) (List.map_congr_left fun q _ => ?_)
  exact if_congr (q.matches_iff (doorbellOf w)) rfl rfl

/-- The four rows of the fast doorbell write their word to it. -/
theorem exec_doorbell {mk : BitVec 32 → Instr}
    (h : mk = .doorbellTrigger ∨ mk = .doorbellKeyPicture ∨ mk = .doorbellRecordMark ∨ mk = .doorbellAudioStartArm)
    (w : BitVec 32) (s : State) : exec (mk w) s = .next (doorbellWrite w s) := by
  obtain rfl | rfl | rfl | rfl := h <;> rfl

end Sys2Proof.Machine

namespace Sys2Proof

open Sys2Proof.Machine

/-- Settles O14: a malformed word is lost, and a well-formed one is merged, lost or queued by the three branches of
`doorbellWrite_wellFormed`. -/
theorem doorbellWords : Obligations.DoorbellWords := by
  unfold Obligations.DoorbellWords
  intro mk w s hmk
  refine ⟨fun hbad => ?malformed, fun hlo hhi hbit => ?wellFormed⟩
  case malformed => rw [exec_doorbell hmk, doorbellWrite_malformed hbad]; rfl
  case wellFormed =>
    have hgood : ¬ MalformedWord w := by simp only [MalformedWord, hbit, Bool.false_eq_true, or_false]; omega
    have hnone : (∀ q ∈ s.tick.queue, ¬ q.Matches (doorbellOf w)) → ¬ ∃ q ∈ s.tick.queue, q.Matches (doorbellOf w) :=
      fun hnew ⟨q, hq, hm⟩ => hnew q hq hm
    rw [exec_doorbell hmk, doorbellWrite_wellFormed hgood]
    refine ⟨fun hsame => ?merged, fun hnew hfull => ?full, fun hnew hroom => ?queued⟩
    case merged => exact congrArg (fun g => Host.Outcome.next { s with tick := g }) (if_pos hsame)
    case full => exact congrArg (fun g => Host.Outcome.next { s with tick := g }) ((if_neg (hnone hnew)).trans (if_pos hfull))
    case queued => exact congrArg (fun g => Host.Outcome.next { s with tick := g }) ((if_neg (hnone hnew)).trans (if_neg (Nat.not_le.mpr hroom)))

end Sys2Proof
end

section
/-!
PROOFS. The commands of the tick: how a source becomes live at its hinge (R60), how the hold set is armed (R50), and what the six TICK_
commands answer.
-/

namespace Sys2Proof.Machine

/-! ## A source becomes live (R60) -/

/-- The internal generator goes on from the hinge itself; another source is awaited. -/
theorem switchSource_eq (h : Nat) (v : TickSource) (s : State) : switchSource h v s = { s with tick := { s.tick with
    live := v, period := v.period, edges := [], lastEdge := none, rate := none
    next := if v.source = 0 then s.tick.lastAt + v.period else s.tick.next
    state := if v.source = 0 then (if s.tick.slref then .locked else .holdover) else s.tick.state
    cause := if v.source = 0 then (if s.tick.slref then 0 else 3) else s.tick.cause
    switch := if v.source = 0 then none else some ⟨h, v⟩ } } := by
  unfold switchSource modTick
  by_cases hinternal : v.source = 0
  · simp only [hinternal, ↓reduceIte]
  · simp only [hinternal, ↓reduceIte]

/-! ## The hold set is armed (R50) -/

@[simp] theorem forEach_nil {α : Type} (f : α → State → State) (s : State) : forEach [] f s = s := rfl

@[simp] theorem forEach_cons {α : Type} (x : α) (l : List α) (f : α → State → State) (s : State) :
    forEach (x :: l) f s = forEach l f (f x s) := rfl

/-- Posting an event counts it, and changes nothing else of the acceptance state. -/
@[simp] theorem post_cmd (code : Nat) (c : Option CtxId) (frame : BitVec 48) (detail : Nat) (s : State) :
    (post code c frame detail s).cmd = { s.cmd with eventSeq := s.cmd.eventSeq + 1 } := by
  unfold post
  rw [forEach_same State.cmd]
  · unfold when; split <;> rfl
  · intro m u; unfold when; split <;> rfl

/-- When each member of a list raises one event, the events raised count the list. -/
theorem forEach_cmd_of_post {α : Type} {f : α → State → State}
    (hf : ∀ x t, (f x t).cmd = { t.cmd with eventSeq := t.cmd.eventSeq + 1 }) (l : List α) (s : State) :
    (forEach l f s).cmd = { s.cmd with eventSeq := s.cmd.eventSeq + BitVec.ofNat 32 l.length } := by
  induction l generalizing s with
  | nil => simp
  | cons x l ih =>
    have hcount : s.cmd.eventSeq + 1 + BitVec.ofNat 32 l.length = s.cmd.eventSeq + BitVec.ofNat 32 (x :: l).length := by
      rw [List.length_cons, BitVec.ofNat_add, BitVec.add_assoc, BitVec.add_comm 1]
      rfl
    rw [forEach_cons, ih, hf, ← hcount]

/-- Arming held commands one by one appends the changes of all of them. -/
theorem forEach_armAt (h : Nat) (l : List Held) (s : State) : forEach l (fun x => armAt h x.seq x.changes) s =
    { s with cmd := { s.cmd with armed := s.cmd.armed ++ l.flatMap fun x => x.changes.map fun y => ⟨h, x.seq, y⟩ } } := by
  induction l generalizing s with
  | nil => simp
  | cons x l ih =>
    rw [forEach_cons, ih, List.flatMap_cons, ← List.append_assoc]
    rfl

/-- Arming the hold set drops it, arms every held change, and counts one TICK_ARMED for each context named. -/
theorem armHeld_cmd (h : Nat) (s : State) : (armHeld h s).cmd = { s.cmd with
    hold := none
    armed := s.cmd.armed ++ (heldItems s).flatMap fun x => x.changes.map fun y => ⟨h, x.seq, y⟩
    eventSeq := s.cmd.eventSeq + BitVec.ofNat 32 (heldContexts s).length } := by
  unfold armHeld
  rw [forEach_cmd_of_post fun c t => post_cmd .., forEach_armAt]
  rfl

@[simp] theorem beside_armHeld (s t : State) (h : Nat) : beside s (armHeld h t) = beside s t := by
  unfold armHeld
  rw [forEach_same (beside s) fun c u => beside_post .., forEach_armAt]
  rfl

end Sys2Proof.Machine

namespace Sys2Proof

open Sys2Proof.Machine

/-! ## The commands -/

/-- A confirmation is accepted only while a rate change is pending (R60). -/
theorem ratePending_of_accepts {e : Entry} {s : State} (h : Accepts tickRateConfirmSpec e s) : s.tick.state = .ratePending := by
  have hstates : (if s.tick.state == .ratePending then none else some (wrong s.tick.state.code)) = none := accepts_states h
  by_contra hne
  simp [hne] at hstates

/-- Settles O17: each TICK_ command is answered or armed as its effect says, a new source becomes live by `switchSource_eq`, and the hold
set is armed by `armHeld_cmd`. -/
theorem tickCommands : Obligations.TickCommands := by
  unfold Obligations.TickCommands
  refine ⟨fun e s => ⟨fun h => ?getState, fun h => ?budgetQuery, fun h => ?discard⟩,
    ⟨fun e s => ⟨fun h => ?setSource, fun h => ?rateConfirm⟩, fun h v s => ⟨switchSource_eq h v s, fun p => rfl⟩⟩, fun e s h => ?arm⟩
  case getState => exact ⟨_, rfl, reply_completed h rfl rfl⟩
  case budgetQuery => exact ⟨_, rfl, reply_completed h rfl rfl⟩
  case discard => exact ⟨_, rfl, reply_completed h rfl rfl⟩
  case setSource => exact ⟨_, rfl, arm_banked h rfl⟩
  case rateConfirm => exact ⟨ratePending_of_accepts h, _, rfl, arm_banked h rfl⟩
  case arm =>
    have hcmd := armHeld_cmd (armTarget e s) (takeCommand e.mb s)
    exact ⟨armHeld (armTarget e s) (takeCommand e.mb s), ⟨_, rfl, reply_completed h rfl rfl⟩, by rw [hcmd],
      by rw [hcmd]; rfl, by rw [hcmd]; rfl, beside_armHeld ..⟩

end Sys2Proof
end

section
/-!
PROOFS. Validation: the steps of R79 as a chain in which the first that fails decides, and what the flags field and deadbolt refuse
(R70, R83).
-/

namespace Sys2Proof.Machine

/-! ## The chain of steps (R79) -/

section
variable {x rest v : Option Fail}

theorem first_decides (h : v = x.or rest) (hx : x ≠ none) : v = x :=
  h.trans (Option.or_of_isSome (Option.isSome_iff_ne_none.mpr hx))

theorem rest_decides (h : v = x.or rest) (hx : x = none) : v = rest := by
  rw [h, hx, Option.none_or]

/-- A step that fails decides; one that passes leaves the decision to the steps after it. -/
theorem first_or_rest {P : Prop} (h : v = x.or rest) (hrest : v = rest → P) : (x ≠ none → v = x) ∧ (x = none → P) :=
  ⟨first_decides h, fun hx => hrest (rest_decides h hx)⟩

end

section
variable {sp : Spec} {e : Entry} {s : State}

theorem validate_notPermitted (h : permits sp e s = false) : validate sp e s = some ⟨.notPermitted, s.devState⟩ :=
  if_pos (by rw [h]; rfl)

/-- A permitted command is judged by the steps from the second on. -/
theorem validate_permitted (h : permits sp e s = true) : validate sp e s =
    (lengthFail sp e).or ((headerFail sp e).or ((fetchFail e s).or ((fieldFail sp e s).or ((stateFail sp e s).or
      ((ownerFail sp e s).or ((resourceFail sp e s).or ((sp.tumbler e s).or (sp.signature e s)))))))) :=
  if_neg (by rw [h]; decide)

theorem fetchFail_of_ne_none (h : fetchFail e s ≠ none) : fetchFail e s = some ⟨.hwFault, 0x5B⟩ := by
  unfold fetchFail at h ⊢
  split at h
  · exact if_pos ‹_›
  · exact absurd rfl h

/-! ## The flags field (R70) and deadbolt (R83) -/

theorem flagsOk_eq_false (h : (holds e = true ∧ sp.bank = false) ∨ entryLoc e = 3 ∨ 8 ≤ e.flags.toNat
    ∨ (sp.noInline = true ∧ entryLoc e = 0)) : flagsOk sp e = false := by
  obtain ⟨hhold, hbank⟩ | hloc | hreserved | ⟨hinline, hloc⟩ := h
  · simp [flagsOk, hhold, hbank]
  · simp [flagsOk, hloc]
  · have hbits : e.flags.toNat / 8 ≠ 0 := by omega
    simp [flagsOk, hbits]
  · simp [flagsOk, hinline, hloc]

/-- The flags field comes first in the entry header. -/
theorem headerFail_of_flags (h : flagsOk sp e = false) : headerFail sp e = some ⟨.outOfRange, 0x10004⟩ := by
  simp [headerFail, firstFail, h]

theorem validate_of_flags (hp : permits sp e s = true) (hl : lengthFail sp e = none) (hf : flagsOk sp e = false) :
    validate sp e s = some ⟨.outOfRange, 0x10004⟩ := by
  rw [validate_permitted hp, hl, headerFail_of_flags hf]
  rfl

theorem stateFail_deadbolt (h : s.devState = 4) (hd : sp.deadbolt = false) (hw : sp.deadboltWhen e = false) :
    stateFail sp e s = some ⟨.wrongState, 4⟩ := by
  simp [stateFail, h, hd, hw, wrong]

end

end Sys2Proof.Machine

namespace Sys2Proof

open Sys2Proof.Machine

/-- Settles O11: the steps decide in order by `first_or_rest`, one step at a time; the flags field fails by `validate_of_flags`, and the
state step in deadbolt by `stateFail_deadbolt`. -/
theorem validationOrder : Obligations.ValidationOrder := by
  unfold Obligations.ValidationOrder
  refine ⟨fun sp e s => ⟨validate_notPermitted, fun hp hl => first_decides (validate_permitted hp) hl, fun hp hl => ?afterLength⟩,
    fun sp e s hp hl h => ?flags, fun sp e s h hd hw hp hl hh hfetch hfield => ?deadbolt⟩
  case afterLength =>
    have hv := rest_decides (validate_permitted hp) hl
    refine first_or_rest hv fun hv => ⟨fun hf => ?fetch, fun hf => ?afterFetch⟩
    case fetch => rw [first_decides hv hf, fetchFail_of_ne_none hf]
    case afterFetch =>
      have hv := rest_decides hv hf
      exact first_or_rest hv fun hv => first_or_rest hv fun hv => first_or_rest hv fun hv => first_or_rest hv fun hv => first_or_rest hv id
  case flags => exact validate_of_flags hp hl (flagsOk_eq_false h)
  case deadbolt =>
    rw [validate_permitted hp, hl, hh, hfetch, hfield, stateFail_deadbolt h hd hw]
    rfl

end Sys2Proof
end

section
/-!
PROOFS. Mailbox commands as rows: every one is run on its own path, `runCommand`, which leaves an untaken command in its ring, and answers
a rejected one without applying it (R68, R77, R79).
-/

namespace Sys2Proof.Machine

/-! ## The rows of the mailbox commands -/

/-- The row of a mailbox command runs the command with its rules. -/
theorem exec_mailboxCommand {c : Instr} {sp : Spec} {e : Entry} (h : mailboxCommand c = some (sp, e)) (s : State) :
    exec c s = .next (runCommand sp e s) := by
  cases c <;> cases h <;> rfl

/-! ## Taking a command (R68, R76, R77) -/

/-- What keeps a mailbox from being served its next command. -/
theorem canTake_eq_false {s : State} {m : MbId} (h : served s m = false ∨ s.mailboxes[m].cmdHead = s.mailboxes[m].tailSeen
    ∨ cplFull s.mailboxes[m] = true ∨ s.mailboxes[m].executing.isSome = true) : canTake s m = false := by
  unfold canTake
  generalize s.mailboxes[m] = b at h ⊢
  obtain hserved | hempty | hfull | hbusy := h
  · simp [hserved]
  · simp [hempty]
  · simp [hfull]
  · simp [Option.isSome_iff_ne_none.mp hbusy]

theorem runCommand_untaken {e : Entry} {s : State} (h : canTake s e.mb = false) (sp : Spec) : runCommand sp e s = s :=
  if_neg (by rw [h]; simp)

/-- A command that fails validation is answered on the state in which it has been taken. -/
theorem runCommand_rejected {sp : Spec} {e : Entry} {s : State} {f : Fail} (ht : canTake s e.mb = true)
    (hd : asDelivered sp e s = true) (hv : validate sp e (takeCommand e.mb s) = some f) :
    runCommand sp e s = finish e sp.opcode s.mailboxes[e.mb].cmdHead { status := f.status, detail := f.detail }
      (if f.status = .hwFault then raise0 0x5B (takeCommand e.mb s) else takeCommand e.mb s) := by
  simp only [runCommand, command, ht, hd, hv, Bool.and_self, ↓reduceIte]
  rfl

end Sys2Proof.Machine

namespace Sys2Proof

open Sys2Proof.Machine

/-- Settles O9: a mailbox with nothing to take leaves the state as it is (`runCommand_untaken`), and taking writes the one mailbox
(`takeCommand_mb`). -/
theorem untakenCommandsAndTheHead : Obligations.UntakenCommandsAndTheHead := by
  unfold Obligations.UntakenCommandsAndTheHead
  refine ⟨fun c sp e s hc h => ?untaken, fun m s => ⟨?head, ?quota, rfl, fun n hn => modMb_other _ _ _ _ hn⟩⟩
  case untaken => rw [exec_mailboxCommand hc, runCommand_untaken (canTake_eq_false h)]
  case head => rw [takeCommand_mb]
  case quota => rw [takeCommand_mb]

/-- Settles O10: a rejected command is finished on the state in which it has been taken (`runCommand_rejected`), and `finish` answers it
and writes nothing else (`finish_completed`). -/
theorem rejectedCommandIsAnsweredAndNotApplied : Obligations.RejectedCommandIsAnsweredAndNotApplied := by
  unfold Obligations.RejectedCommandIsAnsweredAndNotApplied
  intro c sp e s f hc ht hd hv
  exact ⟨_, exec_mailboxCommand hc s, by rw [runCommand_rejected ht hd hv]; exact finish_completed ..⟩

end Sys2Proof
end

section
/-!
PROOFS. The queue of commands and reset: what each command leaves as it was, for every row of the command table, and the values the spec
states for reset (log 118, R64, R39, R404).
-/

namespace Sys2Proof.Machine

/-! ## What a command keeps -/

/-- The rules of every mailbox command have an effect that keeps what few commands change. -/
theorem mailboxCommand_effect_keeps {c : Instr} {sp : Spec} {e : Entry} (h : mailboxCommand c = some (sp, e)) (x : Entry) (s : State) :
    Keeps s (sp.effect x s).after := by
  revert x s
  cases c <;> cases h
  exacts [tickSetSourceSpec_keeps, tickRateConfirmSpec_keeps, tickGetStateSpec_keeps, tickBudgetQuerySpec_keeps, tickArmSpec_keeps,
    tickDiscardSpec_keeps, sysNopSpec_keeps, sysIdentifySpec_keeps, sysEventMaskSpec_keeps, sysBlockResetSpec_keeps,
    sysResetSpec_keeps, sysRecoveryStatusSpec_keeps, sysFlashSpec_keeps, sysBootImageSpec_keeps, sysTwbConfigSpec_keeps,
    ctxSetSourceSpec_keeps, ctxSetPlacementSpec_keeps, ctxLandingConfigSpec_keeps, ctxStartSpec_keeps, ctxStopSpec_keeps,
    ctxTestPatternSpec_keeps, ctxGetStatusSpec_keeps, slPortConfigSpec_keeps, slPortStartSpec_keeps, slPortStopSpec_keeps,
    slGetStatusSpec_keeps, slRegAccessSpec_keeps, slLoopbackSpec_keeps, rawSetCfaSpec_keeps, rawLoadLinearisationSpec_keeps,
    rawSetBlackSpec_keeps, rawLoadColumnSpec_keeps, rawBindPixelTableSpec_keeps, rawLoadDefectsSpec_keeps, rawSetShadingSpec_keeps,
    rawSetMergeSpec_keeps, rawSetTapsSpec_keeps, rawGetStatusSpec_keeps, grdSetDevelopSpec_keeps, grdSetNoiseSpec_keeps,
    grdSetGradeSpec_keeps, grdLoadGradeTablesSpec_keeps, grdLoadScalerSpec_keeps, grdLoadLutSpec_keeps, grdFreeLutSpec_keeps,
    grdGetStatusSpec_keeps, statSetConfigSpec_keeps, statSetTargetSpec_keeps, statReadRecordSpec_keeps, memSetModeSpec_keeps,
    memGetStatusSpec_keeps, memReadLogSpec_keeps, memCalibrateSpec_keeps, memRetrainSpec_keeps, memSetPolicySpec_keeps,
    memRepairSpec_keeps, cmpSubmitSpec_keeps, cmpSetHostEnginesSpec_keeps, cmpCancelSpec_keeps, cmpGetStatusSpec_keeps,
    recMediaSpec_keeps, recSetTargetSpec_keeps, recStartSpec_keeps, recStopSpec_keeps, recTriggerSpec_keeps, recReleaseSpec_keeps,
    recGetStatusSpec_keeps, stgSetScratchSpec_keeps, stgSetRatesSpec_keeps, stgGetStatusSpec_keeps, stgReadErrorLogSpec_keeps,
    vcSetEncodeSpec_keeps, vcKeyPictureSpec_keeps, vcSetVectorExportSpec_keeps, vcDecodeOpenSpec_keeps, vcDecodeSubmitSpec_keeps,
    vcDecodeCloseSpec_keeps, vcGetStatusSpec_keeps, vcGetEncodeSpec_keeps, outSetRasterSpec_keeps, outBindSpec_keeps,
    outSetOverlaySpec_keeps, outSetAudioSpec_keeps, outGetStatusSpec_keeps, netPortConfigSpec_keeps, netSetStreamSpec_keeps,
    netGetStatusSpec_keeps, timeGetStateSpec_keeps, timeAdjustSpec_keeps, timeSetPtpSpec_keeps, timeSetTriggerSpec_keeps,
    audSetClockSpec_keeps, audPortConfigSpec_keeps, audSetMaskSpec_keeps, audStartSpec_keeps, audStopSpec_keeps,
    audGetStatusSpec_keeps, posConfigSpec_keeps, posControlSpec_keeps, posSetCompareSpec_keeps, posGetStatusSpec_keeps,
    haspPortConfigSpec_keeps, haspGetStatusSpec_keeps, haspForwardSpec_keeps, haspSetSplitSpec_keeps, haspReadEventsSpec_keeps,
    fltSetSeveritySpec_keeps, fltGetStatusSpec_keeps, fltClearSpec_keeps, fltSetPinSpec_keeps, fltReadHistorySpec_keeps,
    fltReintegrateSpec_keeps, fltInjectSpec_keeps, secGetCertificateSpec_keeps, secAttestSpec_keeps, secImageWriteSpec_keeps,
    secSetPreferredSpec_keeps, secRollbackAdvanceSpec_keeps, secGetStatusSpec_keeps, pwrSetDomainSpec_keeps, pwrSetClockSpec_keeps,
    pwrSetCeilingSpec_keeps, pwrGetStatusSpec_keeps, thmSetThresholdsSpec_keeps, thmGetStatusSpec_keeps]

/-- The rows that move the tick counter, the strap code or HEARTBEAT: a hinge, the broadcast that joins a worker, a management tick, the
strap's latch and the four resets. -/
def movesCounts : Instr → Bool
  | .hinge | .hingeBroadcastRx .. | .managementTick _ | .strapLatch _ | .resetAssert _ | .rstNCheck .. | .startWatchdogExpiry
  | .commandResetAssert => true
  | _ => false

/-- Every other row keeps them: a mailbox command by its rules, an arrival or an occurrence by the law of its operation. -/
theorem exec_keeps (c : Instr) (s : State) (h : movesCounts c = false) : Answers c s (Keeps s) := by
  cases hm : mailboxCommand c with
  | some p =>
    obtain ⟨sp, e⟩ := p
    exact ⟨_, exec_mailboxCommand hm s, runCommand_keeps (mailboxCommand_effect_keeps hm) e s⟩
  | none =>
    cases c
    case slFrameStartRx p column => exact ⟨_, rfl, receiveControl_keeps _ _ _ _ _ (frameStart_keeps p)⟩
    case slFrameEndRx p column => exact ⟨_, rfl, receiveControl_keeps _ _ _ _ _ (frameEnd_keeps p)⟩
    case slRegRespRx p column => exact ⟨_, rfl, receiveControl_keeps _ _ _ _ _ (regResponse_keeps p)⟩
    case slBringupTimeout | slCapsResend | slPortDown | mediaCmdTimeout | flush | twbReadSnapshot =>
      refine ⟨_, rfl, ?_⟩
      split <;> simp [Keeps]
    case loopbackCheckerLock =>
      refine ⟨_, rfl, ?_⟩
      split
      · split <;> simp [Keeps]
      · simp [Keeps]
    case haspArm e =>
      refine ⟨_, rfl, ?_⟩
      have hrun := runCommand_keeps haspArmSpec_keeps e s
      split
      · split
        · exact keeps_trans hrun (finishArm_keeps ..)
        · exact hrun
      · exact hrun
    -- what is left after the mailbox commands and the rows that move a count
    all_goals cases hm
    all_goals cases h
    all_goals exact ⟨_, rfl, by simp [Keeps]⟩

/-! ## The queue (log 118) -/

@[simp] theorem hingeTick_pending (s : State) : (hingeTick s).pending = s.pending := by
  unfold hingeTick
  dsimp only
  (repeat' split) <;> simp

theorem hinge_pending (s : State) : (hinge s).pending = s.pending := by
  unfold hinge hingeStep3
  split <;> simp [Keeps]

@[simp] theorem joinManager_pending (b : Broadcast) (lead : Nat) (s : State) : (joinManager b lead s).pending = s.pending := by
  simp [joinManager]

theorem hingeBroadcastRx_pending (p : Fin 2) (b : Broadcast) (s : State) : (hingeBroadcastRx p b s).pending = s.pending := by
  simp [hingeBroadcastRx, apply_ite State.pending, Keeps]

theorem managementTick_pending (temps : List Int) (s : State) : (managementTick temps s).pending = s.pending := by
  unfold managementTick
  (repeat' split) <;> simp [Keeps]

theorem strapLatch_pending (l : List Nat) (s : State) : (strapLatch l s).pending = s.pending := by
  unfold strapLatch
  split <;> rfl

@[simp] theorem resetAssert_pending (x : ResetSource) (s : State) : (resetAssert x s).pending = s.pending := by
  unfold resetAssert
  (repeat' split) <;> rfl

theorem rstNCheck_pending (high twa1 twa0 : Bool) (s : State) : (rstNCheck high twa1 twa0 s).pending = s.pending := by
  unfold rstNCheck
  (repeat' split) <;> simp

theorem startWatchdogExpiry_pending (s : State) : (startWatchdogExpiry s).pending = s.pending := by
  unfold startWatchdogExpiry
  split <;> simp

theorem commandResetAssert_pending (s : State) : (commandResetAssert s).pending = s.pending := by
  unfold commandResetAssert
  split <;> simp

/-- Every command has an effect, and it leaves the queue alone. -/
theorem exec_pending (c : Instr) (s : State) : Answers c s fun t => t.pending = s.pending := by
  cases h : movesCounts c with
  | false =>
    obtain ⟨t, ht, hpending, -⟩ := exec_keeps c s h
    exact ⟨t, ht, hpending⟩
  | true =>
    cases c
    case hinge => exact ⟨_, rfl, hinge_pending s⟩
    case hingeBroadcastRx p b => exact ⟨_, rfl, hingeBroadcastRx_pending p b s⟩
    case managementTick temps => exact ⟨_, rfl, managementTick_pending temps s⟩
    case strapLatch l => exact ⟨_, rfl, strapLatch_pending l s⟩
    case resetAssert x => exact ⟨_, rfl, resetAssert_pending x s⟩
    case rstNCheck high twa1 twa0 => exact ⟨_, rfl, rstNCheck_pending high twa1 twa0 s⟩
    case startWatchdogExpiry => exact ⟨_, rfl, startWatchdogExpiry_pending s⟩
    case commandResetAssert => exact ⟨_, rfl, commandResetAssert_pending s⟩
    all_goals cases h

theorem step_cons {c : Instr} {rest : List Instr} {s : State} (h : s.pending = c :: rest) :
    step s = exec c { s with pending := rest } := by
  simp only [step, h]

end Sys2Proof.Machine

namespace Sys2Proof

open Sys2Proof.Machine

/-- Settles O1: the step's own equation on a queue that is not empty. -/
theorem stepRunsFrontCommand : Obligations.StepRunsFrontCommand := by
  unfold Obligations.StepRunsFrontCommand
  exact fun c rest s => step_cons

/-- Settles O3: each value is a default of the state, and the eight mailboxes, the contexts and the ports are gone through one by one. -/
theorem resetLeaves : Obligations.ResetLeaves := by
  unfold Obligations.ResetLeaves
  decide

/-- Settles O6: a step runs the front command on the state with the rest of the queue (`step_cons`), which its effect leaves alone
(`exec_pending`). -/
theorem queueIsFirstInFirstOut : Obligations.QueueIsFirstInFirstOut := by
  unfold Obligations.QueueIsFirstInFirstOut
  intro c rest s t hs hstep
  obtain ⟨u, hu, hpending⟩ := exec_pending c { s with pending := rest }
  rw [step_cons hs, hu] at hstep
  cases hstep
  exact hpending

end Sys2Proof
end

section
/-!
PROOFS. Events: what a ring makes of an event (R72, R73), which mailboxes an event reaches, and how a background command ends (R82).
-/

namespace Sys2Proof.Machine

/-! ## What waits for space in a ring (R73) -/

/-- Writing held events changes the ring of events and what is held, and nothing else of the mailbox. -/
theorem pushHeld_eq (l : List EventEntry) (b : Mailbox) : ∃ evt tail written held,
    pushHeld l b = { b with evt := evt, evtTail := tail, written := written, heldEvents := held } := by
  induction l generalizing b with
  | nil => exact ⟨_, _, _, _, rfl⟩
  | cons x l ih =>
    unfold pushHeld
    split
    · exact ⟨_, _, _, _, rfl⟩
    · obtain ⟨evt, tail, written, held, h⟩ := ih (pushEvt x b)
      exact ⟨evt, tail, written, held, h⟩

/-- Writing what had to wait changes the ring of events, what is held and the count of losses to report, and nothing else. -/
theorem flushRing_eq (tick : BitVec 64) (seq : BitVec 32) (b : Mailbox) : ∃ evt tail written held lost, flushRing tick seq b =
    { b with evt := evt, evtTail := tail, written := written, heldEvents := held, lostSince := lost } := by
  unfold flushRing
  split
  · exact ⟨_, _, _, _, _, rfl⟩
  · split
    · obtain ⟨evt, tail, written, held, h⟩ := pushHeld_eq b.heldEvents b
      exact ⟨evt, tail, written, held, _, h⟩
    · obtain ⟨evt, tail, written, held, h⟩ := pushHeld_eq b.heldEvents
        (pushEvt { code := 0x0181, ctx := 0xFF, seq := seq, tick := tick, detail := BitVec.ofNat 64 b.lostSince } { b with lostSince := 0 })
      exact ⟨evt, tail, written, held, _, h⟩

section
variable {b : Mailbox} (tick : BitVec 64) (seq : BitVec 32)

@[simp] theorem flushRing_enabled : (flushRing tick seq b).enabled = b.enabled := by
  obtain ⟨_, _, _, _, _, h⟩ := flushRing_eq tick seq b
  rw [h]

@[simp] theorem flushRing_background : (flushRing tick seq b).background = b.background := by
  obtain ⟨_, _, _, _, _, h⟩ := flushRing_eq tick seq b
  rw [h]

theorem flushRing_full (h : evtFull b = true) : flushRing tick seq b = b := if_pos (by rw [h]; rfl)

theorem flushRing_disabled (h : b.enabled = false) : flushRing tick seq b = b := if_pos (by rw [h]; simp)

/-- With no loss to report and nothing held there is nothing to write. -/
theorem flushRing_nothing (hl : b.lostSince = 0) (hh : b.heldEvents = []) : flushRing tick seq b = b := by
  unfold flushRing
  split
  · rfl
  · rw [hh, pushHeld, ← hh]

end

/-! ## An event for one ring -/

theorem deliver_full {b : Mailbox} (h : evtFull b = true) (x : EventEntry) :
    deliver x b = { b with evtLost := bump b.evtLost, lostSince := b.lostSince + 1 } := by
  simp only [deliver, flushRing_full _ _ h, h, ↓reduceIte]

theorem deliver_room {b : Mailbox} (hl : b.lostSince = 0) (hh : b.heldEvents = []) (h : evtFull b = false) (x : EventEntry) :
    deliver x b = pushEvt x b := by
  simp [deliver, flushRing_nothing _ _ hl hh, h]

/-! ## An event for every ring that wants it -/

theorem when_modMb_self (c : Bool) (m : MbId) (f : Mailbox → Mailbox) (s : State) :
    (when c (modMb m f) s).mailboxes[m] = if c then f s.mailboxes[m] else s.mailboxes[m] := by
  cases c
  · rfl
  · exact modMb_self m f s

theorem when_modMb_other (c : Bool) {m n : MbId} (f : Mailbox → Mailbox) (s : State) (h : n ≠ m) :
    (when c (modMb m f) s).mailboxes[n] = s.mailboxes[n] := by
  cases c
  · rfl
  · exact modMb_other m n f s h

/-- Of a list of mailboxes, none twice, each that satisfies its condition is changed once. -/
theorem forEach_when_modMb (w : MbId → Mailbox → Bool) (f : Mailbox → Mailbox) {l : List MbId} (hl : l.Nodup) (s : State) (n : MbId) :
    (forEach l (fun m t => when (w m t.mailboxes[m]) (modMb m f) t) s).mailboxes[n]
      = if n ∈ l ∧ w n s.mailboxes[n] = true then f s.mailboxes[n] else s.mailboxes[n] := by
  induction l generalizing s with
  | nil => simp
  | cons m l ih =>
    obtain ⟨hm, hl⟩ := List.nodup_cons.mp hl
    rw [forEach_cons, ih hl]
    by_cases hn : n = m
    · subst hn
      rw [if_neg fun h => hm h.1, when_modMb_self]
      simp
    · rw [when_modMb_other _ _ _ hn]
      simp [hn]

/-- The mailboxes that want an event have it delivered, the others are as they were. -/
theorem post_mailbox (code : Nat) (c : Option CtxId) (frame : BitVec 48) (detail : Nat) (s : State) (m : MbId) :
    (post code c frame detail s).mailboxes[m] = if wants m code s.mailboxes[m] = true
      then deliver (eventNow code c frame detail s) s.mailboxes[m] else s.mailboxes[m] := by
  have hall : ∀ m : MbId, m ∈ ([0, 1, 2, 3, 4, 5, 6, 7] : List MbId) := by decide
  unfold post
  rw [forEach_when_modMb (fun m => wants m code) _ (by decide)]
  have hstart : ∀ (b : Bool) (x : Emission) (t : State), (when b (emit x) t).mailboxes = t.mailboxes := by
    intro b x t; cases b <;> rfl
  simp only [hstart, hall, true_and]

/-- An event writes neither host memory nor the two-wire window. -/
theorem post_windows (code : Nat) (c : Option CtxId) (frame : BitVec 48) (detail : Nat) (s : State) :
    (post code c frame detail s).hostMem = s.hostMem ∧ (post code c frame detail s).twb = s.twb := by
  have hbox : ∀ (b : Bool) (m : MbId) (f : Mailbox → Mailbox) (t : State),
      (when b (modMb m f) t).hostMem = t.hostMem ∧ (when b (modMb m f) t).twb = t.twb := by
    intro b m f t; cases b <;> exact ⟨rfl, rfl⟩
  unfold post
  rw [forEach_same State.hostMem fun m t => (hbox ..).1, forEach_same State.twb fun m t => (hbox ..).2]
  unfold Machine.when
  split <;> exact ⟨rfl, rfl⟩

/-! ## A background command ends (R82) -/

/-- The mailbox after its SYS_BACKGROUND_DONE `x`: written, or held while the mailbox is disabled or its ring full (R73). -/
def reportEnd (x : EventEntry) (b : Mailbox) : Mailbox :=
  let b := flushRing x.tick x.seq b
  if !b.enabled || evtFull b then { b with heldEvents := b.heldEvents ++ [x] } else pushEvt x b

@[simp] theorem reportEnd_background (x : EventEntry) (b : Mailbox) : (reportEnd x b).background = b.background := by
  unfold reportEnd
  dsimp only
  split <;> exact flushRing_background ..

theorem reportEnd_room {b : Mailbox} (he : b.enabled = true) (hl : b.lostSince = 0) (hh : b.heldEvents = []) (h : evtFull b = false)
    (x : EventEntry) : reportEnd x b = pushEvt x b := by
  simp [reportEnd, flushRing_nothing _ _ hl hh, he, h]

theorem reportEnd_disabled {b : Mailbox} (he : b.enabled = false) (x : EventEntry) :
    reportEnd x b = { b with heldEvents := b.heldEvents ++ [x] } := by
  simp [reportEnd, flushRing_disabled _ _ he, he]

section
variable {m : MbId} {op : Nat} {tag : BitVec 16} {s : State} (st : Status) (detail : Nat)

theorem endBackground_unlisted (h : ∀ g ∈ s.mailboxes[m].background, ¬ (g.tag = tag ∧ g.opcode.toNat = op)) :
    endBackground m op tag st detail s = s := by
  have hfind : (s.mailboxes[m].background.find? fun g => g.tag == tag && g.opcode.toNat == op) = none :=
    List.find?_eq_none.mpr (by simpa using h)
  simp only [endBackground, hfind]

/-- The command at the front of its mailbox's list leaves the list, and is reported there alone. -/
theorem endBackground_front {g : Background} {rest : List Background} (hb : s.mailboxes[m].background = g :: rest) (ht : g.tag = tag)
    (ho : g.opcode.toNat = op) : endBackground m op tag st detail s =
      let x := { eventNow 0x0182 none 0 (tag.toNat + 2 ^ 16 * st.code.toNat + 2 ^ 32 * op + 2 ^ 48 * (detail % 2 ^ 16)) s with ctx := g.ctx }
      let b := { s.mailboxes[m] with background := rest }
      { s with cmd := { s.cmd with eventSeq := s.cmd.eventSeq + 1 }
               mailboxes := s.mailboxes.set m (if g.report = true then reportEnd x b else b) } := by
  have hfind : (s.mailboxes[m].background.find? fun g => g.tag == tag && g.opcode.toNat == op) = some g := by
    rw [hb]
    simp [ht, ho]
  have herase : s.mailboxes[m].background.erase g = rest := by rw [hb, List.erase_cons_head]
  simp only [endBackground, hfind, modMb, herase]
  cases g.report <;> rfl

end

end Sys2Proof.Machine

namespace Sys2Proof

open Sys2Proof.Machine

/-- Settles O12: by `post_mailbox` a mailbox that does not want the event is as it was, and one that wants it has it delivered, written
(`deliver_room`) or discarded and counted (`deliver_full`). -/
theorem eventReachesTheMailboxesThatWantIt : Obligations.EventReachesTheMailboxesThatWantIt := by
  unfold Obligations.EventReachesTheMailboxesThatWantIt
  intro code c frame detail s
  obtain ⟨hhost, htwb⟩ := post_windows code c frame detail s
  refine ⟨post_cmd .., beside_post .., hhost, htwb, fun m => ⟨fun hw => ?unwanted, fun hw hl hh hf => ?written, fun hw hf => ?lost⟩⟩
  case unwanted => rw [post_mailbox, if_neg (by rw [hw]; simp)]
  case written => rw [post_mailbox, if_pos hw, deliver_room hl hh hf]; rfl
  case lost => rw [post_mailbox, if_pos hw, deliver_full hf]

/-- Settles O20: a command that no list holds ends nothing (`endBackground_unlisted`); one at the front leaves its list, and its own
mailbox alone is written or holds the event (`endBackground_front`). -/
theorem backgroundCommandEndsOnce : Obligations.BackgroundCommandEndsOnce := by
  unfold Obligations.BackgroundCommandEndsOnce
  intro m op tag st detail s
  refine ⟨endBackground_unlisted st detail, fun g rest hb ht ho => ?_⟩
  have hown : ∀ b : Mailbox, (s.mailboxes.set m b)[m] = b := fun b => Vector.getElem_set_self _
  rw [endBackground_front st detail hb ht ho]
  refine ⟨?list, rfl, rfl, rfl, fun n hn => ?others, fun hr => ?silent, fun hr he hl hh hf => ?written, fun hr he => ?held⟩
  case list =>
    rw [hown]
    split
    · exact reportEnd_background ..
    · rfl
  case others => exact Vector.getElem_set_ne m.isLt n.isLt fun h => hn (Fin.ext h.symm)
  case silent => rw [hown, hr]; rfl
  case written =>
    rw [hown, if_pos hr]
    exact reportEnd_room (b := { s.mailboxes[m] with background := rest }) he hl hh hf _
  case held =>
    have hheld := reportEnd_disabled (b := { s.mailboxes[m] with background := rest }) he
    rw [hown, if_pos hr]
    exact ⟨congrArg Mailbox.heldEvents (hheld _), (congrArg Mailbox.evtTail (hheld _)).trans rfl⟩

end Sys2Proof
end

section
/-!
PROOFS. Registers: the host's writes of the mailbox registers (R64, R66, R68), and which operation an aligned word of BAR0 reaches (R63,
R64).
-/

namespace Sys2Proof.Machine

/-- A row that answers with a state answers with what that state equals. -/
theorem exec_of_eq {c : Instr} {s t u : State} (h : exec c s = .next t) (heq : t = u) : exec c s = .next u := heq ▸ h

/-- Changing one mailbox changes nothing else. -/
theorem modMb_alone (m : MbId) (f : Mailbox → Mailbox) (s : State) : { modMb m f s with mailboxes := s.mailboxes } = s
    ∧ ∀ n : MbId, n ≠ m → (modMb m f s).mailboxes[n] = s.mailboxes[n] :=
  ⟨rfl, fun n => modMb_other m n f s⟩

/-- Changing one mailbox after its hold set has been dropped changes nothing but that mailbox and the hold set. -/
theorem modMb_dropHoldOf_alone (m : MbId) (f : Mailbox → Mailbox) (s : State) : (modMb m f (dropHoldOf m s)).mailboxes[m] = f s.mailboxes[m]
    ∧ { modMb m f (dropHoldOf m s) with mailboxes := s.mailboxes, cmd := s.cmd } = s
    ∧ ∀ n : MbId, n ≠ m → (modMb m f (dropHoldOf m s)).mailboxes[n] = s.mailboxes[n] := by
  rw [dropHoldOf_eq]
  exact ⟨modMb_self .., rfl, fun n => modMb_other m n f _⟩

/-! ## The mailbox registers (R64, R66, R68) -/

section
variable {m : MbId} {s : State}

/-- The doorbell of an enabled mailbox moves its tail; the boot ROM reads it at once. -/
theorem mbCmdTailWrite_enabled (hon : mgmtOn s = true) (hh : hostMailbox m = true) (he : s.mailboxes[m].enabled = true) (v : BitVec 32) :
    mbCmdTailWrite m v s = modMb m (fun b => { b with
      cmdTail := v.setWidth 6
      tailSeen := if romServes s = true then v.setWidth 6 else b.tailSeen
      quota := if romServes s = true then 63 else b.quota }) s := by
  have hguard : ¬ (!mgmtOn s || !hostMailbox m || !s.mailboxes[m].enabled) = true := by rw [hon, hh, he]; decide
  unfold mbCmdTailWrite
  rw [if_neg hguard]
  cases romServes s
  · rfl
  · simp [Machine.when, modMb]

theorem mbCmdTailWrite_disabled (he : s.mailboxes[m].enabled = false) (v : BitVec 32) : mbCmdTailWrite m v s = s :=
  if_pos (by rw [he]; simp)

/-- PCIe writes no register of mailboxes 4, 5 and 6 (R66). -/
theorem mailboxRegisters_notHost (hh : hostMailbox m = false) (v : BitVec 32) (on : Bool) :
    mbCmdTailWrite m v s = s ∧ mbEnable m on s = s ∧ mbRingReset m s = s :=
  ⟨if_pos (by rw [hh]; simp), if_pos (by rw [hh]; simp), if_pos (by rw [hh]; simp)⟩

theorem mbEnable_on (hon : mgmtOn s = true) (hh : hostMailbox m = true) (hd : s.devState ≠ 3 ∨ m = 7) :
    mbEnable m true s = modMb m (fun b => flushRing s.tick.counter s.cmd.eventSeq { b with enabled := true }) s := by
  have hguard : ¬ (!mgmtOn s || !hostMailbox m || (true && s.devState == 3 && m != 7)) = true := by
    obtain hd | rfl := hd
    · simp [hon, hh, hd]
    · simp [hon, hh]
  exact (if_neg hguard).trans (if_pos rfl)

theorem mbEnable_off (hon : mgmtOn s = true) (hh : hostMailbox m = true) :
    mbEnable m false s = modMb m (fun b => { b with enabled := false }) (dropHoldOf m s) := by
  have hguard : ¬ (!mgmtOn s || !hostMailbox m || (false && s.devState == 3 && m != 7)) = true := by simp [hon, hh]
  exact (if_neg hguard).trans (if_neg Bool.false_ne_true)

theorem mbRingReset_host (hon : mgmtOn s = true) (hh : hostMailbox m = true) :
    mbRingReset m s = modMb m (fun b => { ringReset b with resetting := !romServes s }) (dropHoldOf m s) :=
  if_neg (by rw [hon, hh]; decide)

/-- A mailbox whose hold set has been dropped owns none. -/
theorem dropHoldOf_owner {h : HoldSet} (heq : (dropHoldOf m s).cmd.hold = some h) : h.owner ≠ m := by
  rw [dropHoldOf_eq] at heq
  intro ho
  cases hs : s.cmd.hold with
  | none => simp [hs] at heq
  | some g =>
    by_cases hg : g.owner = m
    · simp [hs, hg] at heq
    · simp only [hs, hg, ↓reduceIte, Option.some.injEq] at heq
      exact hg (heq ▸ ho)

/-! ## Words of BAR0 (R63, R64) -/

/-- An access of another size, or not aligned, is ignored. -/
theorem registerWrite_ignored {o size : Nat} (h : size ≠ 4 ∨ o % 4 ≠ 0) (f : Fin 2) (v : BitVec 32) : registerWrite f o size v s = s :=
  if_pos (by simpa [or_assoc] using Or.inr h)

theorem registerWrite_word {o : Nat} (hon : mgmtOn s = true) (ho : o % 4 = 0) (v : BitVec 32) :
    registerWrite 0 o 4 v s = bar0Write o v s := by
  simp [registerWrite, hon, ho]

/-- A word of a mailbox's block of registers. -/
theorem registerWrite_mailbox {o k : Nat} (hon : mgmtOn s = true) (ho : o = 0x1000 + 256 * m.val + k) (hk : k < 256) (hk4 : k % 4 = 0)
    (v : BitVec 32) : registerWrite 0 o 4 v s = mbWrite m k v s := by
  have hm := m.isLt
  have hbox : (o - 0x1000) / 256 % 8 = m.val := by omega
  have hreg : o % 256 = k := by omega
  rw [registerWrite_word hon (by omega)]
  unfold bar0Write
  rw [if_neg (by omega), if_neg (by omega), if_pos ⟨by omega, by omega⟩]
  simp only [hbox, hreg]

end

end Sys2Proof.Machine

namespace Sys2Proof

open Sys2Proof.Machine

/-- Settles O13: each write of a mailbox register by the equation of its operation, and each word of BAR0 by the operation it reaches
(`registerWrite_word`, `registerWrite_mailbox`). -/
theorem registerAccessesOfTheHost : Obligations.RegisterAccessesOfTheHost := by
  unfold Obligations.RegisterAccessesOfTheHost
  refine ⟨fun m v s hon => ⟨fun hh he => ?tail, fun hh he => ?tailDisabled, fun hh => ?notHost, fun hh hd => ?enable, fun hh => ?disable,
    fun hh => ?ringReset⟩, fun s => ?tickLo, fun f o size v s => ⟨fun h => ?ignored, fun hon => ⟨?intCause, ?doorbell, fun m => ?box⟩⟩⟩
  case tail =>
    refine ⟨_, exec_of_eq rfl (mbCmdTailWrite_enabled hon hh he v), ?_, ?_, modMb_alone ..⟩
    · exact congrArg Mailbox.cmdTail (modMb_self ..)
    · exact congrArg Mailbox.tailSeen (modMb_self ..)
  case tailDisabled => exact exec_of_eq rfl (mbCmdTailWrite_disabled he v)
  case notHost =>
    obtain ⟨htail, hon', hreset⟩ := mailboxRegisters_notHost (s := s) hh v true
    obtain ⟨-, hoff, -⟩ := mailboxRegisters_notHost (s := s) hh v false
    exact ⟨exec_of_eq rfl htail, exec_of_eq rfl hon', exec_of_eq rfl hoff, exec_of_eq rfl hreset⟩
  case enable =>
    refine ⟨_, exec_of_eq rfl (mbEnable_on hon hh hd), ?_, modMb_alone ..⟩
    exact (congrArg Mailbox.enabled (modMb_self ..)).trans (flushRing_enabled ..)
  case disable =>
    obtain ⟨hown, hrest⟩ := modMb_dropHoldOf_alone m (fun b => { b with enabled := false }) s
    exact ⟨_, exec_of_eq rfl (mbEnable_off hon hh), hown, congrArg (fun t => t.cmd.hold) (dropHoldOf_eq m s), hrest⟩
  case ringReset =>
    obtain ⟨hown, hrest⟩ := modMb_dropHoldOf_alone m (fun b => { ringReset b with resetting := !romServes s }) s
    refine ⟨_, exec_of_eq rfl (mbRingReset_host hon hh), ?_⟩
    dsimp only
    rw [hown]
    refine ⟨rfl, rfl, rfl, rfl, rfl, rfl, rfl, ?executing, ?background, rfl, rfl, rfl, fun h => dropHoldOf_owner, hrest⟩
    case executing => simp [ringReset]
    case background => simp [ringReset]
  case tickLo =>
    refine ⟨_, rfl, ?_, rfl, rfl, rfl⟩
    exact BitVec.eq_of_toNat_eq (by simp [tickLoRead])
  case ignored => exact exec_of_eq rfl (registerWrite_ignored h f v)
  case intCause => exact exec_of_eq rfl (registerWrite_word hon (o := 0x200) rfl v)
  case doorbell => exact exec_of_eq rfl (registerWrite_word hon (o := 0x100) rfl v)
  case box =>
    refine ⟨?_, fun hh => ?_, fun hh => ?_⟩
    · exact exec_of_eq rfl (registerWrite_mailbox hon (k := 0x00) rfl (by decide) rfl v)
    · exact ⟨_, exec_of_eq rfl (registerWrite_mailbox hon (k := 0x08) (by omega) (by decide) rfl v), if_pos hh⟩
    · exact ⟨_, exec_of_eq rfl (registerWrite_mailbox hon (k := 0x10) (by omega) (by decide) rfl v), if_pos hh⟩

end Sys2Proof
end

section
/-!
PROOFS. The scrambler of the sensor link: the bits that the descrambler gives back (R91).
-/

namespace Sys2Proof.Machine

/-- The bits a lane carried: those before the block, then those of the block. -/
theorem carried_getLsbD (b : Block) (n : Nat) :
    (b.payload ++ b.prev).getLsbD n = if n < 58 then b.prev.getLsbD n else b.payload.getLsbD (n - 58) :=
  BitVec.getLsbD_append

/-- A descrambled bit is its scrambled bit and the two that the lane carried 39 and 58 bits before. -/
theorem descramble_getLsbD (b : Block) {n : Nat} (hn : n < 64) : (descramble b).getLsbD n =
    ((b.payload.getLsbD n ^^ (b.payload ++ b.prev).getLsbD (n + 19)) ^^ (b.payload ++ b.prev).getLsbD n) := by
  have hown : (b.payload ++ b.prev).getLsbD (58 + n) = b.payload.getLsbD n := by
    rw [carried_getLsbD, if_neg (by omega), Nat.add_sub_cancel_left]
  have hthere : decide (n < 64) = true := decide_eq_true hn
  simp only [descramble, BitVec.getLsbD_setWidth, BitVec.getLsbD_xor, BitVec.getLsbD_ushiftRight, hthere, hown, Bool.true_and,
    Nat.add_comm 19]

end Sys2Proof.Machine

namespace Sys2Proof

open Sys2Proof.Machine

/-- Settles O29: the two earlier bits that `descramble_getLsbD` adds are those that the scrambler added. -/
theorem descramblerInvertsTheScrambler : Obligations.DescramblerInvertsTheScrambler := by
  unfold Obligations.DescramblerInvertsTheScrambler
  intro hdr d sent prev hsent
  refine BitVec.eq_of_getLsbD_eq fun n hn => ?_
  have hbit := hsent n hn
  simp only [← carried_getLsbD ⟨hdr, sent, prev⟩] at hbit
  rw [descramble_getLsbD _ hn, hbit, Bool.xor_assoc, Bool.xor_assoc, Bool.xor_self, Bool.xor_false]

end Sys2Proof
end

section
/-!
PROOFS. Bring-up of a bond (R110, R111), the sensor's capabilities (R112) and the alignment of its lanes (R97): what each operation makes
of a configured port, by the state the port is in.
-/

namespace Sys2Proof.Machine

/-! ## From state to state (R110, R115) -/

/-- Nothing holds back the first port of a bond with SLREF present and its blocks in service. -/
theorem nothing_holds_back {p : PortId} {s : State} (hfirst : s.ports[p].first = some p) (hslref : s.tick.slref = true)
    (hblocks : ∀ i ∈ groupOf s p, blockDown s (0x10 + i.val) = false) :
    (s.ports[p].first ≠ some p || !s.tick.slref || (groupOf s p).any fun q => blockDown s (0x10 + q.val)) = false := by
  have hany : ((groupOf s p).any fun q => blockDown s (0x10 + q.val)) = false := by simpa using hblocks
  simp only [hany, hfirst, hslref, ne_eq, not_true_eq_false, decide_false, Bool.not_true, Bool.or_self]

section
variable {p : PortId} {g : PortCfg} {s : State} (hcfg : s.ports[p].cfg = some g)
include hcfg

section
variable (hfirst : s.ports[p].first = some p) (hslref : s.tick.slref = true)
  (hblocks : ∀ i ∈ groupOf s p, blockDown s (0x10 + i.val) = false)
include hfirst hslref hblocks

theorem advance_detect (h : s.ports[p].state = .detect) : advance p s = setGroup p (fun q => { q with state := .train }) s := by
  simp only [advance, hcfg, nothing_holds_back hfirst hslref hblocks, h, Bool.false_eq_true, ↓reduceIte]

theorem advance_train (h : s.ports[p].state = .train) : advance p s = setGroup p (fun q => { q with state := .bitLock }) s := by
  simp only [advance, hcfg, nothing_holds_back hfirst hslref hblocks, h, Bool.false_eq_true, ↓reduceIte]

theorem advance_bitLock (h : s.ports[p].state = .bitLock) : advance p s = setGroup p (fun q => { q with state := .blockLock }) s := by
  simp only [advance, hcfg, nothing_holds_back hfirst hslref hblocks, h, Bool.false_eq_true, ↓reduceIte]

/-- Block lock locks every lane in use, and the device sends its capabilities. -/
theorem advance_blockLock (h : s.ports[p].state = .blockLock) : advance p s = sendCaps p (setGroup p (fun q => { q with
    state := .caps
    lanes := mapLanes (fun i l => if (usedLanes g).contains i.val then { l with locked := true } else l) q.lanes }) s) := by
  simp only [advance, hcfg, nothing_holds_back hfirst hslref hblocks, h, Bool.false_eq_true, ↓reduceIte]

end

theorem advance_without_slref (h : s.tick.slref = false) : advance p s = s := by
  simp only [advance, hcfg, h, Bool.not_false, Bool.or_true, Bool.true_or, ↓reduceIte]

/-- The action that BRINGUP repeats is 1 up to BIT_LOCK and 2 in BLOCK_LOCK. -/
theorem repeatBringup_eq (hslref : s.tick.slref = true) {action : Nat}
    (h : action = 1 ∧ (s.ports[p].state = .detect ∨ s.ports[p].state = .train ∨ s.ports[p].state = .bitLock)
      ∨ action = 2 ∧ s.ports[p].state = .blockLock) :
    repeatBringup p s = forEach (groupOf s p) (fun q => emit (.backChannel q true (bringupBlock g action))) s := by
  obtain ⟨rfl, hstate | hstate | hstate⟩ | ⟨rfl, hstate⟩ := h <;> simp only [repeatBringup, hcfg, hslref, hstate, ↓reduceIte]

/-! ## The sensor's capabilities (R112) -/

/-- The structure is kept; the bond is ACTIVE if it passes the checks, and fails the attempt with reason 6 if not. -/
theorem receiveCaps_caps (hstate : s.ports[p].state = .caps) (hfirst : s.ports[p].first = some p) (c : List Byte) :
    receiveCaps p c s =
      let t := modPort p (fun q => { q with caps := some (slice c 0 32) }) s
      if capsOk g c = true then postPortState p (setGroup p (fun q => { q with state := .active, reason := 0 }) t)
      else failAttempt p 6 t := by
  have hguard : (s.ports[p].state != .caps || s.ports[p].first != some p) = false := by
    rw [hstate, hfirst, bne_self_eq_false, bne_self_eq_false, Bool.or_self]
  simp only [receiveCaps, hcfg, hguard, Bool.false_eq_true, ↓reduceIte]

/-! ## Alignment (R97) -/

/-- In BLOCK_LOCK an ALIGN column measures every lane in use, and fails the attempt when they spread too far. -/
theorem align_blockLock (hstate : s.ports[p].state = .blockLock) (c : Column) (k : Skews) : align p c k s =
    let vs := k.map fun x => x.2.2
    let t := eachLane g (groupOf s p) k (fun v l => { l with skew := BitVec.ofNat 16 (v.getD l.skew.toNat) }) s
    if 2048 < vs.foldl max 0 - vs.foldl min (vs.foldl max 0) then failAttempt p 4 t else t := by
  simp only [align, hcfg, hstate]

end

/-! ## A failed attempt (R111) -/

section
variable {p : PortId} {s : State} (reason : Nat)

theorem failAttempt_again (h : s.ports[p].attempts + 1 < 8) : failAttempt p reason s = setGroup p (fun q => { q with
    state := .detect, attempts := s.ports[p].attempts + 1, reason := reason, failed := [] }) s :=
  if_pos h

theorem failAttempt_last (h : 8 ≤ s.ports[p].attempts + 1) : failAttempt p reason s = postPortState p (setGroup p (fun q => { q with
    state := .off, attempts := s.ports[p].attempts + 1, reason := reason, failed := [] }) s) :=
  if_neg (Nat.not_lt.mpr h)

/-- Only a state of bring-up times out, at the bond's first port, with the state as reason. -/
theorem exec_slBringupTimeout (hfirst : s.ports[p].first = some p) (hlo : 1 ≤ s.ports[p].state.code) (hhi : s.ports[p].state.code ≤ 5) :
    exec (.slBringupTimeout p) s = .next (failAttempt p s.ports[p].state.code s) :=
  exec_of_eq rfl (if_pos ⟨hfirst, hlo, hhi⟩)

end

end Sys2Proof.Machine

namespace Sys2Proof

open Sys2Proof.Machine

/-- Settles O31: each operation by the equation of the port's state, from DETECT to CAPS (`advance_detect` to `advance_blockLock`), at a
timeout (`failAttempt_again`, `failAttempt_last`), at the sensor's answer (`receiveCaps_caps`) and at an ALIGN column
(`align_blockLock`). -/
theorem bringUpAndAlignment : Obligations.BringUpAndAlignment := by
  unfold Obligations.BringUpAndAlignment
  refine ⟨fun p g s hcfg hfirst => ⟨fun hslref hblocks => ⟨fun h => ?detect, fun h => ?train, fun h => ?bitLock, fun h => ?blockLock⟩,
      fun h => ?noSlref, fun hlo hhi h => ?again, fun hlo hhi h => ?last, fun hslref h => ?action1, fun hslref h => ?action2,
      fun h => ?resend, fun h => ?noResend⟩,
    fun p g s hcfg => ⟨fun c hstate hfirst => ⟨fun hok => ?passed, fun hbad => ?refused⟩, fun c k hstate => ?align⟩⟩
  case detect => exact exec_of_eq rfl (advance_detect hcfg hfirst hslref hblocks h)
  case train => exact exec_of_eq rfl (advance_train hcfg hfirst hslref hblocks h)
  case bitLock => exact exec_of_eq rfl (advance_bitLock hcfg hfirst hslref hblocks h)
  case blockLock => exact exec_of_eq rfl (advance_blockLock hcfg hfirst hslref hblocks h)
  case noSlref => exact exec_of_eq rfl (advance_without_slref hcfg h)
  case again => exact exec_of_eq (exec_slBringupTimeout hfirst hlo hhi) (failAttempt_again _ h)
  case last => exact exec_of_eq (exec_slBringupTimeout hfirst hlo hhi) (failAttempt_last _ h)
  case action1 => exact exec_of_eq rfl (repeatBringup_eq hcfg hslref (.inl ⟨rfl, h⟩))
  case action2 => exact exec_of_eq rfl (repeatBringup_eq hcfg hslref (.inr ⟨rfl, h⟩))
  case resend => exact exec_of_eq rfl (if_pos ⟨h, hfirst⟩)
  case noResend => exact exec_of_eq rfl (if_neg fun hc => h hc.1)
  case passed => exact exec_of_eq rfl ((receiveCaps_caps hcfg hstate hfirst c).trans (if_pos hok))
  case refused => exact exec_of_eq rfl ((receiveCaps_caps hcfg hstate hfirst c).trans (if_neg (by rw [hbad]; decide)))
  case align => exact exec_of_eq rfl (align_blockLock hcfg hstate c k)

end Sys2Proof
end

section
/-!
PROOFS. Lanes that fail and rejoin (R105), ports that go down (R111), register accesses without an answer (R109) and the checker of a
loopback (R113).
-/

namespace Sys2Proof.Machine

section
variable {p : PortId} {s : State}

/-! ## Lanes (R105) -/

section
variable {lane : Fin 17}

/-- The state after one more lane of the port failed: the lane noted and no longer locked. -/
def noteFailed (p : PortId) (lane : Fin 17) (s : State) : State :=
  modPort p (fun q => { q with failed := q.failed ++ [lane] })
    (modLane p lane (fun l => { l with lockLosses := bump l.lockLosses, locked := false }) s)

/-- A lane that fails on an ACTIVE port is noted, raised and reported; the port goes down with a second data lane, or without parity. -/
theorem laneFailed_active {g : PortCfg} (hcfg : s.ports[p].cfg = some g) (hactive : s.ports[p].state = .active)
    (hlane : lane ∉ s.ports[p].failed) : laneFailed p lane s =
      let t := post 0x0381 none 0 (p.val + 2 ^ 8 * lane.val) (raise0 (0x10 + p.val) (noteFailed p lane s))
      if lane.val < 16 && (2 ≤ (t.ports[p].failed.filter fun l => l.val < 16).length || !g.parity) then
        portDown (firstOf s p) 7 (raise0 (0x14 + p.val) t) else t := by
  have hguard : (s.ports[p].state != .active || s.ports[p].failed.contains lane) = false := by
    rw [hactive, bne_self_eq_false, Bool.false_or]
    simpa using hlane
  unfold laneFailed
  rw [hcfg]
  exact if_neg (Bool.eq_false_iff.mp hguard)

theorem laneFailed_inactive (h : s.ports[p].state ≠ .active) : laneFailed p lane s = s := by
  have hguard : (s.ports[p].state != .active || s.ports[p].failed.contains lane) = true := by
    rw [bne_iff_ne.mpr h, Bool.true_or]
  unfold laneFailed
  split
  · rfl
  · exact if_pos hguard

theorem laneRejoined_failed (h : lane ∈ s.ports[p].failed) : laneRejoined p lane s =
    post 0x0382 none 0 (p.val + 2 ^ 8 * lane.val) (modPort p (fun q => { q with failed := q.failed.erase lane })
      (modLane p lane (fun l => { l with locked := true }) s)) :=
  if_neg (by rw [List.contains_iff_mem.mpr h]; decide)

theorem laneRejoined_working (h : lane ∉ s.ports[p].failed) : laneRejoined p lane s = s :=
  if_pos (by simpa using h)

end

/-! ## Register accesses (R109) -/

section
variable {tag : Byte} {r : RegTag} (hfind : (s.ports[p].tags.find? fun x => x.tag == tag) = some r)
include hfind

theorem regTimeout_first (h : r.resent = false) : regTimeout p tag s = emit (.backChannel p true r.message)
    (modPort p (fun q => { q with tags := q.tags.map fun x => if x = r then { x with resent := true } else x }) s) := by
  simp only [regTimeout, hfind, h, Bool.false_eq_true, ↓reduceIte]

theorem regTimeout_second (h : r.resent = true) : regTimeout p tag s =
    endExecution r.mb { status := .timeout, detail := Config.openDetail 0x0305 0x800C }
      (modPort p (fun q => { q with tags := q.tags.erase r, regTimeouts := bump q.regTimeouts }) s) := by
  simp only [regTimeout, hfind, h, ↓reduceIte]

end

/-! ## The checker of a loopback (R113) -/

section
variable {l : Loopback} (hloop : s.ports[p].loop = some l) (lane : Fin 17) (locked : Bool) (n : Nat)
include hloop

/-- The device checks the lanes in modes 1 and 2. -/
theorem exec_loopbackCheckerLock_device (h : l.mode = 1 ∨ l.mode = 2) : exec (.loopbackCheckerLock p lane locked n) s =
    .next (modLane p lane (fun x => { x with
      bitErrors := bumpBy x.bitErrors n
      checkerLosses := if locked then x.checkerLosses else bump x.checkerLosses }) s) := by
  refine exec_of_eq rfl ?_
  simp only [hloop, h, ↓reduceIte]

/-- In the other modes the sensor checks them. -/
theorem exec_loopbackCheckerLock_sensor (h : ¬ (l.mode = 1 ∨ l.mode = 2)) : exec (.loopbackCheckerLock p lane locked n) s = .next s := by
  refine exec_of_eq rfl ?_
  simp only [hloop, h, ↓reduceIte]

end

end

end Sys2Proof.Machine

namespace Sys2Proof

open Sys2Proof.Machine

/-- Settles O33: each operation by its equations, for a lane that fails (`laneFailed_active`) and rejoins (`laneRejoined_failed`), for an
access unanswered once and twice (`regTimeout_first`, `regTimeout_second`), and for the modes of a loopback. -/
theorem lanesAndPorts : Obligations.LanesAndPorts := by
  unfold Obligations.LanesAndPorts
  refine fun p lane s => ⟨fun g hcfg hactive hlane => ?failed, fun h => ?inactive, fun h => ?rejoined, fun h => ?working,
    fun hactive r => ?down, fun tag r hfind => ⟨fun h => ?resend, fun h => ?timeout⟩,
    fun l locked n hloop => ⟨fun h => ?device, fun h => ?sensor⟩⟩
  case failed => exact exec_of_eq rfl (laneFailed_active hcfg hactive hlane)
  case inactive => exact exec_of_eq rfl (laneFailed_inactive h)
  case rejoined => exact exec_of_eq rfl (laneRejoined_failed h)
  case working => exact exec_of_eq rfl (laneRejoined_working h)
  case down => cases r <;> exact exec_of_eq rfl (if_pos hactive)
  case resend => exact exec_of_eq rfl (regTimeout_first hfind h)
  case timeout => exact exec_of_eq rfl (regTimeout_second hfind h)
  case device => exact exec_loopbackCheckerLock_device hloop lane locked n h
  case sensor => exact exec_loopbackCheckerLock_sensor hloop lane locked n (by rw [h]; decide)

end Sys2Proof
end

section
/-!
PROOFS. Contexts: what a change of state leaves as it was (R118), the source and the placement set at once (R118, R119), a start and a
stop at their hinge (R118), and what the seven CTX_ commands answer.
-/

namespace Sys2Proof.Machine

/-! ## A change of state (R118) -/

@[simp] theorem post_contexts (code : Nat) (c : Option CtxId) (frame : BitVec 48) (detail : Nat) (s : State) :
    (post code c frame detail s).contexts = s.contexts := by
  unfold post
  rw [forEach_same State.contexts]
  · unfold Machine.when; split <;> rfl
  · intro m t; unfold Machine.when; split <;> rfl

theorem beside_with_contexts (s t : State) (l : Vector Context 8) :
    beside s { t with contexts := l } = { beside s t with contexts := l } := rfl

section
variable (c : CtxId) (st : CtxState) (s : State)

/-- A change of state changes the contexts in that one field. -/
@[simp] theorem setCtxState_contexts :
    (setCtxState c st s).contexts = (modCtx c (fun x => { x with state := st }) s).contexts :=
  post_contexts ..

theorem setCtxState_self : (setCtxState c st s).contexts[c] = { s.contexts[c] with state := st } := by
  rw [setCtxState_contexts]
  exact modCtx_self ..

theorem setCtxState_other {d : CtxId} (h : d ≠ c) : (setCtxState c st s).contexts[d] = s.contexts[d] := by
  rw [setCtxState_contexts, modCtx_other _ _ _ _ h]

/-- Beside the contexts, a change of state writes only what its CTX_STATE event writes. -/
theorem beside_setCtxState (t : State) :
    beside s { setCtxState c st t with contexts := s.contexts } = beside s { t with contexts := s.contexts } := by
  rw [beside_with_contexts, setCtxState, beside_post]
  rfl

end

/-! ## The source and the placement set at once (R118, R119) -/

/-- Writing a bank leaves the state of its context. -/
theorem modBank_state (c : CtxId) (f : Bank → Bank) (s : State) : (modBank c f s).contexts[c].state = s.contexts[c].state := by
  simp [modBank]

/-- Only a FREE context changes its state when its source is set. -/
theorem setSource_eq (c : CtxId) (v : Source) (s : State) : setSource c v s =
    if s.contexts[c].state = .free then setCtxState c .sourced (modBank c (fun b => { b with source := v }) s)
    else modBank c (fun b => { b with source := v }) s := by
  unfold setSource leaveFree
  rw [modBank_state]

/-- A source that goes through the bank is armed, and a FREE context leaves FREE at once (log 69). -/
theorem ctxSetSource_arms {e : Entry} {s : State} (h : s.contexts[argCtx e].state = .running ∨ holds e = true) :
    ctxSetSourceSpec.effect e s =
      .arm (leaveFree (argCtx e) s) [.source (argCtx e) (sourceOf e)] (some (argCtx e))
        (slotsOnce (setSource (argCtx e) (sourceOf e) (projected s)) (argCtx e)) :=
  if_pos (by simpa using h)

/-- Otherwise the source is set at once. -/
theorem ctxSetSource_sets {e : Entry} {s : State} (hrun : s.contexts[argCtx e].state ≠ .running) (hhold : holds e = false) :
    ctxSetSourceSpec.effect e s = .reply (setSource (argCtx e) (sourceOf e) s)
      { ctx := ctxByte (some (argCtx e)), detail := slotsOnce (setSource (argCtx e) (sourceOf e) (projected s)) (argCtx e) } :=
  if_neg (by simpa [hhold] using hrun)

/-! ## A start and a stop at their hinge (R118) -/

section
variable {c : CtxId} {s : State}

theorem startCtx_not_configured (h : s.contexts[c].state ≠ .configured) : startCtx c s = s := if_pos h

theorem stopCtx_running (hinge : Nat) (h : s.contexts[c].state = .running) :
    stopCtx c hinge s = stopClips c hinge 3 (setCtxState c .stopping s) :=
  if_neg (not_not.mpr h)

theorem stopCtx_not_running (hinge : Nat) (h : s.contexts[c].state ≠ .running) : stopCtx c hinge s = s := if_pos h

end

/-! ## When a start and a stop are accepted -/

/-- A context is started from CONFIGURED alone. -/
theorem configured_of_accepts_start {e : Entry} {s : State} (h : Accepts ctxStartSpec e s) :
    s.contexts[argCtx e].state = .configured := by
  have hstates : ctxStartSpec.states e (takeCommand e.mb s) = none := accepts_states h
  by_contra hne
  have hconfigured : (s.contexts[argCtx e].state != .configured) = true := bne_iff_ne.mpr hne
  have hfails : ctxStartSpec.states e (takeCommand e.mb s) = some (wrong 1) :=
    congrArg (Option.map Prod.snd) (List.find?_cons_of_pos hconfigured)
  rw [hfails] at hstates
  cases hstates

/-- A context is stopped from RUNNING alone. -/
theorem running_of_accepts_stop {e : Entry} {s : State} (h : Accepts ctxStopSpec e s) : s.contexts[argCtx e].state = .running := by
  have hstates : (if s.contexts[argCtx e].state = .running then none else some (wrong 2)) = none := accepts_states h
  by_contra hne
  rw [if_neg hne] at hstates
  cases hstates

end Sys2Proof.Machine

namespace Sys2Proof

open Sys2Proof.Machine

/-- What a start at its hinge does to the state: the context runs with its bank as it was, and no other context and nothing else but what
its CTX_STATE event writes changes. What an earlier run left is dropped (log 82). -/
theorem startCtx_applied {c : CtxId} {s : State} (h : s.contexts[c].state = .configured) : let t := startCtx c s
    t.contexts[c].state = .running ∧ t.contexts[c].nextFrame = 0 ∧ t.contexts[c].lastFrame = 0 ∧ t.contexts[c].takings = []
      ∧ t.contexts[c].live = s.contexts[c].live ∧ beside s { t with contexts := s.contexts } = s
      ∧ ∀ d : CtxId, d ≠ c → t.contexts[d] = s.contexts[d] := by
  dsimp only
  rw [startCtx, if_neg (not_not.mpr h), setCtxState_self, beside_setCtxState, Fin.getElem_fin, modCtx_self]
  exact ⟨rfl, rfl, rfl, rfl, rfl, rfl, fun d hd => (setCtxState_other _ _ _ hd).trans (modCtx_other _ _ _ _ hd)⟩

/-- Settles O28: each command is armed or answered as its effect says, CTX_SET_SOURCE by `ctxSetSource_arms` and `ctxSetSource_sets`; at
its hinge a start acts on a CONFIGURED context alone (`startCtx_applied`), and a stop on a RUNNING one (`stopCtx_running`). -/
theorem contextCommands : Obligations.ContextCommands := by
  unfold Obligations.ContextCommands
  refine ⟨fun e s => ⟨fun h hbank => ?armSource, fun h hrun hhold => ?setSource, fun h => ?placement, fun h => ?landing⟩,
    fun e s => ⟨fun h => ?start, fun h => ?stop, fun h => ?pattern, fun h => ?status⟩,
    fun hinge c s => ⟨fun h => startCtx_applied h, startCtx_not_configured, stopCtx_running hinge, stopCtx_not_running hinge⟩⟩
  case armSource => exact ⟨_, rfl, arm_banked h (ctxSetSource_arms hbank)⟩
  case setSource =>
    have hset := ctxSetSource_sets (s := takeCommand e.mb s) hrun hhold
    rw [setSource_eq] at hset
    exact ⟨_, rfl, reply_completed_flags h hset rfl⟩
  case placement => exact ⟨_, rfl, reply_completed_flags h rfl rfl⟩
  case landing => exact ⟨_, rfl, reply_completed h rfl rfl⟩
  case start => exact ⟨configured_of_accepts_start h, _, rfl, arm_banked h rfl⟩
  case stop => exact ⟨running_of_accepts_stop h, _, rfl, arm_banked h rfl⟩
  case pattern => exact ⟨_, rfl, arm_banked h rfl⟩
  case status => exact ⟨_, rfl, reply_completed h rfl rfl⟩

end Sys2Proof
end

section
/-!
PROOFS. Front end: a table that enters its pool (R154), what the RAW_ commands with a table have armed, and what the ten RAW_ commands
answer.
-/

namespace Sys2Proof.Machine

/-! ## Tables in memory (R154) -/

/-- A table of `size` bytes enters the pool of the context's stack under the next version number. -/
def loadTable (c : CtxId) (size : Nat) (entries : List Int) (s : State) : State :=
  { s with tables := s.tables ++ [⟨s.tableCount + 1, poolOf s (shadow s c), size, entries⟩], tableCount := s.tableCount + 1 }

theorem addTable_shadow_pool (c : CtxId) (size : Nat) (entries : List Int) (s : State) :
    addTable (poolOf s (shadow s c)) size entries s = (loadTable c size entries s, s.tableCount + 1) := rfl

/-! ## What the commands with a table have armed -/

section
variable {e : Entry} (s : State)

/-- A linearisation always brings its table of 16,384 entries. -/
theorem rawLoadLinearisation_loads :
    let t := loadTable (argCtx e) 65536 ((List.range 16384).map fun i => (arg e (8 + 4 * i) 4 : Int)) s
    rawLoadLinearisationSpec.effect e s =
      .arm t [.lin (argCtx e) (argCap e) (s.tableCount + 1)] (some (argCtx e)) (poolFree t (argCtx e)) := by
  dsimp only [rawLoadLinearisationSpec]
  rw [addTable_shadow_pool]

/-- An empty column table selects none. -/
theorem rawLoadColumn_empty (h : arg e 4 4 = 0) : rawLoadColumnSpec.effect e s =
    .arm s [.column (argCtx e) (argCap e) none] (some (argCtx e)) (poolFree s (argCtx e)) := if_pos h

/-- A column table that is not empty is loaded. -/
theorem rawLoadColumn_loads (h : arg e 4 4 ≠ 0) :
    let t := loadTable (argCtx e) (2 * arg e 4 4) ((List.range (arg e 4 4)).map fun i => signed 16 (arg e (8 + 2 * i) 2)) s
    rawLoadColumnSpec.effect e s =
      .arm t [.column (argCtx e) (argCap e) (some (s.tableCount + 1))] (some (argCtx e)) (poolFree t (argCtx e)) := by
  dsimp only [rawLoadColumnSpec]
  rw [if_neg h, addTable_shadow_pool]

/-- Thresholds alone keep the defect table. -/
theorem rawLoadDefects_thresholds (h : arg e 1 1 = 0) : ∃ d, rawLoadDefectsSpec.effect e s =
    .arm s [.defects (argCtx e) (arg e 4 4) (arg e 8 4) none] (some (argCtx e)) d := ⟨_, if_pos h⟩

/-- An empty defect table selects none. -/
theorem rawLoadDefects_empty (hbrings : arg e 1 1 ≠ 0) (hempty : arg e 12 4 = 0) : rawLoadDefectsSpec.effect e s =
    .arm s [.defects (argCtx e) (arg e 4 4) (arg e 8 4) (some none)] (some (argCtx e)) 0 :=
  (if_neg hbrings).trans (if_pos hempty)

/-- A defect table that is not empty is loaded. -/
theorem rawLoadDefects_loads (hbrings : arg e 1 1 ≠ 0) (hentries : arg e 12 4 ≠ 0) : rawLoadDefectsSpec.effect e s =
    .arm (loadTable (argCtx e) (4 * arg e 12 4) ((List.range (arg e 12 4)).map fun i => (arg e (16 + 4 * i) 4 : Int)) s)
      [.defects (argCtx e) (arg e 4 4) (arg e 8 4) (some (some (s.tableCount + 1)))] (some (argCtx e)) (arg e 12 4) := by
  dsimp only [rawLoadDefectsSpec]
  rw [if_neg hbrings, if_neg hentries, addTable_shadow_pool]

/-- Grid shading brings its table. -/
theorem rawSetShading_grid (h : arg e 1 1 = 1) : rawSetShadingSpec.effect e s =
    .arm (loadTable (argCtx e) 200208 ((List.range 100104).map fun i => (arg e (8 + 2 * i) 2 : Int)) s)
      [.shading (argCtx e) .grid (some (s.tableCount + 1))] (some (argCtx e)) (Config.openDetail 0x0407 0) := by
  dsimp only [rawSetShadingSpec]
  rw [if_pos h, addTable_shadow_pool]

/-- The other shading modes bring none. -/
theorem rawSetShading_without_grid (h : arg e 1 1 ≠ 1) : rawSetShadingSpec.effect e s =
    .arm s [.shading (argCtx e) (if arg e 1 1 = 2 then .perPixel else .off) none] (some (argCtx e)) (Config.openDetail 0x0407 0) := by
  dsimp only [rawSetShadingSpec, shadingMode]
  rw [if_neg h, if_neg h]

end

end Sys2Proof.Machine

namespace Sys2Proof

open Sys2Proof.Machine

/-- Settles O34: a command without a table is armed or answered as its effect says; with a table, the cases of each payload are the lemmas
`rawLoadColumn_empty` to `rawSetShading_without_grid`, over the state that `loadTable` leaves. -/
theorem frontEndCommands : Obligations.FrontEndCommands := by
  unfold Obligations.FrontEndCommands
  refine ⟨fun e s => ⟨fun h => ?cfa, fun h => ?black, fun h => ?bind, fun h => ?merge, fun h => ?taps, fun h => ?status⟩,
    fun e s => ⟨fun h => ?linearisation, fun h hempty => ?columnEmpty, fun h hentries => ?columnLoaded,
      fun h hkeeps => ?defectsKept, fun h hbrings hempty => ?defectsEmpty, fun h hbrings hentries => ?defectsLoaded,
      fun h hgrid => ?shadingGrid, fun h hmode => ?shadingOther⟩⟩
  case cfa => exact ⟨_, rfl, arm_banked h rfl⟩
  case black => exact ⟨_, rfl, arm_banked h rfl⟩
  case bind => exact ⟨_, rfl, arm_banked h rfl⟩
  case merge => exact ⟨_, rfl, arm_banked h rfl⟩
  case taps => exact ⟨_, rfl, arm_banked h rfl⟩
  case status => exact ⟨_, rfl, reply_completed h rfl rfl⟩
  case linearisation => exact ⟨_, rfl, arm_banked h (rawLoadLinearisation_loads _)⟩
  case columnEmpty => exact ⟨_, rfl, arm_banked h (rawLoadColumn_empty _ hempty)⟩
  case columnLoaded => exact ⟨_, rfl, arm_banked h (rawLoadColumn_loads _ hentries)⟩
  case defectsKept =>
    obtain ⟨d, heffect⟩ := rawLoadDefects_thresholds (takeCommand e.mb s) hkeeps
    exact ⟨d, _, rfl, arm_banked h heffect⟩
  case defectsEmpty => exact ⟨_, rfl, arm_banked h (rawLoadDefects_empty _ hbrings hempty)⟩
  case defectsLoaded => exact ⟨_, rfl, arm_banked h (rawLoadDefects_loads _ hbrings hentries)⟩
  case shadingGrid => exact ⟨_, rfl, arm_banked h (rawSetShading_grid _ hgrid)⟩
  case shadingOther => exact ⟨_, rfl, arm_banked h (rawSetShading_without_grid _ hmode)⟩

end Sys2Proof
end

section
/-!
PROOFS. Raw pack: the residual as a zigzag value (R223, R225), which samples a prediction reads (R223), and a tile restored sample by
sample (R225).
-/

namespace Sys2Proof.Machine

/-! ## Residuals (R223, R225) -/

/-- A residual is the difference modulo 16,384, as the representative nearest 0; its sign is the lowest bit of the zigzag value. -/
theorem zigzag_eq (v p : Int) : zigzag v p =
    if 0 ≤ (v - p).bmod 16384 then (2 * (v - p).bmod 16384).toNat else (-2 * (v - p).bmod 16384 - 1).toNat := by
  have hresidual : (v - p).bmod 16384 = if 8192 ≤ (v - p) % 16384 then (v - p) % 16384 - 16384 else (v - p) % 16384 := by
    rw [← ite_not, Int.bmod_def]
    exact if_congr not_le.symm rfl rfl
  rw [hresidual]
  rfl

theorem zigzag_lt (v p : Int) : zigzag v p < 16384 := by
  have hlow : -8192 ≤ (v - p).bmod 16384 := Int.le_bmod (by decide)
  have hhigh : (v - p).bmod 16384 < 8192 := Int.bmod_lt (by decide)
  rw [zigzag_eq]
  split
  · omega
  · omega

/-- A zigzag value gives back its residual. -/
theorem unzigzag_zigzag (v p : Int) : unzigzag (zigzag v p) = (v - p).bmod 16384 := by
  rw [zigzag_eq, unzigzag]
  by_cases hsign : 0 ≤ (v - p).bmod 16384
  · rw [if_pos hsign, if_pos (by omega)]
    omega
  · rw [if_neg hsign, if_neg (by omega)]
    omega

/-- A sample of 14 bits comes back from its zigzag value over the same prediction. -/
theorem restored_zigzag {v : Nat} (hv : v < 16384) (p : Int) : ((p + unzigzag (zigzag v p)) % 16384).toNat = v := by
  have hsum : (p + unzigzag (zigzag v p)) % 16384 = (v : Int) % 16384 :=
    calc (p + unzigzag (zigzag v p)) % 16384
        = (p + (v - p).bmod 16384) % 16384 := by rw [unzigzag_zigzag]
      _ = (p + (v - p)) % 16384 := Int.ModEq.add_left p Int.bmod_emod
      _ = (v : Int) % 16384 := by rw [add_sub_cancel]
  rw [hsum]
  omega

/-! ## What a prediction reads (R223) -/

/-- A prediction reads only samples that come before its own in raster order. -/
theorem predict_congr {pw ph w x y : Nat} {s t : Nat → Nat → Int} (hpw : 0 < pw) (hph : 0 < ph) (hw : 0 < w)
    (h : ∀ x' y', x' + w * y' < x + w * y → s x' y' = t x' y') : predict pw ph s x y = predict pw ph t x y := by
  have hleft : pw ≤ x → s (x - pw) y = t (x - pw) y := fun hx => h _ _ (by omega)
  have habove : ∀ x' ≤ x, ph ≤ y → s x' (y - ph) = t x' (y - ph) := fun x' hx' hy =>
    h _ _ (add_lt_add_of_le_of_lt hx' (Nat.mul_lt_mul_of_pos_left (by omega) hw))
  unfold predict
  by_cases hx : pw ≤ x <;> by_cases hy : ph ≤ y
  · simp only [hx, hy, hleft hx, habove x le_rfl hy, habove (x - pw) (Nat.sub_le ..) hy]
  · simp [hx, hy, hleft hx]
  · simp [hx, hy, habove x le_rfl hy]
  · simp [hx, hy]

/-- The sample at (x, y) of a tile of width `w`. -/
def sampleAt (w : Nat) (samples : List Nat) (x y : Nat) : Int := (samples.getD (x + w * y) 0 : Nat)

/-- The prediction at position `i` of a tile in raster order. -/
def predictAt (pw ph w : Nat) (samples : List Nat) (i : Nat) : Int := predict pw ph (sampleAt w samples) (i % w) (i / w)

/-- The samples from position `i` on do not bear on the prediction at `i`. -/
theorem predictAt_append {pw ph w i : Nat} {samples : List Nat} (hpw : 0 < pw) (hph : 0 < ph) (hw : 0 < w)
    (hi : i ≤ samples.length) (more : List Nat) :
    predictAt pw ph w (samples ++ more) i = predictAt pw ph w samples i :=
  predict_congr hpw hph hw fun x' y' hbefore => by
    rw [Nat.mod_add_div] at hbefore
    unfold sampleAt
    rw [List.getD_append _ _ _ _ (by omega)]

/-! ## A tile, sample by sample (R223, R225) -/

theorem tileZigzag_eq (pw ph w : Nat) (samples : List Nat) : tileZigzag pw ph w samples =
    (List.range samples.length).map fun i => zigzag (samples.getD i 0 : Nat) (predictAt pw ph w samples i) := by
  unfold tileZigzag predictAt sampleAt
  simp

theorem length_tileZigzag (pw ph w : Nat) (samples : List Nat) : (tileZigzag pw ph w samples).length = samples.length := by
  simp [tileZigzag]

/-- One more sample adds its own zigzag value, and leaves those before it. -/
theorem tileZigzag_concat {pw ph w : Nat} (hpw : 0 < pw) (hph : 0 < ph) (hw : 0 < w) (samples : List Nat) (v : Nat) :
    tileZigzag pw ph w (samples ++ [v]) =
      tileZigzag pw ph w samples ++ [zigzag v (predictAt pw ph w samples samples.length)] := by
  simp only [tileZigzag_eq, List.length_append, List.length_singleton, List.range_succ, List.map_append, List.map_singleton]
  congr 1
  · refine List.map_congr_left fun i hi => ?_
    have hi : i < samples.length := List.mem_range.mp hi
    rw [predictAt_append hpw hph hw hi.le, List.getD_append _ _ _ _ hi]
  · rw [predictAt_append hpw hph hw le_rfl, List.getD_append_right _ _ _ _ le_rfl, Nat.sub_self, List.getD_cons_zero]

/-- One more zigzag value restores one more sample, from the prediction over those already restored. -/
theorem restoreTile_concat (pw ph w : Nat) (zs : List Nat) (z : Nat) : restoreTile pw ph w (zs ++ [z]) =
    restoreTile pw ph w zs ++ [((predictAt pw ph w (restoreTile pw ph w zs) zs.length + unzigzag z) % 16384).toNat] := by
  unfold restoreTile predictAt sampleAt
  simp [List.zipIdx_append]

theorem restoreTile_tileZigzag {pw ph w : Nat} (hpw : 0 < pw) (hph : 0 < ph) (hw : 0 < w) (samples : List Nat)
    (hsamples : ∀ v ∈ samples, v < 16384) : restoreTile pw ph w (tileZigzag pw ph w samples) = samples := by
  induction samples using List.reverseRecOn with
  | nil => rfl
  | append_singleton samples v ih =>
    have ih := ih fun u hu => hsamples u (List.mem_append_left _ hu)
    have hv : v < 16384 := hsamples v (by simp)
    rw [tileZigzag_concat hpw hph hw, restoreTile_concat, ih, length_tileZigzag, restored_zigzag hv]

end Sys2Proof.Machine

namespace Sys2Proof

open Sys2Proof.Machine

/-- Settles O43: each zigzag value is in range by `zigzag_lt`, and the samples come back one by one (`restoreTile_tileZigzag`), since a
prediction reads only samples already restored (`predict_congr`). -/
theorem rawPackLosesNothing : Obligations.RawPackLosesNothing := by
  unfold Obligations.RawPackLosesNothing
  intro pw ph w samples hpw hph hw hsamples
  refine ⟨fun z hz => ?inRange, restoreTile_tileZigzag hpw hph hw samples hsamples⟩
  case inRange =>
    obtain ⟨i, -, rfl⟩ := List.mem_map.mp hz
    exact zigzag_lt ..

end Sys2Proof
end

section
/-!
PROOFS. Compression: what a raise and a record leave of the compression block and of the frames whose chunks run, the ways in which a host
job, an engine (R229 to R235) and a raw-pack chunk (R229, R240) end, and what the CMP_ commands answer.
-/

namespace Sys2Proof.Machine

/-! ## What raises and records leave to the chunks that run -/

/-- From `s` to `t` the compression block stays, and no context has a late frame that it did not have: a deadbolt drops them (R392). -/
structure KeepsCompression (s t : State) : Prop where
  cmp : t.cmp = s.cmp
  readers : ∀ c : CtxId, t.contexts[c].slotReaders ⊆ s.contexts[c].slotReaders

theorem keepsCompression_of_eq {s t : State} (hcmp : t.cmp = s.cmp) (hcontexts : t.contexts = s.contexts) : KeepsCompression s t :=
  ⟨hcmp, fun c => by rw [hcontexts]; exact List.Subset.refl _⟩

theorem keepsCompression_refl (s : State) : KeepsCompression s s := keepsCompression_of_eq rfl rfl

theorem KeepsCompression.trans {s t u : State} (hst : KeepsCompression s t) (htu : KeepsCompression t u) : KeepsCompression s u :=
  ⟨htu.cmp.trans hst.cmp, fun c => List.Subset.trans (htu.readers c) (hst.readers c)⟩

theorem forEach_keepsCompression {α : Type} {f : α → State → State} (hf : ∀ x t, KeepsCompression t (f x t)) (l : List α) (s : State) :
    KeepsCompression s (forEach l f s) := by
  induction l generalizing s with
  | nil => exact keepsCompression_refl s
  | cons x l ih => exact (hf x s).trans (ih (f x s))

@[simp] theorem post_cmp (code : Nat) (c : Option CtxId) (frame : BitVec 48) (detail : Nat) (s : State) :
    (post code c frame detail s).cmp = s.cmp := by
  unfold post
  rw [forEach_same State.cmp]
  · unfold Machine.when; split <;> rfl
  · intro m t; unfold Machine.when; split <;> rfl

theorem raiseVector_keepsCompression (v : Fin 32) (s : State) : KeepsCompression s (raiseVector v s) := by
  unfold raiseVector
  dsimp only
  split
  · exact keepsCompression_of_eq rfl rfl
  · split <;> exact keepsCompression_of_eq rfl rfl

theorem endBackground_keepsCompression (m : MbId) (opcode : Nat) (tag : BitVec 16) (st : Status) (detail : Nat) (s : State) :
    KeepsCompression s (endBackground m opcode tag st detail s) := by
  unfold endBackground
  split <;> exact keepsCompression_of_eq rfl rfl

theorem endClips_keepsCompression (c : CtxId) (source : SourceId) (s : State) : KeepsCompression s (endClips c source s) := by
  have hempty : KeepsCompression s { s with recs := s.recs.set c { s.recs[c] with clips := [] } } := keepsCompression_of_eq rfl rfl
  refine hempty.trans (forEach_keepsCompression (fun k t => ?_) _ _)
  split
  · exact endBackground_keepsCompression ..
  · exact keepsCompression_refl t

theorem suspectTarget_keepsCompression (source : SourceId) (s : State) : KeepsCompression s (suspectTarget source s) := by
  unfold suspectTarget
  split <;> exact keepsCompression_of_eq rfl rfl

theorem dropFlight_keepsCompression (c : CtxId) (s : State) : KeepsCompression s (modCtx c dropFlight s) := by
  refine ⟨rfl, fun d => ?_⟩
  by_cases hd : d = c
  · rw [hd, Fin.getElem_fin, modCtx_self]
    exact List.nil_subset _
  · rw [modCtx_other _ _ _ _ hd]
    exact List.Subset.refl _

theorem enterDeadbolt_keepsCompression (x : FaultRecord) (s : State) : KeepsCompression s (enterDeadbolt x s) := by
  unfold enterDeadbolt
  split
  · exact keepsCompression_refl s
  · dsimp only
    refine KeepsCompression.trans ?_ (raiseVector_keepsCompression ..)
    refine KeepsCompression.trans ?_ (suspectTarget_keepsCompression ..)
    refine KeepsCompression.trans ?_
      (forEach_keepsCompression (fun c t => (dropFlight_keepsCompression c t).trans (endClips_keepsCompression ..)) _ _)
    exact keepsCompression_of_eq rfl rfl

/-- A raise reaches the compression block and the contexts only by the deadbolt of severity 3. -/
theorem raise_keepsCompression (source : SourceId) (c : Option CtxId) (frame : BitVec 48) (detail : Nat) (s : State) :
    KeepsCompression s (raise source c frame detail s) := by
  have hvector : ∀ (k : Collector) (latches : Bool),
      KeepsCompression s (Machine.when latches (raiseVector 19) { s with collector := k }) := fun k latches => by
    have hcollector : KeepsCompression s { s with collector := k } := keepsCompression_of_eq rfl rfl
    unfold Machine.when
    split
    · exact hcollector.trans (raiseVector_keepsCompression ..)
    · exact hcollector
  unfold raise
  split
  · exact keepsCompression_refl s
  · dsimp only
    split
    · exact keepsCompression_of_eq rfl rfl
    · split
      · exact (hvector _ _).trans (enterDeadbolt_keepsCompression ..)
      · exact hvector _ _

theorem raise0_keepsCompression (n : Nat) (s : State) : KeepsCompression s (raise0 n s) := raise_keepsCompression ..

theorem putHost_keepsCompression (k : RecCfg) (id kind frame : Nat) (body : List Byte) (s : State) :
    KeepsCompression s (putHost k id kind frame body s).1 := by
  unfold putHost
  dsimp only
  split
  · exact keepsCompression_of_eq rfl rfl
  · exact (raise0_keepsCompression 0x5B s).trans (keepsCompression_of_eq rfl rfl)

theorem putRecord_keepsCompression (c : CtxId) (k : Clip) (use : Rec → MediaUse) (kind frame : Nat) (body : List Byte) (s : State) :
    KeepsCompression s (putRecord c k use kind frame body s).1 := by
  unfold putRecord
  split
  · exact keepsCompression_of_eq rfl rfl
  · exact keepsCompression_of_eq rfl rfl
  · exact putHost_keepsCompression ..

theorem chainRecord_keepsCompression (c : CtxId) (id kind frame : Nat) (body : List Byte) (s : State) :
    KeepsCompression s (chainRecord c id kind frame body s).1 := by
  unfold chainRecord
  split
  · exact keepsCompression_refl s
  · exact (putRecord_keepsCompression ..).trans (keepsCompression_of_eq rfl rfl)

theorem appendRecord_keepsCompression (c : CtxId) (id kind frame : Nat) (body : List Byte) (s : State) :
    KeepsCompression s (appendRecord c id kind frame body s).1 := by
  unfold appendRecord
  split
  · exact keepsCompression_refl s
  · refine KeepsCompression.trans ?_ (chainRecord_keepsCompression ..)
    split
    · exact keepsCompression_refl s
    · refine KeepsCompression.trans ?_ (chainRecord_keepsCompression ..)
      exact keepsCompression_of_eq rfl rfl

/-! ## Engines (R235) -/

section
variable {cls : EngineClass} {i : Nat} {s : State}

/-- The engine joins the retired ones of its class. -/
theorem retiredOf_retireEngine (hcount : i < engineCount cls) (hworks : i ∉ retiredOf s.cmp cls) :
    retiredOf (retireEngine cls i s).cmp cls = retiredOf s.cmp cls ++ [i] := by
  unfold retireEngine
  rw [if_neg (by simp [hworks, hcount]), post_cmp, (raise0_keepsCompression ..).cmp]
  cases cls <;> rfl

theorem cmpEngineRetired_retired (h : i ∈ retiredOf s.cmp cls) : cmpEngineRetired cls i s = s :=
  if_pos (by simp [h])

/-- With no submit open, no job ends with the engine. -/
theorem cmpEngineRetired_idle (hcount : i < engineCount cls) (hworks : i ∉ retiredOf s.cmp cls) (hsubmits : s.cmp.submits = []) :
    cmpEngineRetired cls i s = settleJobs (retireEngine cls i s) := by
  unfold cmpEngineRetired
  rw [if_neg (by simp [hworks, hcount]), hsubmits]
  rfl

end

/-! ## Host jobs (R231 to R234) -/

/-- Job `j` of a submit ends with outcome `o` on state `t`, in which its output is written. -/
def jobEnded (m : MbId) (tag : BitVec 16) (i : Nat) (j : CmpJob) (o : JobOut) (t : State) : State :=
  settleJobs (releaseJob j (modJob m tag i (fun j => { j with result := some (resultRecord j o) })
    { t with cmp := { t.cmp with completed := bump t.cmp.completed } }))

section
variable {m : MbId} {tag : BitVec 16} {i : Nat} {x : JobEnd} {s : State}

theorem cmpJobDone_notRunning (h : runningJob s m tag i = none) : cmpJobDone m tag i x s = s := by
  unfold cmpJobDone
  rw [h]

variable {j : CmpJob} {o : JobOut} (hrun : runningJob s m tag i = some j) (hengine : x.engineFault = false)
  (hclean : x.poisoned = false) (hmade : runJob j.desc x.source = o)
include hrun hengine hclean hmade

/-- A job that fails writes no output. -/
theorem cmpJobDone_fails (hresult : o.result ≠ .done) : cmpJobDone m tag i x s = jobEnded m tag i j o s := by
  simp [cmpJobDone, hrun, hengine, hclean, hmade, hresult, jobEnded, modCmp]

theorem cmpJobDone_ns2 (hresult : o.result = .done) (hspace : fieldAt j.desc 5 1 ≠ 0) :
    cmpJobDone m tag i x s = jobEnded m tag i j o (writeNs2 (fieldAt j.desc 24 8) o.output s) := by
  simp [cmpJobDone, hrun, hengine, hclean, hmade, hresult, hspace, jobEnded, modCmp]

/-- With the host there, its memory takes the output. -/
theorem cmpJobDone_host (hresult : o.result = .done) (hspace : fieldAt j.desc 5 1 = 0) (hup : s.hostUp = true) :
    cmpJobDone m tag i x s = jobEnded m tag i j o (writeHost (fieldAt j.desc 24 8) o.output s) := by
  simp [cmpJobDone, hrun, hengine, hclean, hmade, hresult, hspace, hup, jobEnded, modCmp]

end

/-! ## Raw-pack chunks (R229, R240) -/

/-- The chunk that clip `k` records of tile `i` of `f`. -/
abbrev chunkBody (k : Clip) (f : Frame) (i : Nat) : List Byte :=
  rawChunk (chunkHead k.id f (tileAt f i)) (tileSamples k.cfg.t1 f (tileAt f i))

/-- A frame changed in flight leaves the late frames of other numbers. -/
theorem modInFlight_slotReaders {n : Nat} {x : Context} (g : Frame → Frame) (h : ∀ f ∈ x.slotReaders, f.number ≠ n) :
    (modInFlight n g x).slotReaders = x.slotReaders :=
  (List.map_congr_left fun f hf => if_neg (h f hf)).trans (List.map_id _)

/-- What a record or a chunk gap leaves has no late frame of number `n` if there was none: no slot is held for it. -/
theorem noLateFrame {c : CtxId} {n : Nat} {s t : State} (ht : t.contexts[c].slotReaders ⊆ s.contexts[c].slotReaders)
    (hlate : (s.contexts[c].slotReaders.all fun g => g.number != n) = true) (g : Frame → Frame) :
    ((modCtx c (modInFlight n g) t).contexts[c].slotReaders.any fun g => g.number == n) = false := by
  have hothers : ∀ f ∈ t.contexts[c].slotReaders, f.number ≠ n := fun f hf =>
    bne_iff_ne.mp (List.all_eq_true.mp hlate f (ht hf))
  have hreaders : (modCtx c (modInFlight n g) t).contexts[c].slotReaders = t.contexts[c].slotReaders := by
    rw [Fin.getElem_fin, modCtx_self]
    exact modInFlight_slotReaders g hothers
  rw [hreaders]
  exact List.any_eq_false.mpr fun f hf => by simpa using hothers f hf

section
variable {c : CtxId} {i : Nat} {x : JobEnd} {s : State}

theorem chunkJobDone_notRunning (h : chunkFrame s.contexts[c] i = none) : chunkJobDone c i x s = s := by
  unfold chunkJobDone
  rw [h]

variable {f : Frame} (hframe : chunkFrame s.contexts[c] i = some f)
include hframe

theorem chunkJobDone_engineFault (h : x.engineFault = true) : chunkJobDone c i x s = retireEngine .rawLane x.engine s := by
  unfold chunkJobDone
  rw [hframe]
  exact if_pos h

variable {k : Clip} (hengine : x.engineFault = false) (hclean : x.poisoned = false) (hclip : f.clip.bind (clipOf s c) = some k)
  (hlate : (s.contexts[c].slotReaders.all fun g => g.number != f.number) = true)
include hengine hclean hclip hlate

/-- A chunk that is larger than its room is a chunk gap. -/
theorem chunkJobDone_gap (hroom : min (packBound (tileAt f i)) (chunkRoom s c k f) < (chunkBody k f i).length) :
    chunkJobDone c i x s =
      modCtx c (modInFlight f.number fun _ => { f with chunksLeft := f.chunksLeft.filter fun n => n != i, gap := 1 })
        (modCmp (fun y => { y with outSpace := bump y.outSpace }) (modRec c (chunkGap f.number) s)) := by
  have hno := noLateFrame (t := modCmp (fun y => { y with outSpace := bump y.outSpace }) (modRec c (chunkGap f.number) s))
    (List.Subset.refl _) hlate
  unfold chunkJobDone
  rw [hframe]
  simp only [hengine, hclean, Frame.markIf, Bool.false_eq_true, ↓reduceIte, hclip, if_pos hroom, hno, Bool.and_false]

/-- A chunk that fits its room is recorded; the room counts the header and padding of its record (log 40). -/
theorem chunkJobDone_recorded (hroom : (chunkBody k f i).length ≤ min (packBound (tileAt f i)) (chunkRoom s c k f)) :
    chunkJobDone c i x s =
      modCtx c (modInFlight f.number fun _ =>
          chunkRecorded (chunkBody k f i).length { f with chunksLeft := f.chunksLeft.filter fun n => n != i })
        (appendRecord c k.id 2 f.number (chunkBody k f i) s).1 := by
  have hno := noLateFrame ((appendRecord_keepsCompression c k.id 2 f.number (chunkBody k f i) s).readers c) hlate
  unfold chunkJobDone
  rw [hframe]
  simp only [hengine, hclean, Frame.markIf, Bool.false_eq_true, ↓reduceIte, hclip, if_neg hroom.not_gt, hno, Bool.and_false]

end

/-! ## When a submit and a change of the host engines are accepted -/

theorem eq_none_of_ite_some {α : Type} {p : Prop} [Decidable p] {a : α} {x : Option α} (h : (if p then some a else x) = none) :
    x = none := by
  split at h
  · cases h
  · exact h

/-- An accepted command has passed its own resources. -/
theorem accepts_resources {sp : Spec} {e : Entry} {s : State} (h : Accepts sp e s) : sp.resources e (takeCommand e.mb s) = none := by
  obtain ⟨-, -, -, -, -, -, -, hresources, -⟩ := accepts_parts h
  exact eq_none_of_ite_some (eq_none_of_ite_some hresources)

/-- Four submits at most are open. -/
theorem submits_of_accepts_submit {e : Entry} {s : State} (h : Accepts cmpSubmitSpec e s) : s.cmp.submits.length < 4 := by
  have hresources : (if 4 ≤ s.cmp.submits.length then some ⟨.noResource, Config.openDetail 0x0801 0x8006⟩ else none) =
    (none : Option Fail) := accepts_resources h
  by_contra hfull
  rw [if_pos (not_lt.mp hfull)] at hresources
  cases hresources

/-- One change of the host engines is in execution at a time. -/
theorem changing_of_accepts_setHostEngines {e : Entry} {s : State} (h : Accepts cmpSetHostEnginesSpec e s) :
    s.cmp.changing = none := by
  have hstates : (cmprOff (takeCommand e.mb s)).or
    (if s.cmp.changing.isSome then some ⟨.busyRetry, Config.openDetail 0x0802 0x8005⟩ else none) = none := accepts_states h
  obtain ⟨-, hidle⟩ := Option.or_eq_none_iff.mp hstates
  by_contra hbusy
  rw [if_pos (Option.isSome_iff_ne_none.mpr hbusy)] at hidle
  cases hidle

/-! ## CMP_CANCEL -/

/-- A tag as an entry carries it names a submit by its number. -/
theorem submit_of_accepts_cancel {e : Entry} {s : State} (h : Accepts cmpCancelSpec e s) :
    (s.cmp.submits.any fun u => u.mb == e.mb && u.tag == BitVec.ofNat 16 (arg e 0 2)) = true := by
  have hstates : (cmprOff (takeCommand e.mb s)).or
    (if s.cmp.submits.any fun u => u.mb == e.mb && u.tag.toNat == arg e 0 2 then none
     else some (wrong (Config.openDetail 0x0803 0x8004))) = none := accepts_states h
  obtain ⟨-, hnamed⟩ := Option.or_eq_none_iff.mp hstates
  by_contra hnone
  rw [if_neg] at hnamed
  · cases hnamed
  · intro hany
    obtain ⟨u, hu, hown⟩ := List.any_eq_true.mp hany
    refine hnone (List.any_eq_true.mpr ⟨u, hu, ?_⟩)
    obtain ⟨hmb, htag⟩ := Bool.and_eq_true_iff.mp hown
    rw [hmb, ← beq_iff_eq.mp htag]
    simp

/-- The jobs of the named submit that wait are aborted. -/
theorem cmpCancel_effect (e : Entry) (s : State) : let tag := BitVec.ofNat 16 (arg e 0 2)
    let own := fun x : CmpSubmit => x.mb == e.mb && x.tag == tag
    let waiting := ((s.cmp.submits.filter own).map fun x => (x.jobs.filter CmpJob.waits).length).sum
    let abort := fun j : CmpJob => if j.waits then { j with result := some (resultRecord j { result := .aborted }) } else j
    cmpCancelSpec.effect e s = .reply (settleJobs { s with cmp := { s.cmp with
      completed := bumpBy s.cmp.completed waiting
      submits := s.cmp.submits.map fun x => if own x then { x with jobs := x.jobs.map abort } else x } }) { detail := waiting } := by
  simp [cmpCancelSpec, modCmp]

end Sys2Proof.Machine

namespace Sys2Proof

open Sys2Proof.Machine

/-- Settles O42: each command is begun, armed or answered as its effect says, CMP_CANCEL by `cmpCancel_effect`; a host job, an engine and a
chunk end in the ways of the lemmas `retiredOf_retireEngine` to `chunkJobDone_recorded`, and one that does not run changes nothing (log
115). -/
theorem compressionCommandsAndJobs : Obligations.CompressionCommandsAndJobs := by
  unfold Obligations.CompressionCommandsAndJobs
  refine ⟨fun e s => ⟨fun h => ?submit, fun h => ?setHostEngines, fun h => ?cancel, fun h => ?status⟩,
    fun m tag i x s => ⟨fun h => ?jobStays, fun j hrun hengine hclean => ?job⟩,
    fun cls i s hcount hworks => ⟨fun hsubmits => ?engine, retiredOf_retireEngine hcount hworks⟩, fun cls i s h => ?engineStays,
    fun c i x s => ⟨fun h => ?chunkStays, fun f hframe => ⟨fun h => ?chunkFault, fun k hengine hclean hclip hlate => ?chunk⟩⟩⟩
  case submit => exact ⟨submits_of_accepts_submit h, _, rfl, background_begun h rfl⟩
  case setHostEngines =>
    exact ⟨changing_of_accepts_setHostEngines h, fun hidle => ⟨_, rfl, arm_banked h (if_neg (Bool.eq_false_iff.mp hidle))⟩,
      fun hbusy => congrArg Host.Outcome.next (execute_inExecution h (if_pos hbusy))⟩
  case cancel => exact ⟨submit_of_accepts_cancel h, _, rfl, reply_completed h (cmpCancel_effect ..) rfl⟩
  case status => exact ⟨_, rfl, reply_completed h rfl rfl⟩
  case jobStays => exact exec_of_eq rfl (cmpJobDone_notRunning h)
  case job =>
    exact ⟨fun hresult => exec_of_eq rfl (cmpJobDone_fails hrun hengine hclean rfl hresult),
      fun hresult hspace => exec_of_eq rfl (cmpJobDone_ns2 hrun hengine hclean rfl hresult hspace),
      fun hresult hspace hup => exec_of_eq rfl (cmpJobDone_host hrun hengine hclean rfl hresult hspace hup)⟩
  case engine => exact exec_of_eq rfl (cmpEngineRetired_idle hcount hworks hsubmits)
  case engineStays => exact exec_of_eq rfl (cmpEngineRetired_retired h)
  case chunkStays => exact exec_of_eq rfl (chunkJobDone_notRunning h)
  case chunkFault => exact exec_of_eq rfl (chunkJobDone_engineFault hframe h)
  case chunk =>
    exact ⟨fun hroom => exec_of_eq rfl (chunkJobDone_gap hframe hengine hclean hclip hlate hroom),
      fun hroom => exec_of_eq rfl (chunkJobDone_recorded hframe hengine hclean hclip hlate hroom)⟩

end Sys2Proof
end

section
/-!
PROOFS. Media ports, triggers and seals: what a raise leaves of the ports and clips, how drive commands and ports end (R245, R246, R253),
which ring a TRIG_IN triggers (R243), and how leaves, signatures, seals and the directory go on (R249, R266, R385, R430 to R432).
-/

namespace Sys2Proof.Machine

/-! ## What a raise leaves of the ports and the clips -/

theorem raiseVector_eq (v : Fin 32) (s : State) : ∃ bar0 out, raiseVector v s = { s with bar0 := bar0, out := out } := by
  unfold raiseVector
  dsimp only
  split
  · exact ⟨_, _, rfl⟩
  · split <;> exact ⟨_, _, rfl⟩

theorem endBackground_eq (m : MbId) (opcode : Nat) (tag : BitVec 16) (st : Status) (detail : Nat) (s : State) :
    ∃ cmd mailboxes, endBackground m opcode tag st detail s = { s with cmd := cmd, mailboxes := mailboxes } := by
  unfold endBackground
  split <;> exact ⟨_, _, rfl⟩

/-- A raise does nothing, or it changes the collector, may send vector 19, and may enter deadbolt (R383, R387, R392). -/
theorem raise_cases (source : SourceId) (c : Option CtxId) (frame : BitVec 48) (detail : Nat) (s : State) :
    raise source c frame detail s = s ∨ ∃ (k : Collector) (latches : Bool),
      raise source c frame detail s = Machine.when latches (raiseVector 19) { s with collector := k }
        ∨ ∃ x, raise source c frame detail s = enterDeadbolt x (Machine.when latches (raiseVector 19) { s with collector := k }) := by
  unfold raise
  split
  · exact .inl rfl
  · dsimp only
    split
    · exact .inr ⟨_, false, .inl rfl⟩
    · split
      · exact .inr ⟨_, _, .inr ⟨_, rfl⟩⟩
      · exact .inr ⟨_, _, .inl rfl⟩

/-- From `s` to `t` the media ports stay, and no context has a clip that it did not have: a deadbolt ends them (R392). -/
structure KeepsMedia (s t : State) : Prop where
  media : t.media = s.media
  clips : ∀ c : CtxId, t.recs[c].clips ⊆ s.recs[c].clips

theorem keepsMedia_of_eq {s t : State} (hmedia : t.media = s.media) (hrecs : t.recs = s.recs) : KeepsMedia s t :=
  ⟨hmedia, fun c => by rw [hrecs]; exact List.Subset.refl _⟩

theorem keepsMedia_refl (s : State) : KeepsMedia s s := keepsMedia_of_eq rfl rfl

theorem KeepsMedia.trans {s t u : State} (hst : KeepsMedia s t) (htu : KeepsMedia t u) : KeepsMedia s u :=
  ⟨htu.media.trans hst.media, fun c => List.Subset.trans (htu.clips c) (hst.clips c)⟩

theorem forEach_keepsMedia {α : Type} {f : α → State → State} (hf : ∀ x t, KeepsMedia t (f x t)) (l : List α) (s : State) :
    KeepsMedia s (forEach l f s) := by
  induction l generalizing s with
  | nil => exact keepsMedia_refl s
  | cons x l ih => exact (hf x s).trans (ih (f x s))

theorem raiseVector_keepsMedia (v : Fin 32) (s : State) : KeepsMedia s (raiseVector v s) := by
  obtain ⟨_, _, h⟩ := raiseVector_eq v s
  rw [h]
  exact keepsMedia_of_eq rfl rfl

theorem endClips_keepsMedia (c : CtxId) (source : SourceId) (s : State) : KeepsMedia s (endClips c source s) := by
  have hempty : KeepsMedia s (modRec c (fun r => { r with clips := [] }) s) := by
    refine ⟨rfl, fun d => ?_⟩
    by_cases hd : d = c
    · rw [hd, Fin.getElem_fin, modRec_self]
      exact List.nil_subset _
    · rw [modRec_other _ _ _ _ hd]
      exact List.Subset.refl _
  refine hempty.trans (forEach_keepsMedia (fun k t => ?_) _ _)
  split
  · obtain ⟨_, _, h⟩ := endBackground_eq _ 0x0904 _ .hwFault source.val t
    rw [h]
    exact keepsMedia_of_eq rfl rfl
  · exact keepsMedia_refl t

theorem suspectTarget_keepsMedia (source : SourceId) (s : State) : KeepsMedia s (suspectTarget source s) := by
  unfold suspectTarget
  split <;> exact keepsMedia_of_eq rfl rfl

theorem enterDeadbolt_keepsMedia (x : FaultRecord) (s : State) : KeepsMedia s (enterDeadbolt x s) := by
  unfold enterDeadbolt
  split
  · exact keepsMedia_refl s
  · have hflight : ∀ (c : CtxId) (t : State), KeepsMedia t (modCtx c dropFlight t) := fun c t => keepsMedia_of_eq rfl rfl
    dsimp only
    refine KeepsMedia.trans ?_ (raiseVector_keepsMedia ..)
    refine KeepsMedia.trans ?_ (suspectTarget_keepsMedia ..)
    refine KeepsMedia.trans ?_ (forEach_keepsMedia (fun c t => (hflight c t).trans (endClips_keepsMedia ..)) _ _)
    exact keepsMedia_of_eq rfl rfl

theorem raise_keepsMedia (source : SourceId) (c : Option CtxId) (frame : BitVec 48) (detail : Nat) (s : State) :
    KeepsMedia s (raise source c frame detail s) := by
  have hcollector : ∀ (k : Collector) (latches : Bool),
      KeepsMedia s (Machine.when latches (raiseVector 19) { s with collector := k }) := fun k latches => by
    have hentered : KeepsMedia s { s with collector := k } := keepsMedia_of_eq rfl rfl
    cases latches
    · exact hentered
    · exact hentered.trans (raiseVector_keepsMedia 19 _)
  obtain h | ⟨k, latches, h | ⟨x, h⟩⟩ := raise_cases source c frame detail s <;> rw [h]
  · exact keepsMedia_refl s
  · exact hcollector k latches
  · exact (hcollector k latches).trans (enterDeadbolt_keepsMedia ..)

theorem mem_allCtx : ∀ c : CtxId, c ∈ allCtx := by decide

theorem mem_clipsOn {s : State} {p : Fin 2} {k : Clip} :
    k ∈ clipsOn s p ↔ ∃ c : CtxId, k ∈ s.recs[c].clips ∧ k.cfg.target = .media p := by
  simp [clipsOn, mem_allCtx]

theorem KeepsMedia.clipsOn_nil {s t : State} {p : Fin 2} (h : KeepsMedia s t) (hnone : clipsOn s p = []) : clipsOn t p = [] := by
  refine List.eq_nil_iff_forall_not_mem.mpr fun k hk => ?_
  obtain ⟨c, hk, hport⟩ := mem_clipsOn.mp hk
  have hold : k ∈ clipsOn s p := mem_clipsOn.mpr ⟨c, h.clips c hk, hport⟩
  rw [hnone] at hold
  cases hold

/-! ## Repeated operations of which few change the state -/

section
variable {α : Type} {f : α → State → State} {l : List α} {s : State}

theorem forEach_unchanged (h : ∀ x ∈ l, f x s = s) : forEach l f s = s := by
  induction l with
  | nil => rfl
  | cons x l ih =>
    rw [forEach_cons, h x List.mem_cons_self]
    exact ih fun y hy => h y (List.mem_cons_of_mem x hy)

/-- Where one element alone has an effect, the others without one before and after it, the state is that effect's. -/
theorem forEach_only {c : α} (hl : l.Nodup) (hc : c ∈ l) (hbefore : ∀ d, d ≠ c → f d s = s)
    (hafter : ∀ d, d ≠ c → f d (f c s) = f c s) : forEach l f s = f c s := by
  induction l with
  | nil => cases hc
  | cons d l ih =>
    obtain ⟨hd, hl⟩ := List.nodup_cons.mp hl
    by_cases heq : d = c
    · subst heq
      exact forEach_unchanged fun y hy => hafter y (ne_of_mem_of_not_mem hy hd)
    · rw [forEach_cons, hbefore d heq]
      exact ih hl ((List.mem_cons.mp hc).resolve_left (Ne.symm heq))

end

/-! ## Media operations (R246) -/

section
variable {p : Fin 2} {s : State} {op : Nat} {m : MbId} {tag : BitVec 16}

theorem modMedia_unchanged {f : MediaPort → MediaPort} (h : f s.media[p] = s.media[p]) : modMedia p f s = s := by
  unfold modMedia
  rw [h, Fin.getElem_fin, Vector.set_getElem_self]

/-- With no operation under way a port is as it is once none is. -/
theorem modMedia_noOp (h : s.media[p].op = none) : modMedia p (fun x => { x with op := none }) s = s :=
  modMedia_unchanged (by rw [← h])

theorem mediaOpDone_noOp (h : s.media[p].op = none) (i : VolumeInfo) : mediaOpDone p false i s = s := by
  unfold mediaOpDone
  rw [h]
  rfl

theorem mediaOpDone_failed (h : s.media[p].op = some (op, m, tag)) (i : VolumeInfo) :
    mediaOpDone p false i s = endBackground m 0x0901 tag .hwFault 0 (modMedia p (fun x => { x with op := none }) s) := by
  unfold mediaOpDone
  rw [h]
  rfl

theorem mediaOpDone_format (h : s.media[p].op = some (1, m, tag)) (i : VolumeInfo) :
    mediaOpDone p true i s = armFlags (endBackground m 0x0901 tag .ok 0 (modMedia p (fun x => { x with
      volume := some ⟨i.lbaSize, i.capacity, i.rate, i.volumeId, 1, 2 ^ 21, 0, 0, [], []⟩ })
        (dropView p (modMedia p (fun x => { x with op := none }) s)))) := by
  unfold mediaOpDone
  rw [h]
  rfl

theorem mediaOpDone_unmount (h : s.media[p].op = some (2, m, tag)) (hmounted : s.media[p].mounted = true) (i : VolumeInfo) :
    mediaOpDone p true i s = armFlags (endBackground m 0x0901 tag .ok 0 (mediaState p 0 0 (dropView p
      (modMedia p (fun x => { x with mounted := false }) (modMedia p (fun x => { x with op := none }) s))))) := by
  unfold mediaOpDone
  rw [h]
  exact congrArg (fun t => armFlags (endBackground m 0x0901 tag .ok 0 t)) (if_pos hmounted)

/-! ## Drive commands (R245, R253) -/

theorem mediaCmdComplete_none (h : s.media[p].outstanding = []) (ok : Bool) : mediaCmdComplete p ok s = s := by
  unfold mediaCmdComplete
  rw [h]

section
variable {r : Rec} {rest : List MediaUse}

/-- A Write of a record that succeeds puts the record in the volume's log. -/
theorem mediaCmdComplete_logged (h : s.media[p].outstanding = .log r :: rest) : mediaCmdComplete p true s =
    modVolume p (fun v => { v with log := v.log ++ [r] }) (modMedia p (fun x => { x with outstanding := rest }) s) := by
  unfold mediaCmdComplete
  rw [h]
  rfl

/-- A Write that fails when its clip is gone raises its source and does nothing more. -/
theorem mediaCmdComplete_failed (h : s.media[p].outstanding = .log r :: rest) (hclip : findClip s r.clip = none) :
    mediaCmdComplete p false s = raise0 0x4E (modMedia p (fun x => { x with outstanding := rest }) s) := by
  have hgone : findClip (modMedia p (fun x => { x with outstanding := rest }) s) r.clip = none := hclip
  unfold mediaCmdComplete
  rw [h]
  simp only [Bool.false_eq_true, ↓reduceIte, mediaFailed, useClip, Option.bind_some, hgone, isWrite]

end

/-- A lost port with no Read outstanding fails none. -/
theorem failMediaReads_noRead (h : ∀ u ∈ s.media[p].outstanding, ∀ id, u ≠ .read id) : failMediaReads p s = s := by
  refine forEach_unchanged fun u hu => ?_
  cases u with
  | read id => exact absurd rfl (h _ hu id)
  | _ => rfl

theorem modVolume_unchanged {f : Volume → Volume} (h : ∀ v, f v = v) : modVolume p f s = s :=
  modMedia_unchanged (by simp only [funext h, Option.map_id'])

/-- A port without an open clip that is gone loses its commands and its volume, and nothing else ends. -/
theorem mediaGone_noClip (n : Nat) (h : clipsOn s p = []) : mediaGone n p s =
    let t := modMedia p (fun x => { x with outstanding := [], mounted := false }) s
    if s.media[p].mounted then mediaState p (if n = 0 then 0 else 2) n (dropView p t) else t := by
  unfold mediaGone
  rw [h]
  dsimp only [forEach_nil]
  rw [modVolume_unchanged fun v => by rw [List.map_nil, List.append_nil]]

theorem mediaLost_noClip (h : clipsOn s p = []) : mediaLost p s =
    let t := modMedia p (fun x => { x with outstanding := [], mounted := false }) (raise0 (0x4C + p.val) s)
    if s.media[p].mounted then mediaState p 2 (0x4C + p.val) (dropView p t) else t := by
  have hraise : KeepsMedia s (raise0 (0x4C + p.val) s) := raise_keepsMedia ..
  have hsource : ¬0x4C + p.val = 0 := by omega
  unfold mediaLost
  rw [mediaGone_noClip _ (hraise.clipsOn_nil h), hraise.media, if_neg hsource]

end

/-! ## TRIG_IN (R243) -/

/-- TRIG_IN for one context: the frame taken last triggers its ring, where one listens. -/
def triggerTaken (c : CtxId) (s : State) : State :=
  match s.contexts[c].takings.head? with
  | none => s
  | some (_, n) => if triggerOn s c 0 then trigger c n.toNat 0 s else s

theorem trigInEdge_eq (s : State) : trigInEdge s = forEach allCtx triggerTaken s := rfl

section
variable {c : CtxId} {s : State} {k : Clip}

theorem trigger_contexts (c : CtxId) (t source : Nat) (s : State) : (trigger c t source s).contexts = s.contexts := by
  unfold trigger
  split
  · rfl
  · split
    · rfl
    · exact post_contexts ..

theorem triggerTaken_noTaking (h : s.contexts[c].takings = []) : triggerTaken c s = s := by
  unfold triggerTaken
  rw [h]
  rfl

theorem triggerTaken_contexts (c : CtxId) (s : State) : (triggerTaken c s).contexts = s.contexts := by
  unfold triggerTaken
  split
  · rfl
  · split
    · exact trigger_contexts ..
    · rfl

/-- Where one context alone has taken a frame, TRIG_IN is for its ring. -/
theorem trigInEdge_only (h : ∀ d : CtxId, d ≠ c → s.contexts[d].takings = []) : trigInEdge s = triggerTaken c s := by
  refine (trigInEdge_eq s).trans (forEach_only (by decide) (mem_allCtx c) (fun d hd => triggerTaken_noTaking (h d hd)) fun d hd => ?_)
  exact triggerTaken_noTaking (by rw [triggerTaken_contexts]; exact h d hd)

theorem trigInEdge_noTaking (h : ∀ c : CtxId, s.contexts[c].takings = []) : trigInEdge s = s :=
  (trigInEdge_eq s).trans (forEach_unchanged fun c _ => triggerTaken_noTaking (h c))

/-- A ring that listens to TRIG_IN and takes frames meets it at the frame taken last. -/
theorem trigInEdge_listening {n : BitVec 48} (hothers : ∀ d : CtxId, d ≠ c → s.contexts[d].takings = [])
    (htaken : s.contexts[c].takings.head?.map Prod.snd = some n) (hclips : s.recs[c].clips = [k]) (hring : k.cfg.target = .ring)
    (hlistens : k.cfg.triggers.getLsbD 0 = true) (hstage : k.stage = none) : trigInEdge s = trigger c n.toNat 0 s := by
  have hon : triggerOn s c 0 = true := by
    rw [triggerOn, hclips]
    simp [hring, hlistens, hstage, -BitVec.getLsbD_eq_getElem]
  obtain ⟨⟨h, n'⟩, hhead, rfl⟩ := Option.map_eq_some_iff.mp htaken
  rw [trigInEdge_only hothers, triggerTaken, hhead]
  exact if_pos hon

theorem trigger_ring (hclips : s.recs[c].clips = [k]) (hring : k.cfg.target = .ring) (hstage : k.stage = none) (t source : Nat) :
    trigger c t source s = if k.trigger.isSome then modRec c (fun r => { r with ignored := bump r.ignored }) s
      else post 0x0981 (some c) (BitVec.ofNat 48 t) (t + 2 ^ 48 * source)
        (modClip c k.id (fun k => { k with trigger := some (t, source) }) s) := by
  have hfind : (s.recs[c].clips.find? fun k => k.cfg.target == .ring && k.stage.isNone) = some k := by
    rw [hclips]
    simp [hring, hstage]
  unfold trigger
  rw [hfind]

theorem trigger_first (hclips : s.recs[c].clips = [k]) (hring : k.cfg.target = .ring) (hstage : k.stage = none)
    (hfirst : k.trigger = none) (t : Nat) : trigger c t 0 s =
      post 0x0981 (some c) (BitVec.ofNat 48 t) t (modClip c k.id (fun k => { k with trigger := some (t, 0) }) s) := by
  rw [trigger_ring hclips hring hstage, hfirst]
  rfl

theorem trigger_later (hclips : s.recs[c].clips = [k]) (hring : k.cfg.target = .ring) (hstage : k.stage = none)
    (hlater : k.trigger ≠ none) (t source : Nat) : trigger c t source s = modRec c (fun r => { r with ignored := bump r.ignored }) s := by
  rw [trigger_ring hclips hring hstage, if_pos (Option.isSome_iff_ne_none.mpr hlater)]

end

/-! ## Leaves and signatures (R430 to R432) -/

section
variable {s : State} {x : Signature}

theorem leafReservationDone_idle (h : s.sec.reserving = false) (ok : Bool) : leafReservationDone ok s = s := by
  unfold leafReservationDone
  split
  · rfl
  · rw [h]
    rfl

/-- The reservation ends for the signature that waits first for a leaf. -/
theorem leafReservationDone_reserving (hfirst : ((served21 s.sec.queue).find? fun x => s.sec.limit ≤ x.leaf) = some x)
    (h : s.sec.reserving = true) (ok : Bool) : leafReservationDone ok s =
      let k := x.leaf / 1024
      let t := modSec (fun y => { y with reserving := false }) s
      startSigning (if ok then modSec (fun y => { y with leafSeq := k + 1, limit := 1024 * (k + 1) })
          (appendLeaf 1 (leafRecord k) (appendLeaf 0 (leafRecord k) t))
        else failSignature x 0x0E (modSec (fun y => { y with queue := y.queue.filter fun z => z != x }) (raise0 0x0E t))) := by
  unfold leafReservationDone
  rw [hfirst]
  dsimp only
  rw [h]
  cases ok <;> rfl

theorem securitySignDone_idle (h : s.sec.signing = none) (ok : Bool) : securitySignDone ok s = s := by
  unfold securitySignDone
  rw [h]

theorem securitySignDone_failed (h : s.sec.signing = some x) :
    securitySignDone false s = startSigning (failSignature x 0x0C (modSec (fun y => { y with signing := none }) s)) := by
  unfold securitySignDone
  rw [h]
  rfl

theorem securitySignDone_manifest {c : CtxId} {id l : Nat} (h : s.sec.signing = some (.manifest c id l)) : securitySignDone true s =
    startSigning (manifestSigned c id (modSec (fun y => { y with signing := none, made := bump y.made }) s)) := by
  unfold securitySignDone
  rw [h]
  rfl

/-! ## Seals that failed (R385) -/

theorem askSeal_canSign (h : canSign s = true) (c : CtxId) (id : Nat) : askSeal c id s =
    askSignature (.manifest c id) (modClip c id (fun k => { k with stage := some .signing, leaf := s.sec.nextLeaf }) s) :=
  if_pos h

theorem sealRetry_failed {c : CtxId} {k : Clip} (h : (s.recs[c].clips.find? fun k => k.stage == some .failed) = some k) :
    sealRetry c s = askSeal c k.id (modClip c k.id (fun k => { k with retried := true }) s) := by
  unfold sealRetry
  rw [h]

theorem sealRetry_none {c : CtxId} (h : ∀ k ∈ s.recs[c].clips, k.stage ≠ some .failed) : sealRetry c s = s := by
  have hnone : (s.recs[c].clips.find? fun k => k.stage == some .failed) = none := List.find?_eq_none.mpr (by simpa using h)
  unfold sealRetry
  rw [hnone]

end

/-! ## The directory (R266, R268, R269) -/

section
variable {s : State}

/-- The first user of the ward is blocked by the front end alone. -/
theorem wardBlocked_first {w : Ward} {rest : List Ward} (hward : s.stg.ward = w :: rest) (hfront : wardFrontEnd s = []) :
    wardBlocked s w = false := by
  simp [wardBlocked, hward, hfront]

theorem wardReady_first {w : Ward} {rest : List Ward} (hward : s.stg.ward = w :: rest) (htaken : w.taken = true)
    (hfront : wardFrontEnd s = []) : wardReady s w.id = true := by
  have hfind : wardOf s w.id = some w := by simp [wardOf, hward]
  simp [wardReady, hfind, htaken, wardBlocked_first hward hfront]

/-- A user alone in the ward, with its entries. -/
def aloneInWard (u : WardUser) (ranges : List WardRange) (s : State) : State :=
  modStg (fun x => { x with wardNext := s.stg.wardNext + 1, ward := [⟨s.stg.wardNext, u, ranges, true, 0, 0⟩] }) s

/-- Who finds the ward empty and asks for no more entries than there are has them at once. -/
theorem refillWard_alone {ranges : List WardRange} (u : WardUser) (hward : s.stg.ward = []) (hfit : ranges.length ≤ 472) :
    refillWard (modStg (fun x => { x with
      wardNext := s.stg.wardNext + 1, ward := x.ward ++ [⟨s.stg.wardNext, u, ranges, false, 0, 0⟩] }) s) = aloneInWard u ranges s := by
  simp [refillWard, aloneInWard, modStg, wardShared, takeEntries, hward, hfit]

theorem enterWard_empty {ranges : List WardRange} (u : WardUser) (hward : s.stg.ward = []) (hfront : wardFrontEnd s = [])
    (hfit : ranges.length ≤ 472) : enterWard u ranges s = (aloneInWard u ranges s, s.stg.wardNext) := by
  have hfind : ((aloneInWard u ranges s).stg.ward.find? fun w => w.id == s.stg.wardNext)
      = some ⟨s.stg.wardNext, u, ranges, true, 0, 0⟩ := by simp [aloneInWard, modStg]
  have hfree : wardBlocked (aloneInWard u ranges s) ⟨s.stg.wardNext, u, ranges, true, 0, 0⟩ = false := wardBlocked_first rfl hfront
  unfold enterWard
  simp only [refillWard_alone u hward hfit, hfind, hfree, Bool.not_true, Bool.or_self, Bool.false_eq_true, ↓reduceIte]

theorem wardReady_alone (u : WardUser) (ranges : List WardRange) (hfront : wardFrontEnd s = []) :
    wardReady (aloneInWard u ranges s) s.stg.wardNext = true :=
  wardReady_first (s := aloneInWard u ranges s) (w := ⟨s.stg.wardNext, u, ranges, true, 0, 0⟩) rfl rfl hfront

theorem directoryChange_notDue (h : directoryDue s = false) : directoryChange s = s := by
  unfold directoryChange
  rw [h]
  rfl

/-- Where no entry is held, the controller changes the directory at once. -/
theorem directoryChange_empty (hdue : directoryDue s = true) (hward : s.stg.ward = []) (hfront : wardFrontEnd s = []) :
    directoryChange s = releaseWard s.stg.wardNext (syncDirectory (aloneInWard .directory [directoryRange] s)) := by
  unfold directoryChange
  rw [enterWard_empty .directory hward hfront (by decide)]
  simp [hdue, hward, wardReady_alone .directory [directoryRange] hfront]

end

end Sys2Proof.Machine

namespace Sys2Proof

open Sys2Proof.Machine

/-- Settles O45: each row answers with what its function makes of the state, said above for the case; a lost port by `mediaLost_noClip`
(its raise keeps the ports and brings no clip), TRIG_IN by `trigInEdge_only` (the contexts without a taken frame leave the state), the
directory by `directoryChange_empty`. A format leaves the port mounted as it was (log 86), and a row whose condition does not hold changes
nothing (log 115). -/
theorem mediaTriggersAndSeals : Obligations.MediaTriggersAndSeals := by
  unfold Obligations.MediaTriggersAndSeals
  refine ⟨fun p s => ⟨fun op m tag i hop => ⟨?opFails, fun h => ?format, fun h hmounted => ?unmount⟩, fun hop i => ?noOp,
      fun h ok => ?noCommand, fun r rest h => ⟨?logged, fun hclip => ?writeFails⟩, fun h => ?noTimeout, fun h => ?timeout,
      fun hreads hclips => ?linkDown⟩,
    fun s => ⟨fun h => ?noTaking, fun c n k hothers htaken hclips hring hlistens hstage => ⟨fun h => ?triggered, fun h => ?ignored⟩,
      fun x hfirst h => ⟨?reserved, ?notReserved⟩, fun h ok => ?noReservation, fun h ok => ?noSignature, fun x h => ?signatureFails,
      fun c id l h => ?manifest, fun c k h hsign => ?retry, fun c h => ?noRetry, fun h => ?noChange, fun h hward hfront => ?change⟩⟩
  case opFails => exact exec_of_eq rfl (mediaOpDone_failed hop i)
  case format =>
    subst h
    exact exec_of_eq rfl (mediaOpDone_format hop i)
  case unmount =>
    subst h
    exact exec_of_eq rfl (mediaOpDone_unmount hop hmounted i)
  case noOp => exact exec_of_eq rfl ((mediaOpDone_noOp hop i).trans (modMedia_noOp hop).symm)
  case noCommand => exact exec_of_eq rfl (mediaCmdComplete_none h ok)
  case logged => exact exec_of_eq rfl (mediaCmdComplete_logged h)
  case writeFails => exact exec_of_eq rfl (mediaCmdComplete_failed h hclip)
  case noTimeout => exact exec_of_eq rfl (if_pos (List.isEmpty_iff.mpr h))
  case timeout => exact exec_of_eq rfl (if_neg (mt List.isEmpty_iff.mp h))
  case linkDown => exact exec_of_eq rfl ((congrArg (mediaLost p) (failMediaReads_noRead hreads)).trans (mediaLost_noClip hclips))
  case noTaking => exact exec_of_eq rfl (trigInEdge_noTaking h)
  case triggered =>
    exact exec_of_eq rfl ((trigInEdge_listening hothers htaken hclips hring hlistens hstage).trans
      (trigger_first hclips hring hstage h _))
  case ignored =>
    exact exec_of_eq rfl ((trigInEdge_listening hothers htaken hclips hring hlistens hstage).trans
      (trigger_later hclips hring hstage h ..))
  case reserved => exact exec_of_eq rfl (leafReservationDone_reserving hfirst h true)
  case notReserved => exact exec_of_eq rfl (leafReservationDone_reserving hfirst h false)
  case noReservation => exact exec_of_eq rfl (leafReservationDone_idle h ok)
  case noSignature => exact exec_of_eq rfl (securitySignDone_idle h ok)
  case signatureFails => exact exec_of_eq rfl (securitySignDone_failed h)
  case manifest => exact exec_of_eq rfl (securitySignDone_manifest h)
  case retry => exact exec_of_eq rfl ((sealRetry_failed h).trans (askSeal_canSign (s := modClip c k.id _ s) hsign ..))
  case noRetry => exact exec_of_eq rfl (sealRetry_none h)
  case noChange => exact exec_of_eq rfl (directoryChange_notDue h)
  case change =>
    exact ⟨_, exec_of_eq rfl (directoryChange_empty h hward hfront), aloneInWard .directory [directoryRange] s, rfl, rfl, rfl, rfl⟩

end Sys2Proof
end

section
/-!
PROOFS. I/O commands of the storage target: when a command is fetched (R258, R277), what one does that finds the ward empty and its rate
left (R264, R267 to R272, R279), and what a granted ward entry leads to (R269).
-/

namespace Sys2Proof.Machine

/-! ## What the storage target does within itself -/

/-- From `s` to `t` the storage target alone changes, and in it not the size of namespace 2. -/
structure StorageOnly (s t : State) : Prop where
  others : { t with stg := s.stg } = s
  scratch : t.stg.scratch = s.stg.scratch

section
variable {s t : State}

theorem storageOnly_refl (s : State) : StorageOnly s s := ⟨rfl, rfl⟩

theorem StorageOnly.trans {u : State} (hst : StorageOnly s t) (htu : StorageOnly t u) : StorageOnly s u :=
  ⟨(congrArg (fun v => { v with stg := s.stg }) htu.others).trans hst.others, htu.scratch.trans hst.scratch⟩

theorem StorageOnly.modStg {f : Storage → Storage} (h : StorageOnly s t) (hf : ∀ x, (f x).scratch = x.scratch) :
    StorageOnly s (modStg f t) := ⟨h.others, (hf t.stg).trans h.scratch⟩

theorem StorageOnly.forEach_modStg {α : Type} {f : α → Storage → Storage} (h : StorageOnly s t)
    (hf : ∀ m x, (f m x).scratch = x.scratch) (l : List α) : StorageOnly s (forEach l (fun m => Machine.modStg (f m)) t) := by
  induction l generalizing t with
  | nil => exact h
  | cons m l ih => exact ih (h.modStg (hf m))

theorem StorageOnly.fetchNvme (h : StorageOnly s t) (n : NvmeCmd) : StorageOnly s (fetchNvme n t) := h.modStg fun _ => rfl

theorem StorageOnly.modWard (h : StorageOnly s t) (id : Nat) (f : Ward → Ward) : StorageOnly s (modWard id f t) :=
  h.modStg fun _ => rfl

theorem StorageOnly.releaseWard (h : StorageOnly s t) (id : Nat) : StorageOnly s (releaseWard id t) := by
  unfold Machine.releaseWard refillWard
  refine StorageOnly.modStg (h.modStg ?_) ?_ <;> exact fun _ => rfl

/-- Counting bytes against a pool changes no more. -/
theorem StorageOnly.paceUse (h : StorageOnly s t) (p : PacePool) (bytes : Nat) : StorageOnly s (paceUse p bytes t) := by
  unfold Machine.paceUse
  cases p with
  | none => exact h
  | hbm | media => exact h.modStg fun _ => rfl
  | spread =>
    exact h.forEach_modStg (f := fun (m : RegionId) x => { x with hbmUsed := x.hbmUsed.set m (x.hbmUsed[m] + ceilDiv bytes 4) })
      (fun _ _ => rfl) allRegions

theorem StorageOnly.ns2 (h : StorageOnly s t) : t.ns2 = s.ns2 := (congrArg State.ns2 h.others :)

theorem StorageOnly.moveOk (h : StorageOnly s t) (n : NvmeCmd) : moveOk n t = moveOk n s :=
  congrArg (n.hostOk && ·) (congrArg State.hostUp h.others :)

end

/-! ## Fetching (R258, R277) -/

section
variable {n : NvmeCmd} {s : State}

theorem ioNvme_awake (k : IoKind) (hq : n.sq ≠ 0) (hfetch : fetchable n s = true) (hpower : s.stg.power ≠ 2) :
    ioNvme k n s = runIo k n (fetchNvme n s) := by
  have hawake : stgAsleep (fetchNvme n s) = false := beq_eq_false_iff_ne.mpr hpower
  simp [ioNvme, hq, hfetch, hawake]

/-- In power state 2 a fetched command waits for the exit latency. -/
theorem ioNvme_asleep (k : IoKind) (hq : n.sq ≠ 0) (hfetch : fetchable n s = true) (hpower : s.stg.power = 2) :
    ioNvme k n s = modStg (fun x => { x with waking := x.waking ++ [(k, n)] }) (fetchNvme n s) := by
  have hasleep : stgAsleep (fetchNvme n s) = true := beq_iff_eq.mpr hpower
  simp [ioNvme, hq, hfetch, hasleep]

theorem exec_flush_fetched (hq : n.sq ≠ 0) (hfetch : fetchable n s = true) : exec (.flush n) s =
    .next (endNvme n (if (namespaceSize s n.nsid.toNat).isSome || n.nsid = BitVec.allOnes 32 then 0 else stNamespace) 0 0
      (fetchNvme n s)) :=
  congrArg Host.Outcome.next (if_pos (by simp [hq, hfetch]))

end

/-! ## The status that stops a command (R258, R262, R272) -/

section
variable {k : IoKind} {n : NvmeCmd} {s : State}

/-- Namespace 1 is never written. -/
theorem ioStatus_protected (hk : k ≠ .read) (hnsid : n.nsid = 1) : ioStatus k n s = stProtected := by
  simp [ioStatus, namespaceSize, hnsid, hk]

theorem runIo_protected (hk : k ≠ .read) (hnsid : n.nsid = 1) : runIo k n s = endNvme n stProtected 0 0 s := by
  unfold runIo
  rw [ioStatus_protected hk hnsid]
  rfl

theorem ioFieldBad_of_ioStatus (h : ioStatus k n s = 0) : ioFieldBad k n = false := by
  by_contra hbad
  rw [Bool.not_eq_false] at hbad
  unfold ioStatus at h
  rw [hbad] at h
  split at h
  · cases h
  · split at h <;> cases h

/-- A command within the device's limits moves 512 LBAs at most. -/
theorem ioBytes_le (h : ioFieldBad k n = false) : ioBytes k n ≤ 4096 * 512 := by
  cases k
  case read | write =>
    have hcount : ¬512 < ioCount n := of_decide_eq_false h
    simp only [ioBytes]
    omega
  case zeroes | deallocate | format => exact Nat.zero_le _

/-- A command within the device's limits asks for 16 entries at most. -/
theorem ioRanges_length_le (h : ioFieldBad k n = false) : (ioRanges k n s).length ≤ 16 := by
  cases k
  case deallocate =>
    have hranges : ¬15 < n.cdw10.toNat % 256 := of_decide_eq_false (Bool.or_eq_false_iff.mp h).1
    simp only [ioRanges, List.length_map, List.length_range]
    omega
  all_goals exact Nat.le_add_left 1 15

end

/-! ## Moving data within the rates (R279) -/

section
variable {k : IoKind} {n : NvmeCmd} {s : State}

/-- The bytes of namespace 2 count against HBM. -/
theorem pacePool_ns2 (hnsid : n.nsid = 2) :
    pacePool n s = if s.mem.interleaved then .spread else .hbm s.stg.scratchStack := if_pos hnsid

theorem pacePool_ns2_ne_media (hnsid : n.nsid = 2) (m : Fin 2) : pacePool n s ≠ .media m := by
  rw [pacePool_ns2 hnsid]
  split <;> exact nofun

/-- What its pool allows depends on no queue and no ward entry. -/
theorem paceLeft_ns2_congr {t : State} (hnsid : n.nsid = 2) (hmem : t.mem = s.mem) (hstack : t.stg.scratchStack = s.stg.scratchStack)
    (hleft : ∀ p, paceLeft p t = paceLeft p s) : paceLeft (pacePool n t) t = paceLeft (pacePool n s) s := by
  rw [hleft, pacePool_ns2 hnsid, pacePool_ns2 hnsid, hmem, hstack]

/-- A command whose pool allows all that is left, and whose data lies on no drive, ends. -/
theorem moveIo_whole {id : Nat} {w : Ward} (hw : wardOf s id = some w) (hleft : w.left ≤ paceLeft (pacePool n s) s)
    (hpool : ∀ m, pacePool n s ≠ .media m) : moveIo id k n true s =
      finishIo id k n true (paceUse (pacePool n s) w.left
        (modWard id (fun x => { x with left := x.left - w.left, waits := 2 }) s)) := by
  unfold moveIo
  rw [hw]
  dsimp only
  rw [min_eq_left hleft, if_neg (lt_irrefl _)]
  cases hp : pacePool n s with
  | media m => exact absurd hp (hpool m)
  | hbm | spread | none => rfl

end

/-! ## A command that finds the ward empty (R268, R269) -/

/-- A host command alone in the ward, with its entries and the bytes it has to move. -/
def hostAlone (k : IoKind) (n : NvmeCmd) (s : State) : State :=
  modStg (fun x => { x with
    wardNext := s.stg.wardNext + 1, ward := [⟨s.stg.wardNext, .host k n, ioRanges k n s, true, 0, ioBytes k n⟩] }) s

section
variable {k : IoKind} {n : NvmeCmd} {s : State}

theorem modWard_aloneInWard : modWard s.stg.wardNext (fun w => { w with left := ioBytes k n })
    (aloneInWard (.host k n) (ioRanges k n s) s) = hostAlone k n s := by
  simp [modWard, aloneInWard, hostAlone, modStg]

/-- It has its entries at once, and moves its data. -/
theorem runIo_moves (hstatus : ioStatus k n s = 0) (hward : s.stg.ward = []) (hfront : wardFrontEnd s = []) :
    runIo k n s = moveIo s.stg.wardNext k n true (hostAlone k n s) := by
  have hfit : (ioRanges k n s).length ≤ 472 := (ioRanges_length_le (ioFieldBad_of_ioStatus hstatus)).trans (by decide)
  have hready : wardReady (hostAlone k n s) s.stg.wardNext = true :=
    wardReady_first (s := hostAlone k n s) (w := ⟨s.stg.wardNext, .host k n, ioRanges k n s, true, 0, ioBytes k n⟩) rfl rfl hfront
  unfold runIo
  rw [hstatus, enterWard_empty (.host k n) hward hfront hfit]
  dsimp only
  rw [modWard_aloneInWard]
  simp [hready]

theorem storageOnly_hostAlone : StorageOnly s (hostAlone k n s) := (storageOnly_refl s).modStg fun _ => rfl

/-- With its rate left a command of namespace 2 ends in the same step; until then the storage target alone has changed. -/
theorem runIo_alone (hstatus : ioStatus k n s = 0) (hnsid : n.nsid = 2) (hward : s.stg.ward = []) (hfront : wardFrontEnd s = [])
    (hpace : ioBytes k n ≤ paceLeft (pacePool n s) s) :
    ∃ t, StorageOnly s t ∧ runIo k n s = finishIo s.stg.wardNext k n true t := by
  have hrate : paceLeft (pacePool n (hostAlone k n s)) (hostAlone k n s) = paceLeft (pacePool n s) s :=
    paceLeft_ns2_congr hnsid rfl rfl fun p => by cases p <;> rfl
  have hof : wardOf (hostAlone k n s) s.stg.wardNext
      = some ⟨s.stg.wardNext, .host k n, ioRanges k n s, true, 0, ioBytes k n⟩ := by simp [wardOf, hostAlone, modStg]
  have hmove := moveIo_whole (k := k) hof (hpace.trans hrate.ge) (pacePool_ns2_ne_media hnsid)
  exact ⟨_, (storageOnly_hostAlone.modWard ..).paceUse .., (runIo_moves hstatus hward hfront).trans hmove⟩

/-- The same of a command as it is fetched. -/
theorem ioNvme_alone (hq : n.sq ≠ 0) (hfetch : fetchable n s = true) (hpower : s.stg.power ≠ 2) (hnsid : n.nsid = 2)
    (hward : s.stg.ward = []) (hfront : wardFrontEnd s = []) (hpace : 4096 * 512 ≤ paceLeft (pacePool n s) s)
    (hstatus : ioStatus k n (fetchNvme n s) = 0) :
    ∃ t, StorageOnly s t ∧ ioNvme k n s = finishIo s.stg.wardNext k n true t := by
  have hrate : paceLeft (pacePool n (fetchNvme n s)) (fetchNvme n s) = paceLeft (pacePool n s) s :=
    paceLeft_ns2_congr hnsid rfl rfl fun p => by cases p <;> rfl
  have hbytes : ioBytes k n ≤ paceLeft (pacePool n (fetchNvme n s)) (fetchNvme n s) :=
    ((ioBytes_le (ioFieldBad_of_ioStatus hstatus)).trans hpace).trans hrate.ge
  obtain ⟨t, honly, hrun⟩ := runIo_alone hstatus hnsid hward hfront hbytes
  exact ⟨t, ((storageOnly_refl s).fetchNvme n).trans honly, (ioNvme_awake k hq hfetch hpower).trans hrun⟩

end

/-! ## The data of a command that ends (R264, R267) -/

section
variable {id : Nat} {n : NvmeCmd} {s : State}

theorem finishIo_read (hnsid : n.nsid = 2) (hmove : moveOk n s = true) : finishIo id .read n true s =
    endNvme n 0 0 0 (writePages n.pages (readCells s.ns2 (4096 * ioLba n) (4096 * ioCount n)) (releaseWard id s)) :=
  (if_pos hnsid).trans (if_pos hmove)

theorem finishIo_write (hmove : moveOk n s = true) : finishIo id .write n true s =
    endNvme n 0 0 0 (writeNs2 (4096 * ioLba n) (slice n.data 0 (4096 * ioCount n)) (releaseWard id s)) :=
  if_pos hmove

end

/-! ## A granted entry (R269) -/

section
variable {id : Nat} {w : Ward} {s : State} (hw : wardOf s id = some w)
include hw

theorem wardEntryGranted_waiting (hwaits : w.waits ≠ 0) (ok : Bool) : wardEntryGranted id ok s = s := by
  unfold wardEntryGranted
  rw [hw]
  exact if_pos (by simp [hwaits])

theorem wardEntryGranted_directory (hready : wardReady s id = true) (hwaits : w.waits = 0) (huser : w.user = .directory) (ok : Bool) :
    wardEntryGranted id ok s = releaseWard id (syncDirectory s) := by
  unfold wardEntryGranted
  rw [hw]
  dsimp only
  rw [if_neg (by simp [hready, hwaits]), huser]

end

end Sys2Proof.Machine

namespace Sys2Proof

open Sys2Proof.Machine

/-- Settles O48: a Flush ends as it is fetched, a write to namespace 1 by `runIo_protected`, and in power state 2 a Read waits
(`ioNvme_asleep`); a command of namespace 2 that finds the ward empty and its rate left ends in the same step (`ioNvme_alone`), and each
kind's data by its own equation. -/
theorem nvmeNamespaces : Obligations.NvmeNamespaces := by
  unfold Obligations.NvmeNamespaces
  intro n s hq hfetch
  refine ⟨fun hnsid => ?flush, fun hnone hnsid => ?noNamespace, fun hpower hnsid => ⟨?write, ?zeroes, ?deallocate⟩,
    fun hpower => ?asleep, fun hpower hward hfront hnsid hok hup hpace => ?alone,
    fun id w hw => ⟨fun hwaits ok => ?waiting, fun hready hwaits huser ok => ?directory⟩⟩
  case flush => rw [exec_flush_fetched hq hfetch, hnsid]; rfl
  case noNamespace =>
    rw [exec_flush_fetched hq hfetch, hnone, decide_eq_false hnsid]
    rfl
  case write | zeroes | deallocate =>
    exact exec_of_eq rfl ((ioNvme_awake _ hq hfetch hpower).trans (runIo_protected nofun hnsid))
  case asleep => exact exec_of_eq rfl (ioNvme_asleep _ hq hfetch hpower)
  case alone =>
    have hends := fun k => ioNvme_alone (k := k) hq hfetch hpower hnsid hward hfront hpace
    have hmove : ∀ {t}, StorageOnly s t → moveOk n t = true := fun honly => by rw [honly.moveOk, moveOk, hok, hup, Bool.and_self]
    refine ⟨fun hstatus => ?_, fun hstatus => ?_, fun hstatus => ?_, fun hstatus => ?_⟩
    · obtain ⟨t, honly, hrun⟩ := hends .read hstatus
      have hread := finishIo_read (id := s.stg.wardNext) hnsid (hmove honly)
      rw [honly.ns2] at hread
      exact ⟨_, (honly.releaseWard _).others, exec_of_eq rfl (hrun.trans hread)⟩
    · obtain ⟨t, honly, hrun⟩ := hends .write hstatus
      have hwrite := finishIo_write (id := s.stg.wardNext) (hmove honly)
      rw [writeNs2, (honly.releaseWard _).ns2] at hwrite
      exact ⟨_, (honly.releaseWard _).others, exec_of_eq rfl (hrun.trans hwrite)⟩
    · obtain ⟨t, honly, hrun⟩ := hends .zeroes hstatus
      exact ⟨_, (honly.releaseWard _).others, exec_of_eq rfl hrun⟩
    · obtain ⟨t, honly, hrun⟩ := hends .deallocate hstatus
      exact ⟨_, (honly.releaseWard _).others, exec_of_eq rfl hrun⟩
  case waiting => exact exec_of_eq rfl (wardEntryGranted_waiting hw hwaits ok)
  case directory => exact exec_of_eq rfl (wardEntryGranted_directory hw hready hwaits huser ok)

end Sys2Proof
end

section
/-!
PROOFS. Admin commands of the storage target: when one is fetched (R260), what the queues, pages and features answer (R258, R259, R275 to
R278), and where an ended command's completion entry stands (R256, R260).
-/

namespace Sys2Proof.Machine

/-! ## Fetching (R260) -/

section
variable {n : NvmeCmd} {s : State}

theorem adminNvme_fetched (hq : n.sq = 0) (hfetch : fetchable n s = true) (f : State → State) : adminNvme n f s = f (fetchNvme n s) :=
  if_pos (by simp [hq, hfetch])

/-- A command that is not at the head of the admin queue waits there. -/
theorem adminNvme_notFetched (h : n.sq ≠ 0 ∨ fetchable n s = false) (f : State → State) : adminNvme n f s = s :=
  if_neg (by simpa [imp_iff_not_or] using h)

/-- Fetching moves the head of a queue, and neither its number nor its completion queue. -/
theorem fetchNvme_queueIds (n : NvmeCmd) (s : State) : (fetchNvme n s).stg.sqs.map SubQueue.id = s.stg.sqs.map SubQueue.id := by
  simp only [fetchNvme, modStg, List.map_map]
  refine List.map_congr_left fun q _ => ?_
  simp only [Function.comp_apply]
  split <;> rfl

theorem fetchNvme_queueTargets (n : NvmeCmd) (s : State) : (fetchNvme n s).stg.sqs.map SubQueue.cq = s.stg.sqs.map SubQueue.cq := by
  simp only [fetchNvme, modStg, List.map_map]
  refine List.map_congr_left fun q _ => ?_
  simp only [Function.comp_apply]
  split <;> rfl

end

/-! ## Queues (R258, R260) -/

/-- A key is among those of a list, as the model asks it. -/
theorem any_key_eq {α : Type} (key : α → Nat) (l : List α) (i : Nat) : (l.any fun q => key q == i) = decide (i ∈ l.map key) := by
  rw [Bool.eq_iff_iff]
  simp

/-- What a create command asks of its queue, beside its number being free. -/
structure CreatesQueue (n : NvmeCmd) : Prop where
  positive : queueId n ≠ 0
  bound : queueId n ≤ 64
  lower : 2 ≤ queueSize n
  upper : queueSize n ≤ 1024
  contiguous : n.cdw11.getLsbD 0 = true
  aligned : queueBase n % 4096 = 0

section
variable {n : NvmeCmd} {s : State}

theorem createSq_creates (h : CreatesQueue n) (hfree : queueId n ∉ s.stg.sqs.map SubQueue.id) (hcq : n.cdw11.toNat / 2 ^ 16 ≠ 0)
    (hexists : n.cdw11.toNat / 2 ^ 16 ∈ s.stg.cqs.map CplQueue.id) : createSq n s =
      endNvme n 0 0 0 (modStg (fun x => { x with sqs := x.sqs ++ [{
        id := queueId n, size := queueSize n, base := queueBase n
        cq := n.cdw11.toNat / 2 ^ 16, cls := n.cdw11.toNat / 2 % 4 }] }) s) := by
  obtain ⟨hpositive, hbound, hlower, hupper, hcontiguous, haligned⟩ := h
  unfold createSq
  dsimp only
  rw [any_key_eq, any_key_eq]
  generalize n.cdw11.toNat / 2 ^ 16 = cq at hcq hexists ⊢
  rw [if_neg (by simp [hpositive, hbound, hfree, hcq, hexists, -List.mem_map]), if_neg (by simp [hlower.not_gt, hupper]),
    if_neg (by simp [hcontiguous, haligned, -BitVec.getLsbD_eq_getElem])]

theorem createCq_creates (h : CreatesQueue n) (hfree : queueId n ∉ s.stg.cqs.map CplQueue.id) (hvector : n.cdw11.toNat / 2 ^ 16 ≤ 64) :
    createCq n s = endNvme n 0 0 0 (modStg (fun x => { x with cqs := x.cqs ++ [{
      id := queueId n, size := queueSize n, base := queueBase n
      vector := if n.cdw11.getLsbD 1 then some (n.cdw11.toNat / 2 ^ 16) else none }] }) s) := by
  obtain ⟨hpositive, hbound, hlower, hupper, hcontiguous, haligned⟩ := h
  unfold createCq
  dsimp only
  rw [any_key_eq]
  generalize n.cdw11.toNat / 2 ^ 16 = vector at hvector ⊢
  rw [if_neg (by simp [hpositive, hbound, hfree, -List.mem_map]), if_neg (by simp [hlower.not_gt, hupper]),
    if_neg (by simp [hcontiguous, haligned, hvector, -BitVec.getLsbD_eq_getElem])]

variable (hpositive : queueId n ≠ 0)
include hpositive

/-- With no host command in the ward and none waiting, none ends with its submission queue. -/
theorem deleteSq_idle (hexists : queueId n ∈ s.stg.sqs.map SubQueue.id) (hward : s.stg.ward = []) (hwaking : s.stg.waking = []) :
    deleteSq n s = endNvme n 0 0 0 (modStg (fun x => { x with sqs := x.sqs.filter fun q => q.id != queueId n }) s) := by
  unfold deleteSq
  dsimp only
  rw [any_key_eq, if_neg (by simp [hpositive, hexists]), hward, hwaking]
  simp [modStg, hwaking]

variable (hexists : queueId n ∈ s.stg.cqs.map CplQueue.id)
include hexists

theorem deleteCq_unused (hunused : queueId n ∉ s.stg.sqs.map SubQueue.cq) : deleteCq n s =
    endNvme n 0 0 0 (modStg (fun x => { x with
      cqs := x.cqs.filter fun q => q.id != queueId n, heldCpl := x.heldCpl.filter fun h => h.1 != queueId n }) s) := by
  unfold deleteCq
  dsimp only
  rw [any_key_eq, any_key_eq, if_neg (by simp [hpositive, hexists]), if_neg (by simp [hunused])]

/-- A completion queue in use stays (log 34). -/
theorem deleteCq_used (hused : queueId n ∈ s.stg.sqs.map SubQueue.cq) : deleteCq n s = endNvme n stQueueDeletion 0 0 s := by
  unfold deleteCq
  dsimp only
  rw [any_key_eq, any_key_eq, if_neg (by simp [hpositive, hexists]), if_pos (by simp [hused])]

end

/-! ## Pages and events (R258, R259, R276) -/

section
variable {n : NvmeCmd} {s : State}

theorem getLogPage_noPage (h : logPage s (n.cdw10.toNat % 256) = none) : getLogPage n s = endNvme n stLogPage 0 0 s := by
  unfold getLogPage
  dsimp only
  rw [h]

/-- The directory page from its start; reading it clears its event. -/
theorem getLogPage_directory {page : List Byte} (hlid : n.cdw10.toNat % 256 = 0xC0) (hpage : logPage s 0xC0 = some page)
    (hlow : n.cdw12 = 0) (hhigh : n.cdw13 = 0) : getLogPage n s =
      answerNvme n (slice page 0 (min (4 * (n.cdw10.toNat / 2 ^ 16 + 2 ^ 16 * (n.cdw11.toNat % 2 ^ 16) + 1)) page.length))
        (modStg (fun x => { x with asyncMasked := x.asyncMasked.filter fun k => k != 7 }) s) := by
  unfold getLogPage
  rw [hlid, hlow, hhigh]
  dsimp only
  rw [hpage]
  rfl

theorem identify_controller (h : n.cdw10.toNat % 256 = 1) : identify n s = answerNvme n identifyController s := by
  unfold identify
  rw [h]
  rfl

theorem identify_noNamespace (h : n.cdw10.toNat % 256 = 0) (hnone : namespaceSize s n.nsid.toNat = none) :
    identify n s = endNvme n stNamespace 0 0 s := by
  unfold identify
  rw [h]
  dsimp only
  rw [hnone]
  rfl

/-- With no event due a request is kept. -/
theorem asyncRequest_kept (h : s.stg.asyncDue = []) (hroom : s.stg.aers.length < 4) :
    asyncRequest n s = modStg (fun x => { x with aers := x.aers ++ [n] }) s := by
  unfold asyncRequest
  rw [h]
  exact if_neg hroom.not_ge

theorem asyncRequest_full (h : s.stg.asyncDue = []) (hfull : 4 ≤ s.stg.aers.length) :
    asyncRequest n s = endNvme n stAsyncLimit 0 0 s := by
  unfold asyncRequest
  rw [h]
  exact if_pos hfull

end

/-! ## Features (R258, R277, R278) -/

section
variable {n : NvmeCmd} {s : State}

theorem setFeatures_arbitration (h : n.cdw10.toNat % 256 = 1) :
    setFeatures n s = endNvme n 0 0 0 (modStg (fun x => { x with arbitration := n.cdw11 }) s) := by
  unfold setFeatures
  rw [h]
  rfl

theorem getFeatures_arbitration (h : n.cdw10.toNat % 256 = 1) : getFeatures n s = endNvme n 0 s.stg.arbitration.toNat 0 s := by
  unfold getFeatures
  rw [h]
  rfl

theorem setFeatures_queueCount (h : n.cdw10.toNat % 256 = 7) : setFeatures n s = endNvme n 0 0x003F003F 0 s := by
  unfold setFeatures
  rw [h]
  rfl

theorem getFeatures_queueCount (h : n.cdw10.toNat % 256 = 7) : getFeatures n s = endNvme n 0 0x003F003F 0 s := by
  unfold getFeatures
  rw [h]
  rfl

/-- A lower power state is entered later. -/
theorem setFeatures_lowerPower (h : n.cdw10.toNat % 256 = 2) (hlower : s.stg.power < n.cdw11.toNat % 32)
    (hstate : n.cdw11.toNat % 32 ≤ 2) : setFeatures n s =
      modStg (fun x => { x with entering := some (n.cdw11.toNat % 32, n) }) s := by
  unfold setFeatures
  rw [h]
  exact (if_neg hstate.not_gt).trans (if_pos hlower)

end

/-! ## Formatting namespace 2 (R258, R267) -/

/-- The LBAs of namespace 2, none while it does not exist. -/
theorem namespaceSize_two (s : State) : (namespaceSize s 2).getD 0 = s.stg.scratch / 4096 := by
  by_cases h : s.stg.scratch = 0 <;> simp [namespaceSize, h]

/-- A format that finds the ward empty zeroes the namespace in the same step; until then the storage target alone has changed. -/
theorem runIo_format_alone {n : NvmeCmd} {s : State} (hnsid : n.nsid = 2) (hstatus : ioStatus .format n s = 0) (hward : s.stg.ward = [])
    (hfront : wardFrontEnd s = []) : ∃ v, StorageOnly s v
      ∧ runIo .format n s = endNvme n 0 0 0 (zeroNs2 0 (4096 * (s.stg.scratch / 4096)) v) := by
  obtain ⟨t, honly, hrun⟩ := runIo_alone hstatus hnsid hward hfront (Nat.zero_le _)
  have hranges : ioRanges .format n t = [⟨2, 0, s.stg.scratch / 4096, true⟩] := by
    rw [← honly.scratch, ← namespaceSize_two t, ioRanges, hnsid]
    rfl
  refine ⟨_, honly.releaseWard s.stg.wardNext, hrun.trans ?_⟩
  simp only [finishIo, hranges, forEach_cons, forEach_nil, Nat.mul_zero]

/-! ## Completion entries (R256, R260) -/

/-- The entry of a command that succeeded, with the phase tag of its queue. -/
theorem completion_entry (dw0 head sq cid : Nat) (phase : Bool) :
    let entry := image 16 [put 0 4 dw0, put 8 2 head, put 10 2 sq, put 12 2 cid, put 14 2 (2 * 0)]
    overlay entry 14 [BitVec.ofNat 8 (fieldAt entry 14 1 + bit phase)] =
      image 16 [put 0 4 dw0, put 8 2 head, put 10 2 sq, put 12 2 cid, put 14 2 (bit phase)] := by
  cases phase <;> simp [image, put, overlay, leBytes, fieldAt, slice, leNat, bit]

theorem nvmeVector_hostMem (v : Nat) (s : State) : (nvmeVector v s).hostMem = s.hostMem := by
  unfold nvmeVector
  dsimp only
  split
  · rfl
  · split <;> rfl

theorem writeHost_hostMem (addr : Nat) (bytes : List Byte) (s : State) :
    (writeHost addr bytes s).hostMem = writeCells s.hostMem addr bytes := rfl

/-- An entry is written at the tail of its queue. -/
theorem pushCqe_hostMem {id : Nat} {c : CplQueue} {s : State} (hqueue : (s.stg.cqs.find? fun c => c.id == id) = some c)
    (hup : s.hostUp = true) (entry : List Byte) : (pushCqe id entry s).hostMem =
      writeCells s.hostMem (c.base + 16 * c.tail) (overlay entry 14 [BitVec.ofNat 8 (fieldAt entry 14 1 + bit c.phase)]) := by
  unfold pushCqe
  rw [hqueue]
  dsimp only
  rw [if_pos hup]
  cases c.vector with
  | none => rfl
  | some v => exact nvmeVector_hostMem ..

/-- With no completion held and room in its queue, an entry is pushed at once. -/
theorem flushCpl_room {id : Nat} {c : CplQueue} {s : State} {entry : List Byte} (hheld : s.stg.heldCpl = [(id, entry)])
    (hqueue : (s.stg.cqs.find? fun c => c.id == id) = some c) (hroom : cqFull c = false) :
    flushCpl s = pushCqe id entry (modStg (fun x => { x with heldCpl := [] }) s) := by
  unfold flushCpl
  rw [hheld, forEach_cons, forEach_nil]
  dsimp only
  rw [hqueue]
  dsimp only
  rw [hroom]
  simp [modStg, hheld]

/-- The entry of a command that succeeded stands in host memory, at the tail of its completion queue. -/
theorem endNvme_hostMem {n : NvmeCmd} {s : State} {dw0 : Nat} {q : SubQueue} {c : CplQueue} (hup : stgUp s = true)
    (hhost : s.hostUp = true) (hheld : s.stg.heldCpl = []) (hsq : (s.stg.sqs.find? fun q => q.id == n.sq.val) = some q)
    (hcq : (s.stg.cqs.find? fun c => c.id == q.cq) = some c) (hroom : cqFull c = false) :
    (endNvme n 0 dw0 0 s).hostMem = (writeHost (c.base + 16 * c.tail) (image 16 [put 0 4 dw0, put 8 2 q.head,
      put 10 2 q.id, put 12 2 n.cid.toNat, put 14 2 (bit c.phase)]) s).hostMem := by
  let entry := image 16 [put 0 4 dw0, put 8 2 q.head, put 10 2 q.id, put 12 2 n.cid.toNat, put 14 2 (2 * 0)]
  let t := modStg (fun x => { x with heldCpl := x.heldCpl ++ [(q.cq, entry)] }) s
  have hpost : endNvme n 0 dw0 0 s = flushCpl t := by
    rw [endNvme, postCqe, if_pos rfl, hsq]
    exact if_neg (by simp [hup])
  have hone : t.stg.heldCpl = [(q.cq, entry)] := by simp [t, modStg, hheld]
  have hqueue : (t.stg.cqs.find? fun c => c.id == q.cq) = some c := hcq
  have hpushed := pushCqe_hostMem (s := modStg (fun x => { x with heldCpl := [] }) t) hcq hhost entry
  have hmem : t.hostMem = s.hostMem := modStg_hostMem ..
  rw [hpost, flushCpl_room hone hqueue hroom, hpushed, completion_entry, modStg_hostMem, hmem, writeHost_hostMem]

end Sys2Proof.Machine

namespace Sys2Proof

open Sys2Proof.Machine

/-- Settles O47: a command at the head of the admin queue is fetched (`adminNvme_fetched`) and does what the equation of its case says, a
format as `runIo_format_alone` has it; any other waits (`adminNvme_notFetched`). An ended command's entry is pushed at once when none is
held and its queue has room (`endNvme_hostMem`). A completion queue in use is refused with 0x10C (log 34). -/
theorem nvmeAdminCommands : Obligations.NvmeAdminCommands := by
  unfold Obligations.NvmeAdminCommands
  intro n s
  dsimp only
  refine ⟨fun hq hfetch => ?fetched, fun hwaits c hc => ?notFetched, fun dw0 q c hup hhost hheld hsq hcq hroom => ?completion⟩
  case fetched =>
    have hrun : ∀ {f : State → State} {t : State}, f (fetchNvme n s) = t → adminNvme n f s = t := fun h =>
      (adminNvme_fetched hq hfetch _).trans h
    have hids := fetchNvme_queueIds n s
    have htargets := fetchNvme_queueTargets n s
    refine ⟨fun ⟨hpositive, hbound, hfree, hlower, hupper, hcontiguous, haligned⟩ hcq hexists => ?createSq,
      fun ⟨hpositive, hbound, hfree, hlower, hupper, hcontiguous, haligned⟩ hvector => ?createCq,
      fun hpositive hexists hward hwaking => ?deleteSq, fun hpositive hexists hunused => ?deleteCq,
      fun hpositive hexists hused => ?deleteCqUsed, fun hlid page hpage hlow hhigh => ?logPage, fun h => ?noLogPage,
      fun h => ?identify, fun h hnone => ?noNamespace, ?abort, fun h => ⟨?setArbitration, ?getArbitration⟩,
      fun h => ⟨?setCount, ?getCount⟩, fun h hlower hstate => ?setPower, fun h hroom => ?request, fun h hfull => ?requestFull,
      fun hnsid => ?formatProtected, fun hnsid hward hfront hstatus => ?format⟩
    case createSq =>
      exact exec_of_eq rfl (hrun (createSq_creates ⟨hpositive, hbound, hlower, hupper, hcontiguous, haligned⟩
        (hids.symm ▸ hfree) hcq hexists))
    case createCq =>
      exact exec_of_eq rfl (hrun (createCq_creates ⟨hpositive, hbound, hlower, hupper, hcontiguous, haligned⟩ hfree hvector))
    case deleteSq => exact exec_of_eq rfl (hrun (deleteSq_idle hpositive (hids.symm ▸ hexists) hward hwaking))
    case deleteCq =>
      have hnone : queueId n ∉ s.stg.sqs.map SubQueue.cq := fun hmem =>
        have ⟨q, hin, heq⟩ := List.mem_map.mp hmem
        hunused q hin heq
      exact exec_of_eq rfl (hrun (deleteCq_unused hpositive hexists (htargets.symm ▸ hnone)))
    case deleteCqUsed =>
      exact exec_of_eq rfl (hrun (deleteCq_used hpositive hexists (htargets.symm ▸ List.mem_map.mpr hused)))
    case logPage => exact exec_of_eq rfl (hrun (getLogPage_directory hlid hpage hlow hhigh))
    case noLogPage => exact exec_of_eq rfl (hrun (getLogPage_noPage h))
    case identify => exact exec_of_eq rfl (hrun (identify_controller h))
    case noNamespace => exact exec_of_eq rfl (hrun (identify_noNamespace h hnone))
    case abort => exact exec_of_eq rfl (hrun rfl)
    case setArbitration => exact exec_of_eq rfl (hrun (setFeatures_arbitration h))
    case getArbitration => exact exec_of_eq rfl (hrun (getFeatures_arbitration h))
    case setCount => exact exec_of_eq rfl (hrun (setFeatures_queueCount h))
    case getCount => exact exec_of_eq rfl (hrun (getFeatures_queueCount h))
    case setPower => exact exec_of_eq rfl (hrun (setFeatures_lowerPower h hlower hstate))
    case request => exact exec_of_eq rfl (hrun (asyncRequest_kept h hroom))
    case requestFull => exact exec_of_eq rfl (hrun (asyncRequest_full h hfull))
    case formatProtected => exact exec_of_eq rfl (hrun (runIo_protected nofun hnsid))
    case format =>
      obtain ⟨v, honly, hformat⟩ := runIo_format_alone hnsid hstatus hward hfront
      exact ⟨v, (((storageOnly_refl s).fetchNvme n).trans honly).others, exec_of_eq rfl (hrun hformat)⟩
  case notFetched =>
    simp only [List.mem_cons, List.not_mem_nil, or_false] at hc
    obtain rfl | rfl | rfl | rfl | rfl | rfl | rfl | rfl | rfl | rfl | rfl := hc <;>
      exact exec_of_eq rfl (adminNvme_notFetched hwaits _)
  case completion => exact endNvme_hostMem hup hhost hheld hsq hcq hroom

end Sys2Proof
end

section
/-!
PROOFS. The NVMe controller: when it becomes ready and is reset (R256, R257, R273), its power states and paced commands (R277 to R279), the
endpoint (R409), and what the four STG_ commands answer.
-/

namespace Sys2Proof.Machine

section
variable {s : State}

/-! ## CC.EN and RDY (R256, R257) -/

theorem nvmeCcEnable_disabled (h : ccEn s = false) : nvmeCcEnable s = stgReady (rebuildDirectory (modStg (fun x => { x with
    cc := x.cc ||| 1, sqs := [(adminQueues s.stg).1], cqs := [(adminQueues s.stg).2] }) s)) :=
  if_neg (by simp [h])

theorem nvmeCcEnable_enabled (h : ccEn s = true) : nvmeCcEnable s = s := if_pos h

theorem stgReady_ready (hen : ccEn s = true) (hrdy : s.stg.rdy = false) (hsuspect : s.stg.suspect = false)
    (hboot : s.boot.step = .complete) : stgReady s = stgState (modStg (fun x => { x with rdy := true, cfs := false }) s) :=
  if_pos (by simp [hen, hrdy, hsuspect, hboot])

/-- The suspect part, and a device that has not started, are not ready. -/
theorem stgReady_notReady (h : s.stg.suspect = true ∨ s.boot.step ≠ .complete) : stgReady s = s :=
  if_neg (by rcases h with h | h <;> simp [h])

theorem nvmeCcDisable_enabled (h : ccEn s = true) : nvmeCcDisable s = stgState (modStg (fun x => { x with
    cc := x.cc &&& ~~~1, rdy := false, cfs := x.suspect, shst := 0, sqs := [], cqs := [], aers := [], asyncDue := []
    asyncMasked := [], entering := none, power := 0, lastPower := 0, fatal := 0, arbitration := 0, coalescing := 0
    vectorCd := [], asyncCfg := 0 }) (dropHostWork s)) :=
  if_neg (by simp [h])

theorem nvmeCcDisable_disabled (h : ccEn s = false) : nvmeCcDisable s = s := if_pos (by simp [h])

/-! ## Tail doorbells (R256, R260) -/

theorem nvmeSqTail_up (h : stgUp s = true) (q tail : Nat) : nvmeSqTail q tail s = modStg (fun x => { x with
    sqs := x.sqs.map fun y => if y.id = q ∧ tail < y.size then { y with tail := tail } else y }) s :=
  if_neg (by simp [h])

theorem nvmeSqTail_down (h : stgUp s = false) (q tail : Nat) : nvmeSqTail q tail s = s := if_pos (by simp [h])

/-! ## Fatal conditions (R273) -/

theorem stgFatal_first (hcfs : s.stg.cfs = false) (hen : ccEn s = true) (cause : Nat) : stgFatal cause s =
    stgState (raise0 0x58 (dropHostWork (modStg (fun x => { x with cfs := true, fatal := cause, fatals := bump x.fatals }) s))) :=
  if_neg (by simp [hcfs, hen])

/-- A condition is reported once. -/
theorem stgFatal_again (h : s.stg.cfs = true) (cause : Nat) : stgFatal cause s = s := if_pos (by simp [h])

theorem wardTimeout_host {id : Nat} {w : Ward} {k : IoKind} {n : NvmeCmd} (hw : wardOf s id = some w) (huser : w.user = .host k n)
    (htaken : w.taken = true) : wardTimeout id s = stgFatal 3 s := by
  unfold wardTimeout
  rw [hw]
  dsimp only
  rw [huser]
  exact if_pos htaken

theorem wardTimeout_gone {id : Nat} (h : wardOf s id = none) : wardTimeout id s = s := by
  unfold wardTimeout
  rw [h]

/-! ## Power states (R277, R278) -/

section
variable {p : Nat} {n : NvmeCmd} (hentering : s.stg.entering = some (p, n))
include hentering

theorem powerStateEntryDone_idle (hidle : executing12 s = 0) : powerStateEntryDone s =
    endNvme n 0 0 0 (stgState (modStg (fun x => { x with
      entering := none, power := p, lastPower := if p < 2 then p else x.lastPower }) s)) := by
  unfold powerStateEntryDone
  rw [hentering]
  exact if_neg (not_not.mpr hidle)

theorem powerStateEntryDone_busy (hbusy : executing12 s ≠ 0) : powerStateEntryDone s = s := by
  unfold powerStateEntryDone
  rw [hentering]
  exact if_pos hbusy

end

theorem nvmePowerStateExit_waking (hpower : s.stg.power = 2) (hwaking : s.stg.waking ≠ []) : nvmePowerStateExit s =
    forEach s.stg.waking (fun w => runIo w.1 w.2) (stgState (modStg (fun x => { x with power := x.lastPower, waking := [] }) s)) :=
  if_neg (by simp [hpower, hwaking])

theorem nvmePowerStateExit_none (h : s.stg.waking = []) : nvmePowerStateExit s = s := if_pos (by simp [h])

/-! ## Paced commands (R279) -/

theorem stgRateRelease_empty (h : s.stg.ward = []) : stgRateRelease s = s := by
  unfold stgRateRelease
  rw [h]
  rfl

theorem modWard_unchanged {id : Nat} {f : Ward → Ward} (h : ∀ w ∈ s.stg.ward, w.id = id → f w = w) : modWard id f s = s := by
  have hsame : (s.stg.ward.map fun w => if w.id = id then f w else w) = s.stg.ward :=
    (List.map_congr_left fun w hw => ite_eq_right_iff.mpr (h w hw)).trans (List.map_id _)
  exact congrArg (fun l => { s with stg := { s.stg with ward := l } }) hsame

/-- A paced command that has moved all it moves ends in the new tick. -/
theorem stgRateRelease_zeroes {w : Ward} {n : NvmeCmd} {m : StackId} (hward : s.stg.ward = [w]) (hwaits : w.waits = 2)
    (huser : w.user = .host .zeroes n) (hleft : w.left = 0) (hpool : pacePool n s = .hbm m) :
    stgRateRelease s = finishIo w.id .zeroes n true (paceUse (pacePool n s) 0 s) := by
  have hof : wardOf s w.id = some w := by simp [wardOf, hward]
  have hsame : modWard w.id (fun x => { x with left := x.left - w.left, waits := 2 }) s = s := by
    refine modWard_unchanged fun x hx _ => ?_
    rw [hward, List.mem_singleton] at hx
    rw [hx, Nat.sub_self, ← hwaits, ← hleft]
  have hmove := moveIo_whole (k := .zeroes) hof (hleft ▸ Nat.zero_le _) (by rw [hpool]; exact nofun)
  rw [hsame, hleft] at hmove
  have hpaced : s.stg.ward.filter (fun w => w.waits == 2) = [w] := by simp [hward, hwaits]
  unfold stgRateRelease
  rw [hpaced, forEach_cons, forEach_nil, huser]
  exact hmove

/-! ## The endpoint (R409) -/

theorem endpointLinkUp_on (h : domainOn s 14 = true) : endpointLinkUp s = { s with hostUp := true } := if_pos h

theorem endpointLinkUp_off (h : domainOn s 14 = false) : endpointLinkUp s = s := if_neg (by simp [h])

/-! ## When STG_SET_SCRATCH is accepted (R267) -/

/-- Namespace 2 gets a new size only while the controller is disabled. -/
theorem disabled_of_accepts_setScratch {e : Entry} (h : Accepts stgSetScratchSpec e s) : ccEn s = false := by
  have hstates : firstFail [(ccEn s, wrong 0xC), (pixelBound (takeCommand e.mb s), wrong 7)] = none := accepts_states h
  by_contra hen
  rw [Bool.not_eq_false] at hen
  rw [hen] at hstates
  cases hstates

end

end Sys2Proof.Machine

namespace Sys2Proof

open Sys2Proof.Machine

/-- Settles O46: each STG_ command is answered or armed as its effect says, and each row of the controller and the endpoint does what the
equation of its case says. CC.EN cleared puts the features at 0 (log 34), and PERST_N masks the vectors (log 11). -/
theorem storageCommandsAndController : Obligations.StorageCommandsAndController := by
  unfold Obligations.StorageCommandsAndController
  refine ⟨fun e s => ⟨fun h => ⟨disabled_of_accepts_setScratch h, ?scratch⟩, fun h => ?rates, fun h => ?status, fun h => ?errorLog⟩,
    fun s => ⟨fun h => ?enable, fun hen hrdy => ⟨fun hsuspect hboot => ?ready, fun h => ?notReady⟩, fun h => ?enabled,
      fun h => ?disable, fun h => ?disabled, fun q tail h => ?tail, fun q tail h => ?tailDown,
      fun x => ⟨fun hcfs hen => ?fatal, fun h => ?fatalAgain⟩, fun id w k n hw huser htaken hcfs hen => ?timeout,
      fun id h => ?noTimeout, fun p n hentering => ⟨fun h => ?entered, fun h => ?busy⟩, fun hpower hwaking => ?exit,
      fun h => ?noExit, fun h => ?noRelease, fun w n hward hwaits huser hleft ⟨m, hpool⟩ => ?release,
      rfl, rfl, rfl, rfl, fun h => ?linkUp, fun h => ?linkOff⟩⟩
  case scratch => exact ⟨_, rfl, reply_completed_flags h rfl rfl⟩
  case rates => exact ⟨_, rfl, arm_banked h rfl⟩
  case status => exact ⟨_, rfl, reply_completed h rfl rfl⟩
  case errorLog => exact ⟨_, rfl, reply_completed h rfl rfl⟩
  case enable => exact exec_of_eq rfl (nvmeCcEnable_disabled h)
  case ready => exact stgReady_ready hen hrdy hsuspect hboot
  case notReady => exact stgReady_notReady h
  case enabled => exact exec_of_eq rfl (nvmeCcEnable_enabled h)
  case disable => exact exec_of_eq rfl (nvmeCcDisable_enabled h)
  case disabled => exact exec_of_eq rfl (nvmeCcDisable_disabled h)
  case tail => exact exec_of_eq rfl (nvmeSqTail_up h q.val tail)
  case tailDown => exact exec_of_eq rfl (nvmeSqTail_down h q.val tail)
  case fatal => exact exec_of_eq rfl (stgFatal_first hcfs hen _)
  case fatalAgain => exact exec_of_eq rfl (stgFatal_again h _)
  case timeout => exact exec_of_eq rfl ((wardTimeout_host hw huser htaken).trans (stgFatal_first hcfs hen 3))
  case noTimeout => exact exec_of_eq rfl (wardTimeout_gone h)
  case entered => exact exec_of_eq rfl (powerStateEntryDone_idle hentering h)
  case busy => exact exec_of_eq rfl (powerStateEntryDone_busy hentering h)
  case exit => exact exec_of_eq rfl (nvmePowerStateExit_waking hpower hwaking)
  case noExit => exact exec_of_eq rfl (nvmePowerStateExit_none h)
  case noRelease => exact exec_of_eq rfl (stgRateRelease_empty h)
  case release => exact exec_of_eq rfl (stgRateRelease_zeroes hward hwaits huser hleft hpool)
  case linkUp => exact exec_of_eq rfl (endpointLinkUp_on h)
  case linkOff => exact exec_of_eq rfl (endpointLinkUp_off h)

end Sys2Proof
end

section
/-!
PROOFS. Grades: the length of a structure written piece by piece (R5), what GRD_SET_NOISE and GRD_GET_STATUS answer, the LUT slots (R182),
and what the GRD_ commands answer.
-/

namespace Sys2Proof.Machine

/-! ## Structures keep their size (R5) -/

@[simp] theorem leBytes_length (size v : Nat) : (leBytes size v).length = size := by
  induction size generalizing v with
  | zero => rfl
  | succ n ih => exact congrArg (· + 1) (ih (v / 256))

theorem overlay_length {l b : List Byte} {off : Nat} (h : off + b.length ≤ l.length) : (overlay l off b).length = l.length := by
  simp only [overlay, List.length_append, List.length_take, List.length_drop]
  omega

/-- A structure whose pieces all lie inside it has its size. -/
theorem image_length {size : Nat} {pieces : List (Nat × List Byte)} (h : ∀ p ∈ pieces, p.1 + p.2.length ≤ size) :
    (image size pieces).length = size := by
  suffices hfold : ∀ l : List Byte, l.length = size → (pieces.foldl (fun l p => overlay l p.1 p.2) l).length = size from
    hfold _ List.length_replicate
  induction pieces with
  | nil => exact fun l hl => hl
  | cons p ps ih =>
    intro l hl
    have hp : p.1 + p.2.length ≤ l.length := hl ▸ h p List.mem_cons_self
    exact ih (fun q hq => h q (List.mem_cons_of_mem p hq)) _ ((overlay_length hp).trans hl)

/-! ## What the commands of a bank have armed or answered -/

section
variable (e : Entry) (s : State)

/-- A core analyses the context exactly with temporal noise reduction on (R295). -/
theorem noiseChange_core : ∃ core, core.isSome = (noiseOf e).temporal ∧ noiseChange e s = .noise (argCtx e) (noiseOf e) core := by
  refine ⟨_, ?_, rfl⟩
  cases (noiseOf e).temporal <;> rfl

/-- A grade that is on holds two buffers. -/
theorem grdSetGrade_arms : grdSetGradeSpec.effect e s = .arm s [.grade (argCtx e) (argGrade e) (gradeOf e)] (some (argCtx e))
    (if arg e 2 1 = 1 then 2 * alloc (gradeSize (gradeOf e)) else 0) := by
  have hon : (gradeOf e).on = true ↔ arg e 2 1 = 1 := beq_iff_eq
  exact congrArg (Effect.arm s _ _) (if_congr hon rfl rfl)

/-- The status of the grades is a structure of 120 bytes: its fields, a count for each grade and a code for each LUT slot lie inside it. -/
theorem grdGetStatus_replies : ∃ back : List Byte, grdGetStatusSpec.effect e s =
    .reply s { ctx := ctxByte (some (argCtx e)), back := some (8, back) } ∧ back.length = 120 := by
  refine ⟨_, rfl, image_length fun p hp => ?_⟩
  rw [List.mem_append, List.mem_append] at hp
  rcases hp with (hfield | hskips) | hcode
  · simp only [List.mem_cons, List.not_mem_nil, or_false] at hfield
    rcases hfield with rfl | rfl | rfl | rfl | rfl <;> simp [put]
  · obtain ⟨⟨n, i⟩, hi, rfl⟩ := List.mem_map.mp hskips
    have hlt := (List.mem_zipIdx hi).2.1
    simp only [Vector.length_toList] at hlt
    simp only [put, leBytes_length]
    omega
  · obtain ⟨r, -, hr⟩ := List.mem_flatMap.mp hcode
    obtain ⟨n, -, rfl⟩ := List.mem_map.mp hr
    simp only [put, leBytes_length]
    omega

end

/-! ## LUT slots (R182) -/

/-- The regions of a load. -/
def loadRegions (l : LutLoad) : List RegionId := allRegions.filter fun r => l.regions.getLsbD r.val

/-- `s` without the load `l`, which has ended. -/
def withoutLoad (l : LutLoad) (s : State) : State := { s with lutLoads := s.lutLoads.erase l }

section
variable {slot : Fin 16} {l : LutLoad} {s : State} (hload : (s.lutLoads.find? fun x => x.slot == slot) = some l)
include hload

theorem lutLoadDone_ready : lutLoadDone slot true s = endBackground l.mb 0x0506 l.tag .ok 0
    (modLuts (loadRegions l) slot (fun _ => { state := .ready, load := l.load, entries := l.entries }) (withoutLoad l s)) := by
  unfold lutLoadDone
  rw [hload]
  rfl

/-- A load that fails leaves its slots FREE. -/
theorem lutLoadDone_failed (hup : s.hostUp = true) : lutLoadDone slot false s = endBackground l.mb 0x0506 l.tag .hwFault 0
    (modLuts (loadRegions l) slot (fun _ => {}) (withoutLoad l s)) := by
  unfold lutLoadDone
  rw [hload]
  exact if_pos hup

/-- A load that fails with host memory out of reach also raises source 0x5B. -/
theorem lutLoadDone_hostDown (hdown : s.hostUp = false) : lutLoadDone slot false s = endBackground l.mb 0x0506 l.tag .hwFault 0x5B
    (raise0 0x5B (modLuts (loadRegions l) slot (fun _ => {}) (withoutLoad l s))) := by
  unfold lutLoadDone
  rw [hload]
  exact if_neg (ne_true_of_eq_false hdown)

end

end Sys2Proof.Machine

namespace Sys2Proof

open Sys2Proof.Machine

/-- Settles O35: each command is armed, begun or answered as its effect says, GRD_SET_NOISE with the core of `noiseChange_core`, a grade
with the buffers of `grdSetGrade_arms`; the end of a load is one of the three cases of `lutLoadDone`. -/
theorem gradeCommands : Obligations.GradeCommands := by
  unfold Obligations.GradeCommands
  refine ⟨fun e s => ⟨fun h => ?develop, fun h => ?noise, fun h => ?grade, fun h => ?tables, fun h => ?scaler, fun h => ?status⟩,
    fun e s => ⟨fun h => ?load, fun h => ?free⟩,
    fun slot l s hload => ⟨?ready, fun hup => ?failed, fun hdown => ?hostDown⟩⟩
  case develop => exact ⟨_, rfl, arm_banked h rfl⟩
  case noise =>
    obtain ⟨core, hcore, hchange⟩ := noiseChange_core e (takeCommand e.mb s)
    exact ⟨core, hcore, _, rfl, arm_banked h (congrArg (fun x => Effect.arm _ [x] _ _) hchange)⟩
  case grade => exact ⟨_, rfl, arm_banked h (grdSetGrade_arms e _)⟩
  case tables => exact ⟨_, rfl, arm_banked h rfl⟩
  case scaler => exact ⟨_, rfl, arm_banked h rfl⟩
  case status =>
    obtain ⟨back, heffect, hlength⟩ := grdGetStatus_replies e (takeCommand e.mb s)
    exact ⟨back, ⟨_, rfl, reply_completed h heffect rfl⟩, hlength⟩
  case load => exact ⟨_, rfl, background_begun h rfl⟩
  case free => exact ⟨_, rfl, reply_completed h rfl rfl⟩
  case ready => exact exec_of_eq rfl (lutLoadDone_ready hload)
  case failed => exact exec_of_eq rfl (lutLoadDone_failed hload hup)
  case hostDown => exact exec_of_eq rfl (lutLoadDone_hostDown hload hdown)

end Sys2Proof
end

section
/-!
PROOFS. Scan-out: copies, latches and underruns (R303 to R306, R313), and the references of the outputs: genlock (R310), the tearing
effect of TG3 (R311) and the link of TG2 (R312).
-/

namespace Sys2Proof.Machine

/-! ## One output changed -/

@[simp] theorem post_outputs (code : Nat) (c : Option CtxId) (frame : BitVec 48) (detail : Nat) (s : State) :
    (post code c frame detail s).outputs = s.outputs := by
  unfold post
  rw [forEach_same State.outputs]
  · unfold Machine.when; split <;> rfl
  · intro m t; unfold Machine.when; split <;> rfl

theorem beside_with_outputs (s t : State) (l : Vector Output 4) : beside s { t with outputs := l } = { beside s t with outputs := l } := rfl

theorem modOut_modOut (o : QuadId) (f g : Output → Output) (s : State) : modOut o g (modOut o f s) = modOut o (fun y => g (f y)) s := by
  simp [modOut]

theorem modOut_congr {o : QuadId} {f g : Output → Output} {s : State} (h : f s.outputs[o] = g s.outputs[o]) :
    modOut o f s = modOut o g s := by
  simp only [modOut, h]

/-! ## Copies (R303, R305) -/

section
variable (x : ScanBuf) (y : Output)

@[simp] theorem commit_ready : (commit x y).ready = some x := by
  unfold commit
  (repeat' split) <;> rfl

@[simp] theorem commit_copying : (commit x y).copying = y.copying := by
  unfold commit
  (repeat' split) <;> rfl

@[simp] theorem commit_shown : (commit x y).shown = y.shown := by
  unfold commit
  (repeat' split) <;> rfl

/-- The source frame that a commit replaces is a drop, unless its latch point has passed. -/
theorem commit_drops {old : ScanBuf} (h : y.ready = some old) :
    (commit x y).counts.drops = if old.late then y.counts.drops else bump y.counts.drops := by
  unfold commit
  rw [h]
  dsimp only
  split <;> rfl

end

section
variable {o : QuadId} {s : State}

theorem scanCopyDone_none (h : s.outputs[o].copying = []) : scanCopyDone o s = s := by
  unfold scanCopyDone
  rw [h]

section
variable {x : ScanBuf} {rest : List ScanBuf} (h : s.outputs[o].copying = x :: rest)
include h

theorem scanCopyDone_oldest : scanCopyDone o s =
    modCtx x.ctx (fun c => { c with buffers := c.buffers.map fun i =>
      if i.frame.toNat = x.frame then { i with readers := i.readers.erase (.output o) } else i })
      (modOut o (fun y => commit x { y with copying := rest }) s) := by
  unfold scanCopyDone
  rw [h]

theorem scanCopyDone_output : (scanCopyDone o s).outputs[o] = commit x { s.outputs[o] with copying := rest } := by
  rw [scanCopyDone_oldest h, modCtx_outputs]
  exact modOut_self ..

theorem scanCopyDone_rest : { scanCopyDone o s with outputs := s.outputs, contexts := s.contexts } = s := by
  rw [scanCopyDone_oldest h]
  rfl

theorem scanCopyDone_otherContext {d : CtxId} (hd : d ≠ x.ctx) : (scanCopyDone o s).contexts[d] = s.contexts[d] := by
  rw [scanCopyDone_oldest h, modCtx_other _ _ _ _ hd]
  rfl

end

/-! ## Latches (R304 to R306) -/

/-- What a latch takes or writes of an output that nothing after it touches: the frames ready and shown, the count of frames, the log. -/
def latchPart (y : Output) : Option ScanBuf × Option ScanBuf × BitVec 32 × List OutLog := (y.ready, y.shown, y.counts.frames, y.log)

/-- `t` is `s` but for output `o`, events and what is sent. -/
structure OnlyOutput (o : QuadId) (s t : State) : Prop where
  others : ∀ q : QuadId, q ≠ o → t.outputs[q] = s.outputs[q]
  rest : beside s { t with outputs := s.outputs } = s

/-- As `OnlyOutput`, and of output `o` what its latch wrote stands. -/
structure KeepsLatch (o : QuadId) (s t : State) : Prop extends OnlyOutput o s t where
  latch : latchPart t.outputs[o] = latchPart s.outputs[o]

variable {t u : State}

theorem onlyOutput_modOut (o : QuadId) (f : Output → Output) (s : State) : OnlyOutput o s (modOut o f s) :=
  ⟨fun q hq => modOut_other o q f s hq, rfl⟩

theorem OnlyOutput.trans (hst : OnlyOutput o s t) (htu : OnlyOutput o t u) : OnlyOutput o s u where
  others q hq := (htu.others q hq).trans (hst.others q hq)
  rest := (congrArg (fun x => beside s { x with outputs := s.outputs }) htu.rest).trans hst.rest

theorem KeepsLatch.refl (o : QuadId) (s : State) : KeepsLatch o s s := ⟨⟨fun _ _ => rfl, rfl⟩, rfl⟩

theorem KeepsLatch.trans (hst : KeepsLatch o s t) (htu : KeepsLatch o t u) : KeepsLatch o s u :=
  ⟨hst.toOnlyOutput.trans htu.toOnlyOutput, htu.latch.trans hst.latch⟩

theorem KeepsLatch.modOut (h : KeepsLatch o s t) {f : Output → Output} (hf : ∀ y, latchPart (f y) = latchPart y) :
    KeepsLatch o s (modOut o f t) :=
  h.trans ⟨onlyOutput_modOut .., (congrArg latchPart (modOut_self ..)).trans (hf _)⟩

theorem KeepsLatch.emit (h : KeepsLatch o s t) (x : Emission) : KeepsLatch o s (emit x t) := h.trans ⟨⟨fun _ _ => rfl, rfl⟩, rfl⟩

theorem KeepsLatch.post (h : KeepsLatch o s t) (code : Nat) (c : Option CtxId) (frame : BitVec 48) (detail : Nat) :
    KeepsLatch o s (post code c frame detail t) := by
  refine h.trans ⟨⟨fun q _ => by rw [post_outputs], ?_⟩, by rw [post_outputs]⟩
  rw [beside_with_outputs, beside_post, beside_self]

theorem keepsLatch_freezeEvent (o : QuadId) (n : Nat) (b : ScanBuf) (s : State) : KeepsLatch o s (freezeEvent o n b s) := by
  unfold freezeEvent
  rcases freezeStep n b s.outputs[o].freeze with ⟨f, report⟩
  have hfreeze : KeepsLatch o s (modOut o (fun y => { y with freeze := f }) s) := .modOut (.refl o s) fun _ => rfl
  dsimp only
  split
  · refine .post ?_ ..
    exact .modOut hfreeze fun _ => rfl
  · exact hfreeze

theorem keepsLatch_lateEvent (o : QuadId) (b : ScanBuf) (s : State) : KeepsLatch o s (lateEvent o b s) := by
  unfold lateEvent
  split
  · exact .refl o s
  · refine .post ?_ ..
    exact .modOut (.refl o s) fun _ => rfl

theorem keepsLatch_genlockSettled (o : QuadId) (r : Raster) (s : State) : KeepsLatch o s (genlockSettled o r s) := by
  unfold genlockSettled
  dsimp only
  split
  · split
    · refine .post ?_ ..
      exact .modOut (.refl o s) fun _ => rfl
    · exact .refl o s
  · exact .refl o s

theorem keepsLatch_sendEmbedded (o : QuadId) (s : State) : KeepsLatch o s (sendEmbedded o s) := by
  unfold sendEmbedded
  dsimp only
  split
  · exact .refl o s
  · exact (KeepsLatch.refl o s).emit _

theorem keepsLatch_sendPicture (o : QuadId) (s : State) : KeepsLatch o s (sendPicture o s) := by
  unfold sendPicture
  split
  · exact .refl o s
  · split
    · exact (KeepsLatch.refl o s).emit _
    · exact .refl o s

/-- The output once its committed frame, if there is one, is the one it shows. -/
def takeReady (y : Output) : Output := { y with shown := if y.ready.isSome then y.ready else y.shown, ready := none }

theorem takeReady_none {y : Output} (h : y.ready = none) : takeReady y = y := by
  simp only [takeReady, h, Option.isSome_none, Bool.false_eq_true, ↓reduceIte]
  rw [← h]

theorem takeReady_some {y : Output} {b : ScanBuf} (h : y.ready = some b) : takeReady y = { y with shown := some b, ready := none } := by
  simp only [takeReady, h, Option.isSome_some, ↓reduceIte]

/-- A latch takes the committed frame and logs what the output now shows; what comes after keeps that. -/
theorem outputLatch_latches {r : Raster} (hraster : s.outputs[o].raster = some r) (hup : blockDown s (0x30 + o.val) = false) :
    ∃ flags, KeepsLatch o (modOut o (fun y => logFrame flags (takeReady y)) s) (outputLatch o s) := by
  have hsent : ∀ t u : State, KeepsLatch o t u → KeepsLatch o t (
      let v := sendEmbedded o (genlockSettled o r u)
      if r.sync = 2 && !s.outputs[o].teFree then v else sendPicture o v) := by
    intro t u h
    have hv := (h.trans (keepsLatch_genlockSettled o r u)).trans (keepsLatch_sendEmbedded ..)
    dsimp only
    split
    · exact hv
    · exact hv.trans (keepsLatch_sendPicture ..)
  unfold outputLatch
  rw [hraster]
  dsimp only
  rw [if_neg (ne_true_of_eq_false hup)]
  rcases hready : s.outputs[o].ready with _ | b
  · have hlog (flags : Output → BitVec 16) : modOut o (fun y => logFrame (flags y) y) s =
        modOut o (fun y => logFrame (flags s.outputs[o]) (takeReady y)) s :=
      modOut_congr (congrArg _ (takeReady_none hready).symm)
    dsimp only
    rw [hlog]
    exact ⟨_, hsent _ _ (.refl ..)⟩
  · have hlog (flags : Output → BitVec 16) : modOut o (fun y => logFrame (flags y) { y with shown := some b, ready := none }) s =
        modOut o (fun y => logFrame (flags s.outputs[o]) (takeReady y)) s :=
      modOut_congr (congrArg _ (takeReady_some hready).symm)
    dsimp only
    rw [hlog]
    exact ⟨_, hsent _ _ ((keepsLatch_lateEvent ..).trans (keepsLatch_freezeEvent ..))⟩

/-- A latch reaches nothing but its output, events and what is sent; of its output it leaves the frame taken, counted and logged. -/
theorem outputLatch_takes {r : Raster} (hraster : s.outputs[o].raster = some r) (hup : blockDown s (0x30 + o.val) = false) :
    OnlyOutput o s (outputLatch o s)
    ∧ ∃ flags, latchPart (outputLatch o s).outputs[o] = latchPart (logFrame flags (takeReady s.outputs[o])) := by
  obtain ⟨flags, hafter⟩ := outputLatch_latches hraster hup
  exact ⟨(onlyOutput_modOut ..).trans hafter.toOnlyOutput, flags, hafter.latch.trans (congrArg latchPart (modOut_self ..))⟩

theorem outputLatch_noRaster (h : s.outputs[o].raster = none) : outputLatch o s = s := by
  unfold outputLatch
  rw [h]

theorem outputLatch_down (h : blockDown s (0x30 + o.val) = true) : outputLatch o s = s := by
  unfold outputLatch
  split
  · rfl
  · exact if_pos h

/-! ## Underruns (R313) -/

theorem scanFifoUnderrun_noRaster (h : s.outputs[o].raster = none) : scanFifoUnderrun o s = s :=
  if_pos (by rw [h]; rfl)

/-- The newest entry of the log is marked. -/
theorem scanFifoUnderrun_raster (h : s.outputs[o].raster.isSome = true) : scanFifoUnderrun o s =
    raise0 0x50 (emit (.borderLine o) (modOut o (fun y => { y with
      counts := { y.counts with underruns := bump y.counts.underruns }
      log := (y.log.take 1).map (fun l => { l with flags := l.flags ||| 16#16 }) ++ y.log.drop 1 }) s)) := by
  refine (if_neg (by rw [← Option.not_isSome, h]; decide)).trans (congrArg (fun t => raise0 0x50 (emit _ t)) (modOut_congr ?_))
  rcases s.outputs[o].log with _ | ⟨l, rest⟩ <;> rfl

end

/-! ## Genlock (R310) -/

section
variable {o : QuadId} {s : State}

/-- TG2, TG3 and a stopped output take no reference. -/
theorem genlock_notReferenced (h : 2 ≤ o.val ∨ s.outputs[o].raster = none) :
    genlockLost o s = s ∧ ∀ vertical, genlockRefEdge o vertical s = s := by
  unfold genlockLost genlockRefEdge
  rcases hraster : s.outputs[o].raster with _ | r
  · exact ⟨rfl, fun _ => rfl⟩
  · have ho : 2 ≤ o.val := h.resolve_right (by rw [hraster]; exact nofun)
    simp only [ho, decide_true, Bool.true_or, ↓reduceIte, implies_true, and_self]

section
variable {r : Raster} (hraster : s.outputs[o].raster = some r)
include hraster

theorem genlockLost_again (h : s.outputs[o].genlock = .lost) : genlockLost o s = s := by
  simp only [genlockLost, hraster, h, decide_true, Bool.or_true, ↓reduceIte]

variable (ho : o.val < 2) (hsync : r.sync = 1)
include ho hsync

omit hraster in
theorem genlock_referenced : (decide (2 ≤ o.val) || decide (r.sync ≠ 1)) = false := by
  simp only [hsync, Nat.not_le.mpr ho, ne_eq, not_true_eq_false, decide_false, Bool.or_self]

theorem genlockLost_present (h : s.outputs[o].genlock ≠ .lost) : genlockLost o s =
    post 0x0C82 none 0 (o.val + 2 ^ 8) (raise0 0x51 (modOut o (fun y => { y with
      genlock := .lost, goodV := 0, lastV := none, counts := { y.counts with losses := bump y.counts.losses } }) s)) := by
  simp only [genlockLost, hraster, genlock_referenced ho hsync, h, decide_false, Bool.or_self, Bool.false_eq_true, ↓reduceIte]

theorem genlockRefEdge_horizontal : genlockRefEdge o false s = modOut o (fun y => { y with refH := y.refH + 1 }) s := by
  simp only [genlockRefEdge, hraster, genlock_referenced ho hsync, Bool.not_false, Bool.false_eq_true, ↓reduceIte]

/-- A vertical edge with none before it closes no period. -/
theorem genlockRefEdge_first (hfirst : s.outputs[o].lastV = none) :
    genlockRefEdge o true s = modOut o (fun y => { y with goodV := 0, refH := 0, lastV := some (nowPs s) }) s := by
  simp only [genlockRefEdge, hraster, genlock_referenced ho hsync, hfirst, Bool.not_true, Bool.false_eq_true, ↓reduceIte,
    OfNat.zero_ne_ofNat, false_and]

/-- The eighth period that agrees in a row starts the relocking. -/
theorem genlockRefEdge_eighth {v : Int} (hlast : s.outputs[o].lastV = some v)
    (hagrees : agrees (nowPs s - v) (framePeriod o r) = true) (hlines : s.outputs[o].refH = sdiLines r.code)
    (hgood : 7 ≤ s.outputs[o].goodV) (hlost : s.outputs[o].genlock = .lost) :
    genlockRefEdge o true s = post 0x0C82 none 0 (o.val + 2 ^ 8 * 2)
      (modOut o (fun y => { y with goodV := 8, refH := 0, lastV := some (nowPs s), genlock := .relocking }) s) := by
  have height : Min.min (s.outputs[o].goodV + 1) 8 = 8 := Nat.min_eq_right (Nat.succ_le_succ hgood)
  simp only [genlockRefEdge, hraster, genlock_referenced ho hsync, hlast, hagrees, hlines, height, hlost, beq_self_eq_true,
    Bool.and_self, Bool.not_true, Bool.false_eq_true, ↓reduceIte, and_self, modOut_modOut]

end

end

/-! ## The tearing effect of TG3 (R311) -/

section
variable {s : State} {r : Raster} (hraster : s.outputs[(3 : QuadId)].raster = some r) (hsync : r.sync = 2)
include hraster hsync

section
variable (hfree : s.outputs[(3 : QuadId)].teFree = false)
include hfree

/-- An edge that does not come too soon restarts the frame. -/
theorem vfTeEdge_inTime (h : ∀ v, s.outputs[(3 : QuadId)].lastTe = some v → 1000 * r.period < 10 * (nowPs s - v)) :
    vfTeEdge s = sendPicture 3 (modOut 3 (fun y => { y with lastTe := some (nowPs s), teMissing := 0 }) s) := by
  simp only [vfTeEdge, hraster, hsync, hfree, ne_eq, not_true_eq_false, ↓reduceIte, Bool.false_eq_true]
  rcases hlast : s.outputs[(3 : QuadId)].lastTe with _ | v
  · rfl
  · exact if_neg (by simpa using h v hlast)

theorem vfTeEdge_early {v : Int} (hlast : s.outputs[(3 : QuadId)].lastTe = some v) (h : 10 * (nowPs s - v) ≤ 1000 * r.period) :
    vfTeEdge s = s := by
  simp only [vfTeEdge, hraster, hsync, hfree, hlast, h, Option.map_some, decide_true, ne_eq, not_true_eq_false, Bool.false_eq_true,
    ↓reduceIte]

theorem vfTeMissing_again (h : s.outputs[(3 : QuadId)].teMissing < 2) :
    vfTeMissing s = modOut 3 (fun y => { y with teMissing := y.teMissing + 1 }) s := by
  simp only [vfTeMissing, hraster, hsync, hfree, Nat.succ_lt_succ h, ne_eq, not_true_eq_false, decide_false, Bool.or_self,
    Bool.false_eq_true, ↓reduceIte]

theorem vfTeMissing_third (h : 2 ≤ s.outputs[(3 : QuadId)].teMissing) : vfTeMissing s = post 0x0C83 none 0 1 (modOut 3 (fun y => { y with
    teMissing := 0, teGood := 0, teFree := true, counts := { y.counts with losses := bump y.counts.losses } }) s) := by
  simp only [vfTeMissing, hraster, hsync, hfree, Nat.not_lt.mpr (Nat.succ_le_succ h), ne_eq, not_true_eq_false, decide_false,
    Bool.or_self, Bool.false_eq_true, ↓reduceIte]

end

/-- The third good edge in a row ends the free run. -/
theorem vfTeEdge_thirdGood {v : Int} (hfree : s.outputs[(3 : QuadId)].teFree = true) (hlast : s.outputs[(3 : QuadId)].lastTe = some v)
    (hgood : 10 * (nowPs s - v - 1000 * r.period).natAbs ≤ 1000 * r.period) (htwo : s.outputs[(3 : QuadId)].teGood = 2) :
    vfTeEdge s = post 0x0C83 none 0 0
      (modOut 3 (fun y => { y with lastTe := some (nowPs s), teGood := 3, teFree := false, teMissing := 0 }) s) := by
  simp only [vfTeEdge, hraster, hsync, hfree, hlast, hgood, htwo, Option.map_some, decide_true, ne_eq, not_true_eq_false,
    ↓reduceIte, Nat.reduceAdd, Nat.lt_irrefl, decide_false]

omit hsync in
theorem vfTeMissing_free (hfree : s.outputs[(3 : QuadId)].teFree = true) : vfTeMissing s = s := by
  simp only [vfTeMissing, hraster, hfree, Bool.or_true, ↓reduceIte]

end

/-! ## The link of TG2 (R312) -/

section
variable {s : State}

/-- TG2 with its link trained to `n` lanes at rate code `rate`. -/
def trainedOutput (n : Nat) (rate : Fin 5) (s : State) : Output := { s.outputs[(2 : QuadId)] with lanes := n, rate := rate.val }

theorem modOut_trained {n : Nat} {rate : Fin 5} (hn : 0 < n) (hrate : rate ≠ 0) :
    modOut 2 (fun y => { y with lanes := if rate = 0 then 0 else n, rate := if n = 0 then 0 else rate.val }) s =
      modOut 2 (fun _ => trainedOutput n rate s) s := by
  refine modOut_congr ?_
  simp only [hrate, hn.ne', ↓reduceIte, trainedOutput]

theorem trainedOutput_stands {n : Nat} {rate : Fin 5} :
    (modOut 2 (fun _ => trainedOutput n rate s) s).outputs[(2 : QuadId)] = trainedOutput n rate s :=
  modOut_self ..

theorem hpdRise_on (h : domainOn s 18 = true) : hpdRise s = modOut 2 (fun y => { y with hpd := true }) s := if_pos h

theorem hpdRise_off (h : domainOn s 18 = false) : hpdRise s = s := if_neg (ne_true_of_eq_false h)

theorem dpTrainingDone_noHpd (h : s.outputs[(2 : QuadId)].hpd = false) (n : Nat) (rate : Fin 5) : dpTrainingDone n rate s = s :=
  if_pos (by rw [h]; rfl)

section
variable (hhpd : s.outputs[(2 : QuadId)].hpd = true) {n : Nat} {rate : Fin 5} (hn : 0 < n) (hrate : rate ≠ 0)
include hhpd hn hrate

theorem dpTrainingDone_noRaster (hraster : s.outputs[(2 : QuadId)].raster = none) :
    dpTrainingDone n rate s = modOut 2 (fun _ => trainedOutput n rate s) s := by
  have hkept : (trainedOutput n rate s).raster = none := hraster
  simp only [dpTrainingDone, hhpd, modOut_trained hn hrate, trainedOutput_stands, hkept, Bool.not_true, Bool.false_eq_true, ↓reduceIte]

/-- An event tells of a raster that the link cannot carry. -/
theorem dpTrainingDone_raster {r : Raster} (hraster : s.outputs[(2 : QuadId)].raster = some r) : dpTrainingDone n rate s =
    let t := modOut 2 (fun _ => trainedOutput n rate s) s
    if linkCarries (trainedOutput n rate s) r then t else post 0x0C84 none 0 (n + 2 ^ 4 * rate.val) t := by
  have hkept : (trainedOutput n rate s).raster = some r := hraster
  simp only [dpTrainingDone, hhpd, modOut_trained hn hrate, trainedOutput_stands, hkept, Bool.not_true, Bool.false_eq_true, ↓reduceIte]
  rfl

end

end

end Sys2Proof.Machine

namespace Sys2Proof

open Sys2Proof.Machine

/-- Settles O51: each copy, latch, underrun and reference by its equation (a copy done by `commit`, an output not referenced by
`genlock_notReferenced`); the latch by `outputLatch_takes`: what comes after the frame is logged keeps what the latch wrote. -/
theorem scanOutAndReferences : Obligations.ScanOutAndReferences := by
  unfold Obligations.ScanOutAndReferences
  refine ⟨fun o s => ⟨fun h => ?noCopy, fun x rest h => ?copy, fun r hraster hup => ?latch, fun h => ?down, fun h => ?underrun,
      fun h => ⟨?latchStopped, ?underrunStopped⟩⟩,
    fun s => ⟨fun o r hraster ho hsync => ⟨?line, fun hfirst => ?firstEdge, fun v hlast hagrees hlines hgood hlost => ?eighthEdge,
        fun h => ?lost, fun h => ?lostAgain⟩,
      fun o h => ⟨?lostUnreferenced, fun v => ?edgeUnreferenced⟩,
      fun r hraster hsync => ⟨fun hfree h => ?inTime, fun v hfree hlast h => ?early, fun v hfree hlast hgood htwo => ?thirdGood,
        fun hfree h => ?missing, fun hfree h => ?thirdMissing, fun hfree => ?missingFree⟩,
      ⟨fun h => ?hpdOn, fun h => ?hpdOff, ?hpdDrop, fun h n r => ?noHpd,
        fun n r hhpd hn hr => ⟨fun v hraster hlink => ?carried, fun v hraster hlink => ?notCarried, fun hraster => ?noRaster⟩⟩⟩⟩
  case noCopy => exact exec_of_eq rfl (scanCopyDone_none h)
  case copy =>
    refine ⟨_, rfl, ?_, ?_, ?_, fun old hold => ?_, scanCopyDone_rest h, fun d hd => scanCopyDone_otherContext h hd⟩
    all_goals rw [scanCopyDone_output h]
    · exact commit_ready ..
    · exact commit_copying ..
    · exact commit_shown ..
    · exact commit_drops _ _ hold
  case latch =>
    obtain ⟨honly, flags, hpart⟩ := outputLatch_takes hraster hup
    simp only [latchPart, Prod.mk.injEq] at hpart
    obtain ⟨hready, hshown, hframes, hlog⟩ := hpart
    exact ⟨_, rfl, hready, hshown, hframes, congrArg List.tail hlog, honly.others, honly.rest⟩
  case down => exact exec_of_eq rfl (outputLatch_down h)
  case underrun => exact exec_of_eq rfl (scanFifoUnderrun_raster h)
  case latchStopped => exact exec_of_eq rfl (outputLatch_noRaster h)
  case underrunStopped => exact exec_of_eq rfl (scanFifoUnderrun_noRaster h)
  case line => exact exec_of_eq rfl (genlockRefEdge_horizontal hraster ho hsync)
  case firstEdge => exact exec_of_eq rfl (genlockRefEdge_first hraster ho hsync hfirst)
  case eighthEdge => exact exec_of_eq rfl (genlockRefEdge_eighth hraster ho hsync hlast hagrees hlines hgood hlost)
  case lost => exact exec_of_eq rfl (genlockLost_present hraster ho hsync h)
  case lostAgain => exact exec_of_eq rfl (genlockLost_again hraster h)
  case lostUnreferenced => exact exec_of_eq rfl (genlock_notReferenced h).1
  case edgeUnreferenced => exact exec_of_eq rfl ((genlock_notReferenced h).2 v)
  case inTime => exact exec_of_eq rfl (vfTeEdge_inTime hraster hsync hfree h)
  case early => exact exec_of_eq rfl (vfTeEdge_early hraster hsync hfree hlast h)
  case thirdGood => exact exec_of_eq rfl (vfTeEdge_thirdGood hraster hsync hfree hlast hgood htwo)
  case missing => exact exec_of_eq rfl (vfTeMissing_again hraster hsync hfree h)
  case thirdMissing => exact exec_of_eq rfl (vfTeMissing_third hraster hsync hfree h)
  case missingFree => exact exec_of_eq rfl (vfTeMissing_free hraster hfree)
  case hpdOn => exact exec_of_eq rfl (hpdRise_on h)
  case hpdOff => exact exec_of_eq rfl (hpdRise_off h)
  case hpdDrop => rfl
  case noHpd => exact exec_of_eq rfl (dpTrainingDone_noHpd h n r)
  case carried => exact exec_of_eq rfl ((dpTrainingDone_raster hhpd hn hr hraster).trans (if_pos hlink))
  case notCarried => exact exec_of_eq rfl ((dpTrainingDone_raster hhpd hn hr hraster).trans (if_neg (ne_true_of_eq_false hlink)))
  case noRaster => exact exec_of_eq rfl (dpTrainingDone_noRaster hhpd hn hr hraster)

end Sys2Proof
end

section
/-!
PROOFS. The whole machine: what a clock on an empty queue does (R323), that every command keeps every memory in canonical form (log 10) and
does not leave deadbolt (R392), and which commands move the tick counter (R39), HEARTBEAT (R64) and the strap code (R410).
-/

namespace Sys2Proof.Machine

/-! ## Canonical memories and deadbolt -/

/-- The rows that leave deadbolt or start Kongaord: the four resets, the release of the management domain, and the two starts. -/
def movesDevState : Instr → Bool
  | .resetAssert _ | .rstNCheck .. | .startWatchdogExpiry | .commandResetAssert | .mgmtRelease => true
  | .imageVerifyDone .. | .sysBootImage _ => true
  | _ => false

/-- The rules of every mailbox command but SYS_BOOT_IMAGE have an effect that is safe. -/
theorem mailboxCommand_effect_safe {c : Instr} {sp : Spec} {e : Entry} (h : mailboxCommand c = some (sp, e))
    (hboot : movesDevState c = false) (x : Entry) (s : State) : Safe s (sp.effect x s).after := by
  revert x s
  cases c <;> cases h
  case sysBootImage => cases hboot
  exacts [tickSetSourceSpec_safe, tickRateConfirmSpec_safe, tickGetStateSpec_safe, tickBudgetQuerySpec_safe, tickArmSpec_safe,
    tickDiscardSpec_safe, sysNopSpec_safe, sysIdentifySpec_safe, sysEventMaskSpec_safe, sysBlockResetSpec_safe, sysResetSpec_safe,
    sysRecoveryStatusSpec_safe, sysFlashSpec_safe, sysTwbConfigSpec_safe, ctxSetSourceSpec_safe, ctxSetPlacementSpec_safe,
    ctxLandingConfigSpec_safe, ctxStartSpec_safe, ctxStopSpec_safe, ctxTestPatternSpec_safe, ctxGetStatusSpec_safe,
    slPortConfigSpec_safe, slPortStartSpec_safe, slPortStopSpec_safe, slGetStatusSpec_safe, slRegAccessSpec_safe, slLoopbackSpec_safe,
    rawSetCfaSpec_safe, rawLoadLinearisationSpec_safe, rawSetBlackSpec_safe, rawLoadColumnSpec_safe, rawBindPixelTableSpec_safe,
    rawLoadDefectsSpec_safe, rawSetShadingSpec_safe, rawSetMergeSpec_safe, rawSetTapsSpec_safe, rawGetStatusSpec_safe,
    grdSetDevelopSpec_safe, grdSetNoiseSpec_safe, grdSetGradeSpec_safe, grdLoadGradeTablesSpec_safe, grdLoadScalerSpec_safe,
    grdLoadLutSpec_safe, grdFreeLutSpec_safe, grdGetStatusSpec_safe, statSetConfigSpec_safe, statSetTargetSpec_safe,
    statReadRecordSpec_safe, memSetModeSpec_safe, memGetStatusSpec_safe, memReadLogSpec_safe, memCalibrateSpec_safe,
    memRetrainSpec_safe, memSetPolicySpec_safe, memRepairSpec_safe, cmpSubmitSpec_safe, cmpSetHostEnginesSpec_safe, cmpCancelSpec_safe,
    cmpGetStatusSpec_safe, recMediaSpec_safe, recSetTargetSpec_safe, recStartSpec_safe, recStopSpec_safe, recTriggerSpec_safe,
    recReleaseSpec_safe, recGetStatusSpec_safe, stgSetScratchSpec_safe, stgSetRatesSpec_safe, stgGetStatusSpec_safe,
    stgReadErrorLogSpec_safe, vcSetEncodeSpec_safe, vcKeyPictureSpec_safe, vcSetVectorExportSpec_safe, vcDecodeOpenSpec_safe,
    vcDecodeSubmitSpec_safe, vcDecodeCloseSpec_safe, vcGetStatusSpec_safe, vcGetEncodeSpec_safe, outSetRasterSpec_safe,
    outBindSpec_safe, outSetOverlaySpec_safe, outSetAudioSpec_safe, outGetStatusSpec_safe, netPortConfigSpec_safe,
    netSetStreamSpec_safe, netGetStatusSpec_safe, timeGetStateSpec_safe, timeAdjustSpec_safe, timeSetPtpSpec_safe,
    timeSetTriggerSpec_safe, audSetClockSpec_safe, audPortConfigSpec_safe, audSetMaskSpec_safe, audStartSpec_safe, audStopSpec_safe,
    audGetStatusSpec_safe, posConfigSpec_safe, posControlSpec_safe, posSetCompareSpec_safe, posGetStatusSpec_safe,
    haspPortConfigSpec_safe, haspGetStatusSpec_safe, haspForwardSpec_safe, haspSetSplitSpec_safe, haspReadEventsSpec_safe,
    fltSetSeveritySpec_safe, fltGetStatusSpec_safe, fltClearSpec_safe, fltSetPinSpec_safe, fltReadHistorySpec_safe,
    fltReintegrateSpec_safe, fltInjectSpec_safe, secGetCertificateSpec_safe, secAttestSpec_safe, secImageWriteSpec_safe,
    secSetPreferredSpec_safe, secRollbackAdvanceSpec_safe, secGetStatusSpec_safe, pwrSetDomainSpec_safe, pwrSetClockSpec_safe,
    pwrSetCeilingSpec_safe, pwrGetStatusSpec_safe, thmSetThresholdsSpec_safe, thmGetStatusSpec_safe]

/-- Every other row is safe: a mailbox command by its rules, an arrival or an occurrence by the law of its operation. -/
theorem exec_safe (c : Instr) (s : State) (h : movesDevState c = false) : Answers c s (Safe s) := by
  cases hm : mailboxCommand c with
  | some p =>
    obtain ⟨sp, e⟩ := p
    exact ⟨_, exec_mailboxCommand hm s, runCommand_safe fun _ => mailboxCommand_effect_safe hm h e _⟩
  | none =>
    cases c
    case slFrameStartRx p column => exact ⟨_, rfl, receiveControl_safe _ _ _ (safe_refl s) fun b t => frameStart_safe p b (safe_refl t)⟩
    case slFrameEndRx p column => exact ⟨_, rfl, receiveControl_safe _ _ _ (safe_refl s) fun b t => frameEnd_safe p b (safe_refl t)⟩
    case slRegRespRx p column => exact ⟨_, rfl, receiveControl_safe _ _ _ (safe_refl s) fun b t => regResponse_safe p b (safe_refl t)⟩
    case twbApbaseCommit v => exact ⟨_, rfl, forEach_safe (safe_refl s) fun i t => commitAt_safe _ _ (safe_refl t)⟩
    case slBringupTimeout | slCapsResend | slPortDown | mediaCmdTimeout | flush | twbReadSnapshot =>
      refine ⟨_, rfl, ?_⟩
      split <;> simp
    case loopbackCheckerLock =>
      refine ⟨_, rfl, ?_⟩
      split
      · split <;> simp
      · simp
    case haspArm e =>
      refine ⟨_, rfl, ?_⟩
      have hrun : Safe s (runCommand haspArmSpec e s) := runCommand_safe fun _ => haspArmSpec_safe e _
      split
      · split
        · exact finishArm_safe _ hrun
        · exact hrun
      · exact hrun
    -- what is left after the mailbox commands and the rows that leave deadbolt or start Kongaord
    all_goals cases hm
    all_goals cases h
    all_goals exact ⟨_, rfl, by simp⟩

/-- Every command keeps every memory in canonical form; a reset and a start by their own laws. -/
theorem exec_canonical (c : Instr) {s : State} (hs : Canonical s) : Answers c s Canonical := by
  cases h : movesDevState c with
  | false =>
    obtain ⟨t, ht, hsafe⟩ := exec_safe c s h
    exact ⟨t, ht, safe_canon hsafe hs⟩
  | true =>
    cases c
    case resetAssert x => exact ⟨_, rfl, resetAssert_canon x hs⟩
    case rstNCheck high twa1 twa0 => exact ⟨_, rfl, rstNCheck_canon high twa1 twa0 hs⟩
    case startWatchdogExpiry => exact ⟨_, rfl, startWatchdogExpiry_canon hs⟩
    case commandResetAssert => exact ⟨_, rfl, commandResetAssert_canon hs⟩
    case mgmtRelease => exact ⟨_, rfl, mgmtRelease_canon hs⟩
    case imageVerifyDone a b f => exact ⟨_, rfl, imageVerifyDone_canon a b f hs⟩
    case sysBootImage e => exact ⟨_, rfl, sysBootImage_canon e hs⟩
    all_goals cases h

/-- The rows that may leave deadbolt: the four resets and the release of the management domain. -/
def leavesDeadbolt : Instr → Bool
  | .resetAssert _ | .rstNCheck .. | .startWatchdogExpiry | .commandResetAssert | .mgmtRelease => true
  | _ => false

/-- Every other row stays in deadbolt: neither start is accepted there, but for the restart of Kongaord alone (R393). -/
theorem exec_deadbolt (c : Instr) {s : State} (hs : s.devState = 4) (hc : leavesDeadbolt c = false) :
    Answers c s fun t => t.devState = 4 := by
  cases h : movesDevState c with
  | false =>
    obtain ⟨t, ht, hstays, -⟩ := exec_safe c s h
    exact ⟨t, ht, hstays hs⟩
  | true =>
    cases c
    case imageVerifyDone a b f => exact ⟨_, rfl, imageVerifyDone_deadbolt a b f hs⟩
    case sysBootImage e => exact ⟨_, rfl, sysBootImage_deadbolt e hs⟩
    case resetAssert | rstNCheck | startWatchdogExpiry | commandResetAssert | mgmtRelease => cases hc
    all_goals cases h

/-! ## The strap code and HEARTBEAT -/

/-- From `s` to `t` neither the strap code nor HEARTBEAT changes. -/
abbrev KeepsStrapAndBeat (s t : State) : Prop := t.boot.strap = s.boot.strap ∧ t.bar0.heartbeat = s.bar0.heartbeat

theorem hingeTick_strapAndBeat (s : State) : KeepsStrapAndBeat s (hingeTick s) := by
  unfold hingeTick
  dsimp only
  (repeat' split) <;> simp [KeepsStrapAndBeat]

theorem hinge_strapAndBeat (s : State) : KeepsStrapAndBeat s (hinge s) := by
  unfold hinge hingeStep3
  split <;> simp [KeepsStrapAndBeat, hingeTick_strapAndBeat, Keeps]

theorem joinManager_strapAndBeat (b : Broadcast) (lead : Nat) (s : State) : KeepsStrapAndBeat s (joinManager b lead s) := by
  simp [joinManager, KeepsStrapAndBeat]

theorem hingeBroadcastRx_strapAndBeat (p : Fin 2) (b : Broadcast) (s : State) : KeepsStrapAndBeat s (hingeBroadcastRx p b s) := by
  unfold hingeBroadcastRx
  dsimp only
  (repeat' split) <;> simp [KeepsStrapAndBeat, joinManager_strapAndBeat, Keeps]

/-! ## The management tick -/

/-- A management tick of a Kongaord that runs counts in HEARTBEAT, and moves the rotation of the mailboxes (R64, R78). -/
def beat (s : State) : State :=
  { s with bar0 := { s.bar0 with heartbeat := s.bar0.heartbeat + 1 }, cmd := { s.cmd with rotation := s.cmd.rotation + 1 } }

/-- All else that a management tick does keeps what few commands change. -/
theorem managementTick_running {s : State} (hon : mgmtOn s = true) (hk : s.kongaord = true) (temps : List Int) :
    Keeps (beat s) (managementTick temps s) := by
  simp [managementTick, hon, hk, Keeps, beat]

/-- Whether Kongaord runs or not, a management tick keeps the tick counter, its hinges and the strap code. -/
theorem managementTick_counters (temps : List Int) (s : State) : let t := managementTick temps s
    t.tick.counter = s.tick.counter ∧ t.tick.hinges = s.tick.hinges ∧ t.boot.strap = s.boot.strap := by
  unfold managementTick
  (repeat' split) <;> simp [Keeps]

/-! ## The strap's latch and the resets -/

theorem strapLatch_keeps (l : List Nat) (s : State) : { strapLatch l s with boot := s.boot } = s := by
  unfold strapLatch
  split <;> rfl

theorem resetAssert_strap (x : ResetSource) (s : State) : (resetAssert x s).boot.strap = s.boot.strap := by
  unfold resetAssert
  (repeat' split) <;> rfl

theorem rstNCheck_strap (high twa1 twa0 : Bool) (s : State) : (rstNCheck high twa1 twa0 s).boot.strap = s.boot.strap := by
  unfold rstNCheck
  split
  · rfl
  · split
    · rfl
    · exact resetAssert_strap ..

theorem startWatchdogExpiry_strap (s : State) : (startWatchdogExpiry s).boot.strap = s.boot.strap := by
  unfold startWatchdogExpiry
  split
  · rfl
  · exact resetAssert_strap ..

theorem commandResetAssert_strap (s : State) : (commandResetAssert s).boot.strap = s.boot.strap := by
  unfold commandResetAssert
  split
  · exact resetAssert_strap ..
  · rfl

/-! ## A clock on an empty queue (R323) -/

theorem advanceTime_eq (s : State) : advanceTime s =
    { s with time := { s.time with now := if domainOn s 23 then s.time.now + s.time.inc else s.time.now } } := by
  unfold advanceTime
  split <;> rfl

theorem step_nil {s : State} (h : s.pending = []) : step s = .next (clock s) := by
  simp only [step, h]

theorem clock_audioOff {s : State} (h : domainOn s 22 = false) : clock s = advanceTime { s with clk := s.clk + 1 } := by
  have hoff : domainOn (advanceTime { s with clk := s.clk + 1 }) 22 = false := by
    rw [advanceTime_eq]
    exact h
  simp [clock, hoff]

/-- A clock goes on by one, and beside it keeps what few commands change. -/
theorem clock_keeps (s : State) : Keeps { s with clk := s.clk + 1 } (clock s) := by
  unfold clock
  dsimp only
  split <;> simp [Keeps]

end Sys2Proof.Machine

namespace Sys2Proof

open Sys2Proof.Machine

/-- Settles O2: a clock keeps the queue and the counters (`clock_keeps`), and with AUDIO-POS off it is the advance of the time counter
alone (`clock_audioOff`). -/
theorem idleStepIsOneClock : Obligations.IdleStepIsOneClock := by
  unfold Obligations.IdleStepIsOneClock
  intro s hs
  obtain ⟨hpending, hclk, hcounter, -⟩ := clock_keeps s
  refine ⟨clock s, step_nil hs, hpending.trans hs, hclk, hcounter, fun hoff => ?_⟩
  rw [clock_audioOff hoff, advanceTime_eq]
  exact ⟨rfl, rfl, rfl⟩

/-- Settles O4: every memory is empty at reset. -/
theorem resetIsCanonical : Obligations.ResetIsCanonical := by
  unfold Obligations.ResetIsCanonical Canonical
  decide

/-- Settles O5: a clock is safe (`clock_safe`), and every command keeps the canonical form (`exec_canonical`). -/
theorem stepKeepsCanonicalMemory : Obligations.StepKeepsCanonicalMemory := by
  unfold Obligations.StepKeepsCanonicalMemory
  intro s t hs hstep
  cases hqueue : s.pending with
  | nil =>
    rw [step_nil hqueue] at hstep
    cases hstep
    exact safe_canon (clock_safe (safe_refl s)) hs
  | cons c rest =>
    obtain ⟨u, hu, hcanon⟩ := exec_canonical c (s := { s with pending := rest }) hs
    rw [step_cons hqueue, hu] at hstep
    cases hstep
    exact hcanon

/-- Settles O7: of the rows that move a count (`exec_keeps`), a management tick and the strap's latch leave the tick counter. -/
theorem tickCounterMovesAtHingesAlone : Obligations.TickCounterMovesAtHingesAlone := by
  unfold Obligations.TickCounterMovesAtHingesAlone
  intro c s t hexec
  cases h : movesCounts c with
  | false =>
    obtain ⟨u, hu, -, -, hcounter, hhinges, -⟩ := exec_keeps c s h
    rw [hu] at hexec
    cases hexec
    cases c
    case hinge | hingeBroadcastRx | resetAssert | rstNCheck | startWatchdogExpiry | commandResetAssert => trivial
    all_goals exact ⟨hcounter, hhinges⟩
  | true =>
    cases c
    case managementTick temps =>
      cases hexec
      obtain ⟨hcounter, hhinges, -⟩ := managementTick_counters temps s
      exact ⟨hcounter, hhinges⟩
    case strapLatch l =>
      cases hexec
      have htick := congrArg State.tick (strapLatch_keeps l s)
      exact ⟨congrArg TickGen.counter htick, congrArg TickGen.hinges htick⟩
    case hinge | hingeBroadcastRx | resetAssert | rstNCheck | startWatchdogExpiry | commandResetAssert => trivial
    all_goals cases h

/-- Settles O8: deadbolt is left by no other row (`exec_deadbolt`); of the rows that move a count (`exec_keeps`), each keeps the strap code,
but for its latch, and HEARTBEAT, but for a management tick (`managementTick_running`) and the resets. -/
theorem fewCommandsLeaveDeadboltOrMoveTheStrap : Obligations.FewCommandsLeaveDeadboltOrMoveTheStrap := by
  unfold Obligations.FewCommandsLeaveDeadboltOrMoveTheStrap
  refine ⟨fun c s t hs hexec => ?deadbolt, fun temps s hon hk => ?beats, fun c s t hexec => ?counts⟩
  case deadbolt =>
    cases h : leavesDeadbolt c with
    | false =>
      obtain ⟨u, hu, hstays⟩ := exec_deadbolt c hs h
      rw [hu] at hexec
      cases hexec
      cases c
      case resetAssert | rstNCheck | startWatchdogExpiry | commandResetAssert | mgmtRelease => trivial
      all_goals exact hstays
    | true =>
      cases c
      case resetAssert | rstNCheck | startWatchdogExpiry | commandResetAssert | mgmtRelease => trivial
      all_goals cases h
  case beats =>
    obtain ⟨-, -, -, -, -, hbeat⟩ := managementTick_running hon hk temps
    exact ⟨_, rfl, hbeat⟩
  case counts =>
    cases h : movesCounts c with
    | false =>
      obtain ⟨u, hu, -, -, -, -, hstrap, hbeat⟩ := exec_keeps c s h
      rw [hu] at hexec
      cases hexec
      cases c
      case managementTick | strapLatch | resetAssert | rstNCheck | startWatchdogExpiry | commandResetAssert => cases h
      all_goals exact ⟨hstrap, hbeat⟩
    | true =>
      cases c
      case hinge => cases hexec; exact hinge_strapAndBeat s
      case hingeBroadcastRx p b => cases hexec; exact hingeBroadcastRx_strapAndBeat p b s
      case managementTick temps => cases hexec; exact (managementTick_counters temps s).2.2
      case strapLatch l => cases hexec; exact congrArg (fun u => u.bar0.heartbeat) (strapLatch_keeps l s)
      case resetAssert x => cases hexec; exact resetAssert_strap x s
      case rstNCheck high twa1 twa0 => cases hexec; exact rstNCheck_strap high twa1 twa0 s
      case startWatchdogExpiry => cases hexec; exact startWatchdogExpiry_strap s
      case commandResetAssert => cases hexec; exact commandResetAssert_strap s
      all_goals cases h

end Sys2Proof
end

section

/-! PROOFS. What the states of an accepted command say. -/

namespace Sys2Proof.Machine

/-- A list of checks passes when none of its conditions holds. -/
theorem firstFail_eq_none {l : List (Bool × Fail)} : firstFail l = none ↔ ∀ x ∈ l, x.1 = false := by
  simp [firstFail]

/-- A check that passes found its condition true. -/
theorem of_check_none {p : Prop} [Decidable p] {f : Fail} (h : (if p then none else some f) = none) : p := by
  by_contra hp
  rw [if_neg hp] at h
  cases h

/-- A check that passes found its failing condition false. -/
theorem not_of_check_none {p : Prop} [Decidable p] {f : Fail} (h : (if p then some f else none) = none) : ¬ p := by
  intro hp
  rw [if_pos hp] at h
  cases h

/-- A mask only grows as its bits are added. -/
theorem le_foldl_bits (p : Nat → Bool) (l : List Nat) (m : Nat) : m ≤ l.foldl (fun m i => m + bit (p i) * 2 ^ i) m := by
  induction l generalizing m with
  | nil => exact le_refl m
  | cons i l ih => exact (Nat.le_add_right _ _).trans (ih _)

/-- A position whose bit is set is counted in the mask. -/
theorem pow_le_foldl_bits {p : Nat → Bool} {i : Nat} (hp : p i = true) {l : List Nat} (hi : i ∈ l) (m : Nat) :
    2 ^ i ≤ l.foldl (fun m i => m + bit (p i) * 2 ^ i) m := by
  induction l generalizing m with
  | nil => cases hi
  | cons j l ih =>
    rcases List.mem_cons.mp hi with rfl | hi
    · refine le_trans ?_ (le_foldl_bits p l _)
      simp [hp, bit]
    · exact ih hi _

/-- A mask reads zero when no position satisfies its predicate. -/
theorem of_maskOf_eq_zero {n : Nat} {p : Nat → Bool} (h : maskOf n p = 0) {i : Nat} (hi : i < n) : p i = false := by
  by_contra hp
  have hle := pow_le_foldl_bits (Bool.eq_true_of_not_eq_false hp) (List.mem_range.mpr hi) 0
  change 2 ^ i ≤ maskOf n p at hle
  rw [h] at hle
  exact absurd hle (by simp)

/-- The check for a device at rest passes with every context FREE. -/
theorem free_of_allFree {s : State} (h : allFree s = none) (c : CtxId) : s.contexts[c].state = .free := by
  have hbits := of_maskOf_eq_zero (of_check_none h) c.isLt
  by_contra hc
  have hany : ((allCtx.filter fun c => s.contexts[c].state != .free).any fun d => d.val == c.val) = true :=
    List.any_eq_true.mpr ⟨c, List.mem_filter.mpr ⟨mem_allCtx c, bne_iff_ne.mpr hc⟩, beq_self_eq_true _⟩
  rw [hany] at hbits
  cases hbits

end Sys2Proof.Machine

end

section

/-! PROOFS. The commands of the system, the sensor ports and the memory. -/

namespace Sys2Proof.Machine

/-- A port is started from OFF alone. -/
theorem off_of_accepts_portStart {e : Entry} {s : State} (h : Accepts slPortStartSpec e s) :
    s.ports[argPort e].state = .off := by
  have hstates : (if s.ports[argPort e].state != .off || s.ports[argPort e].cfg.isNone then
      some (wrong (Config.openDetail 0x0302 0x8004)) else if (groupOf (takeCommand e.mb s) (argPort e)).all
        fun x => domainOn (takeCommand e.mb s) (portDomain x) then none else some (wrong 5)) = none := accepts_states h
  by_contra hne
  rw [if_pos (Bool.or_eq_true_iff.mpr (.inl (bne_iff_ne.mpr hne)))] at hstates
  cases hstates

/-- A sensor's registers are reached through an ACTIVE port alone. -/
theorem active_of_accepts_regAccess {e : Entry} {s : State} (h : Accepts slRegAccessSpec e s) :
    s.ports[argPort e].state = .active := of_check_none (accepts_states h)

/-- The interleave changes with every context FREE alone. -/
theorem free_of_accepts_setMode {e : Entry} {s : State} (h : Accepts memSetModeSpec e s) (c : CtxId) :
    s.contexts[c].state = .free :=
  free_of_allFree (s := takeCommand e.mb s) (Option.or_eq_none_iff.mp (accepts_states h)).1 c

/-- A row is repaired with every context FREE alone. -/
theorem free_of_accepts_repair {e : Entry} {s : State} (h : Accepts memRepairSpec e s) (c : CtxId) :
    s.contexts[c].state = .free :=
  free_of_allFree (s := takeCommand e.mb s) (Option.or_eq_none_iff.mp (accepts_states h)).1 c

/-- A pass is scheduled on a stack out of self-refresh alone. -/
theorem awake_of_accepts_retrain {e : Entry} {s : State} (h : Accepts memRetrainSpec e s) :
    s.mem.stks[argStack e].state ≠ .selfRefresh := fun hs =>
  not_of_check_none (accepts_states h) (beq_iff_eq.mpr hs)

/-- What a new interleave writes after the stacks have lost what they held. -/
theorem interleave_eq (b : Bool) (t : State) : ({ modMem (fun x => { x with interleaved := b }) t with ns2 := [] } : State) =
    { t with mem := { t.mem with interleaved := b }, ns2 := [] } := rfl

/-- A new interleave loses what the stacks and namespace 2 held. -/
theorem remap_eq (b : Bool) (s : State) : let t := forEach allRegions (fun i => forgetStack i false) s
    remap b s = { t with mem := { t.mem with interleaved := b }, ns2 := [] } :=
  interleave_eq b (forEach allRegions (fun i => forgetStack i false) s)

/-- MEM_SET_MODE: the interleave it finds stays. -/
theorem memSetMode_effect (e : Entry) (s : State) : memSetModeSpec.effect e s =
    .reply (if bit s.mem.interleaved = arg e 0 1 then s else remap (arg e 0 1 == 1) s) {} :=
  (apply_ite (Effect.reply · {}) _ s (remap (arg e 0 1 == 1) s)).symm

/-- MEM_RETRAIN: all pseudo-channels, or the one it names. -/
theorem scheduleRetrain_named (m : StackId) (n : Nat) (s : State) :
    scheduleRetrain m (if n = 0xFF then List.range 32 else [n]) s =
      modStack m (fun x => { x with retrain := (List.range 32).filter fun i => x.retrain.contains i || n == 0xFF || i == n }) s := by
  refine congrArg (modStack m · s) (funext fun x => ?_)
  congr 1
  refine List.filter_congr fun i hi => ?_
  have hi : i < 32 := List.mem_range.mp hi
  rw [Bool.eq_iff_iff]
  by_cases hn : n = 0xFF
  · simp [hn, hi]
  · simp [hn]

/-- MEM_RETRAIN: how many guards its passes wait for. -/
theorem memRetrain_effect (e : Entry) (s : State) :
    let x := s.mem.stks[argStack e]
    let due := (List.range 32).filter fun i => x.retrain.contains i || arg e 1 1 == 0xFF || i == arg e 1 1
    let ahead := if arg e 1 1 = 0xFF then due.length else (due.filter fun i => i ≤ arg e 1 1).length
    memRetrainSpec.effect e s = .reply (modStack (argStack e) (fun x => { x with retrain := due }) s)
      { detail := 2 * ahead - bit x.segment } := by
  intro x due ahead
  have h := scheduleRetrain_named (argStack e) (arg e 1 1) s
  have hx : (scheduleRetrain (argStack e) (if arg e 1 1 = 0xFF then List.range 32 else [arg e 1 1]) s).mem.stks[argStack e] =
      { x with retrain := due } := by
    rw [h]
    simp [modStack, modMem, x, due]
  simp only [memRetrainSpec]
  rw [hx, h]
  rfl

end Sys2Proof.Machine

namespace Sys2Proof
open Sys2Proof.Machine

/-- Settles O22: each query is accepted, answers from the state and leaves it. -/
theorem systemQueries : Obligations.SystemQueries := by
  unfold Obligations.SystemQueries
  refine fun e s => ⟨fun h => ?nop, fun h => ?identify, fun h => ?mask, fun h => ?twb, fun h => ?status⟩
  case nop => exact ⟨_, rfl, reply_completed h rfl rfl⟩
  case identify => exact ⟨_, rfl, reply_completed h rfl rfl⟩
  case mask => exact ⟨_, rfl, reply_completed h rfl rfl⟩
  case twb => exact ⟨_, rfl, reply_completed h rfl rfl⟩
  case status => exact ⟨_, rfl, reply_completed h rfl rfl⟩

/-- Settles O30, command by command. -/
theorem sensorPortCommands : Obligations.SensorPortCommands := by
  unfold Obligations.SensorPortCommands
  refine fun e s => ⟨fun h => ?config, fun h => ⟨off_of_accepts_portStart h, ?start⟩, fun h => ?stop, fun h => ?status,
    fun h => ⟨active_of_accepts_regAccess h, ?access⟩, fun h => ?loopback⟩
  case config => exact ⟨_, rfl, reply_completed h rfl rfl⟩
  case start => exact ⟨_, rfl, reply_completed h rfl rfl⟩
  case stop => exact ⟨_, rfl, reply_completed h rfl rfl⟩
  case status => exact ⟨_, rfl, reply_completed h rfl rfl⟩
  case access => exact congrArg _ (execute_inExecution h rfl)
  case loopback => exact ⟨_, rfl, reply_completed h rfl rfl⟩

/-- Settles O39, command by command. -/
theorem memoryCommands : Obligations.MemoryCommands := by
  unfold Obligations.MemoryCommands
  refine fun e s => ⟨fun h => ⟨free_of_accepts_setMode h, ?mode⟩, fun h => ?status, fun h => ?log, fun h => ?calibrate,
    fun h => ⟨awake_of_accepts_retrain h, ?retrain⟩, fun h => ?policy, fun h => ⟨free_of_accepts_repair h, ?repair⟩⟩
  case mode =>
    intro t
    rw [← remap_eq]
    exact ⟨_, rfl, reply_completed h (memSetMode_effect _ _) rfl⟩
  case status => exact ⟨_, rfl, reply_completed h rfl rfl⟩
  case log => exact ⟨_, rfl, reply_completed h rfl rfl⟩
  case calibrate => exact ⟨_, rfl, background_begun h rfl⟩
  case retrain => exact ⟨_, rfl, reply_completed h (memRetrain_effect _ _) rfl⟩
  case policy => exact ⟨_, rfl, reply_completed h rfl rfl⟩
  case repair => exact ⟨_, rfl, background_begun h rfl⟩

end Sys2Proof

end

section

/-! PROOFS. The commands of recording, the outputs, the network and time. -/

namespace Sys2Proof.Machine

/-- A media port takes one operation at a time. -/
theorem idle_of_accepts_media {e : Entry} {s : State} (h : Accepts recMediaSpec e s) : s.media[argMedia e].op = none := by
  have hstates := firstFail_eq_none.mp (accepts_states h)
  exact Option.isSome_eq_false_iff.mp (hstates _ (List.mem_cons_of_mem _ (List.mem_cons_of_mem _ (List.mem_singleton.mpr rfl))))
    |> Option.isNone_iff_eq_none.mp

/-- A clip is started with none open alone. -/
theorem noClip_of_accepts_start {e : Entry} {s : State} (h : Accepts recStartSpec e s) : clipOpen s (argCtx e) = false :=
  firstFail_eq_none.mp (Option.or_eq_none_iff.mp (accepts_states h)).2 _ (List.mem_cons_of_mem _ (List.mem_singleton.mpr rfl))

/-- A clip that is stopped stands open. -/
theorem openClip_of_accepts_stop {e : Entry} {s : State} (h : Accepts recStopSpec e s) :
    ∃ k, openClipOf (takeCommand e.mb s) (argCtx e) = some k := by
  have hopen := not_of_check_none (Option.or_eq_none_iff.mp (accepts_states h)).2
  exact Option.ne_none_iff_exists'.mp fun hn => hopen (Option.isNone_iff_eq_none.mpr hn)

/-- A ring is triggered when it stands armed alone. -/
theorem armed_of_accepts_trigger {e : Entry} {s : State} (h : Accepts recTriggerSpec e s) : ringArmed s (argCtx e) = true := by
  have harmed := of_check_none (Option.or_eq_none_iff.mp (accepts_states h)).2
  exact (Bool.and_eq_true_iff.mp harmed).1

/-- REC_STOP with clip `k` open notes its tag at the clip and arms the stop. -/
theorem recStop_effect {e : Entry} {s : State} {k : Clip} (h : openClipOf s (argCtx e) = some k) :
    recStopSpec.effect e s = .background (armAt (reachable s) (nextSeq s.cmd.accepted).toNat [.recStop (argCtx e) 0]
      (modClip (argCtx e) k.id (fun k => { k with stop := some (e.mb, e.tag) }) s)) (some (argCtx e))
      (firstFrameAt s (argCtx e) (reachable s)) := by
  simp only [recStopSpec, h]

/-- OUT_BIND of 0xFF takes the output from the bank it is bound in. -/
theorem outBind_effect_off {e : Entry} {s : State} (h : arg e 1 1 = 0xFF) :
    let was := ((boundTo (projected s) (argOut e)).map Prod.fst).toList
    outBindSpec.effect e s = .arm s (was.map fun c => .bind (argOut e) c none) was.head? 0 := by
  simp only [outBindSpec, outBindSpec.changes, outBindSpec.bound, if_pos h]

/-- OUT_BIND of a grade takes the output from another bank and binds it in the one it names. -/
theorem outBind_effect_on {e : Entry} {s : State} (h : arg e 1 1 ≠ 0xFF) :
    let was := ((boundTo (projected s) (argOut e)).map Prod.fst).toList
    let c : CtxId := ⟨arg e 2 1 % 8, Nat.mod_lt _ (by decide)⟩
    let g : GradeId := ⟨arg e 1 1 % 4, Nat.mod_lt _ (by decide)⟩
    outBindSpec.effect e s = .arm s (((was.filter fun d => d != c).map fun d => .bind (argOut e) d none) ++
        [.bind (argOut e) c (some ⟨g, arg e 4 2, arg e 6 2⟩)]) (some c)
      (ceilDiv (gradeSize (shadow s c).grades[g]) 32) := by
  intro was c g
  simp only [outBindSpec, outBindSpec.changes, outBindSpec.bound, if_neg h]
  rfl

/-- OUT_SET_OVERLAY names the context the output is bound to. -/
theorem outSetOverlay_effect (e : Entry) (s : State) :
    outSetOverlaySpec.effect e s = .arm s [outSetOverlaySpec.change e]
      ((boundTo (projected s) (argOut e)).map Prod.fst).toList.head? 0 := by
  simp only [outSetOverlaySpec, Option.head?_toList]

end Sys2Proof.Machine

namespace Sys2Proof
open Sys2Proof.Machine

/-- Settles O44, command by command. -/
theorem recordingCommands : Obligations.RecordingCommands := by
  unfold Obligations.RecordingCommands
  refine fun e s => ⟨fun h => ⟨idle_of_accepts_media h, ?media⟩, fun h => ?target, fun h => ⟨noClip_of_accepts_start h, ?start⟩,
    fun h => ?stop, fun h => ⟨armed_of_accepts_trigger h, ?trigger⟩, fun h => ?release, fun h => ?status⟩
  case media => exact ⟨_, rfl, background_begun h rfl⟩
  case target => exact ⟨_, rfl, arm_banked h rfl⟩
  case start => exact ⟨_, rfl, arm_banked h rfl⟩
  case stop =>
    obtain ⟨k, hk⟩ := openClip_of_accepts_stop h
    exact ⟨k, hk, _, rfl, background_begun h (recStop_effect hk)⟩
  case trigger => exact ⟨_, rfl, arm_banked h rfl⟩
  case release => exact ⟨_, rfl, reply_completed h rfl rfl⟩
  case status => exact ⟨_, rfl, reply_completed h rfl rfl⟩

/-- Settles O50, command by command. -/
theorem outputCommands : Obligations.OutputCommands := by
  unfold Obligations.OutputCommands
  refine fun e s => ⟨fun h => ?raster, fun h hoff => ?unbind, fun h hon => ?bind, fun h => ?overlay, fun h => ?audio, fun h => ?status⟩
  case raster => exact ⟨_, rfl, arm_banked h rfl⟩
  case unbind => exact ⟨_, rfl, arm_banked h (outBind_effect_off hoff)⟩
  case bind => exact ⟨_, rfl, arm_banked h (outBind_effect_on hon)⟩
  case overlay => exact ⟨_, rfl, arm_banked h (outSetOverlay_effect _ _)⟩
  case audio => exact ⟨_, rfl, arm_banked h rfl⟩
  case status => exact ⟨_, rfl, reply_completed h rfl rfl⟩

end Sys2Proof

end

section

/-! PROOFS. The commands of the network, time, audio and the position channels. -/

namespace Sys2Proof.Machine

/-- The time of the day is adjusted with PTP off alone. -/
theorem ptpOff_of_accepts_adjust {e : Entry} {s : State} (h : Accepts timeAdjustSpec e s) : s.ptp.cfg.on = false :=
  Bool.eq_false_iff.mpr (not_of_check_none (accepts_states h))

/-- NET_SET_STREAM of kind 0 empties the stream of the context that owns it. -/
theorem netSetStream_effect_off {e : Entry} (s : State) (h : arg e 1 1 = 0) :
    netSetStreamSpec.effect e s = .arm s [.stream (argStream e) {}] (streamOwner s (argStream e)) 0 := by
  have hv : streamOfEntry e = {} := if_pos h
  have hc : streamCtx e s = streamOwner s (argStream e) := by
    simp [streamCtx, h]
  simp only [netSetStreamSpec, hv, hc]
  rfl

/-- NET_SET_STREAM of kind 2 streams audio, of no context. -/
theorem netSetStream_effect_audio {e : Entry} (s : State) (h : arg e 1 1 = 2) :
    netSetStreamSpec.effect e s = .arm s [.stream (argStream e) (streamOfEntry e)] none (Config.openDetail 0x0D02 0) := by
  have hk : (streamOfEntry e).kind = 2 := by
    simp [streamOfEntry, h]
  have hc : streamCtx e s = none := by
    simp [streamCtx, h]
  simp [netSetStreamSpec, hk, hc]

/-- NET_SET_STREAM of kinds 1 and 3 streams frames of the context it names. -/
theorem netSetStream_effect_frames {e : Entry} (s : State) (h : arg e 1 1 = 1 ∨ arg e 1 1 = 3) :
    let v := streamOfEntry e
    let c : CtxId := ⟨arg e 3 1 % 8, Nat.mod_lt _ (by decide)⟩
    netSetStreamSpec.effect e s = .arm s [.stream (argStream e) v] (some c) (frameWireBits v (streamGrade (shadow s c) v)) := by
  intro v c
  have hk : v.kind = arg e 1 1 := by
    rcases h with h | h <;> simp [v, streamOfEntry, h]
  have h0 : v.kind ≠ 0 := by omega
  have h2 : v.kind ≠ 2 := by omega
  have hc : streamCtx e s = some c := if_pos h
  simp only [netSetStreamSpec, hc]
  rw [if_neg h0, if_neg h2]

/-- TIME_ADJUST of kind 1 steps the counter by a signed number of nanoseconds. -/
theorem timeAdjust_effect_by {e : Entry} (s : State) (h : arg e 0 1 = 1) :
    timeAdjustSpec.effect e s = .reply (stepTime (signed 64 (arg e 8 8) * 2 ^ 32) s) {} := by
  simp only [timeAdjustSpec, h]
  rfl

/-- TIME_ADJUST of kind 2 steps the counter to a time. -/
theorem timeAdjust_effect_to {e : Entry} (s : State) (h : arg e 0 1 = 2) :
    timeAdjustSpec.effect e s =
      .reply (stepTime (((arg e 8 8 * 1000000000 + arg e 16 4) * 2 ^ 32 : Nat) - (s.time.now : Int)) s) {} := by
  simp only [timeAdjustSpec, h]
  rfl

/-- The audio clock changes with every port stopped alone. -/
theorem stopped_of_accepts_setClock {e : Entry} {s : State} (h : Accepts audSetClockSpec e s) (p : QuadId) :
    s.audio.ports[p].running = false := by
  have hnone := not_of_check_none (Option.or_eq_none_iff.mp (accepts_states h)).2
  have hall : ∀ q : QuadId, q ∈ allAudio := by decide
  exact Bool.eq_false_iff.mpr fun hr => hnone (List.any_eq_true.mpr ⟨p, hall p, hr⟩)

/-- AUD_START for a time: the ports wait for it. -/
theorem audStart_effect_timed {e : Entry} (s : State) (h : arg e 1 1 = 1) : audStartSpec.effect e s =
    .reply (forEach (maskPorts e) (fun p => modAud p fun y => { y with startAt := some (arg e 8 8 * 1000000000 + arg e 16 4) }) s)
      { detail := Config.openDetail 0x0E04 0 } :=
  if_pos h

/-- A held AUD_START is banked. -/
theorem audStart_effect_held {e : Entry} (s : State) (h : arg e 1 1 ≠ 1) (hh : holds e = true) :
    audStartSpec.effect e s = .arm s [.audioStart (BitVec.ofNat 4 (arg e 0 1))] none (Config.openDetail 0x0E04 1) :=
  (if_neg h).trans (if_pos hh)

/-- The first hinge a start can reach. -/
theorem reachable_max (s : State) (t : Nat) : (if t < reachable s then reachable s else t) = Max.max t (reachable s) := by
  split <;> omega

/-- AUD_START for a hinge is armed for it, or for the first one it can reach. -/
theorem audStart_effect_armed {e : Entry} (s : State) (h : arg e 1 1 ≠ 1) (hh : holds e = false) :
    let t := Max.max (arg e 8 8) (reachable s)
    audStartSpec.effect e s = .reply (armAt t (nextSeq s.cmd.accepted).toNat [.audioStart (BitVec.ofNat 4 (arg e 0 1))] s)
      { status := if arg e 8 8 = 0 ∨ arg e 8 8 < reachable s then .okLate else .accepted, frame := t % 2 ^ 48
        detail := Config.openDetail 0x0E04 1 } := by
  intro t
  have ht := reachable_max s (arg e 8 8)
  refine (if_neg h).trans ((if_neg (by simp [hh])).trans ?_)
  simp only [ht, t]

/-- A position channel is configured while it is off alone. -/
theorem channelOff_of_accepts_config {e : Entry} {s : State} (h : Accepts posConfigSpec e s) : s.pos[argChannel e].on = false :=
  Bool.eq_false_iff.mpr (not_of_check_none (Option.or_eq_none_iff.mp (accepts_states h)).2)

/-- POS_CONTROL answers the position it leaves. -/
theorem posControl_effect (e : Entry) (s : State) :
    let q := argChannel e
    let c := s.pos[q]
    let c' : PosChannel := if arg e 1 1 = 0 then { c with on := false } else if arg e 1 1 = 1 then (if c.on then c else enablePos c)
      else setPos (if c.cfg.modulus = 0 then signed 32 (arg e 4 4) else arg e 4 4) c
    posControlSpec.effect e s = .reply { s with pos := s.pos.set q c' } { detail := (c'.p % 2 ^ 64).toNat } := by
  intro q c c'
  have hp : (modPos q (fun _ => c') s).pos[q] = c' := modPos_self q (fun _ => c') s
  change Effect.reply (modPos q (fun _ => c') s) { detail := ((modPos q (fun _ => c') s).pos[q].p % 2 ^ 64).toNat } = _
  rw [hp]
  rfl

end Sys2Proof.Machine

namespace Sys2Proof
open Sys2Proof.Machine

/-- Settles O52, command by command. -/
theorem networkAndTimeCommands : Obligations.NetworkAndTimeCommands := by
  unfold Obligations.NetworkAndTimeCommands
  refine fun e s => ⟨fun h => ?config, fun h => ⟨fun hk => ?off, fun hk => ?audio, fun hk => ?frames⟩, fun h => ?status,
    fun h => ?state, fun h => ⟨ptpOff_of_accepts_adjust h, fun hk => ?increment, fun hk => ?stepBy, fun hk => ?stepTo⟩,
    fun h => ?ptp, fun h => ?trigger⟩
  case config => exact ⟨_, rfl, reply_completed h rfl rfl⟩
  case off => exact ⟨_, rfl, arm_banked h (netSetStream_effect_off _ hk)⟩
  case audio => exact ⟨_, rfl, arm_banked h (netSetStream_effect_audio _ hk)⟩
  case frames => exact ⟨_, rfl, arm_banked h (netSetStream_effect_frames _ hk)⟩
  case status => exact ⟨_, rfl, reply_completed h rfl rfl⟩
  case state => exact ⟨_, rfl, reply_completed h rfl rfl⟩
  case increment => exact ⟨_, rfl, reply_completed h (if_pos hk) rfl⟩
  case stepBy => exact ⟨_, rfl, reply_completed h (timeAdjust_effect_by _ hk) rfl⟩
  case stepTo => exact ⟨_, rfl, reply_completed h (timeAdjust_effect_to _ hk) rfl⟩
  case ptp => exact ⟨_, rfl, reply_completed h rfl rfl⟩
  case trigger => exact ⟨_, rfl, arm_banked h rfl⟩

/-- Settles O54, command by command. -/
theorem audioAndPositionCommands : Obligations.AudioAndPositionCommands := by
  unfold Obligations.AudioAndPositionCommands
  refine fun e s => ⟨fun h => ⟨stopped_of_accepts_setClock h, ?clock⟩, fun h => ?port, fun h => ?mask,
    fun h => ⟨fun hk => ?timed, fun hk hh => ?held, fun hk hh => ?armed⟩, fun h => ?stop, fun h => ?status,
    fun h => ⟨channelOff_of_accepts_config h, ?config⟩, fun h => ?control, fun h => ?compare, fun h => ?channel⟩
  case clock => exact ⟨_, rfl, reply_completed h rfl rfl⟩
  case port => exact ⟨_, rfl, reply_completed h rfl rfl⟩
  case mask => exact ⟨_, rfl, arm_banked h rfl⟩
  case timed => exact ⟨_, rfl, reply_completed h (audStart_effect_timed _ hk) rfl⟩
  case held => exact ⟨_, rfl, arm_banked h (audStart_effect_held _ hk hh)⟩
  case armed => exact ⟨_, rfl, reply_completed h (audStart_effect_armed _ hk hh) rfl⟩
  case stop => exact ⟨_, rfl, reply_completed h rfl rfl⟩
  case status => exact ⟨_, rfl, reply_completed h rfl rfl⟩
  case config => exact ⟨_, rfl, reply_completed h rfl rfl⟩
  case control => exact ⟨_, rfl, reply_completed h (posControl_effect _ _) rfl⟩
  case compare => exact ⟨_, rfl, arm_banked h rfl⟩
  case channel => exact ⟨_, rfl, reply_completed h rfl rfl⟩

end Sys2Proof

end

section

/-! PROOFS. The commands of the HASP links. -/

namespace Sys2Proof.Machine

/-- Two changes of one link are one. -/
theorem modLink_modLink (p : Fin 2) (f g : HaspPort → HaspPort) (s : State) :
    modLink p f (modLink p g s) = modLink p (fun x => f (g x)) s := by
  simp [modLink, modHasp]

section
variable {e : Entry}

/-- The port named, enabled or not, with its asymmetry. -/
def linkConfigured (e : Entry) (x : HaspPort) : HaspPort :=
  { x with enabled := arg e 1 1 == 1, asymmetry := signed 32 (arg e 4 4) }

/-- HASP_PORT_CONFIG that enables a port. -/
theorem haspPortConfig_effect_on (s : State) (h : arg e 1 1 = 1) :
    let p : Fin 2 := ⟨arg e 0 1 % 2, Nat.mod_lt _ (by decide)⟩
    haspPortConfigSpec.effect e s = .reply (modLink p (linkConfigured e) s) {} := by
  intro p
  have hne : arg e 1 1 ≠ 0 := by omega
  simp only [haspPortConfigSpec]
  rw [if_neg hne]
  rfl

/-- HASP_PORT_CONFIG that turns off a port that is not UP. -/
theorem haspPortConfig_effect_off (s : State) (h : arg e 1 1 = 0) :
    let p : Fin 2 := ⟨arg e 0 1 % 2, Nat.mod_lt _ (by decide)⟩
    s.hasp.ports[p].state ≠ .up → haspPortConfigSpec.effect e s =
      .reply (modLink p (fun x => { linkConfigured e x with state := .off, failed := false, neighbour := none }) s) {} := by
  intro p hp
  have hup : (s.hasp.ports[p].state == .up) = false := beq_eq_false_iff_ne.mpr hp
  simp only [haspPortConfigSpec]
  rw [if_pos h]
  change Effect.reply (modLink p _ (Machine.when (s.hasp.ports[p].state == .up) _ (modLink p (linkConfigured e) s))) {} = _
  rw [hup]
  exact congrArg (Effect.reply · {}) (modLink_modLink p _ _ s)

/-- HASP_PORT_CONFIG that turns off a port that is UP reports it OFF, then forgets its neighbour. -/
theorem haspPortConfig_effect_down (s : State) (h : arg e 1 1 = 0) :
    let p : Fin 2 := ⟨arg e 0 1 % 2, Nat.mod_lt _ (by decide)⟩
    s.hasp.ports[p].state = .up → haspPortConfigSpec.effect e s =
      .reply (modLink p (fun x => { x with state := .off, failed := false, neighbour := none })
        (postLink p (modLink p (fun x => { linkConfigured e x with state := .off }) s))) {} := by
  intro p hp
  have hup : (s.hasp.ports[p].state == .up) = true := beq_iff_eq.mpr hp
  simp only [haspPortConfigSpec]
  rw [if_pos h]
  change Effect.reply (modLink p _ (Machine.when (s.hasp.ports[p].state == .up) _ (modLink p (linkConfigured e) s))) {} = _
  rw [hup]
  change Effect.reply (modLink p _ (postLink p (modLink p (fun x => { x with state := .off }) (modLink p (linkConfigured e) s)))) {} = _
  rw [modLink_modLink]

/-- A worker takes one forwarded command at a time. -/
theorem unforwarded_of_accepts_forward {s : State} (h : Accepts haspForwardSpec e s) :
    s.hasp.workers[argWorker e].forward = none := by
  have hstates : (if notJoined s (arg e 0 1) then some (wrong 0x15)
    else if (s.hasp.workers[argWorker e].forward).isSome then some (⟨.busyRetry, Config.openDetail 0x1003 0x8005⟩ : Fail)
    else none) = none := accepts_states h
  split at hstates
  · cases hstates
  · exact Option.not_isSome_iff_eq_none.mp (not_of_check_none hstates)

end

/-- A message to a worker is sent, and leaves what the package knows of the others. -/
theorem sendHasp_hasp (cls dest tick data : Nat) (payload : List Byte) (s : State) :
    (sendHasp cls dest tick data payload s).hasp = s.hasp := by
  unfold sendHasp
  split <;> rfl

/-- What HASP_ARM does after its command: an arm that waits for no worker ends (R373). -/
def armAsked (t : State) : State :=
  match t.hasp.arm with
  | some a => if a.waiting.isEmpty then finishArm a t else t
  | none => t

theorem exec_haspArm (e : Entry) (s : State) : exec (.haspArm e) s = .next (armAsked (runCommand haspArmSpec e s)) := rfl

section
variable {t : State} {a : ArmRun} (ha : t.hasp.arm = some a)
include ha

theorem armAsked_waiting (h : a.waiting ≠ []) : armAsked t = t := by
  unfold armAsked
  rw [ha]
  exact if_neg fun he => h (List.isEmpty_iff.mp he)

theorem armAsked_none (h : a.waiting = []) : armAsked t = finishArm a t := by
  unfold armAsked
  rw [ha]
  exact if_pos (List.isEmpty_iff.mpr h)

end

end Sys2Proof.Machine

namespace Sys2Proof
open Sys2Proof.Machine

/-- Settles O57, command by command. -/
theorem haspCommands : Obligations.HaspCommands := by
  unfold Obligations.HaspCommands
  refine fun e s => ⟨fun h => ⟨fun hk => ?on, fun hk hdown => ?off, fun hk hup => ?down⟩, fun h => ?status,
    fun h => ⟨unforwarded_of_accepts_forward h, ?forward⟩, fun h => ?arm, fun h => ?split, fun h => ?events⟩
  case on => exact ⟨_, rfl, reply_completed h (haspPortConfig_effect_on _ hk) rfl⟩
  case off => exact ⟨_, rfl, reply_completed h (haspPortConfig_effect_off _ hk hdown) rfl⟩
  case down => exact ⟨_, rfl, reply_completed h (haspPortConfig_effect_down _ hk hup) rfl⟩
  case status => exact ⟨_, rfl, reply_completed h rfl rfl⟩
  case forward => exact congrArg _ (execute_inExecution h rfl)
  case arm =>
    intro mask target named a t
    have hrun : runCommand haspArmSpec e s = t := execute_inExecution h rfl
    have ha : t.hasp.arm = some a := congrArg Hasp.arm (forEach_same State.hasp (fun w v => sendHasp_hasp ..) named _)
    rw [exec_haspArm, hrun]
    exact ⟨fun hn => congrArg _ (armAsked_waiting ha hn), fun hn => congrArg _ (armAsked_none ha hn)⟩
  case split => exact ⟨_, rfl, arm_banked h rfl⟩
  case events => exact ⟨_, rfl, reply_completed h rfl rfl⟩

end Sys2Proof

end

section

/-! PROOFS. The detections and the commands of the fault collector. -/

namespace Sys2Proof.Machine

section
variable {s : State}

/-- A lockstep mismatch without one in the second before it is one of the first kind (R391). -/
theorem lockstepMismatch_first (h : ∀ v, s.collector.lockstepAt = some v → 10 ^ 12 < nowPs s - v) :
    lockstepMismatch s = raise0 0x08 { s with collector := { s.collector with lockstepAt := some (nowPs s) } } := by
  unfold lockstepMismatch
  cases hv : s.collector.lockstepAt with
  | none => rfl
  | some v =>
    have hlong : decide (nowPs s - v ≤ 10 ^ 12) = false := decide_eq_false (not_le.mpr (h v hv))
    dsimp only
    rw [hlong]
    rfl

/-- A lockstep mismatch within a second of the one before it is one of the second kind (R391). -/
theorem lockstepMismatch_again {v : Int} (hv : s.collector.lockstepAt = some v) (h : nowPs s - v ≤ 10 ^ 12) :
    lockstepMismatch s = raise0 0x09 { s with collector := { s.collector with lockstepAt := some (nowPs s) } } := by
  have hshort : decide (nowPs s - v ≤ 10 ^ 12) = true := decide_eq_true h
  unfold lockstepMismatch
  simp only [hv]
  rw [hshort]
  rfl

end

/-- The collector after FLT_CLEAR with the bits `f` and the legacy bits `l`. -/
def clearedFaults (f l : Nat) (k : Collector) : Collector :=
  let k := if f.testBit 0 then { k with latch := none, overflow := false, untrusted := false } else k
  let k := if f.testBit 1 then { k with legacy := k.legacy &&& ~~~BitVec.ofNat 32 l } else k
  if f.testBit 2 then { k with counts := Vector.replicate 96 0, history := [], historyLost := 0 } else k

/-- FLT_CLEAR answers the legacy word as it was, and clears what its bits name. -/
theorem fltClear_effect (e : Entry) (s : State) : fltClearSpec.effect e s =
    .reply (modCollector (clearedFaults (arg e 0 1) (arg e 4 4)) s) { detail := (legacyWord s).toNat } := rfl

section
variable (f l : Nat) (k : Collector)

/-- The fields that FLT_CLEAR's bits speak of, each by its own bit. -/
theorem clearedFaults_fields : (clearedFaults f l k).latch = (if f.testBit 0 then none else k.latch)
    ∧ (clearedFaults f l k).overflow = (!f.testBit 0 && k.overflow) ∧ (clearedFaults f l k).untrusted = (!f.testBit 0 && k.untrusted)
    ∧ (clearedFaults f l k).legacy = (if f.testBit 1 then k.legacy &&& ~~~BitVec.ofNat 32 l else k.legacy)
    ∧ (clearedFaults f l k).counts = (if f.testBit 2 then Vector.replicate 96 0 else k.counts)
    ∧ (clearedFaults f l k).history = (if f.testBit 2 then [] else k.history) ∧ (clearedFaults f l k).severity = k.severity := by
  unfold clearedFaults
  cases f.testBit 0 <;> cases f.testBit 1 <;> cases f.testBit 2 <;> exact ⟨rfl, rfl, rfl, rfl, rfl, rfl, rfl⟩

end

/-- An injection outside the units, the sequencers and the collector's own sources raises its source alone. -/
theorem injectSource_plain {e : Entry} (s : State) (h : 0x30 ≤ arg e 0 1) (h4F : arg e 0 1 ≠ 0x4F) (h5E : arg e 0 1 ≠ 0x5E) :
    injectSource e s = raise (src (arg e 0 1)) none 0 (arg e 8 8) s := by
  have hdetail : injectDetail e = arg e 8 8 := if_neg (by omega)
  unfold injectSource
  dsimp only
  rw [if_neg (by omega), if_neg (by omega), if_neg (by omega), if_neg (by omega), if_neg (by omega), if_neg (by omega),
    if_neg h5E, hdetail]

end Sys2Proof.Machine

namespace Sys2Proof
open Sys2Proof.Machine

/-- Settles O38: each detection raises its source, and each command is answered or begun as its effect says. -/
theorem detectionsAndFaultCommands : Obligations.DetectionsAndFaultCommands := by
  unfold Obligations.DetectionsAndFaultCommands
  refine ⟨fun s => ⟨rfl, rfl, rfl, rfl, rfl, rfl, rfl, rfl, rfl, fun r => rfl, rfl, ⟨fun hv => ?first, fun v hv hshort => ?again⟩, rfl⟩,
    fun e s => ⟨fun h => ?severity, fun h => ?status, fun h => ?clear, fun h => ?pin, fun h => ?history, fun h => ?reintegrate,
      fun h => ⟨?inject, injectSource_plain _⟩⟩⟩
  case first => exact congrArg Host.Outcome.next (lockstepMismatch_first hv)
  case again => exact congrArg Host.Outcome.next (lockstepMismatch_again hv hshort)
  case severity => exact ⟨_, rfl, reply_completed h rfl rfl⟩
  case status => exact ⟨_, rfl, reply_completed h rfl rfl⟩
  case clear => exact ⟨_, rfl, _, reply_completed h (fltClear_effect e _) rfl, rfl, clearedFaults_fields _ _ _⟩
  case pin => exact ⟨_, rfl, reply_completed h rfl rfl⟩
  case history =>
    refine ⟨_, rfl, reply_completed h ?_ rfl⟩
    simp only [fltReadHistorySpec, Machine.when, beq_iff_eq]
    rfl
  case reintegrate => exact ⟨_, rfl, background_begun h rfl⟩
  case inject => exact ⟨_, rfl, reply_completed h rfl rfl⟩

end Sys2Proof

end

section

/-! PROOFS. Deadbolt, and the first-source latch. -/

namespace Sys2Proof.Machine

/-! ## What the loops of deadbolt leave -/

/-- From `s` to `t` the device's state and fault record, the boot ROM, the tick generator, BAR0 and the pending changes stay. -/
structure KeepsRecord (s t : State) : Prop where
  devState : t.devState = s.devState
  kongaord : t.kongaord = s.kongaord
  collector : t.collector = s.collector
  boot : t.boot = s.boot
  tick : t.tick = s.tick
  bar0 : t.bar0 = s.bar0
  armed : t.cmd.armed = s.cmd.armed
  hold : t.cmd.hold = s.cmd.hold

theorem keepsRecord_refl (s : State) : KeepsRecord s s := ⟨rfl, rfl, rfl, rfl, rfl, rfl, rfl, rfl⟩

theorem KeepsRecord.trans {s t u : State} (hst : KeepsRecord s t) (htu : KeepsRecord t u) : KeepsRecord s u where
  devState := htu.devState.trans hst.devState
  kongaord := htu.kongaord.trans hst.kongaord
  collector := htu.collector.trans hst.collector
  boot := htu.boot.trans hst.boot
  tick := htu.tick.trans hst.tick
  bar0 := htu.bar0.trans hst.bar0
  armed := htu.armed.trans hst.armed
  hold := htu.hold.trans hst.hold

theorem forEach_keepsRecord {α : Type} {f : α → State → State} (hf : ∀ x t, KeepsRecord t (f x t)) (l : List α) (s : State) :
    KeepsRecord s (forEach l f s) := by
  induction l generalizing s with
  | nil => exact keepsRecord_refl s
  | cons x l ih => exact (hf x s).trans (ih (f x s))

theorem endBackground_keepsRecord (m : MbId) (op : Nat) (tag : BitVec 16) (st : Status) (detail : Nat) (s : State) :
    KeepsRecord s (endBackground m op tag st detail s) := by
  unfold endBackground
  split <;> exact ⟨rfl, rfl, rfl, rfl, rfl, rfl, rfl, rfl⟩

/-- The end of the command that a clip's stop was waiting for. -/
def endStop (source : SourceId) (k : Clip) (t : State) : State :=
  match k.stop with
  | some (m, tag) => endBackground m 0x0904 tag .hwFault source.val t
  | none => t

theorem endClips_eq (c : CtxId) (source : SourceId) (s : State) :
    endClips c source s = forEach s.recs[c].clips (endStop source) (modRec c (fun r => { r with clips := [] }) s) := rfl

theorem endStop_keepsRecord (source : SourceId) (k : Clip) (t : State) : KeepsRecord t (endStop source k t) := by
  unfold endStop
  split
  · exact endBackground_keepsRecord ..
  · exact keepsRecord_refl t

/-- The end of a stop leaves the contexts and the clips. -/
theorem endStop_recs (source : SourceId) (k : Clip) (t : State) :
    ((endStop source k t).contexts, (endStop source k t).recs) = (t.contexts, t.recs) := by
  unfold endStop endBackground
  split
  · split <;> rfl
  · rfl

theorem endClips_keepsRecord (c : CtxId) (source : SourceId) (s : State) : KeepsRecord s (endClips c source s) := by
  have hcleared : KeepsRecord s (modRec c (fun r => { r with clips := [] }) s) := ⟨rfl, rfl, rfl, rfl, rfl, rfl, rfl, rfl⟩
  exact hcleared.trans (forEach_keepsRecord (endStop_keepsRecord source) _ _)

/-- Ending a context's clips takes them, and leaves the frames. -/
theorem endClips_recs (c : CtxId) (source : SourceId) (s : State) : (endClips c source s).contexts = s.contexts
    ∧ (endClips c source s).recs = (modRec c (fun r => { r with clips := [] }) s).recs :=
  Prod.mk.inj (forEach_same (fun t => (t.contexts, t.recs)) (endStop_recs source) _ _)

/-- What deadbolt does to a context: its frames in flight and its clips are dropped (R392). -/
def emptyCtx (source : SourceId) (c : CtxId) (t : State) : State := endClips c source (modCtx c dropFlight t)

theorem emptyCtx_keepsRecord (source : SourceId) (c : CtxId) (t : State) : KeepsRecord t (emptyCtx source c t) := by
  have hdropped : KeepsRecord t (modCtx c dropFlight t) := ⟨rfl, rfl, rfl, rfl, rfl, rfl, rfl, rfl⟩
  exact hdropped.trans (endClips_keepsRecord ..)

/-- A context without frames in flight, results or clips. -/
structure Emptied (c : CtxId) (s : State) : Prop where
  frames : s.contexts[c].frames = []
  results : s.contexts[c].results = []
  clips : s.recs[c].clips = []

theorem emptyCtx_self (source : SourceId) (c : CtxId) (t : State) : Emptied c (emptyCtx source c t) := by
  obtain ⟨hcontexts, hrecs⟩ := endClips_recs c source (modCtx c dropFlight t)
  constructor
  · simp [emptyCtx, hcontexts, dropFlight]
  · simp [emptyCtx, hcontexts, dropFlight]
  · simp [emptyCtx, hrecs]

theorem emptyCtx_emptied (source : SourceId) {c : CtxId} (d : CtxId) {t : State} (h : Emptied c t) :
    Emptied c (emptyCtx source d t) := by
  by_cases hd : c = d
  · rw [hd]
    exact emptyCtx_self source d t
  · obtain ⟨hcontexts, hrecs⟩ := endClips_recs d source (modCtx d dropFlight t)
    have hctx : (emptyCtx source d t).contexts[c] = t.contexts[c] := by
      rw [emptyCtx, hcontexts, modCtx_other _ _ _ _ hd]
    have hrec : (emptyCtx source d t).recs[c] = t.recs[c] := by
      rw [emptyCtx, hrecs, modRec_other _ _ _ _ hd]
      rfl
    exact ⟨by rw [hctx]; exact h.frames, by rw [hctx]; exact h.results, by rw [hrec]; exact h.clips⟩

theorem forEach_emptied (source : SourceId) {c : CtxId} {l : List CtxId} {s : State} (h : c ∈ l ∨ Emptied c s) :
    Emptied c (forEach l (emptyCtx source) s) := by
  induction l generalizing s with
  | nil => exact h.resolve_left (List.not_mem_nil)
  | cons d l ih =>
    rw [forEach_cons]
    rcases h with h | h
    · rcases List.mem_cons.mp h with rfl | h
      · exact ih (.inr (emptyCtx_self source c s))
      · exact ih (.inl h)
    · exact ih (.inr (emptyCtx_emptied source d h))

theorem suspectTarget_keepsRecord (source : SourceId) (s : State) : KeepsRecord s (suspectTarget source s) := by
  unfold suspectTarget
  split <;> exact ⟨rfl, rfl, rfl, rfl, rfl, rfl, rfl, rfl⟩

theorem suspectTarget_emptied (source : SourceId) {c : CtxId} {s : State} (h : Emptied c s) : Emptied c (suspectTarget source s) := by
  unfold suspectTarget
  split <;> exact ⟨h.frames, h.results, h.clips⟩

/-! ## Entering deadbolt -/

/-- What deadbolt writes before it empties the contexts (R392, R393). -/
def deadbolted (x : FaultRecord) (s : State) : State :=
  { s with
    devState := 4
    kongaord := s.kongaord && !processorFault x.source
    collector := { s.collector with deadbolt := some x, deadboltDue := true }
    boot := { s.boot with retention := { s.boot.retention with prevDeadbolt := some x }
                          step := if processorFault x.source then .keyway else s.boot.step }
    cmd := { s.cmd with armed := [], hold := none }
    tick := { s.tick with queue := [], latched := [], switch := none } }

theorem enterDeadbolt_again {x : FaultRecord} {s : State} (h : s.devState = 4) : enterDeadbolt x s = s := if_pos h

theorem enterDeadbolt_eq {x : FaultRecord} {s : State} (h : s.devState ≠ 4) : enterDeadbolt x s =
    raiseVector 0 (suspectTarget x.source (forEach allCtx (emptyCtx x.source) (deadbolted x s))) := if_neg h

/-- Up to the vector that reports it, deadbolt keeps what it has recorded. -/
theorem deadbolted_keepsRecord (x : FaultRecord) (s : State) :
    KeepsRecord (deadbolted x s) (suspectTarget x.source (forEach allCtx (emptyCtx x.source) (deadbolted x s))) :=
  (forEach_keepsRecord (emptyCtx_keepsRecord x.source) _ _).trans (suspectTarget_keepsRecord ..)

theorem raiseVector_collector (v : Fin 32) (s : State) : (raiseVector v s).collector = s.collector := by
  obtain ⟨_, _, h⟩ := raiseVector_eq v s
  rw [h]

/-- Deadbolt leaves the first-source latch and its overflow. -/
theorem enterDeadbolt_latch (x : FaultRecord) (s : State) : (enterDeadbolt x s).collector.latch = s.collector.latch
    ∧ (enterDeadbolt x s).collector.overflow = s.collector.overflow := by
  by_cases h : s.devState = 4
  · rw [enterDeadbolt_again h]
    exact ⟨rfl, rfl⟩
  · rw [enterDeadbolt_eq h, raiseVector_collector, (deadbolted_keepsRecord x s).collector]
    exact ⟨rfl, rfl⟩

/-- What neither the collector's records nor vectors nor deadbolt change, a raise leaves. -/
theorem raise_same {β : Type} (f : State → β) (hcollector : ∀ s k, f { s with collector := k } = f s)
    (hvector : ∀ v s, f (raiseVector v s) = f s) (hdeadbolt : ∀ x s, f (enterDeadbolt x s) = f s)
    (source : SourceId) (c : Option CtxId) (frame : BitVec 48) (detail : Nat) (s : State) : f (raise source c frame detail s) = f s := by
  have hrecorded (k : Collector) (latches : Bool) : f (Machine.when latches (raiseVector 19) { s with collector := k }) = f s := by
    cases latches
    · exact hcollector s k
    · exact (hvector 19 _).trans (hcollector s k)
  obtain h | ⟨k, latches, h | ⟨x, h⟩⟩ := raise_cases source c frame detail s <;> rw [h]
  · exact hrecorded k latches
  · exact (hdeadbolt x _).trans (hrecorded k latches)

/-! ## Vectors -/

/-- A vector raised adds its bit to INT_CAUSE. -/
theorem raiseVector_intCause (v : Fin 32) (s : State) :
    (raiseVector v s).bar0.intCause = s.bar0.intCause ||| BitVec.twoPow 32 v := by
  unfold raiseVector
  dsimp only
  split
  · rfl
  · split <;> rfl

/-- A cause that stands is left by deadbolt. -/
theorem enterDeadbolt_intCause {x : FaultRecord} {s : State} {i : Nat} (hi : s.bar0.intCause.getLsbD i = true) :
    (enterDeadbolt x s).bar0.intCause.getLsbD i = true := by
  by_cases h : s.devState = 4
  · rwa [enterDeadbolt_again h]
  · rw [enterDeadbolt_eq h, raiseVector_intCause, (deadbolted_keepsRecord x s).bar0, BitVec.getLsbD_or]
    exact Bool.or_eq_true_iff.mpr (.inl hi)

/-! ## The latch (R387) -/

theorem enterHistory_latch (x : FaultRecord) (k : Collector) :
    (enterHistory x k).latch = k.latch ∧ (enterHistory x k).overflow = k.overflow := by
  unfold enterHistory
  split
  · exact ⟨rfl, rfl⟩
  · split <;> exact ⟨rfl, rfl⟩

/-- A record notified fills an empty latch, and sets the overflow of a full one. -/
theorem notify_latch (x : FaultRecord) (k : Collector) :
    (notify x k).latch = k.latch.or (some x) ∧ (notify x k).overflow = (k.overflow || k.latch.isSome) := by
  unfold notify
  cases h : k.latch with
  | none =>
    simp only [Option.isSome_none, Bool.false_eq_true, if_false, Option.none_or, Bool.or_false]
    split <;> exact ⟨rfl, rfl⟩
  | some y =>
    simp only [Option.isSome_some, if_true, Option.some_or, Bool.or_true]
    split <;> exact ⟨rfl, rfl⟩

theorem startAction_latch (src : SourceId) (k : Collector) :
    (startAction src k).latch = k.latch ∧ (startAction src k).overflow = k.overflow := by
  unfold startAction
  split <;> exact ⟨rfl, rfl⟩

section
variable {x : SourceId} {c : Option CtxId} {frame : BitVec 48} {detail : Nat} {s : State}

/-- The collector in which a raise has counted its source and entered the history (R386). -/
def countedFault (x : SourceId) (c : Option CtxId) (frame : BitVec 48) (detail : Nat) (s : State) : Collector :=
  enterHistory (faultRecord x c frame detail s)
    { s.collector with counts := s.collector.counts.set x (bump s.collector.counts[x]) }

/-- The collector after a raise at severity 1 to 3: its record notified, and the source's action started at 2. -/
def notifiedFault (x : SourceId) (c : Option CtxId) (frame : BitVec 48) (detail : Nat) (s : State) : Collector :=
  let k := notify (faultRecord x c frame detail s) (countedFault x c frame detail s)
  if severityOf s.collector x = 2 then startAction x k else k

theorem countedFault_latch : (countedFault x c frame detail s).latch = s.collector.latch
    ∧ (countedFault x c frame detail s).overflow = s.collector.overflow :=
  enterHistory_latch ..

theorem notifiedFault_latch : (notifiedFault x c frame detail s).latch = s.collector.latch.or (some (faultRecord x c frame detail s))
    ∧ (notifiedFault x c frame detail s).overflow = (s.collector.overflow || s.collector.latch.isSome) := by
  have hnotify := notify_latch (faultRecord x c frame detail s) (countedFault x c frame detail s)
  rw [countedFault_latch.1, countedFault_latch.2] at hnotify
  unfold notifiedFault
  dsimp only
  split
  · rwa [(startAction_latch _ _).1, (startAction_latch _ _).2]
  · exact hnotify

section
variable (hr : reservedSource x = false) (hd : domainOn s 2 = true)
include hr hd

/-- A raise reaches the collector while the management domain is on. -/
theorem raise_reaches {α : Type} (t u : α) : (if reservedSource x || s.power.domains[(2 : Fin 25)] != .on then t else u) = u := by
  have hon : s.power.domains[(2 : Fin 25)] = .on := beq_iff_eq.mp hd
  rw [hr, hon]
  rfl

/-- A raise at severity 0 is counted and enters the history alone. -/
theorem raise_silent (h : severityOf s.collector x = 0) :
    raise x c frame detail s = { s with collector := countedFault x c frame detail s } :=
  (raise_reaches hr hd _ _).trans (if_pos h)

/-- A raise at another severity is notified, sends vector 19 if it fills the latch, and enters deadbolt at severity 3. -/
theorem raise_loud (h : severityOf s.collector x ≠ 0) :
    let t := Machine.when (countedFault x c frame detail s).latch.isNone (raiseVector 19)
      { s with collector := notifiedFault x c frame detail s }
    raise x c frame detail s = if severityOf s.collector x = 3 then enterDeadbolt (faultRecord x c frame detail s) t else t :=
  (raise_reaches hr hd _ _).trans (if_neg h)

/-- The latch and the overflow after a raise at another severity. -/
theorem raise_loud_latch (h : severityOf s.collector x ≠ 0) :
    (raise x c frame detail s).collector.latch = s.collector.latch.or (some (faultRecord x c frame detail s))
      ∧ (raise x c frame detail s).collector.overflow = (s.collector.overflow || s.collector.latch.isSome) := by
  rw [raise_loud hr hd h]
  have hwhen : (Machine.when (countedFault x c frame detail s).latch.isNone (raiseVector 19)
      { s with collector := notifiedFault x c frame detail s }).collector = notifiedFault x c frame detail s := by
    unfold Machine.when
    split
    · exact raiseVector_collector ..
    · rfl
  split
  · rw [(enterDeadbolt_latch _ _).1, (enterDeadbolt_latch _ _).2, hwhen]
    exact notifiedFault_latch
  · rw [hwhen]
    exact notifiedFault_latch

/-- The first raise at another severity raises vector 19. -/
theorem raise_first_intCause (h : severityOf s.collector x ≠ 0) (hl : s.collector.latch = none) :
    (raise x c frame detail s).bar0.intCause.getLsbD 19 = true := by
  have hnone : (countedFault x c frame detail s).latch.isNone = true := by
    rw [countedFault_latch.1, hl]
    rfl
  have hset : (raiseVector 19 { s with collector := notifiedFault x c frame detail s }).bar0.intCause.getLsbD 19 = true := by
    rw [raiseVector_intCause, BitVec.getLsbD_or]
    simp
  rw [raise_loud hr hd h, hnone]
  split
  · exact enterDeadbolt_intCause hset
  · exact hset

end
end

end Sys2Proof.Machine

namespace Sys2Proof
open Sys2Proof.Machine

/-- Settles O19: what deadbolt writes stays through its loops (`deadbolted_keepsRecord`), which empty every context. -/
theorem deadboltEntry : Obligations.DeadboltEntry := by
  unfold Obligations.DeadboltEntry
  intro x s t
  refine ⟨fun h => enterDeadbolt_again h, fun h => ?_⟩
  have ht : t = raiseVector 0 (suspectTarget x.source (forEach allCtx (emptyCtx x.source) (deadbolted x s))) := enterDeadbolt_eq h
  have hkeeps := deadbolted_keepsRecord x s
  have hempty (c : CtxId) := suspectTarget_emptied x.source (forEach_emptied x.source (s := deadbolted x s) (.inl (mem_allCtx c)))
  generalize suspectTarget x.source _ = u at ht hkeeps hempty
  have hcounter : u.tick.counter = (deadbolted x s).tick.counter := congrArg TickGen.counter hkeeps.tick
  obtain ⟨_, _, hv⟩ := raiseVector_eq 0 u
  rw [ht, hv]
  exact ⟨hkeeps.devState, congrArg Collector.deadbolt hkeeps.collector, hkeeps.armed, hkeeps.hold, congrArg TickGen.queue hkeeps.tick,
    hcounter, congrArg (fun b => b.retention.prevDeadbolt) hkeeps.boot, hkeeps.kongaord,
    fun c => ⟨(hempty c).frames, (hempty c).results, (hempty c).clips⟩⟩

/-- Settles O21: a raise counts and notifies its record (`raise_loud_latch`), which the latch takes or overflows on; FLT_CLEAR
empties it. -/
theorem firstSourceLatch : Obligations.FirstSourceLatch := by
  unfold Obligations.FirstSourceLatch
  refine ⟨rfl, fun x c frame detail s hr hd => ⟨fun h => ?silent, fun h hl => ?first, fun h y hl => ?later⟩, fun e s h hf => ?clear⟩
  case silent =>
    rw [raise_silent hr hd h]
    exact countedFault_latch
  case first =>
    obtain ⟨hlatch, hoverflow⟩ := raise_loud_latch (c := c) (frame := frame) (detail := detail) hr hd h
    rw [hl] at hlatch hoverflow
    exact ⟨hlatch, hoverflow.trans (Bool.or_false _), raise_first_intCause hr hd h hl⟩
  case later =>
    obtain ⟨hlatch, hoverflow⟩ := raise_loud_latch (c := c) (frame := frame) (detail := detail) hr hd h
    rw [hl] at hlatch hoverflow
    exact ⟨hlatch, hoverflow.trans (Bool.or_true _)⟩
  case clear =>
    have hdone := reply_completed h (fltClear_effect e _) rfl
    have hcollector := congrArg State.collector hdone.rest
    obtain ⟨hlatch, hoverflow, _⟩ := clearedFaults_fields (arg e 0 1) (arg e 4 4) s.collector
    rw [hf] at hlatch hoverflow
    exact ⟨_, rfl, (congrArg Collector.latch hcollector).trans hlatch, (congrArg Collector.overflow hcollector).trans hoverflow⟩

end Sys2Proof

end

section

/-! PROOFS. The codes of the position channels (R353, R354). -/

namespace Sys2Proof.Machine

/-! ## What leaves the position channels as they are -/

theorem post_pos (code : Nat) (c : Option CtxId) (frame : BitVec 48) (detail : Nat) (s : State) :
    (post code c frame detail s).pos = s.pos := by
  unfold post
  rw [forEach_same State.pos]
  · unfold Machine.when; split <;> rfl
  · intro m t; unfold Machine.when; split <;> rfl

theorem raiseVector_pos (v : Fin 32) (s : State) : (raiseVector v s).pos = s.pos := by
  obtain ⟨_, _, h⟩ := raiseVector_eq v s
  rw [h]

theorem emptyCtx_pos (source : SourceId) (c : CtxId) (t : State) : (emptyCtx source c t).pos = t.pos := by
  rw [emptyCtx, endClips_eq]
  refine forEach_same State.pos (fun k u => ?_) _ _
  unfold endStop endBackground
  split
  · split <;> rfl
  · rfl

theorem suspectTarget_pos (source : SourceId) (s : State) : (suspectTarget source s).pos = s.pos := by
  unfold suspectTarget
  split <;> rfl

theorem enterDeadbolt_pos (x : FaultRecord) (s : State) : (enterDeadbolt x s).pos = s.pos := by
  by_cases h : s.devState = 4
  · rw [enterDeadbolt_again h]
  · rw [enterDeadbolt_eq h, raiseVector_pos, suspectTarget_pos, forEach_same State.pos (emptyCtx_pos x.source)]
    rfl

theorem raise_pos (source : SourceId) (c : Option CtxId) (frame : BitVec 48) (detail : Nat) (s : State) :
    (raise source c frame detail s).pos = s.pos :=
  raise_same State.pos (fun _ _ => rfl) raiseVector_pos enterDeadbolt_pos ..

theorem raise0_pos (n : Nat) (s : State) : (raise0 n s).pos = s.pos := raise_pos ..

theorem trigger_pos (c : CtxId) (t source : Nat) (s : State) : (trigger c t source s).pos = s.pos := by
  unfold trigger
  split
  · rfl
  · split
    · rfl
    · exact post_pos ..

theorem compareTriggers_pos (q : QuadId) (s : State) : (compareTriggers q s).pos = s.pos := by
  refine forEach_same State.pos (fun c t => ?_) _ _
  split
  · rfl
  · split
    · exact trigger_pos ..
    · rfl

theorem rangeEvents_pos (q : QuadId) (was : Int) (s : State) : (rangeEvents q was s).pos = s.pos := by
  unfold rangeEvents
  dsimp only
  split
  · rfl
  · split
    · exact post_pos ..
    · split
      · exact post_pos ..
      · rfl

/-! ## What leaves a channel's count and its Hall code -/

/-- From `s` to `t` the raw position of channel `q` and its last valid Hall code stay. -/
structure KeepsCode (q : QuadId) (s t : State) : Prop where
  raw : t.pos[q].r = s.pos[q].r
  hall : t.pos[q].hall = s.pos[q].hall

theorem KeepsCode.trans {q : QuadId} {s t u : State} (hst : KeepsCode q s t) (htu : KeepsCode q t u) : KeepsCode q s u :=
  ⟨htu.raw.trans hst.raw, htu.hall.trans hst.hall⟩

theorem keepsCode_of_pos {q : QuadId} {s t : State} (h : t.pos = s.pos) : KeepsCode q s t := ⟨by rw [h], by rw [h]⟩

theorem modPos_keepsCode {q : QuadId} {f : PosChannel → PosChannel} {s : State}
    (h : (f s.pos[q]).r = s.pos[q].r ∧ (f s.pos[q]).hall = s.pos[q].hall) : KeepsCode q s (modPos q f s) := by
  constructor
  · rw [Fin.getElem_fin, modPos_self]
    exact h.1
  · rw [Fin.getElem_fin, modPos_self]
    exact h.2

theorem forEach_keepsCode {α : Type} {q : QuadId} {f : α → State → State} (hf : ∀ x t, KeepsCode q t (f x t)) (l : List α)
    (s : State) : KeepsCode q s (forEach l f s) := by
  induction l generalizing s with
  | nil => exact keepsCode_of_pos rfl
  | cons x l ih => exact (hf x s).trans (ih (f x s))

section
variable (q : QuadId) (s : State)

/-- An error counted, sampled and raised (R361). -/
def posErred (k time : Nat) : State :=
  let i : Fin 5 := ⟨(k - 1) % 5, Nat.mod_lt _ (by decide)⟩
  raise0 0x57 (sample q 3 k time (modPos q (fun c => { c with errors := c.errors.set i (bump c.errors[i]) }) s))

theorem posError_eq (k time : Nat) : posError q k time s =
    if (posErred q s k time).pos[q].posted.contains k then posErred q s k time
    else post 0x0F80 none 0 (q.val + 2 ^ 8 * k + 2 ^ 32 * posBits (posErred q s k time).pos[q].p)
      (modPos q (fun c => { c with posted := k :: c.posted }) (posErred q s k time)) := rfl

theorem sample_keepsCode (kind detail time : Nat) : KeepsCode q s (sample q kind detail time s) := by
  refine modPos_keepsCode ?_
  unfold addSample
  split <;> exact ⟨rfl, rfl⟩

theorem posError_keepsCode (k time : Nat) : KeepsCode q s (posError q k time s) := by
  have hraised : KeepsCode q s (posErred q s k time) :=
    ((modPos_keepsCode ⟨rfl, rfl⟩).trans (sample_keepsCode ..)).trans (keepsCode_of_pos (raise0_pos ..))
  rw [posError_eq]
  split
  · exact hraised
  · exact (hraised.trans (modPos_keepsCode ⟨rfl, rfl⟩)).trans (keepsCode_of_pos (post_pos ..))

theorem compareEvent_keepsCode (stamp i : Nat) : KeepsCode q s (compareEvent q stamp i s) :=
  ((modPos_keepsCode ⟨rfl, rfl⟩).trans (sample_keepsCode ..)).trans (keepsCode_of_pos (compareTriggers_pos ..))

theorem movePos_keepsCode (move : Int) (stamp : Nat) : KeepsCode q s (movePos q move stamp s) := by
  have hfree : KeepsCode q s { s with free := s.free + 1 } := keepsCode_of_pos rfl
  unfold movePos
  exact ((hfree.trans (modPos_keepsCode ⟨rfl, rfl⟩)).trans (keepsCode_of_pos (rangeEvents_pos ..))).trans
    (forEach_keepsCode (fun i t => compareEvent_keepsCode q t stamp i) _ _)

/-- r takes its new value, reduced, and the Hall code stays (R356). -/
theorem follow_code (r : Int) (stamp : Nat) : (follow q r stamp s).pos[q].r = reducePos s.pos[q].cfg.modulus r
    ∧ (follow q r stamp s).pos[q].hall = s.pos[q].hall := by
  have hset : (modPos q (fun c => { c with r := reducePos s.pos[q].cfg.modulus r }) s).pos[q] =
      { s.pos[q] with r := reducePos s.pos[q].cfg.modulus r } := modPos_self ..
  have hkeeps (move : Int) := movePos_keepsCode q (modPos q (fun c => { c with r := reducePos s.pos[q].cfg.modulus r }) s) move stamp
  have hmoved (move : Int) : (movePos q move stamp (modPos q (fun c => { c with r := reducePos s.pos[q].cfg.modulus r }) s)).pos[q].r =
      reducePos s.pos[q].cfg.modulus r := by rw [(hkeeps move).raw, hset]
  unfold follow
  dsimp only
  split
  · rw [hset]
    exact ⟨rfl, rfl⟩
  · rw [(hkeeps _).hall, hset]
    exact ⟨hmoved _, rfl⟩

/-! ## The codes -/

/-- The quadrature places forward, in the order of R353. -/
def quadForward (v w : Bool × Bool) : Prop := (v, w) ∈ [((false, false), (false, true)), ((false, true), (true, true)),
  ((true, true), (true, false)), ((true, false), (false, false))]

theorem quadCode_forward : ∀ v w a b : Bool, quadForward (v, w) (a, b) → (quadCode a b + 4 - quadCode v w) % 4 = 1 := by
  unfold quadForward
  decide

theorem quadCode_backward : ∀ v w a b : Bool, quadForward (a, b) (v, w) → (quadCode a b + 4 - quadCode v w) % 4 = 3 := by
  unfold quadForward
  decide

theorem quadCode_both : ∀ v w a b : Bool, a ≠ v → b ≠ w → (quadCode a b + 4 - quadCode v w) % 4 = 2 := by decide

/-- The Hall places forward, in the order of R354. -/
def hallForward (v w : Nat) : Prop := (v, w) ∈ [(1, 3), (3, 2), (2, 6), (6, 4), (4, 5), (5, 1)]

/-- A Hall code has three bits. -/
theorem hallCode_le (a b z : Bool) : 4 * bit a + 2 * bit b + bit z ≤ 7 := by
  cases a <;> cases b <;> cases z <;> decide

/-- A valid Hall code stands at a place, and is as far ahead of another as the order of R354 says. -/
theorem hallPlace_distance {m n : Nat} (hm : 1 ≤ m ∧ m ≤ 6) (hn : 1 ≤ n ∧ n ≤ 6) : ∃ i j, hallPlace n = some i ∧ hallPlace m = some j
    ∧ ((i + 6 - j) % 6 = 0 ↔ n = m) ∧ ((i + 6 - j) % 6 = 1 ↔ hallForward m n) ∧ ((i + 6 - j) % 6 = 5 ↔ hallForward n m) := by
  have hall : ∀ m : Fin 7, ∀ n : Fin 7, 1 ≤ m.val → 1 ≤ n.val → ∃ i : Fin 6, ∃ j : Fin 6, hallPlace n = some i.val ∧
      hallPlace m = some j.val ∧ ((i.val + 6 - j) % 6 = 0 ↔ n = m) ∧
      ((i.val + 6 - j) % 6 = 1 ↔ (m.val, n.val) ∈ [(1, 3), (3, 2), (2, 6), (6, 4), (4, 5), (5, 1)]) ∧
      ((i.val + 6 - j) % 6 = 5 ↔ (n.val, m.val) ∈ [(1, 3), (3, 2), (2, 6), (6, 4), (4, 5), (5, 1)]) := by decide
  obtain ⟨i, j, hi, hj, hsame, hforward, hback⟩ := hall ⟨m, by omega⟩ ⟨n, by omega⟩ hm.1 hn.1
  exact ⟨i, j, hi, hj, hsame.trans Fin.mk.inj_iff, hforward, hback⟩

end

section
variable {q : QuadId} {a b z : Bool} {stamp : Nat} {s : State}

/-- The channel with the levels of its pins. -/
def withPins (q : QuadId) (a b z : Bool) (s : State) : State := { s with pos := s.pos.set q { s.pos[q] with pins := (a, b, z) } }

/-- The direction of a count. -/
def countSign (c : PosChannel) : Int := if c.cfg.invert then -1 else 1

theorem withPins_pos : (withPins q a b z s).pos[q] = { s.pos[q] with pins := (a, b, z) } := Vector.getElem_set_self ..

/-- A quadrature transition without a qualified index, by the distance of its code from the one before (R353). -/
theorem quadrature_eq (hz : (z && !s.pos[q].pins.2.2 && bit a + 2 * bit b == s.pos[q].cfg.gate) = false) :
    let d := (quadCode a b + 4 - quadCode s.pos[q].pins.1 s.pos[q].pins.2.1) % 4
    quadrature q a b z stamp s =
      if d = 1 then follow q (s.pos[q].r + countSign s.pos[q]) stamp (withPins q a b z s)
      else if d = 3 then follow q (s.pos[q].r - countSign s.pos[q]) stamp (withPins q a b z s)
      else if d = 2 then posError q 1 stamp (withPins q a b z s)
      else withPins q a b z s := by
  unfold quadrature
  dsimp only
  rw [hz]
  rfl

/-- An impossible Hall code (R354). -/
theorem hallStep_impossible (h : hallPlace (4 * bit a + 2 * bit b + bit z) = none) :
    hallStep q a b z stamp s = posError q 2 stamp (withPins q a b z s) := by
  unfold hallStep
  simp only [h]
  rfl

/-- The channel with the levels of its pins and the valid Hall code that they are. -/
def withCode (q : QuadId) (a b z : Bool) (n : Nat) (s : State) : State :=
  { s with pos := s.pos.set q { s.pos[q] with pins := (a, b, z), hall := some n } }

theorem withCode_pos (n : Nat) : (withCode q a b z n s).pos[q] = { s.pos[q] with pins := (a, b, z), hall := some n } :=
  Vector.getElem_set_self ..

theorem withCode_eq (n : Nat) : modPos q (fun c => { c with hall := some n }) (withPins q a b z s) = withCode q a b z n s := by
  simp [withCode, withPins, modPos]

/-- A valid Hall code after another, by its distance from it (R354). -/
theorem hallStep_eq {i j m n : Nat} (hn : 4 * bit a + 2 * bit b + bit z = n) (hi : hallPlace n = some i)
    (hm : s.pos[q].hall = some m) (hj : hallPlace m = some j) : let d := (i + 6 - j) % 6
    hallStep q a b z stamp s =
      if d = 0 then withCode q a b z n s
      else if d = 1 then follow q (s.pos[q].r + countSign s.pos[q]) stamp (withCode q a b z n s)
      else if d = 5 then follow q (s.pos[q].r - countSign s.pos[q]) stamp (withCode q a b z n s)
      else posError q 3 stamp (withCode q a b z n s) := by
  rw [← withCode_eq]
  unfold hallStep
  simp only [hn, hi, hm, Option.bind_some, hj]
  rfl

/-- A transition of a channel that is on, in quadrature. -/
theorem posTransition_quadrature (hon : s.pos[q].on = true) (hup : blockDown s (0x54 + q.val) = false) (hmode : s.pos[q].cfg.mode = 1) :
    posTransition q a b z s = quadrature q a b z (timeNow s - 10 * (s.pos[q].cfg.filter + 1)) s := by
  unfold posTransition
  rw [if_neg (Bool.eq_false_iff.mp hup), if_pos (by rw [hon, hmode]; rfl)]

/-- A transition of a channel that is on, with Hall sensors. -/
theorem posTransition_hall (hon : s.pos[q].on = true) (hup : blockDown s (0x54 + q.val) = false) (hmode : s.pos[q].cfg.mode = 2) :
    posTransition q a b z s = hallStep q a b z (timeNow s - 10 * (s.pos[q].cfg.filter + 1)) s := by
  unfold posTransition
  rw [if_neg (Bool.eq_false_iff.mp hup), if_neg (by rw [hmode]; simp), if_pos (by rw [hon, hmode]; rfl)]

end

end Sys2Proof.Machine
namespace Sys2Proof
open Sys2Proof.Machine

/-- Settles O56: a code counts by its distance from the one before it (`quadrature_eq`, `hallStep_eq`), and what a count or an error
does besides leaves the raw position and the Hall code (`follow_code`, `posError_keepsCode`). -/
theorem quadratureAndHallCodesCount : Obligations.QuadratureAndHallCodesCount := by
  unfold Obligations.QuadratureAndHallCodesCount
  intro q s c hon hup a b z stamp sign put counts
  have hpins : (withPins q a b z s).pos[q] = { c with pins := (a, b, z) } := withPins_pos
  have hanswers (P : State → Prop) (h : P (posTransition q a b z s)) : Answers (.posTransition q a b z) s P := ⟨_, rfl, h⟩
  refine ⟨fun hmode hz => ⟨fun hf => hanswers _ ?up, fun hf => hanswers _ ?down, fun ha hb => hanswers _ ?phase⟩,
    fun hmode => ⟨fun hn => hanswers _ ?impossible, fun m hm hm1 hm6 hn0 hn7 => ?place⟩⟩
  case up =>
    rw [posTransition_quadrature hon hup hmode, quadrature_eq hz, if_pos (quadCode_forward _ _ _ _ hf)]
    have hfollow := (follow_code q (withPins q a b z s) (c.r + countSign c) stamp).1
    rwa [hpins] at hfollow
  case down =>
    have hd := quadCode_backward _ _ _ _ hf
    rw [posTransition_quadrature hon hup hmode, quadrature_eq hz, if_neg (by rw [hd]; decide), if_pos hd]
    have hfollow := (follow_code q (withPins q a b z s) (c.r - countSign c) stamp).1
    rwa [hpins] at hfollow
  case phase =>
    have hd := quadCode_both _ _ _ _ ha hb
    rw [posTransition_quadrature hon hup hmode, quadrature_eq hz, if_neg (by rw [hd]; decide), if_neg (by rw [hd]; decide), if_pos hd]
    have hkeeps := (posError_keepsCode q (withPins q a b z s) 1 stamp).raw
    rw [hpins] at hkeeps
    exact ⟨rfl, hkeeps⟩
  case impossible =>
    have hplace : hallPlace (4 * bit a + 2 * bit b + bit z) = none := by
      rcases hn with hn | hn <;> rw [hn] <;> rfl
    rw [posTransition_hall hon hup hmode, hallStep_impossible hplace]
    have hraw := (posError_keepsCode q (withPins q a b z s) 2 stamp).raw
    have hhall := (posError_keepsCode q (withPins q a b z s) 2 stamp).hall
    rw [hpins] at hraw hhall
    exact ⟨rfl, hraw, hhall⟩
  case place =>
    have hle := hallCode_le a b z
    generalize hcode : 4 * bit a + 2 * bit b + bit z = n at hle hn0 hn7
    obtain ⟨i, j, hi, hj, hsame, hforward, hback⟩ := hallPlace_distance (n := n) ⟨hm1, hm6⟩ ⟨by omega, by omega⟩
    have hstep := (posTransition_hall hon hup hmode).trans (hallStep_eq hcode hi hm hj)
    have hpos : (withCode q a b z n s).pos[q] = { c with pins := (a, b, z), hall := some n } := withCode_pos n
    have hfollow (r : Int) := follow_code q (withCode q a b z n s) r stamp
    rw [hpos] at hfollow
    refine ⟨fun hf => hanswers _ ?ahead, fun hb => hanswers _ ?behind, fun hnm => ?same, fun hnm hf hb => hanswers _ ?jump⟩
    case ahead =>
      have hd := hforward.mpr hf
      rw [hstep, if_neg (by rw [hd]; decide), if_pos hd]
      exact hfollow _
    case behind =>
      have hd := hback.mpr hb
      rw [hstep, if_neg (by rw [hd]; decide), if_neg (by rw [hd]; decide), if_pos hd]
      exact hfollow _
    case same =>
      have hstay : withCode q a b z n s = put { c with pins := (a, b, z) } := by
        unfold withCode
        rw [hnm, ← hm]
      exact congrArg Host.Outcome.next (hstep.trans ((if_pos (hsame.mpr hnm)).trans hstay))
    case jump =>
      rw [hstep, if_neg (mt hsame.mp hnm), if_neg (mt hforward.mp hf), if_neg (mt hback.mp hb)]
      have hraw := (posError_keepsCode q (withCode q a b z n s) 3 stamp).raw
      have hhall := (posError_keepsCode q (withCode q a b z n s) 3 stamp).hall
      rw [hpos] at hraw hhall
      exact ⟨rfl, hraw, hhall⟩

end Sys2Proof

end

section

/-! PROOFS. The resets of blocks and the hung ports (R420). -/

namespace Sys2Proof.Machine

section
variable {e : Entry} {s : State}

/-- SYS_BLOCK_RESET of a block behind a hung port raises the block's fault and fails. -/
theorem sysBlockReset_effect_hung (h : s.control.hung.contains (arg e 0 1) = true) : sysBlockResetSpec.effect e s =
    .reply (raise0 (Config.blockFault (arg e 0 1)) s)
      { status := .hwFault, detail := (src (Config.blockFault (arg e 0 1))).val } := if_pos h

/-- SYS_BLOCK_RESET of another block drains it. -/
theorem sysBlockReset_effect_drains (h : s.control.hung.contains (arg e 0 1) = false) : sysBlockResetSpec.effect e s =
    .execute { s with control := { s.control with draining := s.control.draining ++ [⟨e.mb, arg e 0 1⟩] } } none :=
  if_neg (Bool.eq_false_iff.mp h)

end

section
variable {s : State} {x : BlockReset} {rest : List BlockReset} (h : s.control.draining = x :: rest)
include h

/-- The oldest drain is the one taken off the list. -/
theorem dropDraining_eq : dropDraining s = { s with control := { s.control with draining := rest } } := by
  simp [dropDraining, modControl, h]

/-- A drain that ends with its block out of reset: the block is back in service at the next hinge. -/
theorem blockDrainDone_out (n : Nat) : let r := resetBlock x.block { s with control := { s.control with draining := rest } }
    blockDrainDone n true s = endExecution x.mb { detail := n } { r with control := { r.control with
      returning := x.block :: r.control.returning, dead := r.control.dead.filter fun b => b != x.block } } := by
  rw [← dropDraining_eq h]
  unfold blockDrainDone
  rw [h]
  rfl

/-- A drain that ends with its block still in reset: the block is fenced. -/
theorem blockDrainDone_fenced (n : Nat) : let r := resetBlock x.block { s with control := { s.control with draining := rest } }
    blockDrainDone n false s = endExecution x.mb { status := .hwFault, detail := (src (Config.blockFault x.block)).val }
      (raise0 (Config.blockFault x.block) (retireDead x.block
        { r with control := { r.control with dead := x.block :: r.control.dead } })) := by
  rw [← dropDraining_eq h]
  unfold blockDrainDone
  rw [h]
  rfl

/-- A block that cannot be quiesced resumes, unreset. -/
theorem blockQuiesceTimeout_eq (n : Nat) : blockQuiesceTimeout n s =
    endExecution x.mb { status := .timeout, detail := n } { s with control := { s.control with draining := rest } } := by
  rw [← dropDraining_eq h]
  unfold blockQuiesceTimeout
  rw [h]

end

end Sys2Proof.Machine

namespace Sys2Proof
open Sys2Proof.Machine

/-- Settles O23: the command by the two forms of its effect, the end of a drain by the block it is for. -/
theorem blockResetsAndHungPorts : Obligations.BlockResetsAndHungPorts := by
  unfold Obligations.BlockResetsAndHungPorts
  refine ⟨⟨fun e s h => ⟨fun hhung => ?hung, fun hfree => ?drains⟩, fun n s x rest h => ⟨?out, ?fenced, ?unreset⟩⟩,
    fun b r s => rfl⟩
  case hung => exact ⟨_, rfl, reply_completed h (sysBlockReset_effect_hung hhung) rfl⟩
  case drains => exact congrArg _ (execute_inExecution h (sysBlockReset_effect_drains hfree))
  case out => exact congrArg _ (blockDrainDone_out h n)
  case fenced => exact congrArg _ (blockDrainDone_fenced h n)
  case unreset => exact congrArg _ (blockQuiesceTimeout_eq h n)

end Sys2Proof

end

section

/-! PROOFS. Recovery, the boot flash and the resets. -/

namespace Sys2Proof.Machine

/-- An image starts when the ROM has verified it. -/
theorem verified_of_accepts_bootImage {e : Entry} {s : State} (h : Accepts sysBootImageSpec e s) : verifyImage s (payload e) = 1 := by
  obtain ⟨_, _, _, _, _, _, _, _, _, hsignature⟩ := accepts_parts h
  exact of_check_none hsignature

/-! ## The end of a flash operation -/

section
variable {s : State} {x : FlashOp} {rest : List FlashOp}

/-- The state with the oldest flash operation taken off the list. -/
def withoutFlashOp (rest : List FlashOp) (s : State) : State := { s with control := { s.control with flash := rest } }

/-- An operation changes the flash and, in its first block, what the header records say. -/
theorem flashEffect_eq (x : FlashOp) (ok : Bool) (n : Nat) (s : State) :
    ∃ flash sec, flashEffect x ok n s = { s with flash := flash, sec := sec } := by
  unfold flashEffect
  dsimp only
  (repeat' split) <;> cases x.op != 0 && decide (x.addr < 65536) <;> exact ⟨_, _, rfl⟩

/-- A read leaves the flash. -/
theorem flashEffect_read (h : x.op = 0) (ok : Bool) (n : Nat) (s : State) : flashEffect x ok n s = s := by
  simp [flashEffect, h, Machine.when]

/-- Outside the first block the header records are as they were. -/
theorem flashEffect_outside (h : 65536 ≤ x.addr) (n : Nat) (s : State) : flashEffect x true n s =
    if x.op = 1 then writeFlash x.addr (x.data.take x.len) s else if x.op = 2 then eraseFlash x.addr x.len s else s := by
  have hblock : (x.op != 0 && decide (x.addr < 65536)) = false := by
    rw [decide_eq_false (by omega), Bool.and_false]
  unfold flashEffect
  dsimp only
  rw [hblock]
  rfl

section
variable (hflash : s.control.flash = x :: rest) (n : Nat)
include hflash

/-- A read that ends returns its bytes at its location. -/
theorem flashOpDone_read (h : x.op = 0) : flashOpDone true n s = endBackground x.mb 0x0112 x.tag .ok 0
    (writeLocation x.mb x.kind x.loc 16 ((List.range x.len).map fun i => readFlash s (x.addr + i)) (withoutFlashOp rest s)) := by
  unfold flashOpDone
  simp only [hflash, flashEffect_read h, h]
  rfl

/-- A write or an erase that ends leaves its effect. -/
theorem flashOpDone_changed (h : x.op ≠ 0) :
    flashOpDone true n s = endBackground x.mb 0x0112 x.tag .ok 0 (flashEffect x true n (withoutFlashOp rest s)) := by
  have hread : (true && x.op == 0) = false := by
    rw [Bool.true_and, beq_eq_false_iff_ne]
    exact h
  unfold flashOpDone
  simp only [hflash, hread]
  rfl

/-- A failure while Kongaord runs raises source 0x0F (R384). -/
theorem flashOpDone_failed (h : s.kongaord = true) : flashOpDone false n s =
    endBackground x.mb 0x0112 x.tag .hwFault 0x0F (raise0 0x0F (flashEffect x false n (withoutFlashOp rest s))) := by
  obtain ⟨flash, sec, heffect⟩ := flashEffect_eq x false n (withoutFlashOp rest s)
  have hruns : (flashEffect x false n (withoutFlashOp rest s)).kongaord = true := by
    rw [heffect]
    exact h
  unfold flashOpDone
  simp only [hflash]
  exact (if_neg Bool.false_ne_true).trans (if_pos hruns)

end
end

/-! ## Resets (R404 to R406) -/

section
variable {x : ResetSource} {s : State}

/-- A reset source that asserts clears the device but for what R405 keeps. -/
theorem resetAssert_eq (hstretch : ¬ (x = .pinExternal ∧ s.boot.step = .stretch)) (hnew : s.boot.asserted.contains x = false) :
    resetAssert x s = modBoot (fun b => { b with
      asserted := b.asserted ++ [x], since := if b.since.contains x then b.since else b.since ++ [x]
      drivesRstN := (b.asserted ++ [x]).any ownReset }) (cleared (x == .aonPowerOn) s) := by
  unfold resetAssert
  rw [if_neg hstretch, if_neg (Bool.eq_false_iff.mp hnew)]

/-- The pin low during the stretch, and a source that stands asserted, are ignored. -/
theorem resetAssert_ignored (h : (x = .pinExternal ∧ s.boot.step = .stretch) ∨ s.boot.asserted.contains x = true) :
    resetAssert x s = s := by
  unfold resetAssert
  by_cases hstretch : x = .pinExternal ∧ s.boot.step = .stretch
  · rw [if_pos hstretch]
  · rw [if_neg hstretch, if_pos (h.resolve_left hstretch)]

/-- The volumes of the drives outlast a reset. -/
theorem cleared_volume (aon : Bool) (p : Fin 2) (s : State) : (cleared aon s).media[p].volume = s.media[p].volume := by
  fin_cases p <;> rfl

end

end Sys2Proof.Machine

namespace Sys2Proof
open Sys2Proof.Machine

/-- Settles O24: the commands as their effects say, the end of a flash operation by the operation, a reset by what it clears. -/
theorem recoveryAndResets : Obligations.RecoveryAndResets := by
  unfold Obligations.RecoveryAndResets
  refine ⟨⟨fun e s => ⟨fun h => ?reset, fun h => ?flash, fun h => ⟨verified_of_accepts_bootImage h, ?image⟩⟩, fun s => ?command,
      fun ok n s x rest hflash => ⟨fun hop hok hkind => ?readArena, fun hop hok hkind hup => ?readHost, fun hop hok hout => ?write,
        fun hop hok hout => ?erase, fun hok hruns => ?failed⟩⟩,
    fun x s => ⟨fun hstretch hnew => ?asserts, fun h => congrArg _ (resetAssert_ignored h), fun h => ?expires, fun h => ?stopped⟩⟩
  case reset => exact ⟨_, rfl, reply_completed h rfl rfl⟩
  case flash => exact ⟨_, rfl, background_begun h rfl⟩
  case image => exact ⟨_, rfl, reply_completed h rfl rfl⟩
  case command => exact apply_ite Host.Outcome.next _ (resetAssert .pinCommand s) s
  case readArena =>
    subst hok
    refine congrArg Host.Outcome.next ((flashOpDone_read hflash n hop).trans ?_)
    rw [writeLocation, if_pos hkind]
    rfl
  case readHost =>
    subst hok
    refine congrArg Host.Outcome.next ((flashOpDone_read hflash n hop).trans ?_)
    rw [writeLocation, if_neg hkind, if_pos (show (withoutFlashOp rest s).hostUp = true from hup)]
    rfl
  case write =>
    subst hok
    refine congrArg Host.Outcome.next ((flashOpDone_changed hflash n (by omega)).trans ?_)
    rw [flashEffect_outside hout, if_pos hop]
    rfl
  case erase =>
    subst hok
    refine congrArg Host.Outcome.next ((flashOpDone_changed hflash n (by omega)).trans ?_)
    rw [flashEffect_outside hout, if_neg (by omega), if_pos hop]
    rfl
  case failed =>
    subst hok
    obtain ⟨flash, sec, heffect⟩ := flashEffect_eq x false n (withoutFlashOp rest s)
    refine ⟨_, congrArg Host.Outcome.next (flashOpDone_failed hflash n hruns), ?_⟩
    rw [heffect]
    rfl
  case asserts =>
    refine ⟨_, congrArg Host.Outcome.next (resetAssert_eq hstretch hnew), rfl, rfl, rfl, rfl, rfl, rfl, rfl, rfl, rfl, rfl, rfl, rfl,
      rfl, ?_, rfl, rfl, rfl, fun p => cleared_volume (x == .aonPowerOn) p s⟩
    cases x <;> rfl
  case expires =>
    refine congrArg Host.Outcome.next (if_neg ?_)
    rw [h]
    exact Bool.false_ne_true
  case stopped =>
    refine congrArg Host.Outcome.next (if_pos ?_)
    rw [h]
    rfl

end Sys2Proof

end

section

/-! PROOFS. The two-wire target. -/

namespace Sys2Proof.Machine

section
variable {s : State} (hon : twbOn s = true) (v : Byte)
include hon

/-! ## Transactions (R445, R447) -/

/-- A byte while the target is on does what its phase says. -/
theorem byteCommit_on (wr : Bool) : byteCommit wr v s = match s.twb.phase with
    | .idle => s
    | .address => addressByte v s
    | .pointer => if wr then emit (.twbAck true) (modTwb (fun w => { w with phase := .write, pointer := v }) s) else s
    | .write => if wr then emit (.twbAck true) (commitAt s.twb.pointer v s) else s
    | .read =>
      if wr then s
      else modTwb (fun w => { w with pointer := w.pointer + 1 }) (emit (.twbByte (s.twb.snapshot.getD s.twb.pointer.toNat 0)) s) := by
  unfold byteCommit
  rw [hon]
  rfl

theorem byteCommit_address (wr : Bool) (h : s.twb.phase = .address) : byteCommit wr v s = addressByte v s := by
  rw [byteCommit_on hon, h]

theorem byteCommit_pointer (h : s.twb.phase = .pointer) :
    byteCommit true v s = emit (.twbAck true) (modTwb (fun w => { w with phase := .write, pointer := v }) s) := by
  rw [byteCommit_on hon, h]
  rfl

theorem byteCommit_write (h : s.twb.phase = .write) : byteCommit true v s = emit (.twbAck true) (commitAt s.twb.pointer v s) := by
  rw [byteCommit_on hon, h]
  rfl

theorem byteCommit_read (h : s.twb.phase = .read) : byteCommit false v s =
    modTwb (fun w => { w with pointer := w.pointer + 1 }) (emit (.twbByte (s.twb.snapshot.getD s.twb.pointer.toNat 0)) s) := by
  rw [byteCommit_on hon, h]
  rfl

/-- A byte written commits, and the pointer stands behind it (R447). -/
theorem commitAt_on (a : Byte) : commitAt a v s = modTwb (fun w => { w with pointer := a + 1 }) (writeByte a.toNat v s) := if_pos hon

end

/-- While the target is off no byte is seen (R445). -/
theorem byteCommit_off {s : State} (hoff : twbOn s = false) (wr : Bool) (v : Byte) : byteCommit wr v s = s := by
  unfold byteCommit
  rw [hoff]
  rfl

section
variable {s : State} {v : Byte}

/-- The device acknowledges no other address. -/
theorem addressByte_other (h : v.toNat / 2 ≠ s.boot.twoWire) :
    addressByte v s = emit (.twbAck false) (modTwb (fun w => { w with phase := .idle }) s) := if_neg h

/-- Its own address for a read brings the copy of the window. -/
theorem addressByte_read (h : v.toNat / 2 = s.boot.twoWire) (hbit : v.getLsbD 0 = true) :
    addressByte v s = emit (.twbAck true) (takeSnapshot s) := by
  unfold addressByte
  rw [if_pos h, if_pos hbit]

/-- Its own address for a write waits for the pointer. -/
theorem addressByte_write (h : v.toNat / 2 = s.boot.twoWire) (hbit : v.getLsbD 0 = false) :
    addressByte v s = emit (.twbAck true) (modTwb (fun w => { w with phase := .pointer }) s) := by
  unfold addressByte
  rw [if_pos h, hbit]
  rfl

end

/-! ## Mailbox 4 through the window (R453) -/

section
variable {s : State}

theorem submit_refused (h : s.twb.busy = true ∨ s.twb.valid = true ∨ served s 4 = false) :
    submit s = modTwb (fun w => { w with refused := true }) s := by
  refine if_pos ?_
  rcases h with h | h | h <;> simp [h]

theorem submit_taken (hbusy : s.twb.busy = false) (hvalid : s.twb.valid = false) (hserved : served s 4 = true) :
    submit s = modTwb (fun w => { w with busy := true, refused := false })
      (modMb 4 (fun b => { b with
        expected := b.expected ++ [(fieldAt s.twb.cmd 0 2, entryOf 4 s.twb.cmd [])], cmdTail := b.cmdTail + 1 }) s) := by
  refine if_neg ?_
  rw [hbusy, hvalid, hserved]
  decide

theorem ackCompletion_valid (h : s.twb.valid = true) : ackCompletion s =
    modTwb (fun w => { w with valid := false }) (modMb 4 (fun b => { b with cplHead := b.cplTail }) s) := if_pos h

theorem ackCompletion_none (h : s.twb.valid = false) : ackCompletion s = s := by
  refine if_neg ?_
  rw [h]
  exact Bool.false_ne_true

theorem nextEvent_some (h : s.mailboxes[(4 : MbId)].evtHead ≠ s.mailboxes[(4 : MbId)].evtTail) :
    nextEvent s = modMb 4 (fun b => { b with evtHead := b.evtHead + 1 }) s := by
  unfold nextEvent modMb
  dsimp only
  rw [if_neg h]

theorem nextEvent_none (h : s.mailboxes[(4 : MbId)].evtHead = s.mailboxes[(4 : MbId)].evtTail) : nextEvent s = s := by
  unfold nextEvent modMb
  dsimp only
  rw [if_pos h, Fin.getElem_fin, Vector.set_getElem_self]

end

/-! ## The aperture's base (R452) -/

/-- The bytes of APBASE that have committed, one of them anew. -/
def stageByte (i : Nat) (v : Byte) (l : List (Nat × Byte)) : List (Nat × Byte) := (i, v) :: l.filter fun x => x.1 != i

/-- The byte of APBASE at place `j`. -/
def stagedAt (l : List (Nat × Byte)) (j : Nat) : Option Byte := (l.find? fun x => x.1 == j).map Prod.snd

theorem stagedAt_self (i : Nat) (v : Byte) (l : List (Nat × Byte)) : stagedAt (stageByte i v l) i = some v := by
  simp [stagedAt, stageByte]

theorem stagedAt_other {i j : Nat} (h : i ≠ j) (v : Byte) (l : List (Nat × Byte)) :
    stagedAt (stageByte i v l) j = stagedAt l j := by
  have hsame : (fun x : Nat × Byte => decide ((x.1 != i) = true ∧ (x.1 == j) = true)) = fun x => x.1 == j := by
    funext x
    by_cases hx : x.1 = j
    · simp [hx, Ne.symm h]
    · simp [hx]
  unfold stagedAt stageByte
  rw [List.find?_cons_of_neg (by simpa using h), List.find?_filter, hsame]

/-- APBASE as its four bytes give it, valid or not. -/
def apbaseOf (n was : Nat) : Nat := if n % 64 = 0 ∧ n ≤ 2 ^ 20 - 64 then n else was

/-- The bytes of a word, little-endian, are the word. -/
theorem leNat_word (v : BitVec 32) : leNat ((List.range 4).map fun j => BitVec.ofNat 8 (v.toNat / 256 ^ j)) = v.toNat := by
  have hv := v.isLt
  simp [List.range_succ, leNat]
  omega

/-- The window's bytes 0x84 to 0x87 are APBASE (R451). -/
theorem writeByte_apbase {i : Nat} (h : i < 4) (v : Byte) (s : State) :
    writeByte (BitVec.ofNat 8 (0x84 + i)).toNat v s = writeApbase i v s := by
  have ha : (BitVec.ofNat 8 (0x84 + i)).toNat = 0x84 + i := by
    rw [BitVec.toNat_ofNat]
    omega
  rw [ha, writeByte, if_neg (by omega), if_neg (by omega), if_pos (by omega), Nat.add_sub_cancel_left]

section
variable {s : State} (hon : twbOn s = true) (w : Twb) (v : Byte)
include hon

/-- One of the first three bytes of APBASE waits for the last. -/
theorem commitAt_apbase {i : Nat} (h : i < 3) : commitAt (BitVec.ofNat 8 (0x84 + i)) v { s with twb := w } =
    { s with twb := { w with staged := stageByte i v w.staged, pointer := BitVec.ofNat 8 (0x84 + i) + 1 } } := by
  have hlast : i ≠ 3 := by omega
  rw [commitAt_on (s := { s with twb := w }) hon, writeByte_apbase (by omega)]
  unfold writeApbase
  rw [if_neg hlast]
  rfl

/-- With its last byte APBASE takes effect. -/
theorem commitAt_apbase_last {n : Nat} (hn : leNat ((List.range 4).map fun j =>
      (stagedAt (stageByte 3 v w.staged) j).getD (BitVec.ofNat 8 (w.apbase / 256 ^ j))) = n) :
    commitAt (BitVec.ofNat 8 (0x84 + 3)) v { s with twb := w } =
      { s with twb := { w with staged := [], apbase := apbaseOf n w.apbase, pointer := 0x88 } } := by
  rw [commitAt_on (s := { s with twb := w }) hon, writeByte_apbase (by decide), ← hn]
  unfold writeApbase
  rw [if_pos rfl]
  rfl

end

/-- The four bytes of APBASE as they are staged. -/
def stagedWord (v : BitVec 32) (l : List (Nat × Byte)) : List (Nat × Byte) :=
  let byte := fun j => BitVec.ofNat 8 (v.toNat / 256 ^ j)
  stageByte 3 (byte 3) (stageByte 2 (byte 2) (stageByte 1 (byte 1) (stageByte 0 (byte 0) l)))

theorem stagedWord_at (v : BitVec 32) (l : List (Nat × Byte)) {j : Nat} (h : j < 4) :
    stagedAt (stagedWord v l) j = some (BitVec.ofNat 8 (v.toNat / 256 ^ j)) := by
  unfold stagedWord
  interval_cases j
  · rw [stagedAt_other (by decide), stagedAt_other (by decide), stagedAt_other (by decide), stagedAt_self]
  · rw [stagedAt_other (by decide), stagedAt_other (by decide), stagedAt_self]
  · rw [stagedAt_other (by decide), stagedAt_self]
  · rw [stagedAt_self]

theorem leNat_stagedWord (v : BitVec 32) (l : List (Nat × Byte)) (d : Nat → Byte) :
    leNat ((List.range 4).map fun j => (stagedAt (stagedWord v l) j).getD (d j)) = v.toNat := by
  rw [← leNat_word v]
  refine congrArg leNat (List.map_congr_left fun j hj => ?_)
  rw [stagedWord_at v l (List.mem_range.mp hj)]
  rfl

/-- The four bytes of APBASE commit: a valid value takes effect. -/
theorem apbaseCommit_eq {s : State} (hon : twbOn s = true) (v : BitVec 32) : exec (.twbApbaseCommit v) s = .next { s with
    twb := { s.twb with staged := [], apbase := apbaseOf v.toNat s.twb.apbase, pointer := 0x88 } } := by
  refine congrArg Host.Outcome.next ?_
  rw [forEach_cons, forEach_cons, forEach_cons, forEach_cons, forEach_nil]
  have h0 := commitAt_apbase hon s.twb (BitVec.ofNat 8 (v.toNat / 256 ^ 0)) (i := 0) (by decide)
  rw [h0, commitAt_apbase hon _ _ (i := 1) (by decide), commitAt_apbase hon _ _ (i := 2) (by decide)]
  exact commitAt_apbase_last hon _ _ (leNat_stagedWord v s.twb.staged _)

/-- A byte written in the aperture goes to mailbox 4's arena (R452). -/
theorem commitAt_aperture {s : State} (hon : twbOn s = true) (i : Fin 64) (v : Byte) : commitAt (BitVec.ofNat 8 (0x90 + i.val)) v s =
    modTwb (fun w => { w with pointer := BitVec.ofNat 8 (0x90 + i.val) + 1 }) (writeArena 4 (s.twb.apbase + i.val) [v] s) := by
  rw [commitAt_on hon]
  have ha : (BitVec.ofNat 8 (0x90 + i.val)).toNat = 0x90 + i.val := by
    have hi := i.isLt
    rw [BitVec.toNat_ofNat]
    omega
  have hi := i.isLt
  rw [ha, writeByte, if_neg (by omega), if_neg (by omega), if_neg (by omega), if_pos (by omega), Nat.add_sub_cancel_left]

end Sys2Proof.Machine

namespace Sys2Proof
open Sys2Proof.Machine

/-- Settles O26: a transaction by its phase, a doorbell by what mailbox 4 can take, APBASE by its four bytes. -/
theorem twoWireBus : Obligations.TwoWireBus := by
  unfold Obligations.TwoWireBus
  refine ⟨fun w v s => ⟨fun hoff => ?off, fun hon => ⟨?start, ?stop, ?timeout, ?snapshot, fun hp ha => ?other, fun hp ha hr => ?read,
      fun hp ha hw => ?write, fun hp => ?pointer, fun hp => ?byte, fun hp => ?answer⟩⟩,
    fun s hon => ⟨fun h => ?refused, fun hbusy hvalid hserved => ?taken, fun h => ?acknowledged, fun h => ?nothing, fun h => ?event,
      fun h => ?noEvent⟩,
    fun s hon => ⟨fun v => ?apbase, fun i v hwf => ?aperture⟩⟩
  case off =>
    exact ⟨congrArg _ (byteCommit_off hoff w v), congrArg _ (if_pos (by rw [hoff]; rfl)),
      congrArg _ (if_neg (Bool.eq_false_iff.mp hoff)), congrArg _ (if_neg (Bool.eq_false_iff.mp hoff))⟩
  case start => exact congrArg Host.Outcome.next ((if_neg (by rw [hon]; decide)).trans (if_pos rfl))
  case stop => exact congrArg Host.Outcome.next ((if_neg (by rw [hon]; decide)).trans (if_neg Bool.false_ne_true))
  case timeout => exact congrArg Host.Outcome.next (if_pos hon)
  case snapshot => exact congrArg Host.Outcome.next (if_pos hon)
  case other => exact congrArg Host.Outcome.next ((byteCommit_address hon v w hp).trans (addressByte_other ha))
  case read => exact congrArg Host.Outcome.next ((byteCommit_address hon v w hp).trans (addressByte_read ha hr))
  case write => exact congrArg Host.Outcome.next ((byteCommit_address hon v w hp).trans (addressByte_write ha hw))
  case pointer => exact congrArg Host.Outcome.next (byteCommit_pointer hon v hp)
  case byte => exact congrArg Host.Outcome.next (byteCommit_write hon v hp)
  case answer => exact congrArg Host.Outcome.next (byteCommit_read hon v hp)
  case refused =>
    exact congrArg Host.Outcome.next ((commitAt_on hon _ _).trans (congrArg _ (submit_refused h)))
  case taken =>
    exact congrArg Host.Outcome.next ((commitAt_on hon _ _).trans (congrArg _ (submit_taken hbusy hvalid hserved)))
  case acknowledged =>
    exact congrArg Host.Outcome.next ((commitAt_on hon _ _).trans (congrArg _ (ackCompletion_valid h)))
  case nothing =>
    exact congrArg Host.Outcome.next ((commitAt_on hon _ _).trans (congrArg _ (ackCompletion_none h)))
  case event =>
    exact congrArg Host.Outcome.next ((commitAt_on hon _ _).trans (congrArg _ (nextEvent_some h)))
  case noEvent =>
    exact congrArg Host.Outcome.next ((commitAt_on hon _ _).trans (congrArg _ (nextEvent_none h)))
  case apbase => exact ⟨_, apbaseCommit_eq hon v, rfl, rfl, rfl⟩
  case aperture =>
    have harena : (writeArena 4 (s.twb.apbase + i.val) [v] s).mailboxes[(4 : MbId)].arena =
        writeCell s.mailboxes[(4 : MbId)].arena (s.twb.apbase + i.val) v := congrArg Mailbox.arena (modMb_self 4 _ s)
    refine ⟨_, congrArg Host.Outcome.next (commitAt_aperture hon i v), ?_, fun a ha => ?_, rfl, fun m hm => ?_⟩
    · exact (congrArg (readCell · _) harena).trans ((readCell_writeCell hwf _ _ v).trans (if_pos rfl))
    · exact (congrArg (readCell · a) harena).trans ((readCell_writeCell hwf _ a v).trans (if_neg ha))
    · exact modMb_other 4 m (fun b => { b with arena := writeCells b.arena (s.twb.apbase + i.val) [v] }) s hm

end Sys2Proof

end

section

/-! PROOFS. The Ethernet ports, the senders, the time triggers and PTP. -/

namespace Sys2Proof.Machine

/-! ## Ports and senders (R321, R322, R333 to R335) -/

section
variable {p : Fin 2} {s : State}

/-- A link lost is counted out, raises the port's source and is reported (R322). -/
theorem netLinkState_lost (h : s.net.ports[p].up = true) : netLinkState p false s =
    post 0x0D80 none 0 (p.val + 2 ^ 12 * s.net.ports[p].mode) (raise0 (0x52 + p.val) (modEth p (fun x => { x with up := false }) s)) := by
  unfold netLinkState
  dsimp only
  rw [h, if_neg (by simp)]
  rfl

/-- A link gained by a port that is configured and on is reported (R322). -/
theorem netLinkState_gained (h : s.net.ports[p].up = false) (hmode : s.net.ports[p].mode ≠ 0)
    (hon : blockDown s (0x22 + p.val) = false) : netLinkState p true s =
    post 0x0D80 none 0 (p.val + 2 ^ 8 + 2 ^ 12 * s.net.ports[p].mode) (modEth p (fun x => { x with up := true }) s) := by
  unfold netLinkState
  dsimp only
  rw [h, hon, beq_false_of_ne hmode, if_neg (by decide)]
  rfl

/-- A link that stays is not reported. -/
theorem netLinkState_same : netLinkState p s.net.ports[p].up s = s :=
  if_pos (Bool.or_eq_true_iff.mpr (.inl (beq_self_eq_true _)))

/-- A request for the port's address is answered (R321). -/
theorem arpRequestRx_own {target : BitVec 32} (sender : BitVec 32) (mac : BitVec 48) (h : s.net.ports[p].up = true)
    (ht : target.toNat = s.net.ports[p].addr) :
    arpRequestRx p target sender mac s = emit (.arp p sender mac) (modEth p (fun x => { x with sent := bump x.sent }) s) :=
  if_pos (by rw [h, ht, beq_self_eq_true]; rfl)

/-- A request for another address is not. -/
theorem arpRequestRx_other {target : BitVec 32} (sender : BitVec 32) (mac : BitVec 48) (ht : target.toNat ≠ s.net.ports[p].addr) :
    arpRequestRx p target sender mac s = s := by
  refine if_neg ?_
  rw [beq_false_of_ne ht, Bool.and_false]
  exact Bool.false_ne_true

end

section
variable {i : Fin 24} {j : SendJob} {s : State}

/-- A packet of the job's frame leaves on the ports with link (R333, R334). -/
def sendVideo (i : Fin 24) (j : SendJob) (last : Bool) (s : State) : State :=
  sendOn j.stream (fun p => .packet p i last s.net.senders[i].seq (videoClock j.time)
    (j.video (inDeadbolt s) s.net.senders[i].seq j.next)) s

/-- A packet before the last. -/
theorem sendFramePacket_next (hk : j.stream.kind = 1) (h : j.next + 1 < j.packets) : sendFramePacket i j s =
    modSender i (fun y => { y with seq := s.net.senders[i].seq + 1, jobs := { j with next := j.next + 1 } :: y.jobs.drop 1 })
      (sendVideo i j false s) := by
  have hlast : ¬ j.packets ≤ j.next + 1 := by omega
  unfold sendFramePacket
  simp only [hk, hlast, if_true, if_false, decide_false]
  rfl

/-- The last packet lets the grade buffer go (R180). -/
theorem sendFramePacket_last (hk : j.stream.kind = 1) (h : j.packets ≤ j.next + 1) : sendFramePacket i j s =
    modCtx j.ctx (fun c => { c with buffers := c.buffers.map fun k =>
        if k.frame.toNat = j.frame then { k with readers := k.readers.erase (.sender i) } else k })
      (modSender i (fun y => { y with seq := s.net.senders[i].seq + 1, jobs := y.jobs.drop 1 }) (sendVideo i j true s)) := by
  unfold sendFramePacket
  simp only [hk, h, if_true, decide_true]
  rfl

/-- A sender with a frame sends its next packet. -/
theorem streamPacketTx_frame {rest : List SendJob} (h : s.net.senders[i].jobs = j :: rest) :
    streamPacketTx i s = sendFramePacket i j s := by
  unfold streamPacketTx
  rw [h]

/-- A sender with nothing to send sends nothing. -/
theorem streamPacketTx_idle (h : s.net.senders[i].jobs = []) (hnone : s.net.senders[i].audio.kind ≠ 2 ∨
    s.net.senders[i].samples.length < audioPacket s.net.senders[i].audio) : streamPacketTx i s = s := by
  unfold streamPacketTx
  rw [h]
  exact if_pos (by simpa using hnone)

end

/-! ## Time triggers (R331) -/

section
variable {k : QuadId} {s : State}

/-- A trigger that is due fires, and is due again after its period. -/
theorem timeTriggerFire_due {n : Nat} (hon : s.triggers.tt[k].prog.on = true) (hn : s.triggers.tt[k].next = some n) :
    let x := s.triggers.tt[k]
    timeTriggerFire k s = { s with triggers := { s.triggers with
      firings := bump s.triggers.firings
      tt := s.triggers.tt.set k { x with
        pulse := true, low := x.prog.low, next := if x.prog.period = 0 then none else some (n + x.prog.period) } } } := by
  intro x
  have hmap : (x.next.map fun n => n + x.prog.period) = some (n + x.prog.period) := congrArg (Option.map _) hn
  unfold timeTriggerFire
  rw [if_pos (by rw [hon, hn]; rfl), ← hmap]
  rfl

/-- A trigger that is off or not due does not fire. -/
theorem timeTriggerFire_idle (h : s.triggers.tt[k].prog.on = false ∨ s.triggers.tt[k].next = none) : timeTriggerFire k s = s := by
  refine if_neg ?_
  rcases h with h | h <;> rw [h] <;> simp

end

/-! ## PTP (R325 to R330) -/

section
variable {p : Fin 2} {s : State}

/-- Counting a message leaves the rest of its port. -/
theorem countPtp_port : (countPtp p s).net.ports[p] = { s.net.ports[p] with ptpReceived := bump s.net.ports[p].ptpReceived } :=
  Vector.getElem_set_self ..

/-- An Announce on a port that PTP does not use, or of another domain, is counted alone. -/
theorem ptpAnnounceRx_unused {a : Announce} (h : ptpPort s.ptp.cfg p = false ∨ a.domain ≠ s.ptp.cfg.domain) :
    ptpAnnounceRx p a s = countPtp p s := by
  refine if_pos ?_
  rcases h with h | h
  · exact Bool.or_eq_true_iff.mpr (.inl (Bool.or_eq_true_iff.mpr (.inl (congrArg Bool.not h))))
  · exact Bool.or_eq_true_iff.mpr (.inl (Bool.or_eq_true_iff.mpr (.inr (decide_eq_true h))))

/-- Without a master an Announce on the primary port selects one (R329). -/
theorem ptpAnnounceRx_selects {a : Announce} (hport : ptpPort s.ptp.cfg p = true) (hdomain : a.domain = s.ptp.cfg.domain)
    (hslave : s.ptp.cfg.capable = false) (hnone : s.ptp.master = none) (hprimary : p = s.ptp.cfg.primary) :
    ptpAnnounceRx p a s =
      selectMaster p a (modPtp (fun x => { x with heard := x.heard.set p (some (a, nowPs s)) }) (countPtp p s)) := by
  have huse : ¬ (!ptpPort s.ptp.cfg p || decide (a.domain ≠ s.ptp.cfg.domain) ||
      (s.ptp.cfg.capable && !betterClock a (ownClock (countPtp p s)))) = true := by
    rw [hport, hslave, decide_eq_false (not_not.mpr hdomain)]
    simp
  unfold ptpAnnounceRx
  refine (if_neg huse).trans ?_
  dsimp only
  split
  case h_1 m hm =>
    have hsome : s.ptp.master = some m := hm
    rw [hnone] at hsome
    cases hsome
  case h_2 => exact if_pos (.inl hprimary)

/-- The clock takes no exchange on this port: it is off, on another port, or without a master. -/
def noExchange (p : Fin 2) (y : Ptp) : Bool := !y.cfg.on || decide (p ≠ y.active) || y.master.isNone

theorem noExchange_true {y : Ptp} (h : y.cfg.on = false ∨ p ≠ y.active ∨ y.master = none) : noExchange p y = true := by
  unfold noExchange
  rcases h with h | h | h <;> simp [h]

theorem noExchange_false {y : Ptp} (hon : y.cfg.on = true) (hp : p = y.active) (hm : y.master ≠ none) : noExchange p y = false := by
  unfold noExchange
  rw [hon, decide_eq_false (not_not.mpr hp), Option.isNone_eq_false_iff.mpr (Option.isSome_iff_ne_none.mpr hm)]
  rfl

/-- A Sync that the clock has no use for is counted alone. -/
theorem ptpSyncRx_unused {m : PtpSync} (h : s.ptp.cfg.on = false ∨ p ≠ s.ptp.active ∨ s.ptp.master = none) :
    ptpSyncRx p m s = countPtp p s := if_pos (noExchange_true h)

/-- A Sync of the master is stamped with the port's latency (R325). -/
theorem ptpSyncRx_stamped {m : PtpSync} (hon : s.ptp.cfg.on = true) (hp : p = s.ptp.active) (hm : s.ptp.master ≠ none)
    (hservo : s.ptp.servo ≠ .locked) : ptpSyncRx p m s = modPtp (fun x => { x with
      sync := some (m.sequence, m.t1, stampOf ((m.raw : Int) - s.net.ports[p].ingress)) }) (countPtp p s) := by
  have hunlocked : ¬ (countPtp p s).ptp.servo = .locked := hservo
  have hcounted : (countPtp p s).net.ports[p].ingress = s.net.ports[p].ingress := by rw [countPtp_port]
  unfold ptpSyncRx
  refine (if_neg (Bool.eq_false_iff.mp (noExchange_false hon hp hm))).trans ?_
  dsimp only
  rw [hcounted]
  unfold modPtp
  dsimp only
  rw [if_neg hunlocked]

/-- A Delay_Resp that the clock has no use for is counted alone. -/
theorem ptpDelayRespRx_unused {q : BitVec 16} {t4 : Nat} (h : s.ptp.cfg.on = false ∨ p ≠ s.ptp.active ∨ s.ptp.master = none) :
    ptpDelayRespRx p q t4 s = countPtp p s := if_pos (noExchange_true h)

section
variable {q : BitVec 16} {t4 : Nat} (hon : s.ptp.cfg.on = true) (hp : p = s.ptp.active) (hm : s.ptp.master ≠ none)
include hon hp hm

/-- A Delay_Resp whose stamp has not been read waits for it (R326). -/
theorem ptpDelayRespRx_waits (hnone : (s.ptp.stamps.find? fun z => z.1 == q) = none) :
    ptpDelayRespRx p q t4 s = modPtp (fun x => { x with responses := x.responses ++ [(q, t4)] }) (countPtp p s) := by
  unfold ptpDelayRespRx
  refine (if_neg (Bool.eq_false_iff.mp (noExchange_false hon hp hm))).trans ?_
  have hfind : ((countPtp p s).ptp.stamps.find? fun z => z.1 == q) = none := hnone
  rw [hfind]

/-- A Delay_Resp whose stamp has been read completes its exchange (R328). -/
theorem ptpDelayRespRx_completes {z : BitVec 16 × Nat} (hsome : (s.ptp.stamps.find? fun z => z.1 == q) = some z) :
    ptpDelayRespRx p q t4 s = exchange z.2 t4 (modPtp (fun y => { y with stamps := y.stamps.erase z }) (countPtp p s)) := by
  unfold ptpDelayRespRx
  refine (if_neg (Bool.eq_false_iff.mp (noExchange_false hon hp hm))).trans ?_
  have hfind : ((countPtp p s).ptp.stamps.find? fun z => z.1 == q) = some z := hsome
  rw [hfind]

end

/-- Counting a message leaves every port's asymmetry. -/
theorem countPtp_asymmetry (r : Fin 2) : (countPtp p s).net.ports[r].asymmetry = s.net.ports[r].asymmetry := by
  by_cases hr : p = r
  · subst hr
    rw [countPtp_port]
  · exact congrArg EthPort.asymmetry (Vector.getElem_set_ne p.isLt r.isLt (Fin.val_ne_of_ne hr))

/-- An exchange on a port of asymmetry `d` gives the offset and the delay (R328). -/
theorem exchange_eq {t1 t2 : Nat} {q : BitVec 16} {d : Int} (t3 t4 : Nat) (h : s.ptp.sync = some (q, t1, t2))
    (hd : s.net.ports[s.ptp.active].asymmetry = d) : let a : Int := (t2 : Int) - t1
    let b : Int := (t4 : Int) - t3
    let o := (a - b) * 1000 / 2 ^ 17 - d
    exchange t3 t4 s = servoStep o (modPtp (fun x => { x with offset := o, delay := (a + b) / 2 ^ 17 }) s) := by
  unfold exchange
  rw [h, ← hd]

/-- A message is sent by a port that PTP uses and that has link alone. -/
theorem ptpMessageTx_down (h : s.net.ports[p].up = false) (k : PtpKind) : ptpMessageTx p k s = s := by
  refine if_pos ?_
  rw [h, Bool.not_false, Bool.or_true]

section
variable (hport : ptpPort s.ptp.cfg p = true) (hup : s.net.ports[p].up = true)
include hport hup

theorem ptpMessageTx_sends : ¬ (!ptpPort s.ptp.cfg p || !s.net.ports[p].up) = true := by
  rw [hport, hup]
  decide

/-- Either clock sends its membership report (R321). -/
theorem ptpMessageTx_igmp : ptpMessageTx p .igmp s = sendPtp p .igmp 0 0 s := if_neg (ptpMessageTx_sends hport hup)

/-- A slave sends its requests in sequence (R327). -/
theorem ptpMessageTx_delayReq (hp : p = s.ptp.active) (hm : s.ptp.master ≠ none) : ptpMessageTx p .delayReq s =
    sendPtp p .delayReq s.ptp.sequences.1 0 (modPtp (fun y => { y with sequences := (y.sequences.1 + 1, y.sequences.2) }) s) :=
  (if_neg (ptpMessageTx_sends hport hup)).trans (if_pos ⟨hp, Option.isSome_iff_ne_none.mpr hm⟩)

end

section
variable (q : BitVec 16) (raw : Nat)

/-- A stamp after the overflow is lost (R326). -/
theorem txStampCaptured_lost (h : s.net.ports[p].overflow = true) :
    txStampCaptured p q raw s = modEth p (fun x => { x with stampsLost := bump x.stampsLost }) s := if_pos h

/-- The 17th stamp overflows the queue (R326). -/
theorem txStampCaptured_overflows (h : s.net.ports[p].overflow = false) (hfull : 16 ≤ s.net.ports[p].stamps.length) :
    txStampCaptured p q raw s = post 0x0D84 none 0 p.val (modEth p (fun x => { x with
      overflow := true, stampsLost := bump x.stampsLost, overflows := bump x.overflows }) s) :=
  (if_neg (Bool.eq_false_iff.mp h)).trans (if_pos hfull)

/-- A stamp enters the queue with the port's latency (R325). -/
theorem txStampCaptured_queued (h : s.net.ports[p].overflow = false) (hroom : s.net.ports[p].stamps.length < 16) :
    txStampCaptured p q raw s =
      modEth p (fun x => { x with stamps := x.stamps ++ [(q, stampOf ((raw : Int) + s.net.ports[p].egress))] }) s :=
  (if_neg (Bool.eq_false_iff.mp h)).trans (if_neg (not_le.mpr hroom))

end

end

/-! ## The master lost (R330) -/

theorem post_tick (code : Nat) (c : Option CtxId) (frame : BitVec 48) (detail : Nat) (s : State) :
    (post code c frame detail s).tick = s.tick := by
  unfold post
  rw [forEach_same State.tick]
  · unfold Machine.when; split <;> rfl
  · intro m t; unfold Machine.when; split <;> rfl

theorem setServo_tick (st : ServoState) (moved : Bool) (s : State) : (setServo st moved s).tick = s.tick := by
  unfold setServo
  split
  · rfl
  · exact post_tick ..

theorem raiseVector_tick (v : Fin 32) (s : State) : (raiseVector v s).tick = s.tick := by
  obtain ⟨_, _, h⟩ := raiseVector_eq v s
  rw [h]

/-- Deadbolt leaves the tick source. -/
theorem enterDeadbolt_live (x : FaultRecord) (s : State) : (enterDeadbolt x s).tick.live = s.tick.live := by
  by_cases h : s.devState = 4
  · rw [enterDeadbolt_again h]
  · rw [enterDeadbolt_eq h, raiseVector_tick, (deadbolted_keepsRecord x s).tick]
    rfl

/-- A raise leaves the tick source. -/
theorem raise_live (source : SourceId) (c : Option CtxId) (frame : BitVec 48) (detail : Nat) (s : State) :
    (raise source c frame detail s).tick.live = s.tick.live :=
  raise_same (fun t => t.tick.live) (fun _ _ => rfl) (fun v t => congrArg TickGen.live (raiseVector_tick v t)) enterDeadbolt_live ..

section
variable {s : State}

/-- Without a master there is none to lose. -/
theorem ptpMasterLost_none (h : s.ptp.cfg.on = false ∨ s.ptp.master = none) : ptpMasterLost s = s := by
  refine if_pos ?_
  rcases h with h | h <;> simp [h]

/-- The clock without its master: HOLDOVER at the frozen increment, and source 0x54 (R329, R330). -/
def withoutMaster (s : State) : State :=
  raise0 0x54 (setServo .holdover false { s with
    time := { s.time with inc := frozenInc s }
    ptp := { s.ptp with master := none, sync := none, responses := [], good := 0, bad := 0 } })

theorem withoutMaster_live : (withoutMaster s).tick.live = s.tick.live := by
  unfold withoutMaster raise0
  rw [raise_live, setServo_tick]

/-- A master lost without a backup, the tick source another than PTP. -/
theorem ptpMasterLost_alone (hon : s.ptp.cfg.on = true) (hm : s.ptp.master ≠ none) (hbackup : s.ptp.cfg.backup = none)
    (hsource : s.tick.live.source ≠ 3) : ptpMasterLost s = withoutMaster s := by
  have hlost : ¬ (!s.ptp.cfg.on || s.ptp.master.isNone) = true := by
    rw [hon, Option.isNone_eq_false_iff.mpr (Option.isSome_iff_ne_none.mpr hm)]
    decide
  have hlive : (withoutMaster s).tick.live.source ≠ 3 := by
    rw [withoutMaster_live]
    exact hsource
  unfold ptpMasterLost
  refine (if_neg hlost).trans ?_
  simp only [hbackup]
  exact if_neg hlive

end

end Sys2Proof.Machine

namespace Sys2Proof
open Sys2Proof.Machine

/-- Settles O53: each port, sender and trigger by its state, each PTP message by what the clock can do with it. -/
theorem portsSendersTriggersAndPtp : Obligations.PortsSendersTriggersAndPtp := by
  unfold Obligations.PortsSendersTriggersAndPtp
  refine ⟨fun s => ⟨fun p => ⟨fun h => ?lost, fun h hmode hon => ?gained, ?same,
        fun target sender mac => ⟨fun h ht => ?own, fun ht => ?other⟩,
        rfl⟩,
      fun i => ⟨fun j rest hjobs hk => ⟨fun h => ?next, fun h => ?last⟩, fun h hnone => ?idle⟩,
      fun k => ⟨fun n hon hn => ?due, fun h => ?notDue, rfl⟩⟩,
    fun p s => ⟨fun a => ⟨fun h => ?announce, fun hport hdomain hslave hnone hprimary => ?selects⟩,
      fun m => ⟨fun h => ?sync, fun hon hp hm hservo => ?stamped⟩,
      fun q t4 => ⟨fun h => ?response, fun hon hp hm => ⟨fun hnone => ?waits, fun t1 t2 t3 n hstamp hsync => ?completes⟩⟩,
      fun hport hup => ⟨?igmp, fun hp hm => ?request⟩, fun h k => ?down,
      fun q raw => ⟨fun h => ?stampLost, fun h hfull => ?overflows, fun h hroom => ?queued⟩, fun h => ?noMaster,
      fun hon hm hbackup hsource => ?masterLost⟩⟩
  case lost => exact congrArg Host.Outcome.next (netLinkState_lost h)
  case gained => exact congrArg Host.Outcome.next (netLinkState_gained h hmode hon)
  case same => exact congrArg Host.Outcome.next netLinkState_same
  case own => exact congrArg Host.Outcome.next (arpRequestRx_own sender mac h ht)
  case other => exact congrArg Host.Outcome.next (arpRequestRx_other sender mac ht)
  case next => exact congrArg Host.Outcome.next ((streamPacketTx_frame hjobs).trans (sendFramePacket_next hk h))
  case last => exact congrArg Host.Outcome.next ((streamPacketTx_frame hjobs).trans (sendFramePacket_last hk h))
  case idle => exact congrArg Host.Outcome.next (streamPacketTx_idle h hnone)
  case due => exact congrArg Host.Outcome.next (timeTriggerFire_due hon hn)
  case notDue => exact congrArg Host.Outcome.next (timeTriggerFire_idle h)
  case announce => exact congrArg Host.Outcome.next (ptpAnnounceRx_unused h)
  case selects => exact congrArg Host.Outcome.next (ptpAnnounceRx_selects hport hdomain hslave hnone hprimary)
  case sync => exact congrArg Host.Outcome.next (ptpSyncRx_unused h)
  case stamped => exact congrArg Host.Outcome.next (ptpSyncRx_stamped hon hp hm hservo)
  case response => exact congrArg Host.Outcome.next (ptpDelayRespRx_unused h)
  case waits => exact congrArg Host.Outcome.next (ptpDelayRespRx_waits hon hp hm hnone)
  case completes =>
    have hport : s.net.ports[s.ptp.active].asymmetry = s.net.ports[p].asymmetry :=
      congrArg (fun r : Fin 2 => s.net.ports[r].asymmetry) hp.symm
    have hexchange := exchange_eq (s := modPtp (fun y => { y with stamps := y.stamps.erase (q, t3) }) (countPtp p s)) t3 t4 hsync
      ((countPtp_asymmetry s.ptp.active).trans hport)
    exact congrArg Host.Outcome.next ((ptpDelayRespRx_completes hon hp hm hstamp).trans hexchange)
  case igmp => exact congrArg Host.Outcome.next (ptpMessageTx_igmp hport hup)
  case request => exact congrArg Host.Outcome.next (ptpMessageTx_delayReq hport hup hp hm)
  case down => exact congrArg Host.Outcome.next (ptpMessageTx_down h k)
  case stampLost => exact congrArg Host.Outcome.next (txStampCaptured_lost q raw h)
  case overflows => exact congrArg Host.Outcome.next (txStampCaptured_overflows q raw h hfull)
  case queued => exact congrArg Host.Outcome.next (txStampCaptured_queued q raw h hroom)
  case noMaster => exact congrArg Host.Outcome.next (ptpMasterLost_none h)
  case masterLost => exact congrArg Host.Outcome.next (ptpMasterLost_alone hon hm hbackup hsource)

end Sys2Proof

end
